-- ==== Sys2Proof/Word.lean ====
section
/-!
DEFINITION. Words, bytes, bit fields and finite maps keyed by a number: the plain vocabulary of the model.
-/

namespace Sys2Proof

/-- A byte. -/
abbrev Byte := BitVec 8

/-- A 64-bit word: scalars, control registers, addresses while they are computed. -/
abbrev Word := BitVec 64

/-- A 512-byte container: lat, o1 to o7, a vector register (03 R64 to R66). -/
abbrev Container := BitVec 4096

/-- A 4 KiB tile register. -/
abbrev Tile := BitVec 32768

/-- Bits [hi:lo] of a number. -/
def bitsOf (hi lo n : Nat) : Nat := (n >>> lo) % 2 ^ (hi + 1 - lo)

/-- The number `n` with its bits [hi:lo] replaced by `v`. -/
def setBits (hi lo n v : Nat) : Nat :=
  n - (bitsOf hi lo n) * 2 ^ lo + (v % 2 ^ (hi + 1 - lo)) * 2 ^ lo

/-- `n` read as a two's-complement number of width `w`. -/
def sextNat (n w : Nat) : Int :=
  let m := n % 2 ^ w
  if 2 * m < 2 ^ w then (m : Int) else (m : Int) - (2 ^ w : Nat)

/-- An integer wrapped to width `w`. -/
def wrapNat (z : Int) (w : Nat) : Nat := (z % ((2 ^ w : Nat) : Int)).toNat

/-- Ceiling of a quotient. -/
def ceilDiv (a b : Nat) : Nat := (a + b - 1) / b

/-- The `n` low bytes of a number, lowest first (00 R3: little-endian). -/
def bytesOf : Nat → Nat → List Byte
  | 0, _ => []
  | n + 1, v => BitVec.ofNat 8 v :: bytesOf n (v / 256)

/-- The number a little-endian byte string stands for. -/
def ofBytes : List Byte → Nat
  | [] => 0
  | b :: bs => b.toNat + 256 * ofBytes bs

/-! ### Finite maps: lists of key and value, keys strictly rising -/

/-- A finite map from numbers, kept with strictly rising keys. -/
abbrev KMap (α : Type) := List (Nat × α)

/-- The value held under a key. -/
def kget {α : Type} : KMap α → Nat → Option α
  | [], _ => none
  | (k, v) :: m, i => if k = i then some v else kget m i

/-- The map with `v` under key `i`. -/
def kset {α : Type} : KMap α → Nat → α → KMap α
  | [], i, v => [(i, v)]
  | (k, u) :: m, i, v =>
    if i < k then (i, v) :: (k, u) :: m
    else if i = k then (i, v) :: m
    else (k, u) :: kset m i v

/-- The map with nothing under key `i`. -/
def kdel {α : Type} (m : KMap α) (i : Nat) : KMap α := m.filter (fun p => p.1 != i)

/-- The map with the value under `i`, if there is one, changed by `f`. -/
def kmod {α : Type} (m : KMap α) (i : Nat) (f : α → α) : KMap α :=
  match kget m i with
  | some v => kset m i (f v)
  | none => m

/-- Every value of a map changed by `f`. -/
def kmap {α : Type} (m : KMap α) (f : Nat → α → α) : KMap α := m.map (fun p => (p.1, f p.1 p.2))

/-- The value under a key, or `d`. -/
def kgetD {α : Type} (m : KMap α) (i : Nat) (d : α) : α := (kget m i).getD d

/-- The keys whose values meet a test. -/
def kkeys {α : Type} (m : KMap α) (p : Nat → α → Bool) : List Nat :=
  (m.filter (fun q => p q.1 q.2)).map Prod.fst

/-- A map in canonical form: keys strictly rising. -/
def ksorted {α : Type} (m : KMap α) : Bool := decide (m.Pairwise (fun a b => a.1 < b.1))

end Sys2Proof
end

