-- ==== Sys2Proof/Syntax.lean ====
section
/-!
DEFINITION. The steps of the part: one constructor for each row of spec/opcode_table.json.

Rows 0 to 155 are the instructions a slot issues (03 R71).  Each carries the chain it was decoded from.
Rows 156 to 311 are the steps that the die's other units take (spec/95_what_each_step_holds.md); each names by
its operands the object it acts on, or carries what arrives from outside the die.
-/

namespace Sys2Proof

/-- A decoded instruction chain (03 R50 to R59): the prefixes that were present and the fields they and the
base word give.  `a`, `b` and `c` are operand values (03 R56, R64). -/
structure Chain where
  /-- IMM prefixes in the chain. -/
  nimm : Nat
  /-- XREG, PAGE and AUX present. -/
  hasX : Bool
  hasP : Bool
  hasA : Bool
  /-- Operand values XA x 32 + A, XB x 32 + B (in the imm form XB x 32), and C. -/
  a : BitVec 7
  b : BitVec 7
  c : BitVec 6
  /-- The immediate of 03 R55. -/
  imm : Int
  /-- MOD of PAGE (03 R57). -/
  mod : BitVec 7
  /-- STALL, GANG and LMASK of AUX (03 R59). -/
  stall : BitVec 3
  gang : BitVec 2
  lmask : BitVec 3
  deriving DecidableEq, Repr

/-- Length of the instruction in words (03 R51). -/
def Chain.words (c : Chain) : Nat :=
  c.nimm + c.hasX.toNat + c.hasP.toNat + c.hasA.toNat + 1

/-- The five forms of a base word (03 R69). -/
inductive Form where
  | none | two | three | imm | mem
  deriving DecidableEq, Repr

/-- A Shopor packet as its receiver reads it (19 R379, R380). -/
structure Packet where
  typ : Nat
  rsp : Bool := false
  vc : Nat := 0
  dst : Nat := 0
  src : Nat := 0
  tag : Nat := 0
  ctx : Nat := 0
  space : Nat := 0
  lsz : Nat := 0
  rel : Bool := false
  addr : Word := 0
  /-- Argument beats: operation, second and third operand (19 R381), or the fields of the packet's type. -/
  op : Nat := 0
  arg1 : Word := 0
  arg2 : Word := 0
  /-- Byte or nibble enables of a WRITE, bit i for the i-th unit; all ones when every unit is written. -/
  enables : Nat := 0
  nibbles : Bool := false
  data : List Byte := []
  /-- Remaining agents of a CHAIN; failed positions in its response, as a mask, stand in `op` (19 R385). -/
  agents : List Nat := []
  /-- List position of the agent that the CHAIN has reached. -/
  pos : Nat := 0
  /-- REPLICATED and PROP of the page that a store or atomic of another die goes to; PROP alone stands in the WRITE of a
  replica whose reads are held until the last replica is written (08 R168, log 41). -/
  repl : Bool := false
  prop : Bool := false
  deriving DecidableEq, Repr

/-- A request that reaches its home: one of this die's own, or the packet that brings one from another die. -/
inductive HomeReq where
  | own (rid : Nat)
  | packet (p : Packet)
  deriving DecidableEq, Repr

/-- A DISCOVER record (19 R388). -/
structure DiscoverRec where
  uid : Word
  role : Nat
  fixedId : Option Nat
  winGib : Nat
  /-- UIDs of the peers of its modules, by module number. -/
  peers : List (Nat × Word)
  /-- Set in the record by which an agent says that it is fenced (19 R387). -/
  fence : Bool
  deriving DecidableEq, Repr

/-- Sensor readings of one zone (20 R401). -/
structure Sensors where
  tj0 : Nat
  tj1 : Nat
  tj2 : Nat
  tj3 : Nat
  tin : Nat
  tout : Nat
  void : Bool
  flow : Nat
  dp : Nat
  deriving DecidableEq, Repr

/-- One firmware copy in the boot flash, as Ferper's checks find it (22 R421). -/
structure FlashCopy where
  keyOk : Bool
  sigOk : Bool
  svn : Nat
  deriving DecidableEq, Repr

/-- What is fused into the part or kept in its non-volatile store, read at die reset (22 R420 step 2). -/
structure FusedPart where
  step : Nat
  uid : Word
  arb : Nat
  /-- Physical cores fused off. -/
  fused : List Nat
  /-- CORE_SPACE granules of each working core that has fewer than 128. -/
  gran : List (Nat × Nat)
  /-- Disabled ways: slice, set, way (21 R414). -/
  ways : List (Nat × Nat × Nat)
  /-- SLICE_MAP. -/
  live : Word
  /-- Every table could be written (else bring-up fails with code 3). -/
  tablesOk : Bool
  deriving DecidableEq, Repr

/-- One HBM4 stack as training finds it (22 R422): trained, height, density in Gb, highest grade in 0.1 Gb/s. -/
structure Stack where
  trained : Bool
  height : Nat
  density : Nat
  grade : Nat
  deriving DecidableEq, Repr

/-- Result of a UCIe training (19 R373). -/
inductive Training where
  | failed
  /-- Lanes, UID of the peer, beats it grants on each VC, rate. -/
  | ok (width : Nat) (peerUid : Word) (credits : Nat) (rate : Nat)
  deriving DecidableEq, Repr

/-- A received UCIe flit (19 R376): what its header says and whether CRC and adapter passed. -/
structure Flit where
  seq : Nat
  ack : Nat
  ackV : Bool
  nak : Bool
  crcOk : Bool
  /-- Credit returns in beats of VC0 to VC3. -/
  cred : List Nat
  deriving DecidableEq, Repr

/-- Where an uncorrectable error of control state lies (21 R412 last paragraph, 18 R351). -/
inductive UeWhere where
  | outside
  | context (c : Nat)
  deriving DecidableEq, Repr

/-- A message in the die's networks, or a packet that comes from another die (12 R253). -/
inductive PktSource where
  | inNetwork (rid : Nat)
  | fromDie (core : Nat) (header : Word) (words : List Word)
  deriving DecidableEq, Repr

/-- The steps of the part: the slot instructions in the order of their codes, then the other steps, those first which
the model itself puts on the agenda. -/
inductive Instr where
  | nop (c : Chain)
  | mov (c : Chain)
  | movi (c : Chain)
  | add (c : Chain)
  | addi (c : Chain)
  | sub (c : Chain)
  | mul (c : Chain)
  | mulh (c : Chain)
  | mulhn (c : Chain)
  | div (c : Chain)
  | divn (c : Chain)
  | rem (c : Chain)
  | remn (c : Chain)
  | and (c : Chain)
  | or (c : Chain)
  | xor (c : Chain)
  | andn (c : Chain)
  | shl (c : Chain)
  | shr (c : Chain)
  | sar (c : Chain)
  | rol (c : Chain)
  | clz (c : Chain)
  | ctz (c : Chain)
  | popc (c : Chain)
  | min (c : Chain)
  | max (c : Chain)
  | minn (c : Chain)
  | maxn (c : Chain)
  | seq (c : Chain)
  | sne (c : Chain)
  | slt (c : Chain)
  | sltn (c : Chain)
  | sel (c : Chain)
  | ext (c : Chain)
  | bswap (c : Chain)
  | br (c : Chain)
  | jmp (c : Chain)
  | call (c : Chain)
  | ret (c : Chain)
  | jmpi (c : Chain)
  | ld (c : Chain)
  | st (c : Chain)
  | ldl (c : Chain)
  | stl (c : Chain)
  | amo (c : Chain)
  | cas (c : Chain)
  | fence (c : Chain)
  | getk (c : Chain)
  | putk (c : Chain)
  | trap (c : Chain)
  | eret (c : Chain)
  | yield (c : Chain)
  | waitt (c : Chain)
  | brk (c : Chain)
  | clmul (c : Chain)
  | clmulh (c : Chain)
  | vmov (c : Chain)
  | vbcast (c : Chain)
  | vins (c : Chain)
  | vextr (c : Chain)
  | vadd (c : Chain)
  | vsub (c : Chain)
  | vmul (c : Chain)
  | vfma (c : Chain)
  | vfms (c : Chain)
  | vfnma (c : Chain)
  | vmin (c : Chain)
  | vmax (c : Chain)
  | vabs (c : Chain)
  | vneg (c : Chain)
  | vabsd (c : Chain)
  | vavg (c : Chain)
  | vand (c : Chain)
  | vor (c : Chain)
  | vxor (c : Chain)
  | vandn (c : Chain)
  | vshl (c : Chain)
  | vshr (c : Chain)
  | vsar (c : Chain)
  | vcmp (c : Chain)
  | vsel (c : Chain)
  | vaddw (c : Chain)
  | vmulw (c : Chain)
  | vdot (c : Chain)
  | vdots (c : Chain)
  | vld (c : Chain)
  | vst (c : Chain)
  | vldl (c : Chain)
  | vstl (c : Chain)
  | vgath (c : Chain)
  | vscat (c : Chain)
  | vlds (c : Chain)
  | vsts (c : Chain)
  | vcvt (c : Chain)
  | vquant (c : Chain)
  | vdeq (c : Chain)
  | vscale (c : Chain)
  | vperm (c : Chain)
  | vshuf (c : Chain)
  | vzip (c : Chain)
  | vunzip (c : Chain)
  | vrotl (c : Chain)
  | vred (c : Chain)
  | vscan (c : Chain)
  | vclmul (c : Chain)
  | vclmulh (c : Chain)
  | vpopc (c : Chain)
  | vclz (c : Chain)
  | vrcp (c : Chain)
  | vrsq (c : Chain)
  | vsqrt (c : Chain)
  | vdiv (c : Chain)
  | vexp2 (c : Chain)
  | vlog2 (c : Chain)
  | vsin (c : Chain)
  | vcos (c : Chain)
  | vtanh (c : Chain)
  | vsigm (c : Chain)
  | vopen (c : Chain)
  | stv (c : Chain)
  | vseal (c : Chain)
  | vacc (c : Chain)
  | ldv (c : Chain)
  | ldvl (c : Chain)
  | vprobe (c : Chain)
  | vref (c : Chain)
  | vrel (c : Chain)
  | vname (c : Chain)
  | task (c : Chain)
  | next (c : Chain)
  | exit (c : Chain)
  | pushe (c : Chain)
  | pope (c : Chain)
  | send (c : Chain)
  | sendLb (c : Chain)
  | recvH (c : Chain)
  | recvW (c : Chain)
  | recvSp (c : Chain)
  | recvSt (c : Chain)
  | rld (c : Chain)
  | rst (c : Chain)
  | ramo (c : Chain)
  | mcst (c : Chain)
  | pass (c : Chain)
  | bari (c : Chain)
  | bariClr (c : Chain)
  | bara (c : Chain)
  | barw (c : Chain)
  | barq (c : Chain)
  | barx (c : Chain)
  | gett (c : Chain)
  | tlbi (c : Chain)
  | saves (c : Chain)
  | rests (c : Chain)
  | pair (c : Chain)
  | thint (c : Chain)
  | zoneLimitWrite (v : Nat)
  | valveOpenWrite (z v : Nat)
  | valveSchedWrite (k : Nat) (actn : Bool) (v : Word)
  | zoneAllocWrite (z : Nat) (v : Word)
  | regionDefWrite (r : Nat) (v : Word)
  | linkEnable (m : Nat) (v : Word)
  | retrain (m : Nat)
  | linkFence (m : Nat)
  | monClear (m : Nat)
  | arbRaise (v : Word)
  | attestationStart (v : Word)
  | lmapWrite (core v : Nat)
  | xtopWrite (core v : Nat)
  | sliceSplitWrite (v : Nat)
  | launchPost (v : Word) (ctx : Nat)
  | ctxBuild (ctx : Nat) (pa : Nat)
  | ctxAdmit (ctx : Nat)
  | ctxRun (ctx : Nat)
  | ctxDrain (ctx : Nat)
  | ctxRestore (ctx : Nat)
  | ctxRetire (ctx : Nat)
  | bteChannelEnable (ch : Nat)
  | bteChannelDisable (ch : Nat)
  | resume (ch : Nat)
  | flush (ch : Nat)
  | fifoConfigWrite (f : Nat) (v : Word)
  | kernelLoad (cmd : Word)
  | kernelUnload (cmd : Word)
  | kernelOverlay (cmd : Word)
  | badcmd (cmd : Word)
  | registerWrite (offset size : Nat) (v : Word)
  | stealSend (ctx : Nat) (pulled : Bool)
  | illegalEncoding (w pos : Nat)
  | regionFence (grotto : Nat)
  | hostPost (offset : Nat) (data : List Byte)
  | hostLocalWrite (offset : Nat) (data : List Byte)
  | timeTick
  | discover (m : Nat) (r : DiscoverRec)
  | launchDeal (p : Packet)
  | roomReport (p : Packet)
  | exitReport (p : Packet)
  | mirrorUpdate (p : Packet)
  | leaderQuery (p : Packet)
  | taskDecrement (handle : Word)
  | launchCountRead (l : Nat)
  | launchDealRound (l : Nat)
  | groupPlace (deal : Nat)
  | steal (p : Packet)
  | grant (p : Packet)
  | barrierArm (q : HomeReq)
  | barrierClear (q : HomeReq)
  | barrierArrival (q : HomeReq)
  | barrierWait (q : HomeReq)
  | barrierQuery (q : HomeReq)
  | barrierReleasePacket (p : Packet)
  | chain (p : Packet)
  | write (p : Packet)
  | atomic (p : Packet)
  | read (p : Packet)
  | vnotice (p : Packet)
  | vfetch (p : Packet)
  | vfetchResponse (p : Packet)
  | nack (p : Packet)
  | time (p : Packet)
  | acknowledgement (rid : Nat) (answer : Nat)
  | slotSave (sid : Nat)
  | passageReserve (rid : Nat)
  | passageGrant (rid : Nat)
  | stallEnd (sid : Nat)
  | resultWrite (sid : Nat)
  | deposit (rid : Nat) (response : Option (List Byte))
  | yieldTimeout (sid : Nat)
  | waittComplete (sid : Nat)
  | lateFault (sid : Nat)
  | sfuStart (core : Nat)
  | sfuResult (core : Nat)
  | walkEnd (wid : Nat)
  | fqPop
  | fqReplay
  | homeAccess (rid : Nat)
  | sliceSplitDone
  | versionOpenAtHome (rid : Nat)
  | versionStoreAtHome (rid : Nat)
  | versionSealAtHome (rid : Nat)
  | versionContribution (rid : Nat)
  | versionLoadAtHome (rid : Nat)
  | versionProbeAtHome (rid : Nat)
  | versionCountChange (rid : Nat)
  | versionReclaimEnd (ctx : Nat) (h : Word)
  | nameAllocation (rid : Nat)
  | versionPoison (ctx : Nat) (h : Word) (offset : Nat)
  | taskReleaseTime (entry : Nat)
  | taskDispatch (entry : Nat)
  | groupTaskDispatch (entry : Nat)
  | packetLeave (sid : Nat)
  | sendTruncTimeout (sid : Nat)
  | packetAccept (p : PktSource)
  | matrixDispatch (entry core : Nat)
  | tileFetch (core : Nat)
  | matrixFoldEnd (core : Nat)
  | matrixSeal (core : Nat)
  | matrixStop (core : Nat)
  | channelPush (rid : Nat)
  | copyStart (ch : Nat)
  | copyComplete (ch : Nat)
  | copyFail (ch : Nat)
  | copyTaskDispatch (entry : Nat)
  | elogPop
  | fifoPush (rid : Nat)
  | fifoPop (rid : Nat)
  | kernelLoadEnd
  | kernelOverlayEnd
  | passageImageWritten (rid : Nat)
  | arrivalStart (core : Nat)
  | startNotice (rid : Nat)
  | contextReclaimEnd (ctx : Nat)
  | savedSlotPlace (ctx : Nat)
  | replyToImage (rid : Nat) (response : Option (List Byte))
  | qosPeriodStart
  | hostRead (bar offset size : Nat)
  | hostWrite (bar offset : Nat) (data : List Byte)
  | linkTrainingEnd (m : Nat) (r : Training)
  | laneRepair (m : Nat)
  | linkReplay (m : Nat) (ack : Nat)
  | linkIdleTimeout (m : Nat)
  | linkWake (m : Nat)
  | linkWakeEnd (m : Nat) (ok : Bool)
  | vnoticeResend
  | discoveryEnd
  | retryResend (rid : Nat)
  | unknownPacket (m : Nat) (p : Packet)
  | agentDownTimeout (agent : Nat)
  | sensorRefresh (readings : List Sensors)
  | zonePrimed (z : Nat)
  | zoneThrottleEnd (z : Nat)
  | evacuationSaveEnd (z : Nat)
  | zoneGateEnd (z : Nat)
  | reprimePulse (z : Nat)
  | reprimeResult (z : Nat)
  | valveSchedFire
  | pairCheckpoint (pair : Nat)
  | pairCompareEnd (pair : Nat)
  | regionDrained (grotto : Nat)
  | regionResetEnd (grotto : Nat)
  | correctedError (slice set way : Nat)
  | scrub (pa : Nat) (corrected stored : Bool)
  | monElogPop
  | lifetimeUpdate
  | dieReset (part : FusedPart) (copyA copyB : FlashCopy)
  | bringupTimeout
  | hbm4TrainingEnd (stackList : List Stack)
  | attestationDone
  | flitReceive (m : Nat) (f : Flit)
  | launchReleaseTime (l : Nat)
  | uncorrectableError (w : UeWhere)
  | monitorSample (m v : Nat)
  deriving DecidableEq, Repr

end Sys2Proof
end

