-- ==== Sys2Proof/WellFormed.lean ====
section
/-!
DEFINITION. Which instructions are well formed: the opcode map (03 R71), how each instruction uses its fields, and
every ILLEGAL that can be seen in the words alone (03 R55 to R59, R62, R63, R66, R67, R70, R72; 05 R104, R105,
R109; 06 R123, R124; 07 R141, R142, R152; 09 R188, R191, R193; and the encoding rules of the page-3 chapters).
-/

namespace Sys2Proof

/-- Type code of a page-1 or page-2 MOD (03 R58). -/
def tyCode (m : Nat) : Nat := m % 16

/-- L0 is 0. -/
def l0Off (m : Nat) : Bool := m / 64 == 0

/-- Class I of 06 R119. -/
def tyI (m : Nat) : Bool := decide (tyCode m ≤ 7) || tyCode m == 15

/-- Class F. -/
def tyF (m : Nat) : Bool := tyCode m == 8 || tyCode m == 9 || tyCode m == 10

/-- Class F8. -/
def tyF8 (m : Nat) : Bool := tyCode m == 11 || tyCode m == 12

/-- Class W. -/
def tyW (m : Nat) : Bool := tyCode m != 14

/-- The lane-0 form with a class F type (06 R120). -/
def tyL0 (m : Nat) : Bool := m / 64 == 1 && tyF m

/-- Element width of a type code (02 R24, R27, R29). -/
def tyBits (m : Nat) : Nat :=
  match tyCode m with
  | 0 => 32 | 1 => 32 | 2 => 16 | 3 => 16 | 4 => 8 | 5 => 8 | 6 => 4 | 7 => 4
  | 8 => 32 | 9 => 16 | 10 => 16 | 11 => 8 | 12 => 8 | 13 => 4 | 14 => 8 | _ => 64

/-- Selector of VCVT and the level of its groups (07 R142, R144). -/
def vcvtOk (c : Chain) : Bool :=
  decide (c.c.toNat < 16) &&
  (c.mod.toNat / 64 == 1 ||
    ((decide (tyBits c.c.toNat ≤ tyBits c.mod.toNat) || decide (8 ≤ c.a.toNat)) &&
     (decide (tyBits c.mod.toNat ≤ tyBits c.c.toNat) || decide (8 ≤ c.b.toNat))))

/-- Operation and type of VRED and VSCAN (07 R152). -/
def redOk (m sel : Nat) : Bool :=
  match sel with
  | 0 => tyI m || tyF m
  | 1 => tyI m || tyF m
  | 2 => tyI m || tyF m
  | 3 => tyF m
  | 4 => tyW m
  | 5 => tyW m
  | 6 => tyW m
  | _ => false

/-- Numbers of the control registers (04 R95). -/
def kregNumbers : List Nat :=
  [0x000, 0x001, 0x002, 0x003, 0x004, 0x005, 0x006, 0x007, 0x008, 0x009, 0x00A, 0x010, 0x011, 0x012, 0x013,
   0x020, 0x021, 0x022, 0x023, 0x024, 0x025, 0x030, 0x031, 0x032, 0x100, 0x101, 0x102, 0x103, 0x104]

/-- Control registers that are RO in both privileges (04 R95). -/
def kregRO : List Nat :=
  [0x000, 0x001, 0x002, 0x003, 0x004, 0x005, 0x006, 0x007, 0x008, 0x009, 0x00A, 0x024, 0x100]

/-- An assigned control register number (04 R99, R100 item 1). -/
def kregKnown (n : Int) : Bool := decide (0 ≤ n) && kregNumbers.contains n.toNat

/-- A control register that PUTK can write in some privilege. -/
def kregWritable (n : Int) : Bool := kregKnown n && !kregRO.contains n.toNat

/-- What the opcode map and an instruction's description say of its encoding. -/
structure OpInfo where
  page : Nat
  code : Nat
  form : Form
  /-- Marked S in 03 R71. -/
  priv : Bool := false
  useA : Bool := form != .none
  useB : Bool := form == .two || form == .three || form == .mem
  useC : Bool := form == .three || form == .imm || form == .mem
  /-- A gang offset is accepted for these words, the group's mode apart (03 R62). -/
  gangOk : Chain → Bool := fun _ => true
  modOk : Nat → Bool := fun m => m == 0
  extra : Chain → Bool := fun _ => true

/-- NOP: page 0, code 0x01. -/
def opNop : OpInfo :=
  { page := 0, code := 0x01, form := .none, useA := false, useB := false, useC := false }

/-- MOV: page 0, code 0x02. -/
def opMov : OpInfo :=
  { page := 0, code := 0x02, form := .two, useC := false }

/-- MOVI: page 0, code 0x03. -/
def opMovi : OpInfo :=
  { page := 0, code := 0x03, form := .imm, useB := false, useC := false }

/-- ADD: page 0, code 0x04. -/
def opAdd : OpInfo :=
  { page := 0, code := 0x04, form := .three, modOk := fun m => decide (m < 3) }

/-- ADDI: page 0, code 0x05. -/
def opAddi : OpInfo :=
  { page := 0, code := 0x05, form := .imm, useB := false, modOk := fun m => decide (m < 3) }

/-- SUB: page 0, code 0x06. -/
def opSub : OpInfo :=
  { page := 0, code := 0x06, form := .three, modOk := fun m => decide (m < 3) }

/-- MUL: page 0, code 0x07. -/
def opMul : OpInfo :=
  { page := 0, code := 0x07, form := .three, modOk := fun m => decide (m < 3) }

/-- MULH: page 0, code 0x08. -/
def opMulh : OpInfo :=
  { page := 0, code := 0x08, form := .three }

/-- MULHN: page 0, code 0x09. -/
def opMulhn : OpInfo :=
  { page := 0, code := 0x09, form := .three }

/-- DIV: page 0, code 0x0A. -/
def opDiv : OpInfo :=
  { page := 0, code := 0x0A, form := .three }

/-- DIVN: page 0, code 0x0B. -/
def opDivn : OpInfo :=
  { page := 0, code := 0x0B, form := .three }

/-- REM: page 0, code 0x0C. -/
def opRem : OpInfo :=
  { page := 0, code := 0x0C, form := .three }

/-- REMN: page 0, code 0x0D. -/
def opRemn : OpInfo :=
  { page := 0, code := 0x0D, form := .three }

/-- AND: page 0, code 0x0E. -/
def opAnd : OpInfo :=
  { page := 0, code := 0x0E, form := .three }

/-- OR: page 0, code 0x0F. -/
def opOr : OpInfo :=
  { page := 0, code := 0x0F, form := .three }

/-- XOR: page 0, code 0x10. -/
def opXor : OpInfo :=
  { page := 0, code := 0x10, form := .three }

/-- ANDN: page 0, code 0x11. -/
def opAndn : OpInfo :=
  { page := 0, code := 0x11, form := .three }

/-- SHL: page 0, code 0x12. -/
def opShl : OpInfo :=
  { page := 0, code := 0x12, form := .three }

/-- SHR: page 0, code 0x13. -/
def opShr : OpInfo :=
  { page := 0, code := 0x13, form := .three }

/-- SAR: page 0, code 0x14. -/
def opSar : OpInfo :=
  { page := 0, code := 0x14, form := .three }

/-- ROL: page 0, code 0x15. -/
def opRol : OpInfo :=
  { page := 0, code := 0x15, form := .three }

/-- CLZ: page 0, code 0x16. -/
def opClz : OpInfo :=
  { page := 0, code := 0x16, form := .two, useC := false }

/-- CTZ: page 0, code 0x17. -/
def opCtz : OpInfo :=
  { page := 0, code := 0x17, form := .two, useC := false }

/-- POPC: page 0, code 0x18. -/
def opPopc : OpInfo :=
  { page := 0, code := 0x18, form := .two, useC := false }

/-- MIN: page 0, code 0x19. -/
def opMin : OpInfo :=
  { page := 0, code := 0x19, form := .three }

/-- MAX: page 0, code 0x1A. -/
def opMax : OpInfo :=
  { page := 0, code := 0x1A, form := .three }

/-- MINN: page 0, code 0x1B. -/
def opMinn : OpInfo :=
  { page := 0, code := 0x1B, form := .three }

/-- MAXN: page 0, code 0x1C. -/
def opMaxn : OpInfo :=
  { page := 0, code := 0x1C, form := .three }

/-- SEQ: page 0, code 0x1D. -/
def opSeq : OpInfo :=
  { page := 0, code := 0x1D, form := .three }

/-- SNE: page 0, code 0x1E. -/
def opSne : OpInfo :=
  { page := 0, code := 0x1E, form := .three }

/-- SLT: page 0, code 0x1F. -/
def opSlt : OpInfo :=
  { page := 0, code := 0x1F, form := .three }

/-- SLTN: page 0, code 0x20. -/
def opSltn : OpInfo :=
  { page := 0, code := 0x20, form := .three }

/-- SEL: page 0, code 0x21. -/
def opSel : OpInfo :=
  { page := 0, code := 0x21, form := .three }

/-- EXT: page 0, code 0x22. -/
def opExt : OpInfo :=
  { page := 0, code := 0x22, form := .imm, useB := false, extra := fun c => decide (0 ≤ c.imm ∧ c.imm ≤ 8191 ∧ bitsOf 5 0 c.imm.toNat + bitsOf 11 6 c.imm.toNat + 1 ≤ 64) }

/-- BSWAP: page 0, code 0x23. -/
def opBswap : OpInfo :=
  { page := 0, code := 0x23, form := .two, useC := false, modOk := fun m => decide (m < 3) }

/-- BR: page 0, code 0x24. -/
def opBr : OpInfo :=
  { page := 0, code := 0x24, form := .imm, useB := false, useC := false, modOk := fun m => decide (m < 4) }

/-- JMP: page 0, code 0x25. -/
def opJmp : OpInfo :=
  { page := 0, code := 0x25, form := .imm, useA := false, useB := false, useC := false }

/-- CALL: page 0, code 0x26. -/
def opCall : OpInfo :=
  { page := 0, code := 0x26, form := .imm, useB := false, useC := false }

/-- RET: page 0, code 0x27. -/
def opRet : OpInfo :=
  { page := 0, code := 0x27, form := .two, useB := false, useC := false }

/-- JMPI: page 0, code 0x28. -/
def opJmpi : OpInfo :=
  { page := 0, code := 0x28, form := .two, useC := false }

/-- LD: page 0, code 0x29. -/
def opLd : OpInfo :=
  { page := 0, code := 0x29, form := .mem, useC := false, modOk := fun m => bitsOf 2 0 m != 4 && bitsOf 5 4 m != 3 && (bitsOf 5 4 m != 0 || bitsOf 6 6 m == 0), extra := fun c => c.a != 0 }

/-- ST: page 0, code 0x2A. -/
def opSt : OpInfo :=
  { page := 0, code := 0x2A, form := .mem, useC := false, modOk := fun m => decide (bitsOf 2 0 m < 4) && bitsOf 3 3 m == 0 && bitsOf 5 4 m != 3 && (bitsOf 5 4 m != 0 || bitsOf 6 6 m == 0) }

/-- LDL: page 0, code 0x2B. -/
def opLdl : OpInfo :=
  { page := 0, code := 0x2B, form := .mem, useC := false, modOk := fun m => decide (m < 8) && m != 4 }

/-- STL: page 0, code 0x2C. -/
def opStl : OpInfo :=
  { page := 0, code := 0x2C, form := .mem, useC := false, modOk := fun m => decide (m < 4) }

/-- AMO: page 0, code 0x2D. -/
def opAmo : OpInfo :=
  { page := 0, code := 0x2D, form := .mem, modOk := fun m => decide (bitsOf 3 0 m < 9), extra := fun c => c.a != 0 }

/-- CAS: page 0, code 0x2E. -/
def opCas : OpInfo :=
  { page := 0, code := 0x2E, form := .mem, modOk := fun m => bitsOf 3 0 m == 0, extra := fun c => c.a != 0 }

/-- FENCE: page 0, code 0x2F. -/
def opFence : OpInfo :=
  { page := 0, code := 0x2F, form := .none, useA := false, useB := false, useC := false, modOk := fun m => decide (bitsOf 2 0 m < 5) && decide (bitsOf 4 3 m < 3) && bitsOf 6 5 m == 0 }

/-- GETK: page 0, code 0x30. -/
def opGetk : OpInfo :=
  { page := 0, code := 0x30, form := .imm, useB := false, useC := false, extra := fun c => kregKnown c.imm }

/-- PUTK: page 0, code 0x31. -/
def opPutk : OpInfo :=
  { page := 0, code := 0x31, form := .imm, useB := false, useC := false, extra := fun c => kregWritable c.imm }

/-- TRAP: page 0, code 0x32. -/
def opTrap : OpInfo :=
  { page := 0, code := 0x32, form := .imm, useA := false, useB := false, useC := false, extra := fun c => decide (0 ≤ c.imm ∧ c.imm ≤ 65535) }

/-- ERET: page 0, code 0x33. -/
def opEret : OpInfo :=
  { page := 0, code := 0x33, form := .none, priv := true, useA := false, useB := false, useC := false }

/-- YIELD: page 0, code 0x34. -/
def opYield : OpInfo :=
  { page := 0, code := 0x34, form := .none, useA := false, useB := false, useC := false }

/-- WAITT: page 0, code 0x35. -/
def opWaitt : OpInfo :=
  { page := 0, code := 0x35, form := .two, useC := false }

/-- BREAK: page 0, code 0x36. -/
def opBrk : OpInfo :=
  { page := 0, code := 0x36, form := .imm, useA := false, useB := false, useC := false, extra := fun c => decide (0 ≤ c.imm ∧ c.imm ≤ 65535) }

/-- CLMUL: page 0, code 0x37. -/
def opClmul : OpInfo :=
  { page := 0, code := 0x37, form := .three }

/-- CLMULH: page 0, code 0x38. -/
def opClmulh : OpInfo :=
  { page := 0, code := 0x38, form := .three }

/-- VMOV: page 1, code 0x01. -/
def opVmov : OpInfo :=
  { page := 1, code := 0x01, form := .two, useC := false, modOk := fun m => l0Off m && tyW m }

/-- VBCAST: page 1, code 0x02. -/
def opVbcast : OpInfo :=
  { page := 1, code := 0x02, form := .two, useC := false, gangOk := fun _ => false, modOk := fun m => l0Off m && tyW m }

/-- VINS: page 1, code 0x03. -/
def opVins : OpInfo :=
  { page := 1, code := 0x03, form := .three, gangOk := fun _ => false, modOk := fun m => l0Off m && tyW m }

/-- VEXTR: page 1, code 0x04. -/
def opVextr : OpInfo :=
  { page := 1, code := 0x04, form := .three, modOk := fun m => l0Off m && tyW m, extra := fun c => c.lmask == 0 }

/-- VADD: page 1, code 0x05. -/
def opVadd : OpInfo :=
  { page := 1, code := 0x05, form := .three, modOk := fun m => tyL0 m || (l0Off m && (tyI m || tyF m)) }

/-- VSUB: page 1, code 0x06. -/
def opVsub : OpInfo :=
  { page := 1, code := 0x06, form := .three, modOk := fun m => tyL0 m || (l0Off m && (tyI m || tyF m)) }

/-- VMUL: page 1, code 0x07. -/
def opVmul : OpInfo :=
  { page := 1, code := 0x07, form := .three, modOk := fun m => tyL0 m || (l0Off m && (tyI m || tyF m)) }

/-- VFMA: page 1, code 0x08. -/
def opVfma : OpInfo :=
  { page := 1, code := 0x08, form := .three, modOk := fun m => tyL0 m || (l0Off m && (tyI m || tyF m)) }

/-- VFMS: page 1, code 0x09. -/
def opVfms : OpInfo :=
  { page := 1, code := 0x09, form := .three, modOk := fun m => tyL0 m || (l0Off m && (tyI m || tyF m)) }

/-- VFNMA: page 1, code 0x0A. -/
def opVfnma : OpInfo :=
  { page := 1, code := 0x0A, form := .three, modOk := fun m => tyL0 m || (l0Off m && (tyI m || tyF m)) }

/-- VMIN: page 1, code 0x0B. -/
def opVmin : OpInfo :=
  { page := 1, code := 0x0B, form := .three, modOk := fun m => tyL0 m || (l0Off m && (tyI m || tyF m || tyF8 m)) }

/-- VMAX: page 1, code 0x0C. -/
def opVmax : OpInfo :=
  { page := 1, code := 0x0C, form := .three, modOk := fun m => tyL0 m || (l0Off m && (tyI m || tyF m || tyF8 m)) }

/-- VABS: page 1, code 0x0D. -/
def opVabs : OpInfo :=
  { page := 1, code := 0x0D, form := .two, useC := false, modOk := fun m => tyL0 m || (l0Off m && (tyI m || tyF m || tyF8 m)) }

/-- VNEG: page 1, code 0x0E. -/
def opVneg : OpInfo :=
  { page := 1, code := 0x0E, form := .two, useC := false, modOk := fun m => tyL0 m || (l0Off m && (tyI m || tyF m || tyF8 m)) }

/-- VABSD: page 1, code 0x0F. -/
def opVabsd : OpInfo :=
  { page := 1, code := 0x0F, form := .three, modOk := fun m => tyL0 m || (l0Off m && (tyI m || tyF m)) }

/-- VAVG: page 1, code 0x10. -/
def opVavg : OpInfo :=
  { page := 1, code := 0x10, form := .three, modOk := fun m => l0Off m && tyI m }

/-- VAND: page 1, code 0x11. -/
def opVand : OpInfo :=
  { page := 1, code := 0x11, form := .three, modOk := fun m => l0Off m && tyW m }

/-- VOR: page 1, code 0x12. -/
def opVor : OpInfo :=
  { page := 1, code := 0x12, form := .three, modOk := fun m => l0Off m && tyW m }

/-- VXOR: page 1, code 0x13. -/
def opVxor : OpInfo :=
  { page := 1, code := 0x13, form := .three, modOk := fun m => l0Off m && tyW m }

/-- VANDN: page 1, code 0x14. -/
def opVandn : OpInfo :=
  { page := 1, code := 0x14, form := .three, modOk := fun m => l0Off m && tyW m }

/-- VSHL: page 1, code 0x15. -/
def opVshl : OpInfo :=
  { page := 1, code := 0x15, form := .three, modOk := fun m => l0Off m && tyI m }

/-- VSHR: page 1, code 0x16. -/
def opVshr : OpInfo :=
  { page := 1, code := 0x16, form := .three, modOk := fun m => l0Off m && tyI m }

/-- VSAR: page 1, code 0x17. -/
def opVsar : OpInfo :=
  { page := 1, code := 0x17, form := .three, modOk := fun m => l0Off m && tyI m }

/-- VCMP: page 1, code 0x18. -/
def opVcmp : OpInfo :=
  { page := 1, code := 0x18, form := .three, modOk := fun m => tyL0 m || (l0Off m && (tyI m || tyF m || tyF8 m)) }

/-- VSEL: page 1, code 0x19. -/
def opVsel : OpInfo :=
  { page := 1, code := 0x19, form := .three, modOk := fun m => l0Off m && tyW m }

/-- VADDW: page 1, code 0x1A. -/
def opVaddw : OpInfo :=
  { page := 1, code := 0x1A, form := .three, modOk := fun m => l0Off m && (tyI m && tyCode m != 15 || tyCode m == 9 || tyCode m == 10 || tyF8 m), extra := fun c => decide (8 ≤ c.a.toNat) }

/-- VMULW: page 1, code 0x1B. -/
def opVmulw : OpInfo :=
  { page := 1, code := 0x1B, form := .three, modOk := fun m => l0Off m && (tyI m && tyCode m != 15 || tyCode m == 9 || tyCode m == 10 || tyF8 m), extra := fun c => decide (8 ≤ c.a.toNat) }

/-- VDOT: page 1, code 0x1C. -/
def opVdot : OpInfo :=
  { page := 1, code := 0x1C, form := .three, modOk := fun m => l0Off m && (decide (2 ≤ tyCode m ∧ tyCode m ≤ 7) || tyF m || tyF8 m || tyCode m == 13) }

/-- VDOTS: page 1, code 0x1D. -/
def opVdots : OpInfo :=
  { page := 1, code := 0x1D, form := .three, modOk := fun m => l0Off m && (decide (2 ≤ tyCode m ∧ tyCode m ≤ 7) || tyF m || tyF8 m || tyCode m == 13), extra := fun c => decide (8 ≤ c.a.toNat) }

/-- VLD: page 1, code 0x1E. -/
def opVld : OpInfo :=
  { page := 1, code := 0x1E, form := .mem, useC := false, gangOk := fun _ => false, modOk := fun m => l0Off m && tyW m, extra := fun c => c.a != 0 }

/-- VST: page 1, code 0x1F. -/
def opVst : OpInfo :=
  { page := 1, code := 0x1F, form := .mem, useC := false, gangOk := fun _ => false, modOk := fun m => l0Off m && tyW m }

/-- VLDL: page 1, code 0x20. -/
def opVldl : OpInfo :=
  { page := 1, code := 0x20, form := .mem, useC := false, gangOk := fun _ => false, modOk := fun m => l0Off m && tyW m }

/-- VSTL: page 1, code 0x21. -/
def opVstl : OpInfo :=
  { page := 1, code := 0x21, form := .mem, useC := false, gangOk := fun _ => false, modOk := fun m => l0Off m && tyW m }

/-- VGATH: page 1, code 0x22. -/
def opVgath : OpInfo :=
  { page := 1, code := 0x22, form := .mem, gangOk := fun _ => false, modOk := fun m => l0Off m && (tyCode m == 0 || tyCode m == 1 || tyCode m == 8 || tyCode m == 15), extra := fun c => c.a != 0 }

/-- VSCAT: page 1, code 0x23. -/
def opVscat : OpInfo :=
  { page := 1, code := 0x23, form := .mem, gangOk := fun _ => false, modOk := fun m => l0Off m && (tyCode m == 0 || tyCode m == 1 || tyCode m == 8 || tyCode m == 15) }

/-- VLDS: page 1, code 0x24. -/
def opVlds : OpInfo :=
  { page := 1, code := 0x24, form := .mem, gangOk := fun _ => false, modOk := fun m => l0Off m && tyW m && decide (8 ≤ (tyBits m)), extra := fun c => c.a != 0 }

/-- VSTS: page 1, code 0x25. -/
def opVsts : OpInfo :=
  { page := 1, code := 0x25, form := .mem, gangOk := fun _ => false, modOk := fun m => l0Off m && tyW m && decide (8 ≤ (tyBits m)) }

/-- VCVT: page 2, code 0x01. -/
def opVcvt : OpInfo :=
  { page := 2, code := 0x01, form := .two, useC := true, gangOk := fun c => decide (tyBits c.mod.toNat ≤ tyBits c.c.toNat), modOk := fun m => tyL0 m || l0Off m, extra := vcvtOk }

/-- VQUANT: page 2, code 0x02. -/
def opVquant : OpInfo :=
  { page := 2, code := 0x02, form := .three, gangOk := fun _ => false, modOk := fun m => l0Off m && tyF m, extra := fun c => c.lmask == 0 && decide (8 ≤ c.a.toNat) && decide (8 ≤ c.b.toNat) }

/-- VDEQ: page 2, code 0x03. -/
def opVdeq : OpInfo :=
  { page := 2, code := 0x03, form := .three, modOk := fun m => l0Off m && tyF m, extra := fun c => decide (8 ≤ c.a.toNat) }

/-- VSCALE: page 2, code 0x04. -/
def opVscale : OpInfo :=
  { page := 2, code := 0x04, form := .three, modOk := fun m => tyL0 m || (l0Off m && tyF m) }

/-- VPERM: page 2, code 0x05. -/
def opVperm : OpInfo :=
  { page := 2, code := 0x05, form := .three, modOk := fun m => l0Off m && tyW m && decide (16 ≤ tyBits m) }

/-- VSHUF: page 2, code 0x06. -/
def opVshuf : OpInfo :=
  { page := 2, code := 0x06, form := .three, modOk := fun m => l0Off m && tyW m && decide (16 ≤ tyBits m) }

/-- VZIP: page 2, code 0x07. -/
def opVzip : OpInfo :=
  { page := 2, code := 0x07, form := .three, modOk := fun m => l0Off m && tyW m, extra := fun c => decide (8 ≤ c.a.toNat) }

/-- VUNZIP: page 2, code 0x08. -/
def opVunzip : OpInfo :=
  { page := 2, code := 0x08, form := .three, modOk := fun m => l0Off m && tyW m, extra := fun c => decide (8 ≤ c.a.toNat) }

/-- VROTL: page 2, code 0x09. -/
def opVrotl : OpInfo :=
  { page := 2, code := 0x09, form := .three, modOk := fun m => l0Off m && tyW m }

/-- VRED: page 2, code 0x0A. -/
def opVred : OpInfo :=
  { page := 2, code := 0x0A, form := .two, useC := true, gangOk := fun _ => false, modOk := fun m => l0Off m, extra := fun c => redOk c.mod.toNat c.c.toNat }

/-- VSCAN: page 2, code 0x0B. -/
def opVscan : OpInfo :=
  { page := 2, code := 0x0B, form := .two, useC := true, gangOk := fun _ => false, modOk := fun m => l0Off m, extra := fun c => decide (c.c.toNat < 16) && redOk c.mod.toNat (c.c.toNat % 8) }

/-- VCLMUL: page 2, code 0x0C. -/
def opVclmul : OpInfo :=
  { page := 2, code := 0x0C, form := .three, modOk := fun m => l0Off m && tyW m && decide (8 ≤ tyBits m) }

/-- VCLMULH: page 2, code 0x0D. -/
def opVclmulh : OpInfo :=
  { page := 2, code := 0x0D, form := .three, modOk := fun m => l0Off m && tyW m && decide (8 ≤ tyBits m) }

/-- VPOPC: page 2, code 0x0E. -/
def opVpopc : OpInfo :=
  { page := 2, code := 0x0E, form := .two, useC := false, modOk := fun m => l0Off m && tyW m }

/-- VCLZ: page 2, code 0x0F. -/
def opVclz : OpInfo :=
  { page := 2, code := 0x0F, form := .two, useC := false, modOk := fun m => l0Off m && tyW m }

/-- VRCP: page 2, code 0x10. -/
def opVrcp : OpInfo :=
  { page := 2, code := 0x10, form := .two, useC := false, modOk := fun m => tyL0 m || (l0Off m && tyF m) }

/-- VRSQ: page 2, code 0x11. -/
def opVrsq : OpInfo :=
  { page := 2, code := 0x11, form := .two, useC := false, modOk := fun m => tyL0 m || (l0Off m && tyF m) }

/-- VSQRT: page 2, code 0x12. -/
def opVsqrt : OpInfo :=
  { page := 2, code := 0x12, form := .two, useC := false, modOk := fun m => tyL0 m || (l0Off m && tyF m) }

/-- VDIV: page 2, code 0x13. -/
def opVdiv : OpInfo :=
  { page := 2, code := 0x13, form := .three, modOk := fun m => tyL0 m || (l0Off m && tyF m) }

/-- VEXP2: page 2, code 0x14. -/
def opVexp2 : OpInfo :=
  { page := 2, code := 0x14, form := .two, useC := false, modOk := fun m => tyL0 m || (l0Off m && tyF m) }

/-- VLOG2: page 2, code 0x15. -/
def opVlog2 : OpInfo :=
  { page := 2, code := 0x15, form := .two, useC := false, modOk := fun m => tyL0 m || (l0Off m && tyF m) }

/-- VSIN: page 2, code 0x16. -/
def opVsin : OpInfo :=
  { page := 2, code := 0x16, form := .two, useC := false, modOk := fun m => tyL0 m || (l0Off m && tyF m) }

/-- VCOS: page 2, code 0x17. -/
def opVcos : OpInfo :=
  { page := 2, code := 0x17, form := .two, useC := false, modOk := fun m => tyL0 m || (l0Off m && tyF m) }

/-- VTANH: page 2, code 0x18. -/
def opVtanh : OpInfo :=
  { page := 2, code := 0x18, form := .two, useC := false, modOk := fun m => tyL0 m || (l0Off m && tyF m) }

/-- VSIGM: page 2, code 0x19. -/
def opVsigm : OpInfo :=
  { page := 2, code := 0x19, form := .two, useC := false, modOk := fun m => tyL0 m || (l0Off m && tyF m) }

/-- VOPEN: page 3, code 0x01. -/
def opVopen : OpInfo :=
  { page := 3, code := 0x01, form := .three, modOk := fun m => decide (m < 16) && bitsOf 3 1 m != 7 && (bitsOf 0 0 m == 1 || bitsOf 3 1 m == 0) }

/-- STV: page 3, code 0x02. -/
def opStv : OpInfo :=
  { page := 3, code := 0x02, form := .three, modOk := fun m => decide (m < 2), extra := fun c => c.mod == 0 || decide (8 ≤ c.a.toNat) }

/-- VSEAL: page 3, code 0x03. -/
def opVseal : OpInfo :=
  { page := 3, code := 0x03, form := .two, useB := false, useC := false }

/-- VACC: page 3, code 0x04. -/
def opVacc : OpInfo :=
  { page := 3, code := 0x04, form := .three }

/-- LDV: page 3, code 0x05. -/
def opLdv : OpInfo :=
  { page := 3, code := 0x05, form := .three, modOk := fun m => decide (m < 8), extra := fun c => c.a != 0 && (bitsOf 0 0 c.mod.toNat == 0 || decide (8 ≤ c.a.toNat)) }

/-- LDVL: page 3, code 0x06. -/
def opLdvl : OpInfo :=
  { page := 3, code := 0x06, form := .three, modOk := fun m => decide (m < 8) && bitsOf 0 0 m == 0, extra := fun c => c.a != 0 }

/-- VPROBE: page 3, code 0x07. -/
def opVprobe : OpInfo :=
  { page := 3, code := 0x07, form := .two, useC := false, extra := fun c => c.a != 0 }

/-- VREF: page 3, code 0x08. -/
def opVref : OpInfo :=
  { page := 3, code := 0x08, form := .two, useC := false }

/-- VREL: page 3, code 0x09. -/
def opVrel : OpInfo :=
  { page := 3, code := 0x09, form := .two, useC := false }

/-- VNAME: page 3, code 0x0A. -/
def opVname : OpInfo :=
  { page := 3, code := 0x0A, form := .two, useC := false, extra := fun c => c.a != 0 }

/-- TASK: page 3, code 0x0B. -/
def opTask : OpInfo :=
  { page := 3, code := 0x0B, form := .two, useC := false, extra := fun c => c.a != 0 }

/-- NEXT: page 3, code 0x0C. -/
def opNext : OpInfo :=
  { page := 3, code := 0x0C, form := .two, useB := false, useC := false, modOk := fun m => decide (m < 2), extra := fun c => c.a != 0 }

/-- EXIT: page 3, code 0x0D. -/
def opExit : OpInfo :=
  { page := 3, code := 0x0D, form := .none, useA := false, useB := false, useC := false }

/-- PUSHE: page 3, code 0x0E. -/
def opPushe : OpInfo :=
  { page := 3, code := 0x0E, form := .two, useC := false }

/-- POPE: page 3, code 0x0F. -/
def opPope : OpInfo :=
  { page := 3, code := 0x0F, form := .two, useC := false, modOk := fun m => decide (m < 2), extra := fun c => c.a != 0 }

/-- SEND: page 3, code 0x10. -/
def opSend : OpInfo :=
  { page := 3, code := 0x10, form := .two, useC := false, modOk := fun m => decide (m < 2) }

/-- SEND_LB: page 3, code 0x10. -/
def opSendLb : OpInfo :=
  { page := 3, code := 0x10, form := .two, useA := false, useB := false, useC := false, modOk := fun m => m == 2 }

/-- RECV_H: page 3, code 0x11. -/
def opRecvH : OpInfo :=
  { page := 3, code := 0x11, form := .two, useB := false, useC := false, modOk := fun m => m == 1 || m == 5, extra := fun c => c.a != 0 }

/-- RECV_W: page 3, code 0x11. -/
def opRecvW : OpInfo :=
  { page := 3, code := 0x11, form := .two, useB := false, useC := false, modOk := fun m => m == 0 || m == 4, extra := fun c => c.a != 0 }

/-- RECV_SP: page 3, code 0x11. -/
def opRecvSp : OpInfo :=
  { page := 3, code := 0x11, form := .two, useB := false, useC := false, modOk := fun m => m == 2 || m == 6, extra := fun c => c.a != 0 }

/-- RECV_ST: page 3, code 0x11. -/
def opRecvSt : OpInfo :=
  { page := 3, code := 0x11, form := .two, useB := false, useC := false, modOk := fun m => m == 3, extra := fun c => c.a != 0 }

/-- RLD: page 3, code 0x12. -/
def opRld : OpInfo :=
  { page := 3, code := 0x12, form := .mem, useC := false, modOk := fun m => decide (m < 8) && m != 4, extra := fun c => c.a != 0 }

/-- RST: page 3, code 0x13. -/
def opRst : OpInfo :=
  { page := 3, code := 0x13, form := .mem, useC := false, modOk := fun m => decide (bitsOf 2 0 m < 4) && bitsOf 3 3 m == 0 && bitsOf 6 5 m == 0 }

/-- RAMO: page 3, code 0x14. -/
def opRamo : OpInfo :=
  { page := 3, code := 0x14, form := .mem, modOk := fun m => decide (bitsOf 3 0 m < 9), extra := fun c => c.a != 0 }

/-- MCST: page 3, code 0x15. -/
def opMcst : OpInfo :=
  { page := 3, code := 0x15, form := .three }

/-- PASS: page 3, code 0x16. -/
def opPass : OpInfo :=
  { page := 3, code := 0x16, form := .imm, useB := false, modOk := fun m => decide (m < 2), extra := fun c => decide (0 ≤ c.imm ∧ c.imm ≤ 256) && (c.mod != 0 || c.c == 0) }

/-- BARI: page 3, code 0x17. -/
def opBari : OpInfo :=
  { page := 3, code := 0x17, form := .three, modOk := fun m => m == 0 }

/-- BARI_CLR: page 3, code 0x17. -/
def opBariClr : OpInfo :=
  { page := 3, code := 0x17, form := .three, useB := false, useC := false, modOk := fun m => m == 1 }

/-- BARA: page 3, code 0x18. -/
def opBara : OpInfo :=
  { page := 3, code := 0x18, form := .two, useC := false, extra := fun c => c.a != 0 }

/-- BARW: page 3, code 0x19. -/
def opBarw : OpInfo :=
  { page := 3, code := 0x19, form := .two, useC := false, extra := fun c => c.a != 0 }

/-- BARQ: page 3, code 0x1A. -/
def opBarq : OpInfo :=
  { page := 3, code := 0x1A, form := .two, useC := false, extra := fun c => c.a != 0 }

/-- BARX: page 3, code 0x1B. -/
def opBarx : OpInfo :=
  { page := 3, code := 0x1B, form := .two, useC := false, extra := fun c => c.a != 0 }

/-- GETT: page 3, code 0x1C. -/
def opGett : OpInfo :=
  { page := 3, code := 0x1C, form := .two, useC := false, modOk := fun m => decide (m < 2), extra := fun c => c.a != 0 }

/-- TLBI: page 3, code 0x1D. -/
def opTlbi : OpInfo :=
  { page := 3, code := 0x1D, form := .two, priv := true, useC := false, modOk := fun m => decide (m < 8) && bitsOf 1 0 m != 3 && (bitsOf 2 2 m == 0 || bitsOf 1 0 m != 2), extra := fun c => (bitsOf 1 0 c.mod.toNat == 0 || c.a == 0) && (bitsOf 1 0 c.mod.toNat != 2 || c.b == 0) }

/-- SAVES: page 3, code 0x1E. -/
def opSaves : OpInfo :=
  { page := 3, code := 0x1E, form := .two, priv := true, useC := false, extra := fun c => c.a != 0 }

/-- RESTS: page 3, code 0x1F. -/
def opRests : OpInfo :=
  { page := 3, code := 0x1F, form := .two, priv := true, useC := false, extra := fun c => c.a != 0 }

/-- PAIR: page 3, code 0x20. -/
def opPair : OpInfo :=
  { page := 3, code := 0x20, form := .two, priv := true, useC := false, extra := fun c => c.a != 0 && decide (c.b.toNat < 32) }

/-- THINT: page 3, code 0x21. -/
def opThint : OpInfo :=
  { page := 3, code := 0x21, form := .imm, useA := false, useB := false, useC := false, extra := fun c => decide (0 ≤ c.imm ∧ c.imm ≤ 7) && c.nimm == 0 }

/-- The encoding of a slot instruction; nothing for a step of another unit. -/
def Instr.slotOp : Instr → Option (OpInfo × Chain)
  | .nop c => some (opNop, c)
  | .mov c => some (opMov, c)
  | .movi c => some (opMovi, c)
  | .add c => some (opAdd, c)
  | .addi c => some (opAddi, c)
  | .sub c => some (opSub, c)
  | .mul c => some (opMul, c)
  | .mulh c => some (opMulh, c)
  | .mulhn c => some (opMulhn, c)
  | .div c => some (opDiv, c)
  | .divn c => some (opDivn, c)
  | .rem c => some (opRem, c)
  | .remn c => some (opRemn, c)
  | .and c => some (opAnd, c)
  | .or c => some (opOr, c)
  | .xor c => some (opXor, c)
  | .andn c => some (opAndn, c)
  | .shl c => some (opShl, c)
  | .shr c => some (opShr, c)
  | .sar c => some (opSar, c)
  | .rol c => some (opRol, c)
  | .clz c => some (opClz, c)
  | .ctz c => some (opCtz, c)
  | .popc c => some (opPopc, c)
  | .min c => some (opMin, c)
  | .max c => some (opMax, c)
  | .minn c => some (opMinn, c)
  | .maxn c => some (opMaxn, c)
  | .seq c => some (opSeq, c)
  | .sne c => some (opSne, c)
  | .slt c => some (opSlt, c)
  | .sltn c => some (opSltn, c)
  | .sel c => some (opSel, c)
  | .ext c => some (opExt, c)
  | .bswap c => some (opBswap, c)
  | .br c => some (opBr, c)
  | .jmp c => some (opJmp, c)
  | .call c => some (opCall, c)
  | .ret c => some (opRet, c)
  | .jmpi c => some (opJmpi, c)
  | .ld c => some (opLd, c)
  | .st c => some (opSt, c)
  | .ldl c => some (opLdl, c)
  | .stl c => some (opStl, c)
  | .amo c => some (opAmo, c)
  | .cas c => some (opCas, c)
  | .fence c => some (opFence, c)
  | .getk c => some (opGetk, c)
  | .putk c => some (opPutk, c)
  | .trap c => some (opTrap, c)
  | .eret c => some (opEret, c)
  | .yield c => some (opYield, c)
  | .waitt c => some (opWaitt, c)
  | .brk c => some (opBrk, c)
  | .clmul c => some (opClmul, c)
  | .clmulh c => some (opClmulh, c)
  | .vmov c => some (opVmov, c)
  | .vbcast c => some (opVbcast, c)
  | .vins c => some (opVins, c)
  | .vextr c => some (opVextr, c)
  | .vadd c => some (opVadd, c)
  | .vsub c => some (opVsub, c)
  | .vmul c => some (opVmul, c)
  | .vfma c => some (opVfma, c)
  | .vfms c => some (opVfms, c)
  | .vfnma c => some (opVfnma, c)
  | .vmin c => some (opVmin, c)
  | .vmax c => some (opVmax, c)
  | .vabs c => some (opVabs, c)
  | .vneg c => some (opVneg, c)
  | .vabsd c => some (opVabsd, c)
  | .vavg c => some (opVavg, c)
  | .vand c => some (opVand, c)
  | .vor c => some (opVor, c)
  | .vxor c => some (opVxor, c)
  | .vandn c => some (opVandn, c)
  | .vshl c => some (opVshl, c)
  | .vshr c => some (opVshr, c)
  | .vsar c => some (opVsar, c)
  | .vcmp c => some (opVcmp, c)
  | .vsel c => some (opVsel, c)
  | .vaddw c => some (opVaddw, c)
  | .vmulw c => some (opVmulw, c)
  | .vdot c => some (opVdot, c)
  | .vdots c => some (opVdots, c)
  | .vld c => some (opVld, c)
  | .vst c => some (opVst, c)
  | .vldl c => some (opVldl, c)
  | .vstl c => some (opVstl, c)
  | .vgath c => some (opVgath, c)
  | .vscat c => some (opVscat, c)
  | .vlds c => some (opVlds, c)
  | .vsts c => some (opVsts, c)
  | .vcvt c => some (opVcvt, c)
  | .vquant c => some (opVquant, c)
  | .vdeq c => some (opVdeq, c)
  | .vscale c => some (opVscale, c)
  | .vperm c => some (opVperm, c)
  | .vshuf c => some (opVshuf, c)
  | .vzip c => some (opVzip, c)
  | .vunzip c => some (opVunzip, c)
  | .vrotl c => some (opVrotl, c)
  | .vred c => some (opVred, c)
  | .vscan c => some (opVscan, c)
  | .vclmul c => some (opVclmul, c)
  | .vclmulh c => some (opVclmulh, c)
  | .vpopc c => some (opVpopc, c)
  | .vclz c => some (opVclz, c)
  | .vrcp c => some (opVrcp, c)
  | .vrsq c => some (opVrsq, c)
  | .vsqrt c => some (opVsqrt, c)
  | .vdiv c => some (opVdiv, c)
  | .vexp2 c => some (opVexp2, c)
  | .vlog2 c => some (opVlog2, c)
  | .vsin c => some (opVsin, c)
  | .vcos c => some (opVcos, c)
  | .vtanh c => some (opVtanh, c)
  | .vsigm c => some (opVsigm, c)
  | .vopen c => some (opVopen, c)
  | .stv c => some (opStv, c)
  | .vseal c => some (opVseal, c)
  | .vacc c => some (opVacc, c)
  | .ldv c => some (opLdv, c)
  | .ldvl c => some (opLdvl, c)
  | .vprobe c => some (opVprobe, c)
  | .vref c => some (opVref, c)
  | .vrel c => some (opVrel, c)
  | .vname c => some (opVname, c)
  | .task c => some (opTask, c)
  | .next c => some (opNext, c)
  | .exit c => some (opExit, c)
  | .pushe c => some (opPushe, c)
  | .pope c => some (opPope, c)
  | .send c => some (opSend, c)
  | .sendLb c => some (opSendLb, c)
  | .recvH c => some (opRecvH, c)
  | .recvW c => some (opRecvW, c)
  | .recvSp c => some (opRecvSp, c)
  | .recvSt c => some (opRecvSt, c)
  | .rld c => some (opRld, c)
  | .rst c => some (opRst, c)
  | .ramo c => some (opRamo, c)
  | .mcst c => some (opMcst, c)
  | .pass c => some (opPass, c)
  | .bari c => some (opBari, c)
  | .bariClr c => some (opBariClr, c)
  | .bara c => some (opBara, c)
  | .barw c => some (opBarw, c)
  | .barq c => some (opBarq, c)
  | .barx c => some (opBarx, c)
  | .gett c => some (opGett, c)
  | .tlbi c => some (opTlbi, c)
  | .saves c => some (opSaves, c)
  | .rests c => some (opRests, c)
  | .pair c => some (opPair, c)
  | .thint c => some (opThint, c)
  | _ => none

/-- The form carries an immediate. -/
def Form.hasImm : Form → Bool
  | .imm => true
  | .mem => true
  | _ => false

/-- Own immediate bits of the base word (03 R55). -/
def Form.ownBits : Form → Nat
  | .imm => 5
  | _ => 0

/-- The fields of a chain can be written in its prefixes (03 R51, R55 to R59). -/
def Chain.fits (c : Chain) (o : OpInfo) : Bool :=
  decide (c.words ≤ 5) &&
  (c.hasP || (o.page == 0 && c.mod == 0)) &&
  (c.hasX || (decide (c.a.toNat < 32) && decide (c.b.toNat < 32) && c.c == 0)) &&
  (o.form != .imm || c.b.toNat % 32 == 0) &&
  (c.hasA || (c.stall == 0 && c.gang == 0 && c.lmask == 0)) &&
  (let w := 10 * c.nimm + o.form.ownBits
   if w = 0 then decide (c.imm = 0)
   else decide (-(2 ^ (w - 1) : Nat) ≤ c.imm) && decide (c.imm < (2 ^ (w - 1) : Nat)))

/-- The use of fields, prefixes and modifiers that 03 R73 item 4 checks, as far as the words show it. -/
def Chain.legal (c : Chain) (o : OpInfo) : Bool :=
  (o.form.hasImm || c.nimm == 0) &&
  (o.useA || c.a == 0) &&
  ((o.useB && o.form != .imm) || c.b == 0) &&
  (o.useC || c.c == 0) &&
  o.modOk c.mod.toNat &&
  (o.page == 1 || o.page == 2 || (c.gang == 0 && c.lmask == 0)) &&
  (c.gang == 0 || (o.gangOk c && decide (8 ≤ c.b.toNat) && decide (c.mod.toNat < 64))) &&
  o.extra c

/-- A well-formed step: a slot instruction whose words can be written and are legal; any step of another unit. -/
def Instr.wf (i : Instr) : Bool :=
  match i.slotOp with
  | some (o, c) => c.fits o && c.legal o
  | none => true

end Sys2Proof
end

