-- ==== Sys2Proof/Decode.lean ====
section
/-!
DEFINITION. From words to instructions and back (03 R50 to R59, R70 to R73).

Decoding makes the checks of 03 R73 items 2 and 3: the chain's structure, word by word, and the base word's code on
its page.  The checks of item 4 are `Chain.legal`, taken when the instruction issues.
-/

namespace Sys2Proof

/-- A prefix run as far as it has been read (03 R73). -/
structure Prefixes where
  pos : Nat := 0
  immHi : Nat := 0
  nimm : Nat := 0
  x : Option Nat := none
  p : Option Nat := none
  a : Option Nat := none
  deriving DecidableEq, Repr

/-- What one more word does to a chain. -/
inductive ReadWord where
  /-- A prefix: the chain goes on. -/
  | more (p : Prefixes)
  /-- A base word ends the chain. -/
  | done (p : Prefixes) (base : Nat)
  /-- ILLEGAL at this word. -/
  | bad (w pos : Nat)
  deriving DecidableEq, Repr

/-- One pass of the decoding loop of 03 R73. -/
def readWord (q : Prefixes) (w : Nat) : ReadWord :=
  let op := bitsOf 15 10 w
  let v := bitsOf 9 0 w
  if op ≥ 0x3C && q.pos == 4 then .bad w q.pos
  else if op = 0x3C then
    .more { q with pos := q.pos + 1, immHi := q.immHi * 1024 + v, nimm := q.nimm + 1 }
  else if op = 0x3D then
    if q.x.isSome then .bad w q.pos else .more { q with pos := q.pos + 1, x := some v }
  else if op = 0x3E then
    if q.p.isSome || bitsOf 9 7 v > 3 then .bad w q.pos else .more { q with pos := q.pos + 1, p := some v }
  else if op = 0x3F then
    if q.a.isSome || bitsOf 1 0 v != 0 then .bad w q.pos else .more { q with pos := q.pos + 1, a := some v }
  else .done q w

/-- The immediate of 03 R55. -/
def immOf (q : Prefixes) (ib own : Nat) : Int :=
  let w := 10 * q.nimm + ib
  if w = 0 then 0 else sextNat (q.immHi * 2 ^ ib + own) w

/-- The fields of a chain whose base word has form `f` (03 R55 to R59, R69). -/
def chainOf (q : Prefixes) (base : Nat) (f : Form) : Chain :=
  let xv := q.x.getD 0
  let pv := q.p.getD 0
  let av := q.a.getD 0
  let ib := f.ownBits
  { nimm := q.nimm
    hasX := q.x.isSome
    hasP := q.p.isSome
    hasA := q.a.isSome
    a := BitVec.ofNat 7 (bitsOf 9 8 xv * 32 + bitsOf 9 5 base)
    b := BitVec.ofNat 7 (bitsOf 7 6 xv * 32 + (if ib = 5 then 0 else bitsOf 4 0 base))
    c := BitVec.ofNat 6 (bitsOf 5 0 xv)
    imm := immOf q ib (if ib = 5 then bitsOf 4 0 base else 0)
    mod := BitVec.ofNat 7 (bitsOf 6 0 pv)
    stall := BitVec.ofNat 3 (bitsOf 9 7 av)
    gang := BitVec.ofNat 2 (bitsOf 6 5 av)
    lmask := BitVec.ofNat 3 (bitsOf 4 2 av) }

/-- The opcode map (03 R71): page, code and MOD to a constructor.  SEND, RECV and BARI name two or four
instructions by MOD. -/
def opcodeMap (pg code m : Nat) (c : Chain) : Option Instr :=
  match pg with
  | 0 =>
    match code with
    | 0x01 => some (.nop c)
    | 0x02 => some (.mov c)
    | 0x03 => some (.movi c)
    | 0x04 => some (.add c)
    | 0x05 => some (.addi c)
    | 0x06 => some (.sub c)
    | 0x07 => some (.mul c)
    | 0x08 => some (.mulh c)
    | 0x09 => some (.mulhn c)
    | 0x0A => some (.div c)
    | 0x0B => some (.divn c)
    | 0x0C => some (.rem c)
    | 0x0D => some (.remn c)
    | 0x0E => some (.and c)
    | 0x0F => some (.or c)
    | 0x10 => some (.xor c)
    | 0x11 => some (.andn c)
    | 0x12 => some (.shl c)
    | 0x13 => some (.shr c)
    | 0x14 => some (.sar c)
    | 0x15 => some (.rol c)
    | 0x16 => some (.clz c)
    | 0x17 => some (.ctz c)
    | 0x18 => some (.popc c)
    | 0x19 => some (.min c)
    | 0x1A => some (.max c)
    | 0x1B => some (.minn c)
    | 0x1C => some (.maxn c)
    | 0x1D => some (.seq c)
    | 0x1E => some (.sne c)
    | 0x1F => some (.slt c)
    | 0x20 => some (.sltn c)
    | 0x21 => some (.sel c)
    | 0x22 => some (.ext c)
    | 0x23 => some (.bswap c)
    | 0x24 => some (.br c)
    | 0x25 => some (.jmp c)
    | 0x26 => some (.call c)
    | 0x27 => some (.ret c)
    | 0x28 => some (.jmpi c)
    | 0x29 => some (.ld c)
    | 0x2A => some (.st c)
    | 0x2B => some (.ldl c)
    | 0x2C => some (.stl c)
    | 0x2D => some (.amo c)
    | 0x2E => some (.cas c)
    | 0x2F => some (.fence c)
    | 0x30 => some (.getk c)
    | 0x31 => some (.putk c)
    | 0x32 => some (.trap c)
    | 0x33 => some (.eret c)
    | 0x34 => some (.yield c)
    | 0x35 => some (.waitt c)
    | 0x36 => some (.brk c)
    | 0x37 => some (.clmul c)
    | 0x38 => some (.clmulh c)
    | _ => none
  | 1 =>
    match code with
    | 0x01 => some (.vmov c)
    | 0x02 => some (.vbcast c)
    | 0x03 => some (.vins c)
    | 0x04 => some (.vextr c)
    | 0x05 => some (.vadd c)
    | 0x06 => some (.vsub c)
    | 0x07 => some (.vmul c)
    | 0x08 => some (.vfma c)
    | 0x09 => some (.vfms c)
    | 0x0A => some (.vfnma c)
    | 0x0B => some (.vmin c)
    | 0x0C => some (.vmax c)
    | 0x0D => some (.vabs c)
    | 0x0E => some (.vneg c)
    | 0x0F => some (.vabsd c)
    | 0x10 => some (.vavg c)
    | 0x11 => some (.vand c)
    | 0x12 => some (.vor c)
    | 0x13 => some (.vxor c)
    | 0x14 => some (.vandn c)
    | 0x15 => some (.vshl c)
    | 0x16 => some (.vshr c)
    | 0x17 => some (.vsar c)
    | 0x18 => some (.vcmp c)
    | 0x19 => some (.vsel c)
    | 0x1A => some (.vaddw c)
    | 0x1B => some (.vmulw c)
    | 0x1C => some (.vdot c)
    | 0x1D => some (.vdots c)
    | 0x1E => some (.vld c)
    | 0x1F => some (.vst c)
    | 0x20 => some (.vldl c)
    | 0x21 => some (.vstl c)
    | 0x22 => some (.vgath c)
    | 0x23 => some (.vscat c)
    | 0x24 => some (.vlds c)
    | 0x25 => some (.vsts c)
    | _ => none
  | 2 =>
    match code with
    | 0x01 => some (.vcvt c)
    | 0x02 => some (.vquant c)
    | 0x03 => some (.vdeq c)
    | 0x04 => some (.vscale c)
    | 0x05 => some (.vperm c)
    | 0x06 => some (.vshuf c)
    | 0x07 => some (.vzip c)
    | 0x08 => some (.vunzip c)
    | 0x09 => some (.vrotl c)
    | 0x0A => some (.vred c)
    | 0x0B => some (.vscan c)
    | 0x0C => some (.vclmul c)
    | 0x0D => some (.vclmulh c)
    | 0x0E => some (.vpopc c)
    | 0x0F => some (.vclz c)
    | 0x10 => some (.vrcp c)
    | 0x11 => some (.vrsq c)
    | 0x12 => some (.vsqrt c)
    | 0x13 => some (.vdiv c)
    | 0x14 => some (.vexp2 c)
    | 0x15 => some (.vlog2 c)
    | 0x16 => some (.vsin c)
    | 0x17 => some (.vcos c)
    | 0x18 => some (.vtanh c)
    | 0x19 => some (.vsigm c)
    | _ => none
  | _ =>
    match code with
    | 0x01 => some (.vopen c)
    | 0x02 => some (.stv c)
    | 0x03 => some (.vseal c)
    | 0x04 => some (.vacc c)
    | 0x05 => some (.ldv c)
    | 0x06 => some (.ldvl c)
    | 0x07 => some (.vprobe c)
    | 0x08 => some (.vref c)
    | 0x09 => some (.vrel c)
    | 0x0A => some (.vname c)
    | 0x0B => some (.task c)
    | 0x0C => some (.next c)
    | 0x0D => some (.exit c)
    | 0x0E => some (.pushe c)
    | 0x0F => some (.pope c)
    | 0x12 => some (.rld c)
    | 0x13 => some (.rst c)
    | 0x14 => some (.ramo c)
    | 0x15 => some (.mcst c)
    | 0x16 => some (.pass c)
    | 0x18 => some (.bara c)
    | 0x19 => some (.barw c)
    | 0x1A => some (.barq c)
    | 0x1B => some (.barx c)
    | 0x1C => some (.gett c)
    | 0x1D => some (.tlbi c)
    | 0x1E => some (.saves c)
    | 0x1F => some (.rests c)
    | 0x20 => some (.pair c)
    | 0x21 => some (.thint c)
    | 0x10 => if m = 2 then some (.sendLb c) else some (.send c)
    | 0x11 =>
      match m % 4 with
      | 0 => some (.recvW c)
      | 1 => some (.recvH c)
      | 2 => some (.recvSp c)
      | _ => some (.recvSt c)
    | 0x17 => if m = 1 then some (.bariClr c) else some (.bari c)
    | _ => none

/-- A chain with every field 0. -/
def Chain.zero : Chain :=
  { nimm := 0
    hasX := false
    hasP := false
    hasA := false
    a := 0
    b := 0
    c := 0
    imm := 0
    mod := 0
    stall := 0
    gang := 0
    lmask := 0 }

/-- Form of a code on a page (03 R71); codes without an instruction are given the form none. -/
def formOf (pg code : Nat) : Form :=
  match opcodeMap pg code 0 Chain.zero with
  | some i =>
    match i.slotOp with
    | some (o, _) => o.form
    | none => .none
  | none => .none

/-- The instruction of a complete chain (03 R71, R73 item 3). -/
def instrOf (q : Prefixes) (base : Nat) : Option Instr :=
  let pg := bitsOf 9 7 (q.p.getD 0)
  let code := bitsOf 15 10 base
  let c := chainOf q base (formOf pg code)
  opcodeMap pg code c.mod.toNat c

/-- What decoding a run of words gives. -/
inductive Decoded where
  /-- An instruction, and how many words it has. -/
  | ok (i : Instr) (words : Nat)
  /-- ILLEGAL at word `w`, which has position `pos` in the chain (03 R73). -/
  | illegal (w pos : Nat)
  /-- The words end inside a chain. -/
  | short
  deriving DecidableEq, Repr

/-- Decoding continued after the prefixes `q`. -/
def decodeFrom (q : Prefixes) : List Nat → Decoded
  | [] => .short
  | w :: ws =>
    match readWord q w with
    | .more q' => decodeFrom q' ws
    | .bad w pos => .illegal w pos
    | .done q' base =>
      match instrOf q' base with
      | some i => .ok i (q'.pos + 1)
      | none => .illegal base q'.pos

/-- Decoding of a run of words: total, rejecting by the word and its position. -/
def decode (ws : List Nat) : Decoded := decodeFrom {} ws

/-- Decoding of bytes: words are little-endian (03 R50).  A last byte without its partner is not a word. -/
def wordsOfBytes : List Byte → List Nat
  | lo :: hi :: bs => (lo.toNat + 256 * hi.toNat) :: wordsOfBytes bs
  | _ => []

/-- Decoding of any bytes. -/
def decodeBytes (bs : List Byte) : Decoded := decode (wordsOfBytes bs)

/-! ### The encoder (03 R50, R55 to R59, R75) -/

/-- IMM prefixes of `n` payloads, most significant first. -/
def immWords (hi : Nat) : Nat → List Nat
  | 0 => []
  | n + 1 => (0xF000 + (hi / 1024 ^ n) % 1024) :: immWords hi n

/-- The words of a chain with base code `o.code` on page `o.page`, prefixes in the order IMM, XREG, PAGE, AUX. -/
def encodeChain (o : OpInfo) (c : Chain) : List Nat :=
  let ib := o.form.ownBits
  let bitsN := wrapNat c.imm (10 * c.nimm + ib)
  let own := if ib = 5 then bitsN % 32 else c.b.toNat % 32
  immWords (bitsN / 2 ^ ib) c.nimm
    ++ (if c.hasX then [0xF400 + (c.a.toNat / 32) * 256 + (c.b.toNat / 32) * 64 + c.c.toNat] else [])
    ++ (if c.hasP then [0xF800 + o.page * 128 + c.mod.toNat] else [])
    ++ (if c.hasA then [0xFC00 + c.stall.toNat * 128 + c.gang.toNat * 32 + c.lmask.toNat * 4] else [])
    ++ [o.code * 1024 + (c.a.toNat % 32) * 32 + own]

/-- The words of a slot instruction; a step of another unit has none. -/
def encode (i : Instr) : List Nat :=
  match i.slotOp with
  | some (o, c) => encodeChain o c
  | none => []

/-- The base word of a slot instruction and its position in the chain: k.tval of ILLEGAL and PRIV (03 R73). -/
def badWord (i : Instr) : Nat × Nat :=
  let ws := encode i
  (ws.getLast?.getD 0, ws.length - 1)

/-- Words to bytes. -/
def bytesOfWords : List Nat → List Byte
  | [] => []
  | w :: ws => BitVec.ofNat 8 w :: BitVec.ofNat 8 (w / 256) :: bytesOfWords ws

/-- The words of a row of spec/opcode_table.json.  The table writes a page-1 to page-3 row with its PAGE word in bits
31 to 16 above the base word in bits 15 to 0, and the PAGE word comes first in the chain (03 R51), so the high
half is laid out first (log 8). -/
def tableWords (nbits w : Nat) : List Nat :=
  if nbits ≤ 16 then [w % 65536] else [(w / 65536) % 65536, w % 65536]

/-- The instruction the decoder reads from a row of spec/opcode_table.json. -/
def decodeTableWord (nbits w : Nat) : Option Instr :=
  match decodeBytes (bytesOfWords (tableWords nbits w)) with
  | .ok i _ => some i
  | _ => none

end Sys2Proof
end

