-- ==== Sys2Proof/Config.lean ====
section
/-!
DEFINITION. What the spec leaves open: values and choices that no rule fixes.  Each is an opaque constant, so that
nothing can be proved of its value.
-/

namespace Sys2Proof

/-- A free choice, drawn with the step's `fresh` counter (log 3). -/
opaque Config.free : Nat → Nat

/-- Result picked by the SFU within the bounds of R156: function number, operand code.  It does not depend on
anything else (R156 item 4). -/
opaque Config.sfuPick : Nat → Nat → Nat

/-- The hash of line address bits [41:8] over the live slices (R178), reduced by its user to a live slice. -/
opaque Config.lineHash : Nat → Nat

/-- The hash of a version name over the live slices (R196). -/
opaque Config.nameHash : Nat → Nat

/-- The 64-bit fingerprint of a core's results (R407): the old value, the kind of result and its bits. -/
opaque Config.fingerprint : Nat → Nat → Nat → Nat

/-- Image words 22 to 30 and the second word of a deposit entry (R360), which only the die reads. -/
opaque Config.imageWord : Nat → Word

/-- Bytes that Ferper places in an attestation and that depend on keys outside this manual (R425): byte number and
draw. -/
opaque Config.attestByte : Nat → Nat → Byte

/-- BUDGET of a flow whose budget does not fit the field (R401). -/
opaque Config.wideBudget : Nat → Nat

/-- Names of the spec's SFU functions, as `sfuPick` numbers them. -/
inductive SfuFn where
  | rcp | rsq | exp2 | log2 | sin | cos | tanh | sigm
  deriving DecidableEq, Repr

/-- Number of an SFU function. -/
def SfuFn.num : SfuFn → Nat
  | .rcp => 0 | .rsq => 1 | .exp2 => 2 | .log2 => 3 | .sin => 4 | .cos => 5 | .tanh => 6 | .sigm => 7

end Sys2Proof
end

