-- ==== Sys2Proof/Machine/Base.lean ====
section
/-!
DEFINITION. Data types of the machine that the State is built from: trap causes, slots, requests, pages, cores.
-/

namespace Sys2Proof.Machine

/-- The trap causes (18 R354). -/
inductive Cause where
  | illegal | priv | align | page | prot | space | stallShort | pendingOverwrite | versionExists | versionPoison
  | taskFull | inboxHeap | overlay | passageMap | barrierBroken | remoteNack | software | brk | watch
  | spaceUnavailable
  deriving DecidableEq, Repr

/-- Code of a cause (18 R354). -/
def Cause.code : Cause → Nat
  | .illegal => 1 | .priv => 2 | .align => 3 | .page => 4 | .prot => 5 | .space => 6 | .stallShort => 7
  | .pendingOverwrite => 8 | .versionExists => 9 | .versionPoison => 10 | .taskFull => 11 | .inboxHeap => 12
  | .overlay => 13 | .passageMap => 14 | .barrierBroken => 15 | .remoteNack => 16 | .software => 17 | .brk => 18
  | .watch => 19 | .spaceUnavailable => 20

/-- A place that holds register contents: lat, o1 to o7, or a byte offset of the main file (03 R64, R65). -/
inductive Loc where
  | lat
  | o (k : Nat)
  | main (off : Nat)
  deriving DecidableEq, Repr

/-- What a parked slot awaits (04 R79, R89; 18 R360 word 1): a granule of its own main file, an o-register, or a
gang partner's granule. -/
inductive Awaited where
  | granule (g : Nat)
  | oreg (k : Nat)
  | partner (sid g : Nat)
  deriving DecidableEq, Repr

/-- Why a STALLED slot is stalled. -/
inductive StallWhy where
  /-- A stall count: the slot next issues in cycle `until` (03 R60, 07 R158). -/
  | count (until' : Nat)
  /-- YIELD, to its last cycle; `least` is the first cycle that its stall count allows, 0 without one (05 R115). -/
  | yield (deadline least : Nat)
  /-- WAITT for a time base of `t`; the chain says what its completion writes (05 R116). -/
  | time (t : Nat) (c : Chain)
  /-- The instruction at pc is held at issue with no effect, and re-issues at each issue cycle (09 R186; 18 R360). -/
  | again
  /-- The SFU instruction at pc is held until an earlier result of the slot is written (07 R158). -/
  | sfu
  /-- The FENCE at pc waits; it looks again at each issue cycle (09 R193). -/
  | fence
  /-- The request whose answer ends the instruction at `pc` (10 R207, 15 R295, 17 R335, 08 R172); `next` is the
  address after the instruction and `until'` the first cycle that its stall count allows. -/
  | answer (rid : Nat) (next : Word) (until' : Nat)
  /-- Walks that hold the slot at the instruction (06 R135 item 2). -/
  | walk (wids : List Nat)
  deriving DecidableEq, Repr

/-- Slot states other than FREE and SAVED (04 R79). -/
inductive Status where
  | ready
  | stalled (why : StallWhy)
  | parked (a : Awaited)
  | held
  deriving DecidableEq, Repr

/-- A masked write of `bits` bits into a register place. -/
structure RegWrite where
  dst : Loc
  bits : Nat
  value : Nat
  mask : Nat
  deriving DecidableEq, Repr

/-- An uncorrectable-data event (02 R48, R49). -/
structure UeEvent where
  where' : Nat
  src : Nat
  row : Nat
  col : Nat
  /-- The bits of k.uefl that the event sets (R47). -/
  kind : BitVec 4
  deriving DecidableEq, Repr

/-- Of several events, the one with the lowest ROW and COL (02 R49 item 3). -/
def firstEvent (es : List UeEvent) : Option UeEvent :=
  es.foldl (fun m e =>
    match m with
    | none => some e
    | some x => if e.row < x.row ∨ (e.row = x.row ∧ e.col < x.col) then some e else some x) none

/-- What a task of an engine has recorded of its events (02 R49 item 5): the one captured, the bits of k.uefl that they set, and
whether there was more than one. -/
structure UeRec where
  first : Option UeEvent := none
  kinds : BitVec 4 := 0
  more : Bool := false
  deriving DecidableEq, Repr

/-- Further events recorded (log 64). -/
def UeRec.add (r : UeRec) (es : List UeEvent) : UeRec :=
  { first := r.first.orElse (fun _ => firstEvent es), kinds := es.foldl (fun k e => k ||| e.kind) r.kinds
    more := r.more || decide (1 < es.length) || (r.first.isSome && !es.isEmpty) }

/-- A result of fixed latency not yet written (03 R61, 04 R83). -/
structure Pending where
  /-- Last cycle of the latency; for an SFU result, set when the request starts. -/
  due : Nat
  /-- The result waits for the SFU (07 R158). -/
  sfu : Bool
  writes : List RegWrite
  flags : BitVec 6
  /-- Events of the instruction, captured when the result is written. -/
  ue : List UeEvent
  deriving DecidableEq, Repr

/-- A late fault due at the slot's next boundary (10 R214). -/
structure LateFault where
  cause : Cause
  tval : Word
  deriving DecidableEq, Repr

/-- A translation kept for the re-issue of an instruction after its walk (06 R135 item 2): the leaf or the fault
code of 08 R171. -/
structure Xlat where
  vpn : Nat
  fault : Option Nat
  leaf : Word
  deriving DecidableEq, Repr

/-- Numbers from which saved images are named where a slot's number stands; the engines of cores 0 to 143 stand from 2304
on, the channels from 2448 on, and the fetchers of 16 R320 from 2512 on. -/
def savedBase : Nat := 4096

/-- A core's inbox entry (12 R253): a packet, or an arrival descriptor of passage mode (15 R299). -/
structure InboxEntry where
  ctx : Nat
  header : Word
  words : List Word
  deriving DecidableEq, Repr

/-- Group key of a slot and its placement in the group (16 R306). -/
structure Membership where
  group : Nat
  pos : Nat
  deriving DecidableEq, Repr

/-- An open SEND packet (12 R255). -/
structure OpenPacket where
  target : Word
  header : Word
  words : List Word
  /-- Cycle from which the truncation limit counts, once a save is requested. -/
  since : Option Nat
  deriving DecidableEq, Repr

/-- What a gang partner reads of a slot's main file (04 R94 item 1): the file as it stood at the start of the slot's last issue
cycle, its empty bits, the results not yet written, and the uncorrectable bytes. -/
structure GangView where
  cycle : Nat
  file : BitVec 524288
  empty : BitVec 8192
  results : List Pending
  ueRegs : List Nat
  deriving DecidableEq, Repr

/-- A slot that is active and not SAVED (04 R79). -/
structure Slot where
  ctx : Nat := 0
  kid : Nat := 0
  /-- Key of the slot's group. -/
  group : Nat := 0
  status : Status := .ready
  pc : Word := 0
  /-- Bytes of register space (k.space). -/
  space : Nat := 4096
  file : BitVec 524288 := 0
  /-- Bit g is 1 while granule g is empty (04 R87). -/
  empty : BitVec 8192 := 0
  /-- Bit k is 1 while ok is empty. -/
  oEmpty : BitVec 8 := 0
  lat : Container := 0
  /-- o1 to o7, ok at byte offset 512 k. -/
  ofile : BitVec 32768 := 0
  gid : Word := 0
  gthr : Word := 0
  gshape : Word := 0x11
  task : Word := 0
  fmt : Word := 0
  sca : Word := 0
  scb : Word := 0
  band : Word := 0
  vws : Word := 0
  vwv : Word := 0
  vwt : Word := 0
  vwa : Word := 0
  chk : Bool := false
  flags : BitVec 6 := 0
  uefl : BitVec 4 := 0
  uexy : Word := 0
  trapc : Word := 0
  epc : Word := 0
  tval : Word := 0
  sscr : Word := 0
  sup : Bool := false
  pass : Bool := false
  pairMode : Bool := false
  replay : Bool := false
  /-- The fetch range is HKID's (18 R356). -/
  handler : Bool := false
  results : List Pending := []
  late : Option LateFault := none
  lmore : Bool := false
  /-- Requests whose deposit later memory instructions wait for (09 R186). -/
  acqHold : List Nat := []
  xlat : List Xlat := []
  openPkt : Option OpenPacket := none
  owned : Option InboxEntry := none
  /-- Offset from which RECV.w reads the owned packet next. -/
  ownedPos : Nat := 0
  /-- The task the slot holds was pulled by NEXT (12 R249). -/
  pulled : Bool := false
  /-- Pulled tasks that it holds besides: those whose handles an earlier waiting NEXT has deposited. -/
  tasks : List Word := []
  /-- Handle of the KIND 0 record that started the thread, which retires at its EXIT (12 R247). -/
  dealt : Option Word := none
  /-- Deposits of RECV.h's that wait for a packet, oldest first (12 R256). -/
  recvs : List Nat := []
  /-- Request of a NEXT that waits (12 R249). -/
  nextRid : Option Nat := none
  thermal : Nat := 0
  /-- Uncorrectable register bytes: main file offsets; lat and ok at 0x10000 + 512 k + byte. -/
  ueRegs : List Nat := []
  /-- What partners read in the slot's last issue cycle. -/
  gang : Option GangView := none
  /-- Stores of the slot that must be performed before it issues (11 R235). -/
  waitFor : List Nat := []
  /-- Rotations by which the SFU queue has lengthened the slot's present stall (07 R158 item 5). -/
  longer : Nat := 0
  /-- State word of the order in which slots were placed. -/
  age : Nat := 0
  deriving DecidableEq, Repr

/-- The 1 MiB store of one core and what else the core holds (09 R174, R181; 07 R158; 15 R296). -/
structure L1Line where
  line : Nat
  ctx : Nat
  w : Bool
  bytes : List Byte
  /-- First page number and number of pages of 4 KiB of the leaf that filled the line (11 R234 item 5). -/
  page : Nat × Nat := (0, 0)
  /-- Slot index and generation of the version whose data the line holds (10 R213 item 5). -/
  ver : Option (Nat × Nat) := none
  deriving DecidableEq, Repr

/-- An entry of a core's SFU queue (07 R158): its slot, the image it belongs to after a save, its occupancy, and
the cycle in which it started. -/
structure SfuEntry where
  sid : Nat
  image : Option Nat
  occ : Nat
  start : Option Nat
  /-- Address of the instruction. -/
  pc : Word := 0
  deriving DecidableEq, Repr

/-- Memory as a list of bytes at rising addresses; an address that is not listed reads as 0 (log 4). -/
abbrev Memory := List Host.Cell

/-- One address to be read or written by a request: lane, byte offset of its bits in the register or data, and
length. -/
structure Piece where
  pa : Nat
  /-- Position of the first bit in the data. -/
  bit : Nat
  /-- Bits moved: 4 for a nibble, else whole bytes. -/
  bits : Nat
  /-- High nibble of the byte, for a 4-bit piece. -/
  high : Bool
  lane : Nat
  /-- Virtual address, for k.uexy (02 R48). -/
  va : Nat
  /-- The page is POISONED: the element reads as +0 (08 R165). -/
  poison : Bool
  deriving DecidableEq, Repr

/-- The atomic operations (09 R191). -/
inductive AmoOp where
  | add | and | or | xor | min | max | minn | maxn | swap
  | cas (expected : Nat)
  deriving DecidableEq, Repr

/-! ### Tile versions (10) -/

/-- Version states (10 R204). ABSENT entries that hold only waiters are kept as `absent`. -/
inductive VState where
  | absent | vopen | complete | poisoned | dead
  deriving DecidableEq, Repr

/-- Number of a state in the status word (10 R215). -/
def VState.num : VState → Nat
  | .absent => 0 | .vopen => 1 | .complete => 2 | .poisoned => 3 | .dead => 4

/-- What a version load asks for (10 R213). -/
structure VLoad where
  off : Nat
  /-- Window size in bytes; 0 for LDVL, which takes every granule. -/
  size : Nat
  cons : Bool
  pt : Bool
  replay : Bool
  deriving DecidableEq, Repr

/-- Who waits for a version (10 R211, 12 R243, 16 R319): a deposit, an input of a pool entry of a generation, an
awaited version of a launch of a number. -/
inductive WaitWho where
  | dep (d : Nat)
  | entry (i gen : Nat)
  | launch (l : Nat)
  deriving DecidableEq, Repr

/-- A registered waiter (10 R211). -/
structure Waiter where
  who : WaitWho
  load : VLoad
  deriving DecidableEq, Repr

/-- A version-table entry (10 R199, R200). -/
structure Version where
  ctx : Nat
  handle : Word
  state : VState
  sealed : Bool := false
  acc : Bool := false
  manual : Bool := false
  rpl : Bool := false
  /-- DEAD after poison (10 R204). -/
  poisonDead : Bool := false
  count : Nat := 0
  ty : Nat := 0
  rows : Nat := 0
  cols : Nat := 0
  g : Nat := 1
  op : Nat := 0
  n : Nat := 0
  arrived : List Nat := []
  windows : List Nat := []
  aflags : BitVec 6 := 0
  /-- Granules that lie in the extension region (R201). -/
  spill : Nat := 0
  /-- Order of completion, for the spill (R201 item 2). -/
  doneAt : Nat := 0
  /-- Slot of the home's version table and its generation. -/
  slot : Nat := 0
  gen : Nat := 0
  /-- Data: G x 4096 bytes as one little-endian number. -/
  data : Nat := 0
  waiters : List Waiter := []
  /-- Agents that subscribed, and so may hold a copy (10 R212). -/
  subs : List Nat := []
  deriving DecidableEq, Repr

/-- What a die's proxy slice holds of a version homed elsewhere: local waiters, and the complete copy (10 R212). -/
structure ProxyCopy where
  ctx : Nat
  handle : Word
  /-- A complete copy is held. -/
  present : Bool := false
  /-- Slot index, generation, size and poison mark that the VNOTICE gave. -/
  slot : Nat := 0
  gen : Nat := 0
  g : Nat := 0
  poisoned : Bool := false
  data : Nat := 0
  /-- Bytes of the data that have come. -/
  got : Nat := 0
  waiters : List Waiter := []
  deriving DecidableEq, Repr

/-! ### The queue (12) -/

/-- States of a pool entry other than EMPTY (12 R243). -/
inductive PState where
  | waiting | ready | running
  deriving DecidableEq, Repr

/-- A task-pool entry that is not EMPTY (12 R238 to R243). -/
structure PoolEntry where
  state : PState
  ctx : Nat
  /-- The 64-byte record as a little-endian number. -/
  record : Nat
  counter : Nat
  /-- Cycle in which the entry became READY. -/
  readyAt : Nat := 0
  /-- Agent that the entry was stolen from (17 R346). -/
  stolen : Option Nat := none
  replay : Bool := false
  deriving DecidableEq, Repr

/-- A span of cycles in which an entry was READY, for the least key of 12 R245 item 2. -/
structure ReadySpan where
  ctx : Nat
  pull : Bool
  key : Nat
  start : Nat
  stop : Option Nat
  deriving DecidableEq, Repr

/-! ### The engines (13) -/

/-- States of a channel (13 R272). -/
inductive ChState where
  | idle | ready | running | held | error
  deriving DecidableEq, Repr

/-- A push waiting in a channel's queue, or a copy task. -/
structure ChPush where
  arg : Nat
  template : Nat
  ctx : Nat
  /-- Pool entry of a copy task. -/
  task : Option Nat
  replay : Bool := false
  deriving DecidableEq, Repr

/-- A block-transfer channel (13 R271 to R276). -/
structure Channel where
  en : Bool := false
  ctx : Nat := 0
  tcount : Nat := 0
  tbase : Word := 0
  wptr : Word := 0
  doneCnt : Word := 0
  state : ChState := .idle
  arg : Nat := 0
  err : Nat := 0
  queue : List ChPush := []
  /-- Copy in progress: its push, its template once it has been read, bytes delivered. -/
  cur : Option ChPush := none
  tmpl : Option Nat := none
  moved : Nat := 0
  /-- The bytes of the row being written that are still to be written, and where the next one goes; bytes on their way. -/
  row : List Byte := []
  rowAt : Nat := 0
  under : Nat := 0
  /-- Uncorrectable bytes written as 0. -/
  ue : UeRec := {}
  /-- Error met, 0 for none (13 R275). -/
  fail : Nat := 0
  /-- Writes at other agents that are on their way, and the VOPEN awaited. -/
  writes : List Nat := []
  await : Option Nat := none
  /-- The destination version was created by this copy. -/
  opened : Bool := false
  /-- Pushes that wait at a full queue, oldest first. -/
  pending : List HomeReq := []
  deriving DecidableEq, Repr

/-- An engine FIFO (13 R280, R281). -/
structure EFifo where
  en : Bool := false
  ctx : Nat := 0
  items : List Word := []
  /-- Pushes and pops that wait, oldest first. -/
  pushes : List HomeReq := []
  pops : List HomeReq := []
  deriving DecidableEq, Repr

/-- States of a matrix task (13 R267). -/
inductive MxState where
  | check | opening | run | sealing | poisoning | stopped
  deriving DecidableEq, Repr

/-- A matrix task on an engine (13 R262 to R270). -/
structure MxTask where
  entry : Nat
  /-- Handle of the entry. -/
  handle : Word := 0
  ctx : Nat
  record : Nat
  state : MxState
  replay : Bool := false
  /-- K-blocks fetched and folded. -/
  fetched : Nat := 0
  folded : Nat := 0
  /-- Input data as they are pinned: A, B, Cin and the scale version. -/
  data : KMap Nat := []
  /-- Uncorrectable bytes of the inputs: input, byte offset, and how many K-blocks had been folded when the error was found. -/
  bad : List (Nat × Nat × Nat) := []
  flags : BitVec 6 := 0
  ue : UeRec := {}
  code : Nat := 0
  /-- Status of inputs asked for at other dies: input and deposit. -/
  reads : KMap Nat := []
  /-- The VOPEN awaited at another die, and writes of the output that are on their way. -/
  await : Option Nat := none
  writes : List Nat := []
  deriving DecidableEq, Repr

/-- A record of the engine log (13 R277). -/
structure ELog where
  w0 : Word
  w1 : Word
  w2 : Word
  deriving DecidableEq, Repr

/-! ### Kernels (14), passage (15) -/

/-- Kernel states other than ABSENT and LOADING (14 R290). -/
inductive KState where
  | loading | sealed | unloading
  deriving DecidableEq, Repr

/-- A segment of a kernel: code offset, length, and the physical cores of the logical cores it names, none in an
ordinary kernel (14 R284, 15 R291). -/
structure Segment where
  off : Nat
  len : Nat
  cores : List Nat
  deriving DecidableEq, Repr

/-- An entry of a kernel: code offset, live bytes, segment (14 R284). -/
structure KEntry where
  off : Nat
  live : Nat
  seg : Nat
  deriving DecidableEq, Repr

/-- A kernel on the die (14 R283 to R290). -/
structure Kernel where
  kid : Nat
  ctx : Nat
  kbase : Nat
  ovl : Nat
  pass : Bool
  space : Nat
  views : List Nat
  codeLen : Nat
  resLen : Nat
  segments : List Segment
  entries : List KEntry
  digest : Nat
  state : KState
  /-- What the loader holds of the kernel's range in local memory, to write it again (20 R397, 21 R412). -/
  code : List Byte := []
  /-- Local ranges of the overlay area that hold code (14 R239, R287). -/
  overlaid : List (Nat × Nat) := []
  /-- Bytes being written by an overlay: local range. -/
  busy : Option (Nat × Nat) := none
  deriving DecidableEq, Repr

/-- A passage transfer between grant and start (15 R295 to R300). -/
structure Transfer where
  ctx : Nat
  kid : Nat
  fromCore : Nat
  fromSlot : Nat
  core : Nat
  place : Nat
  seg : Nat
  /-- The image of 15 R297 as bytes, and its live length. -/
  image : Nat
  live : Nat
  pc : Word
  /-- Writes of the image that are on their way. -/
  writes : Option (List Nat) := none
  /-- Slot reserved for the arrival (15 R300). -/
  reserved : Option Nat := none
  /-- Image written to the heap. -/
  written : Bool := false
  /-- Accepted into the inbox; the number gives the order of acceptance. -/
  accepted : Option Nat := none
  /-- The departing thread's stores that its arrival waits for (11 R235). -/
  waitFor : List Nat := []
  /-- What goes with the thread besides the image. -/
  group : Nat := 0
  pulled : Bool := false
  task : Word := 0
  tasks : List Word := []
  dealt : Option Word := none
  deriving DecidableEq, Repr

/-! ### Groups and launches (16) -/

/-- A group (16 R306 to R309); a thread of a task of kind thread is a group of one (17 R328). -/
structure Group where
  ctx : Nat
  kid : Nat
  shape : Nat
  /-- Physical cores in position order. -/
  cores : List Nat
  /-- Slot indices on each core, ascending, in position order. -/
  slots : List (List Nat)
  live : Nat
  /-- Handle of a group task (16 R325). -/
  task : Option Word := none
  /-- Launch: its leader's agent, its index in the leader's table, its listed dies, and the group's index. -/
  launch : Option (Nat × Nat × List Nat × Nat) := none
  /-- Requests that members which have exited left behind, for R326. -/
  left : List Nat := []
  deriving DecidableEq, Repr

/-- States of a launch (16 R319). -/
inductive LState where
  | waiting | ready | dealing | draining
  deriving DecidableEq, Repr

/-- A launch in the leader's table, or a deputy's mirror of one (16 R314 to R324). -/
structure Launch where
  ctx : Nat
  /-- The record of R314 as a little-endian number. -/
  record : Nat
  state : LState := .waiting
  /-- Number of the launch among all of this die, by which its waiters name it. -/
  uid : Nat := 0
  /-- Awaited versions not yet sealed. -/
  waits : Nat := 0
  /-- IND 2: the count once its version is sealed, and whether the count is bad (R320). -/
  count : Option Nat := none
  countBad : Bool := false
  /-- The count read is held by a fault record (R320). -/
  held : Bool := false
  total : Nat := 0
  next : Nat := 0
  /-- Outstanding indices and the agents they were dealt to. -/
  out : List (Nat × Nat) := []
  /-- Indices to be dealt again in replay (R323, R324). -/
  redeal : List Nat := []
  /-- Room last reported: agent, grotto, room (R321). -/
  rooms : List (Nat × Nat × Nat) := []
  cursor : Nat := 0
  deputy : Option Nat := none
  /-- Dies whose first room report is awaited, and whether some grotto of a die that has reported holds the shape when
  empty (R319). -/
  reports : List Nat := []
  fits : Bool := false
  /-- Leader queries still to be answered (R324), and the indices that survivors hold. -/
  queries : List Nat := []
  survived : List Nat := []
  /-- The lost leader and its number of the launch, which late exit reports still name (R324). -/
  was : Option (Nat × Nat) := none
  /-- Indices that the failure of a die took in cycle `lostAt`: an exit reported in that cycle still counts (R323). -/
  lost : List Nat := []
  lostAt : Nat := 0
  deriving DecidableEq, Repr

/-- A deal received and not yet placed (16 R322). -/
structure Deal where
  ctx : Nat
  leader : Nat
  launch : Nat
  index : Nat
  grotto : Nat
  replay : Bool
  record : Nat
  /-- The named grotto and those after it had no room. -/
  waited : Bool := false
  deriving DecidableEq, Repr

/-- A launch of another die that this die reports its room to (16 R321), with the rooms last reported. -/
structure Part where
  leader : Nat
  launch : Nat
  ctx : Nat
  record : Nat
  last : List Nat
  deriving DecidableEq, Repr

/-! ### Barriers (17) -/

/-- States of a barrier other than FREE (17 R330). -/
inductive BState where
  | armed | collecting | released | broken
  deriving DecidableEq, Repr

/-- Number of a state (17 R338). -/
def BState.num : BState → Nat
  | .armed => 1 | .collecting => 2 | .released => 3 | .broken => 4

/-- Who waits at a barrier: a deposit of this die, or a request that a packet brought from another. -/
inductive BWho where
  | own (dep : Nat)
  | agent (a tag : Nat)
  deriving DecidableEq, Repr

/-- A waiter of a barrier: who, and the episode whose release it awaits. -/
structure BWaiter where
  who : BWho
  h : Word
  episode : Nat
  deriving DecidableEq, Repr

/-- A barrier: an entry of a core's barrier file or a die barrier (17 R327 to R333). -/
structure Barrier where
  ctx : Nat
  state : BState := .armed
  /-- Target count T, the die mask and the record that BARI asked for. -/
  t : Nat
  mask : Nat := 0
  cfgEcho : Option Nat := none
  /-- Echo record bound now: another barrier may have taken it over (R335). -/
  echo : Option Nat := none
  /-- Episode collecting next, and the count of its arrivals. -/
  e : Nat := 1
  k : Nat := 0
  /-- Members that have arrived in the episode and their latest time. -/
  arrivals : List (Nat × Nat) := []
  /-- An arrival of the episode was a BARX (R341). -/
  barx : Bool := false
  waiters : List BWaiter := []
  lastRelease : Nat := 0
  reason : Nat := 0
  /-- Group of a named barrier. -/
  group : Nat := 0
  deriving DecidableEq, Repr

/-- A member's columns of an echo record (17 R342). -/
structure EMember where
  /-- LAG by episode slot; 0xFFFF where there is none. -/
  lags : KMap Nat := []
  min' : Nat := 0xFFFF
  max' : Nat := 0
  hist : KMap Nat := []
  lastn : Nat := 0
  strag : Bool := false
  deriving DecidableEq, Repr

/-- An episode slot in use of an echo record (17 R342). -/
structure EEpisode where
  beyond : Bool
  lastm : Nat
  episode : Nat
  rtime : Nat
  deriving DecidableEq, Repr

/-- An echo record (17 R342). -/
structure EchoRec where
  bound : Bool := false
  die : Bool := false
  ctx : Nat := 0
  core : Nat := 0
  entry : Nat := 0
  episodes : Nat := 0
  members : KMap EMember := []
  epis : KMap EEpisode := []
  deriving DecidableEq, Repr

/-! ### Contexts (18) -/

/-- Context states (18 R350). -/
inductive CState where
  | free | built | admitted | resident | draining | saved | faulted | retired
  deriving DecidableEq, Repr

/-- Number of a context state (18 R352). -/
def CState.num : CState → Nat
  | .free => 0 | .built => 1 | .admitted => 2 | .resident => 3 | .draining => 4 | .saved => 5 | .faulted => 6
  | .retired => 7

/-- A context on the die: the kept record and the status register (18 R348, R352). -/
structure Context where
  state : CState := .free
  root : Word := 0
  hkid : Nat := 0
  skids : List Nat := []
  /-- Home agents of the name ranges (10 R196). -/
  nsmap : List (Option Nat) := []
  dies : List (Option Nat) := []
  rep : Nat := 0
  ihbase : Word := 0
  ihsize : Nat := 0
  spkid : Nat := 0
  spoff : Nat := 0
  phbase : Word := 0
  phsize : Nat := 0
  savebase : Word := 0
  /-- TRAPTAB: V and code offset per cause. -/
  traptab : List (Bool × Nat) := []
  fdata : Nat := 0
  vec : Nat := 0
  fcause : Nat := 0
  bad : Bool := false
  busy : Bool := false
  /-- Deposit of a pending SAVES or RESTS and how many images or slots it counts. -/
  cmdRid : Option Nat := none
  cmdCount : Nat := 0
  /-- Restore in progress. -/
  restoring : Bool := false
  /-- Cycles in which it last became FAULTED, and in which a command last acted (18 R350). -/
  faultAt : Option Nat := none
  cmdAt : Option Nat := none
  deriving DecidableEq, Repr

/-- A request that waits at its core's port: the core, its cost, and the cycle of its issue (18 R366). -/
structure PortWait where
  core : Nat
  cost : Nat
  since : Nat
  deriving DecidableEq, Repr

/-! ### The link (19) -/

/-- States of a UCIe module's link (19 R373). -/
inductive LinkState where
  | down | training | discovery | up | degraded | fenced | sleep | waking
  deriving DecidableEq, Repr

/-- One UCIe module (19 R372 to R378). -/
structure Link where
  en : Bool := true
  rateCfg : Nat := 2
  /-- Idle time before SLEEP in µs, as written and as the last entry into TRAINING took it. -/
  idle : Nat := 0
  idleOn : Nat := 0
  /-- RATE as the last entry into TRAINING took it, and the beats of each VC that the peer granted at it. -/
  rateOn : Nat := 2
  granted : Nat := 0
  state : LinkState := .down
  rate : Nat := 0
  width : Nat := 0
  peer : Nat := 0
  /-- UID of the peer, once a training has recorded it. -/
  peerUid : Option Word := none
  replays : Nat := 0
  /-- Trainings failed in a row. -/
  failures : Nat := 0
  sendSeq : Nat := 0
  recvSeq : Nat := 0
  /-- Packets that wait to be sent. -/
  queue : List Packet := []
  /-- Flits not yet acknowledged, oldest first: sequence number, and the packet that ends in it; and how often the oldest
  was replayed. -/
  unacked : List (Nat × Option Packet) := []
  sameReplays : Nat := 0
  /-- Beats that may be sent on VC0 to VC3. -/
  credits : List Int := [0, 0, 0, 0]
  /-- Time base of the last packet, and of the last TIME request sent. -/
  lastUse : Nat := 0
  timeSent : Nat := 0
  deriving DecidableEq, Repr

/-! ### Zones (20), pairs, regions and health (21) -/

/-- Zone states (20 R397). -/
inductive ZState where
  | priming | flowing | throttled | evacuating | drained | failed
  deriving DecidableEq, Repr

/-- Number of a zone state (20 R401). -/
def ZState.num : ZState → Nat
  | .priming => 0 | .flowing => 1 | .throttled => 2 | .evacuating => 3 | .drained => 4 | .failed => 5

/-- A coolant zone (20 R397 to R403). -/
structure Zone where
  state : ZState := .priming
  act : Nat := 0
  openN : Nat := 0x80
  /-- Time base at which the opening asked for last changed. -/
  openAt : Nat := 0
  cmask : Nat := 0xFFFF
  maxF : Nat := 150
  minF : Nat := 30
  /-- Readings as last refreshed (R401). -/
  tj : List Nat := [0, 0, 0, 0]
  tin : Nat := 0
  tout : Nat := 0
  void : Bool := false
  flow : Nat := 0
  dp : Nat := 0
  /-- Time base from which the condition to leave PRIMING or THROTTLED has held. -/
  goodSince : Option Nat := none
  /-- Time base from which FLOW has been below MINF, and below MINF / 4 (R402). -/
  lowSince : Option Nat := none
  drySince : Option Nat := none
  /-- Entry into EVACUATING, end of the gate (t4), pulses made, start of the last one (R403). -/
  evacAt : Nat := 0
  gateAt : Option Nat := none
  gated : Bool := false
  pulses : Nat := 0
  pulseAt : Nat := 0
  /-- Closed by a neighbour's pulse until this time base. -/
  shutUntil : Option Nat := none
  /-- Conditions of R402 that held at the last refresh: THERM_HI, FLOW_LO, VOID. -/
  seen : List Bool := [false, false, false]
  deriving DecidableEq, Repr

/-- One armed valve schedule (20 R399). -/
structure Sched where
  time : Word := 0
  actn : Word := 0
  deriving DecidableEq, Repr

/-- A fence region (21 R411). -/
structure Region where
  en : Bool := false
  fences : Nat := 0
  state : Nat := 0
  y1 : Nat := 0
  x1 : Nat := 0
  y0 : Nat := 0
  x0 : Nat := 0
  deriving DecidableEq, Repr

/-- A monitor (21 R417). -/
structure Monitor where
  sel : Word := 0
  bin : Word := 0
  min' : Word := 0xFFFFFFFFFFFFFFFF
  max' : Word := 0
  cnt : Word := 0
  hist : List Nat := []
  deriving DecidableEq, Repr

end Sys2Proof.Machine
end

