-- ==== Sys2Proof/Machine/Float.lean ====
section
/-!
DEFINITION. Number formats and exact arithmetic with one rounding (02 R23 to R35, R38).
-/

namespace Sys2Proof.Machine

/-- Bits of k.flags (R36). -/
def fNV : BitVec 6 := 0x01
def fDZ : BitVec 6 := 0x02
def fOF : BitVec 6 := 0x04
def fUF : BitVec 6 := 0x08
def fNX : BitVec 6 := 0x10
def fSAT : BitVec 6 := 0x20

/-- The element types by their codes (R24, R27, R29). -/
inductive Ty where
  | i32 | n32 | i16 | n16 | i8 | n8 | i4 | n4 | f32 | bf16 | f16 | e4m3 | e5m2 | f4 | e3m5 | i64
  deriving DecidableEq, Repr

/-- Type of a code. -/
def Ty.ofCode (n : Nat) : Ty :=
  match n with
  | 0 => .i32 | 1 => .n32 | 2 => .i16 | 3 => .n16 | 4 => .i8 | 5 => .n8 | 6 => .i4 | 7 => .n4
  | 8 => .f32 | 9 => .bf16 | 10 => .f16 | 11 => .e4m3 | 12 => .e5m2 | 13 => .f4 | 14 => .e3m5 | _ => .i64

/-- Width in bits. -/
def Ty.width : Ty → Nat
  | .i32 | .n32 | .f32 => 32
  | .i16 | .n16 | .bf16 | .f16 => 16
  | .i8 | .n8 | .e4m3 | .e5m2 | .e3m5 => 8
  | .i4 | .n4 | .f4 => 4
  | .i64 => 64

/-- Class I of R119. -/
def Ty.isInt : Ty → Bool
  | .i32 | .n32 | .i16 | .n16 | .i8 | .n8 | .i4 | .n4 | .i64 => true
  | _ => false

/-- Signed integer types. -/
def Ty.signed : Ty → Bool
  | .i32 | .i16 | .i8 | .i4 | .i64 => true
  | _ => false

/-- Class F of R119. -/
def Ty.isF : Ty → Bool
  | .f32 | .bf16 | .f16 => true
  | _ => false

/-- Class F8 of R119. -/
def Ty.isF8 : Ty → Bool
  | .e4m3 | .e5m2 => true
  | _ => false

/-- Rounding modes (R31). -/
inductive RMode where
  | rne | rtz | rdn | rup
  deriving DecidableEq, Repr

/-- Mode of field [5:4]. -/
def RMode.ofCode (n : Nat) : RMode :=
  match n with
  | 0 => .rne | 1 => .rtz | 2 => .rdn | _ => .rup

/-- A floating value: NaN, an infinity, or (-1)^neg x m x 2^e exactly. -/
inductive FVal where
  | nan
  | inf (neg : Bool)
  | fin (neg : Bool) (m : Nat) (e : Int)
  deriving DecidableEq, Repr

/-- What sets a format apart (R27, R29): exponent and mantissa widths, bias, whether it has a sign, infinities, NaN
codes, and the largest finite magnitude code. -/
structure Fmt where
  eb : Nat
  mb : Nat
  bias : Nat
  signed : Bool
  hasInf : Bool
  hasNan : Bool
  maxCode : Nat
  nanCode : Nat
  deriving DecidableEq, Repr

/-- The format of a floating type; integer types are given f32's. -/
def Ty.fmt : Ty → Fmt
  | .bf16 => { eb := 8, mb := 7, bias := 127, signed := true, hasInf := true, hasNan := true, maxCode := 0x7F7F, nanCode := 0x7FC0 }
  | .f16 => { eb := 5, mb := 10, bias := 15, signed := true, hasInf := true, hasNan := true, maxCode := 0x7BFF, nanCode := 0x7E00 }
  | .e4m3 => { eb := 4, mb := 3, bias := 7, signed := true, hasInf := false, hasNan := true, maxCode := 0x7E, nanCode := 0x7F }
  | .e5m2 => { eb := 5, mb := 2, bias := 15, signed := true, hasInf := true, hasNan := true, maxCode := 0x7B, nanCode := 0x7E }
  | .f4 => { eb := 2, mb := 1, bias := 1, signed := true, hasInf := false, hasNan := false, maxCode := 0x7, nanCode := 0 }
  | .e3m5 => { eb := 3, mb := 5, bias := 3, signed := false, hasInf := false, hasNan := false, maxCode := 0xFF, nanCode := 0 }
  | _ => { eb := 8, mb := 23, bias := 127, signed := true, hasInf := true, hasNan := true, maxCode := 0x7F7FFFFF, nanCode := 0x7FC00000 }

/-- Width of a format without its sign. -/
def Fmt.magBits (f : Fmt) : Nat := f.eb + f.mb

/-- Value of a magnitude code that is not special. -/
def Fmt.magVal (f : Fmt) (neg : Bool) (c : Nat) : FVal :=
  let e := c >>> f.mb
  let m := c % 2 ^ f.mb
  if e = 0 then .fin neg m (1 - f.bias - f.mb) else .fin neg (2 ^ f.mb + m) (e - f.bias - f.mb)

/-- The value of a code (R27 to R29). -/
def fdec (t : Ty) (c : Nat) : FVal :=
  let f := t.fmt
  let neg := f.signed && (c >>> f.magBits) % 2 == 1
  let mag := c % 2 ^ f.magBits
  if f.hasInf && mag >>> f.mb == 2 ^ f.eb - 1 then
    if mag % 2 ^ f.mb = 0 then .inf neg else .nan
  else if f.hasNan && !f.hasInf && mag == 2 ^ f.magBits - 1 then .nan
  else f.magVal neg mag

/-- Code of a sign and a magnitude code. -/
def Fmt.withSign (f : Fmt) (neg : Bool) (mag : Nat) : Nat :=
  if neg && f.signed then 2 ^ f.magBits + mag else mag

/-- The canonical NaN (R30); +0 in formats without one. -/
def Ty.nan (t : Ty) : Nat := t.fmt.nanCode

/-- A quotient rounded to an integer by a mode, with the sign it is taken under, and whether it was inexact. -/
def roundDiv (rm : RMode) (neg : Bool) (num den : Nat) : Nat × Bool :=
  let q := num / den
  let r := num % den
  let up :=
    match rm with
    | .rne => decide (2 * r > den) || (decide (2 * r = den) && q % 2 == 1)
    | .rtz => false
    | .rdn => neg && decide (r ≠ 0)
    | .rup => !neg && decide (r ≠ 0)
  (if up then q + 1 else q, decide (r ≠ 0))

/-- `num / den` times two to the `k`, as a fraction. -/
def scaleFrac (num den : Nat) (k : Int) : Nat × Nat :=
  if k ≥ 0 then (num * 2 ^ k.toNat, den) else (num, den * 2 ^ (-k).toNat)

/-- floor(log2(num / den)) for positive num and den. -/
def log2Frac (num den : Nat) : Int :=
  let d : Int := (num.log2 : Int) - (den.log2 : Int)
  let (n', d') := scaleFrac num den (-d)
  if n' ≥ d' then d else d - 1

/-- Result of an overflow (R32). -/
def overflowCode (f : Fmt) (rm : RMode) (neg : Bool) : Nat :=
  let inf := (2 ^ f.eb - 1) <<< f.mb
  let toInf := f.hasInf && (match rm with
    | .rne => true
    | .rtz => false
    | .rup => !neg
    | .rdn => neg)
  f.withSign neg (if toInf then inf else f.maxCode)

/-- round(x, type, mode) of R31 to R34 for x = (-1)^neg x (num / den) x 2^e, with the flags it raises. -/
def roundFrac (t : Ty) (rm : RMode) (neg : Bool) (num den : Nat) (e : Int) : Nat × BitVec 6 :=
  let f := t.fmt
  if num = 0 then (f.withSign neg 0, 0)
  else if neg && !f.signed then (0, fNV)
  else
    let E := log2Frac num den + e
    let emin : Int := 1 - f.bias
    -- rounding with the exponent range taken as unbounded
    let q := E - f.mb
    let (un, ud) := scaleFrac num den (e - q)
    let (r, inx) := roundDiv rm neg un ud
    let (r, E) := if r = 2 ^ (f.mb + 1) then (2 ^ f.mb, E + 1) else (r, E)
    if E < emin then
      -- tiny (R34)
      let (sn, sd) := scaleFrac num den (e - (emin - f.mb))
      let (c, inx') := roundDiv rm neg sn sd
      (f.withSign neg c, if inx' then fUF ||| fNX else 0)
    else
      let code : Int := (E + f.bias) * 2 ^ f.mb + (r - 2 ^ f.mb)
      if code > f.maxCode then (overflowCode f rm neg, fOF ||| fNX)
      else (f.withSign neg code.toNat, if inx then fNX else 0)

/-- round(x, type, mode) of an exact value; `nv` says that a NaN arose from operands that were not NaN (R30). -/
def roundVal (t : Ty) (rm : RMode) (x : FVal) (nv : Bool := false) : Nat × BitVec 6 :=
  let f := t.fmt
  let inv : BitVec 6 := if nv then fNV else 0
  match x with
  | .nan => if f.hasNan then (f.nanCode, inv) else (0, fNV)
  | .inf neg =>
    if f.hasInf then (f.withSign neg ((2 ^ f.eb - 1) <<< f.mb), inv)
    else if neg && !f.signed then (0, fNV)
    else (f.withSign neg f.maxCode, fOF ||| fNX)
  | .fin neg m e => roundFrac t rm neg m 1 e

/-- A floating value of an integer. -/
def FVal.ofInt (z : Int) : FVal := .fin (decide (z < 0)) z.natAbs 0

/-- Sign of an exact zero that arises from opposite signs (R126 item 2). -/
def zeroSign (rm : RMode) : Bool := rm == .rdn

/-- Exact sum.  The second component says that an invalid operation gave a NaN (R30). -/
def FVal.add (rm : RMode) (x y : FVal) : FVal × Bool :=
  match x, y with
  | .nan, _ => (.nan, false)
  | _, .nan => (.nan, false)
  | .inf a, .inf b => if a = b then (.inf a, false) else (.nan, true)
  | .inf a, _ => (.inf a, false)
  | _, .inf b => (.inf b, false)
  | .fin s m e, .fin s' m' e' =>
    if m = 0 ∧ m' = 0 then (.fin (if s = s' then s else zeroSign rm) 0 0, false)
    else if m = 0 then (.fin s' m' e', false)
    else if m' = 0 then (.fin s m e, false)
    else
      let e0 := min e e'
      let a : Int := (m * 2 ^ (e - e0).toNat : Nat)
      let b : Int := (m' * 2 ^ (e' - e0).toNat : Nat)
      let z : Int := (if s then -a else a) + (if s' then -b else b)
      if z = 0 then (.fin (zeroSign rm) 0 0, false)
      else (.fin (decide (z < 0)) z.natAbs e0, false)

/-- Sign change. -/
def FVal.neg : FVal → FVal
  | .nan => .nan
  | .inf s => .inf (!s)
  | .fin s m e => .fin (!s) m e

/-- Magnitude. -/
def FVal.abs : FVal → FVal
  | .nan => .nan
  | .inf _ => .inf false
  | .fin _ m e => .fin false m e

/-- Exact product. -/
def FVal.mul (x y : FVal) : FVal × Bool :=
  match x, y with
  | .nan, _ => (.nan, false)
  | _, .nan => (.nan, false)
  | .inf a, .inf b => (.inf (a != b), false)
  | .inf a, .fin s m _ => if m = 0 then (.nan, true) else (.inf (a != s), false)
  | .fin s m _, .inf a => if m = 0 then (.nan, true) else (.inf (a != s), false)
  | .fin s m e, .fin s' m' e' => (.fin (s != s') (m * m') (e + e'), false)

/-- Order of two values: -1, 0 or 1, or nothing when unordered (R35 items 3 and 4). -/
def FVal.cmp (x y : FVal) : Option Int :=
  match x, y with
  | .nan, _ => none
  | _, .nan => none
  | .inf a, .inf b => some (if a = b then 0 else if a then -1 else 1)
  | .inf a, _ => some (if a then -1 else 1)
  | _, .inf b => some (if b then 1 else -1)
  | .fin s m e, .fin s' m' e' =>
    let e0 := min e e'
    let a : Int := (m * 2 ^ (e - e0).toNat : Nat)
    let b : Int := (m' * 2 ^ (e' - e0).toNat : Nat)
    let a := if s then -a else a
    let b := if s' then -b else b
    some (if a < b then -1 else if a = b then 0 else 1)

/-- Minimum or maximum of two codes (R35 items 1 and 2), as a code. -/
def fminmax (t : Ty) (big : Bool) (x y : Nat) : Nat :=
  let vx := fdec t x
  let vy := fdec t y
  match vx.cmp vy with
  | none =>
    if vx = .nan then (if vy = .nan then t.nan else y) else x
  | some c =>
    -- equal values differ only in the sign of a zero: -0 is below +0
    let c := if c = 0 then (if x = y then 0 else if (x >>> t.fmt.magBits) % 2 = 1 then -1 else 1) else c
    if (c ≤ 0) != big then x else y

/-- Integer square root: largest r with r * r ≤ n, built from bit `k - 1` down. -/
def isqrtBits : Nat → Nat → Nat → Nat
  | 0, _, r => r
  | k + 1, n, r => isqrtBits k n (if (r + 2 ^ k) * (r + 2 ^ k) ≤ n then r + 2 ^ k else r)

/-- Integer square root. -/
def isqrt (n : Nat) : Nat := isqrtBits (n.log2 / 2 + 1) n 0

/-- Square root of m x 2^e: twice a root cut to at least 64 bits, plus a sticky bit, and its exponent. -/
def sqrtSticky (m : Nat) (e : Int) : Nat × Int :=
  let (m, e) := if e % 2 = 0 then (m, e) else (m * 2, e - 1)
  let k : Nat := 130
  let n := m * 2 ^ (2 * k)
  let r := isqrt n
  (2 * r + (if r * r = n then 0 else 1), e / 2 - k - 1)

/-- Division (R155): result code and flags. -/
def fdiv (t : Ty) (rm : RMode) (x y : FVal) : Nat × BitVec 6 :=
  match x, y with
  | .nan, _ => roundVal t rm .nan
  | _, .nan => roundVal t rm .nan
  | .inf _, .inf _ => roundVal t rm .nan true
  | .inf a, .fin s _ _ => roundVal t rm (.inf (a != s))
  | .fin s _ _, .inf b => roundVal t rm (.fin (s != b) 0 0)
  | .fin s m e, .fin s' m' e' =>
    if m' = 0 then
      if m = 0 then roundVal t rm .nan true
      else let r := roundVal t rm (.inf (s != s')); (r.1, r.2 ||| fDZ)
    else roundFrac t rm (s != s') m m' (e - e')

/-- Square root (R155). -/
def fsqrt (t : Ty) (rm : RMode) (x : FVal) : Nat × BitVec 6 :=
  match x with
  | .nan => roundVal t rm .nan
  | .inf false => roundVal t rm (.inf false)
  | .inf true => roundVal t rm .nan true
  | .fin s m e =>
    if m = 0 then roundVal t rm (.fin s 0 0)
    else if s then roundVal t rm .nan true
    else let (r, k) := sqrtSticky m e; roundFrac t rm false r 1 k

/-- A value rounded to an integer by a mode and clamped to a type (R33 items 2 and 4). -/
def fToInt (d : Ty) (rm : RMode) (x : FVal) : Nat × BitVec 6 :=
  let w := d.width
  let lo : Int := if d.signed then -(2 ^ (w - 1) : Nat) else 0
  let hi : Int := if d.signed then (2 ^ (w - 1) : Nat) - 1 else (2 ^ w : Nat) - 1
  match x with
  | .nan => (0, fNV)
  | .inf neg => (wrapNat (if neg then lo else hi) w, fNV)
  | .fin neg m e =>
    let (n, dd) := scaleFrac m 1 e
    let (q, inx) := roundDiv rm neg n dd
    let z : Int := if neg then -(q : Int) else q
    if z < lo then (wrapNat lo w, fNV)
    else if z > hi then (wrapNat hi w, fNV)
    else (wrapNat z w, if inx then fNX else 0)

/-- sat(x, type) of R78: the clamped value as a code, and SAT. -/
def satInt (d : Ty) (z : Int) : Nat × BitVec 6 :=
  let w := d.width
  let lo : Int := if d.signed then -(2 ^ (w - 1) : Nat) else 0
  let hi : Int := if d.signed then (2 ^ (w - 1) : Nat) - 1 else (2 ^ w : Nat) - 1
  if z < lo then (wrapNat lo w, fSAT)
  else if z > hi then (wrapNat hi w, fSAT)
  else (wrapNat z w, 0)

/-- An element read as an integer of its type. -/
def intOf (t : Ty) (c : Nat) : Int := if t.signed then sextNat c t.width else (c % 2 ^ t.width : Nat)

/-- convert(x, TY, DT, RM) of R145. -/
def convertElem (s d : Ty) (rm : RMode) (c : Nat) : Nat × BitVec 6 :=
  if s = d then
    if s.isInt then (c, 0)
    else (if fdec s c = .nan then s.nan else c, 0)
  else if s.isInt then
    if d.isInt then satInt d (intOf s c) else roundVal d rm (FVal.ofInt (intOf s c))
  else
    if d.isInt then fToInt d rm (fdec s c) else roundVal d rm (fdec s c)

end Sys2Proof.Machine
end

