-- ==== Sys2Proof/Machine/Operands.lean ====
section
/-!
DEFINITION. Register operands of a slot: the four views, reading and writing, full and empty granules, and the checks
that come before an instruction's effect (03 R61 to R68; 04 R84 to R94; 18 R355 items 1 to 4 of its second list).
-/

namespace Sys2Proof.Machine

/-- What keeps an instruction from taking effect. -/
inductive Stop where
  /-- The instruction traps. -/
  | trap (c : Cause) (tval : Word)
  /-- The slot parks (04 R89). -/
  | park (a : Awaited)
  /-- The slot is held at the instruction, which issues again. -/
  | hold (w : StallWhy)
  deriving DecidableEq, Repr

/-- The views of the register space (03 R65). -/
inductive View where
  | scalar | vector | tile | acc
  deriving DecidableEq, Repr

/-- Size of a view's registers in bytes. -/
def View.size : View → Nat
  | .scalar => 8
  | .vector => 512
  | .tile => 4096
  | .acc => 2048

/-- Base of a view. -/
def Slot.viewBase (s : Slot) : View → Word
  | .scalar => s.vws
  | .vector => s.vwv
  | .tile => s.vwt
  | .acc => s.vwa

/-- A register of an instruction: its operand value, its place, its size in bytes. -/
structure Reg where
  val : Nat
  loc : Loc
  size : Nat
  deriving DecidableEq, Repr

/-- The register that operand value `v` selects in a view (03 R64, R65); offsets are modulo 2^64. -/
def Slot.reg (s : Slot) (w : View) (v : Nat) : Reg :=
  if v = 0 then ⟨0, .lat, w.size⟩
  else if v < 8 then ⟨v, .o v, w.size⟩
  else ⟨v, .main ((s.viewBase w).toNat + (v - 8) * w.size), w.size⟩

/-- The group of `k` registers from `v` on (07 R143 item 2). -/
def Slot.regs (s : Slot) (w : View) (v k : Nat) : List Reg :=
  (List.range k).map (fun j => s.reg w (v + j))

/-- The trap SPACE of a register that lies partly outside the space (03 R65). -/
def Slot.checkSpace (s : Slot) (r : Reg) : Except Stop Unit :=
  match r.loc with
  | .main off => if off + r.size ≤ s.space then .ok () else .error (.trap .space (BitVec.ofNat 64 off))
  | _ => .ok ()

/-- Bits [8 off + 8 len - 1 : 8 off] of a container. -/
def readAt {w : Nat} (f : BitVec w) (off len : Nat) : Nat := (f.toNat >>> (8 * off)) % 2 ^ (8 * len)

/-- A container with `len` bytes at `off` replaced. -/
def writeAt {w : Nat} (f : BitVec w) (off len v : Nat) : BitVec w :=
  f ^^^ BitVec.ofNat w ((readAt f off len ^^^ (v % 2 ^ (8 * len))) <<< (8 * off))

/-- Contents of a register place. -/
def Slot.readLoc (s : Slot) (l : Loc) (len : Nat) : Nat :=
  match l with
  | .lat => readAt s.lat 0 len
  | .o k => readAt s.ofile (512 * k) len
  | .main off => readAt s.file off len

/-- Contents of a register: a scalar of lat or ok is its bytes [7:0] (03 R66). -/
def Slot.readReg (s : Slot) (r : Reg) : Nat := s.readLoc r.loc r.size

/-- Number of all ones over `n` bits. -/
def ones (n : Nat) : Nat := 2 ^ n - 1

/-- A write as the place takes it: a scalar written to lat or ok fills the whole container, with zeros above it (03 R66);
a write that has been cancelled writes nothing. -/
def RegWrite.whole (w : RegWrite) : RegWrite :=
  match w.dst with
  | .main _ => w
  | l => if w.bits = 64 then { dst := l, bits := 4096, value := w.value, mask := if w.mask = 0 then 0 else ones 4096 } else w

/-- A masked write into a register place. -/
def Slot.writeLoc (s : Slot) (w : RegWrite) : Slot :=
  let w := w.whole
  let len := w.bits / 8
  let merge := fun (old : Nat) => (old &&& (old ^^^ w.mask)) ||| (w.value &&& w.mask)
  match w.dst with
  | .lat => { s with lat := writeAt s.lat 0 len (merge (readAt s.lat 0 len)) }
  | .o k => { s with ofile := writeAt s.ofile (512 * k) len (merge (readAt s.ofile (512 * k) len)) }
  | .main off => { s with file := writeAt s.file off len (merge (readAt s.file off len)) }

/-- Granules of a main-file place (04 R87). -/
def granules (off len : Nat) : List Nat :=
  if len = 0 then [] else (List.range ((off + len - 1) / 8 + 1 - off / 8)).map (fun j => off / 8 + j)

/-- Bits of the granules of a place, as a mask over the empty bits. -/
def granuleMask (off len : Nat) : Nat :=
  if len = 0 then 0 else ones ((off + len - 1) / 8 + 1 - off / 8) <<< (off / 8)

/-- First empty granule of a place in given empty bits. -/
def firstEmpty (empty : BitVec 8192) (off len : Nat) : Option Nat :=
  if empty.toNat &&& granuleMask off len = 0 then none
  else (granules off len).find? (fun g => empty.toNat.testBit g)

/-- What a slot would park on to read a register, if it is not full (04 R87, R89). -/
def Slot.awaits (s : Slot) (r : Reg) : Option Awaited :=
  match r.loc with
  | .lat => none
  | .o k => if s.oEmpty.toNat.testBit k then some (.oreg k) else none
  | .main off => (firstEmpty s.empty off r.size).map .granule

/-- k.tval of PENDING_OVERWRITE when a register has an empty granule (04 R90). -/
def Slot.pendingAt (s : Slot) (r : Reg) : Option Word :=
  match s.awaits r with
  | some (.granule g) => some (BitVec.ofNat 64 (8 * g))
  | some (.oreg k) => some (BitVec.ofNat 64 k)
  | _ => none

/-- Two register places share a byte. -/
def overlaps (l : Loc) (n : Nat) (l' : Loc) (n' : Nat) : Bool :=
  match l, l' with
  | .lat, .lat => true
  | .o k, .o k' => k == k'
  | .main a, .main b => decide (a < b + n') && decide (b < a + n)
  | _, _ => false

/-- The registers an instruction names. -/
structure Uses where
  /-- d, a, b, then the further registers of groups: the order in which SPACE is reported (03 R65). -/
  all : List Reg := []
  /-- Registers read, among them lane masks and destinations that are also read. -/
  src : List Reg := []
  /-- Registers written, apart from lat as the copy of a result. -/
  dst : List Reg := []
  deriving DecidableEq, Repr

/-- The gang partner and its registers at the start of the cycle (04 R94). -/
structure Partner where
  sid : Nat
  view : GangView
  deriving DecidableEq, Repr

/-- A result for the register is among those not yet written (04 R93). -/
def unwrittenIn (ps : List Pending) (r : Reg) : Bool :=
  ps.any (fun p => p.writes.any (fun w => w.mask != 0 && overlaps w.dst (w.bits / 8) r.loc r.size))

/-- The checks of an instruction's registers: SPACE, parking, STALL_SHORT, PENDING_OVERWRITE (18 R355).  `gang` is
the register read from the partner. -/
def Slot.checkUses (s : Slot) (u : Uses) (gang : Option (Partner × Reg) := none) : Except Stop Unit := do
  for r in u.all do s.checkSpace r
  match u.src.findSome? (fun r => s.awaits r) with
  | some a => .error (.park a)
  | none => .ok ()
  match gang with
  | some (p, ⟨_, .main off, n⟩) =>
    match firstEmpty p.view.empty off n with
    | some g => .error (.park (.partner p.sid g))
    | none => .ok ()
  | _ => .ok ()
  if s.chk then
    match u.src.find? (fun r => unwrittenIn s.results r) with
    | some r => .error (.trap .stallShort (BitVec.ofNat 64 r.val))
    | none => .ok ()
    match gang with
    | some (p, r) =>
      if unwrittenIn p.view.results r then .error (.trap .stallShort (BitVec.ofNat 64 r.val)) else .ok ()
    | none => .ok ()
  match u.dst.findSome? (fun r => s.pendingAt r) with
  | some v => .error (.trap .pendingOverwrite v)
  | none => .ok ()

/-- Bits of the write `w` that lie in `bits` bits at place `l`. -/
def placeMask (w : RegWrite) (l : Loc) (bits : Nat) : Nat :=
  match w.dst, l with
  | .lat, .lat => ones 4096
  | .o k, .o k' => if k = k' then ones 4096 else 0
  | .main a, .main b => if b ≥ a then ones bits <<< (8 * (b - a)) else ones bits >>> (8 * (a - b))
  | _, _ => 0

/-- Results not yet written, once `bits` bits at place `l` have another value: a later instruction's (03 R61), or a deposit
that is to come (04 R91).  What they would have written there is cancelled, byte for byte where the registers overlap in part
only (log 65). -/
def dropPending (l : Loc) (bits : Nat) (ps : List Pending) : List Pending :=
  ps.map (fun p => { p with writes := p.writes.map (fun w => { w with mask := w.mask &&& (w.mask ^^^ placeMask w l bits) }) })

/-- Number from which uncorrectable register bytes of a place are counted. -/
def ueBase (l : Loc) : Nat :=
  match l with
  | .lat => 0x10000
  | .o k => 0x10000 + 512 * k
  | .main off => off

/-- A register place as WHERE of k.uexy names it (02 R48). -/
def Loc.where' : Loc → Nat
  | .main off => off
  | .o k => k
  | .lat => 0

/-- Uncorrectable marks after a write: bytes that it has written whole are clean again. -/
def clearUe (w : RegWrite) (m : List Nat) : List Nat :=
  if m = [] then []
  else
    let w := w.whole
    m.filter (fun b => decide (b < ueBase w.dst) || (w.mask >>> (8 * (b - ueBase w.dst))) % 256 != 255)

/-- A write into a register place with the marks of its bytes. -/
def Slot.store (s : Slot) (w : RegWrite) : Slot := { s.writeLoc w with ueRegs := clearUe w s.ueRegs }

/-- A write of an instruction as it takes effect: the value, and the end of earlier results still due there. -/
def Slot.put (s : Slot) (w : RegWrite) : Slot := ({ s with results := dropPending w.dst w.bits s.results }).store w

/-- k.uefl and k.uexy after an event (02 R49). -/
def Slot.capture (s : Slot) (e : UeEvent) : Slot :=
  if s.uefl.toNat % 8 = 0 then
    { s with
      uefl := s.uefl ||| e.kind
      uexy := BitVec.ofNat 64 ((e.where' % 2 ^ 32) * 2 ^ 32 + (e.src % 16) * 2 ^ 24 + (e.row % 4096) * 2 ^ 12 + e.col % 4096) }
  else { s with uefl := s.uefl ||| e.kind ||| 8 }

/-- The events of one instruction: one is captured, and MORE is set when there were others (02 R49; log 64: several events of
one instruction count as events after the captured one). -/
def Slot.captureAll (s : Slot) (es : List UeEvent) : Slot :=
  match firstEvent es with
  | none => s
  | some e =>
    let kinds := es.foldl (fun k x => k ||| x.kind) 0
    let s' := s.capture { e with kind := kinds }
    if es.length > 1 then { s' with uefl := s'.uefl ||| 8 } else s'

/-- The contents `v` of a register with its elements of `w` bits that hold a marked byte replaced by +0, and the events
(02 R45). -/
def zeroUe (marks : List Nat) (r : Reg) (w v : Nat) : Nat × List UeEvent :=
  if marks = [] then (v, [])
  else
    let base := ueBase r.loc
    let hit := fun i => marks.any (fun b => decide (base + i * w / 8 ≤ b) && decide (b ≤ base + ((i + 1) * w - 1) / 8))
    let bad := (List.range (r.size * 8 / w)).filter hit
    (bad.foldl (fun x i => setBits ((i + 1) * w - 1) (i * w) x 0) v,
     bad.map (fun i => { where' := r.loc.where', src := 1, row := 0, col := i, kind := 1 }))

/-- A register read, its uncorrectable elements replaced. -/
def Slot.readUe (s : Slot) (r : Reg) (w : Nat) : Nat × List UeEvent := zeroUe s.ueRegs r w (s.readReg r)

/-! ### Lanes -/

/-- Element i of a container (02 R23). -/
def elem (x i w : Nat) : Nat := (x >>> (i * w)) % 2 ^ w

/-- A container built of `n` elements of `w` bits. -/
def ofLanes (n w : Nat) (f : Nat → Nat) : Nat :=
  (List.range n).foldl (fun z i => z ||| ((f i % 2 ^ w) <<< (i * w))) 0

/-- All ones in the lanes that meet a test. -/
def laneBits (n w : Nat) (p : Nat → Bool) : Nat :=
  (List.range n).foldl (fun z i => if p i then z ||| (ones w <<< (i * w)) else z) 0

/-- The register of a lane mask (03 R63). -/
def Slot.maskLoc (s : Slot) (c : Chain) : Reg := { (s.reg .vector c.lmask.toNat) with size := 512 }

/-- The lane mask register as an operand. -/
def Slot.maskReg (s : Slot) (c : Chain) : List Reg := if c.lmask = 0 then [] else [s.maskLoc c]

/-- A lane mask as a number: all ones without one (03 R63).  Bits that are uncorrectable read as 0 (02 R45; log 64). -/
def Slot.lmaskBits (s : Slot) (c : Chain) : Nat :=
  if c.lmask = 0 then ones 1024 else (s.readUe (s.maskLoc c) 1).1 % 2 ^ 1024

/-- Events of the lane mask's uncorrectable bits among the first `n`. -/
def Slot.lmaskUe (s : Slot) (c : Chain) (n : Nat) : List UeEvent :=
  if c.lmask = 0 then [] else (s.readUe (s.maskLoc c) 1).2.filter (fun e => decide (e.col < n))

end Sys2Proof.Machine
end

