-- ==== Sys2Proof/Machine/Flags.lean ====
section
/-!
DEFINITION. What an instruction does to its slot, and the sticky flags (02 R36, R37; 03 R61, R67; 04 R83, R91).
-/

namespace Sys2Proof.Machine

/-- The effect of an instruction on its slot. -/
structure Effect where
  /-- Register writes in the order they are made. -/
  writes : List RegWrite := []
  /-- Flags raised; set when the result is written (02 R37). -/
  flags : BitVec 6 := 0
  ue : List UeEvent := []
  /-- Latency in rotations (04 R83). -/
  latency : Nat := 1
  /-- The result comes from the SFU queue: its occupancy in cycles (07 R158). -/
  sfu : Option Nat := none
  /-- Control transfer to this address. -/
  jump : Option Word := none
  deriving DecidableEq, Repr

/-- A scalar result in d and lat (03 R66, R67). -/
def scalarResult (s : Slot) (d : Nat) (v : Nat) : List RegWrite :=
  let v := v % 2 ^ 64
  (if d = 0 then [] else [{ dst := (s.reg .scalar d).loc, bits := 64, value := v, mask := ones 64 }])
    ++ [{ dst := .lat, bits := 64, value := v, mask := ones 64 }]

/-- A vector result in d and lat: lanes outside `mask` keep d's previous value, in lat too (03 R63 item 1). -/
def vectorResult (s : Slot) (d : Nat) (v mask : Nat) : List RegWrite :=
  let r := s.reg .vector d
  let old := s.readReg r
  let merged := (old &&& (old ^^^ mask)) ||| (v &&& mask)
  (if d = 0 then [] else [{ dst := r.loc, bits := 4096, value := v, mask := mask }])
    ++ [{ dst := .lat, bits := 4096, value := merged, mask := ones 4096 }]

/-- Effect of writes on a slot in the order given, with the flags and events that come with them. -/
def Slot.applyWrites (s : Slot) (ws : List RegWrite) (flags : BitVec 6) (ue : List UeEvent) : Slot :=
  let s := ws.foldl Slot.put s
  ({ s with flags := s.flags ||| flags }).captureAll ue

/-- A pending result written as it falls due: what later-issued instructions have written or marked empty is no longer in
its masks (03 R61, 04 R83, R91; registers that meet in part: log 65). -/
def Slot.writeDue (s : Slot) (p : Pending) : Slot :=
  let s := p.writes.foldl Slot.store s
  ({ s with flags := s.flags ||| p.flags }).captureAll p.ue

/-- Results issued before a pending result that is written: where it writes they no longer do (03 R61). -/
def Pending.overrides (p : Pending) (ps : List Pending) : List Pending :=
  p.writes.foldl (fun ps w => if w.mask = 0 then ps else dropPending w.dst w.bits ps) ps

/-- Of the results still to be looked at, in issue order, those that meet a test are written; `kept` are earlier ones that
stay pending. -/
def Slot.writeResults (due : Pending → Bool) (s : Slot) (kept : List Pending) : List Pending → Slot
  | [] => { s with results := kept }
  | p :: ps =>
    if due p then Slot.writeResults due (s.writeDue p) (p.overrides kept) ps
    else Slot.writeResults due s (kept ++ [p]) ps

/-- The slot with the effect's registers and flags written (latency one rotation) or put among the results that are
due later. -/
def Slot.applyEffect (s : Slot) (cycle : Nat) (e : Effect) : Slot :=
  if e.latency ≤ 1 && e.sfu.isNone then s.applyWrites e.writes e.flags e.ue
  else
    { s with results := s.results ++ [{ due := cycle + 16 * e.latency - 1, sfu := e.sfu.isSome, writes := e.writes, flags := e.flags, ue := e.ue }] }

end Sys2Proof.Machine
end

