-- ==== Sys2Proof/Machine/ScalarOps.lean ====
section
/-!
DEFINITION. Values and checks of the scalar instructions of page 0 (05 R101 to R112).
-/

namespace Sys2Proof.Machine

/-- What a register-only instruction does: its chain, its gang partner, its slot. -/
abbrev RegBody := Option Partner → Chain → Slot → Except Stop Effect

/-- Three-form scalar instruction: d := f a b, with the flags f raises (05 R106). -/
def scalar3 (latency : Nat) (f : Nat → Nat → Nat × BitVec 6) : RegBody := fun _ c s => do
  let d := s.reg .scalar c.a.toNat
  let a := s.reg .scalar c.b.toNat
  let b := s.reg .scalar c.c.toNat
  s.checkUses { all := [d, a, b], src := [a, b], dst := [d] }
  let x := s.readUe a 64
  let y := s.readUe b 64
  let r := f x.1 y.1
  .ok { writes := scalarResult s c.a.toNat r.1, flags := r.2, ue := x.2 ++ y.2, latency := latency }

/-- Two-form scalar instruction: d := f a. -/
def scalar2 (f : Nat → Nat) : RegBody := fun _ c s => do
  let d := s.reg .scalar c.a.toNat
  let a := s.reg .scalar c.b.toNat
  s.checkUses { all := [d, a], src := [a], dst := [d] }
  let x := s.readUe a 64
  .ok { writes := scalarResult s c.a.toNat (f x.1), ue := x.2 }

/-- Imm-form scalar instruction with a source in C: d := f a imm. -/
def scalarImm (f : Nat → Int → Nat × BitVec 6) : RegBody := fun _ c s => do
  let d := s.reg .scalar c.a.toNat
  let a := s.reg .scalar c.c.toNat
  s.checkUses { all := [d, a], src := [a], dst := [d] }
  let x := s.readUe a 64
  let r := f x.1 c.imm
  .ok { writes := scalarResult s c.a.toNat r.1, flags := r.2, ue := x.2 }

/-- The integer of a 64-bit register read as signed. -/
def s64 (n : Nat) : Int := sextNat n 64

/-- SAT of ADD, ADDI, SUB and MUL (05 R107): the exact result on signed operands and on unsigned ones. -/
def saturate (mode : Nat) (zs zu : Int) : Nat × BitVec 6 :=
  match mode with
  | 1 => satInt .i64 zs
  | 2 =>
    if zu < 0 then (0, fSAT)
    else if zu > (2 ^ 64 : Nat) - 1 then (2 ^ 64 - 1, fSAT)
    else (zu.toNat, 0)
  | _ => (wrapNat zs 64, 0)

/-- MOD[1:0]. -/
def satMode (c : Chain) : Nat := c.mod.toNat % 4

/-- Quotient and remainder of the divide instructions (02 R25 items 4 and 5, R26). -/
def divS (x y : Nat) : Nat × BitVec 6 :=
  if y = 0 then (if s64 x < 0 then 2 ^ 64 - 1 else 2 ^ 63 - 1, fDZ) else (wrapNat ((s64 x).tdiv (s64 y)) 64, 0)
def divU (x y : Nat) : Nat × BitVec 6 := if y = 0 then (2 ^ 64 - 1, fDZ) else (x / y, 0)
def remS (x y : Nat) : Nat × BitVec 6 := if y = 0 then (x, fDZ) else (wrapNat ((s64 x).tmod (s64 y)) 64, 0)
def remU (x y : Nat) : Nat × BitVec 6 := if y = 0 then (x, fDZ) else (x % y, 0)

/-- Carry-less product of `n` bits of y with x (05 R106). -/
def clmulN : Nat → Nat → Nat → Nat
  | 0, _, _ => 0
  | n + 1, x, y => clmulN n x y ^^^ (if y.testBit n then x <<< n else 0)

/-- Number of significant bits. -/
def sigBits (n : Nat) : Nat := if n = 0 then 0 else n.log2 + 1

/-- Number of one bits below bit `n`. -/
def popN : Nat → Nat → Nat
  | 0, _ => 0
  | n + 1, x => popN n x + (if x.testBit n then 1 else 0)

/-- Index of the lowest one bit among bits `k` to `k + n - 1`; `k + n` when there is none. -/
def ctzFrom : Nat → Nat → Nat → Nat
  | 0, k, _ => k
  | n + 1, k, x => if x.testBit k then k else ctzFrom n (k + 1) x

/-- Bytes of an `n`-byte value in reverse order (05 R110). -/
def bswapN : Nat → Nat → Nat
  | 0, _ => 0
  | n + 1, x => (x % 256) * 256 ^ n + bswapN n (x / 256)

/-- Logical value of a comparison. -/
def ofBool (b : Bool) : Nat := if b then 1 else 0

def movBody : RegBody := scalar2 id
def moviBody : RegBody := fun _ c s => do
  let d := s.reg .scalar c.a.toNat
  s.checkUses { all := [d], dst := [d] }
  .ok { writes := scalarResult s c.a.toNat (wrapNat c.imm 64) }
def addBody : RegBody := fun p c s => scalar3 1 (fun x y => saturate (satMode c) (s64 x + s64 y) (x + y)) p c s
def addiBody : RegBody := fun p c s => scalarImm (fun x i => saturate (satMode c) (s64 x + i) (x + i)) p c s
def subBody : RegBody := fun p c s => scalar3 1 (fun x y => saturate (satMode c) (s64 x - s64 y) ((x : Int) - y)) p c s
def mulBody : RegBody := fun p c s => scalar3 1 (fun x y => saturate (satMode c) (s64 x * s64 y) (x * y)) p c s
def mulhBody : RegBody := scalar3 1 (fun x y => (wrapNat ((s64 x * s64 y) / (2 ^ 64 : Nat)) 64, 0))
def mulhnBody : RegBody := scalar3 1 (fun x y => (x * y / 2 ^ 64, 0))
def divBody : RegBody := scalar3 3 divS
def divnBody : RegBody := scalar3 3 divU
def remBody : RegBody := scalar3 3 remS
def remnBody : RegBody := scalar3 3 remU
def andBody : RegBody := scalar3 1 (fun x y => (x &&& y, 0))
def orBody : RegBody := scalar3 1 (fun x y => (x ||| y, 0))
def xorBody : RegBody := scalar3 1 (fun x y => (x ^^^ y, 0))
def andnBody : RegBody := scalar3 1 (fun x y => (x &&& (x ^^^ y), 0))
def shlBody : RegBody := scalar3 1 (fun x y => (x <<< (y % 64), 0))
def shrBody : RegBody := scalar3 1 (fun x y => (x >>> (y % 64), 0))
def sarBody : RegBody := scalar3 1 (fun x y => (wrapNat (s64 x / (2 ^ (y % 64) : Nat)) 64, 0))
def rolBody : RegBody := scalar3 1 (fun x y => ((x <<< (y % 64)) + x >>> (64 - y % 64), 0))
def clzBody : RegBody := scalar2 (fun x => 64 - sigBits x)
def ctzBody : RegBody := scalar2 (ctzFrom 64 0)
def popcBody : RegBody := scalar2 (popN 64)
def minBody : RegBody := scalar3 1 (fun x y => (if s64 x ≤ s64 y then x else y, 0))
def maxBody : RegBody := scalar3 1 (fun x y => (if s64 x ≤ s64 y then y else x, 0))
def minnBody : RegBody := scalar3 1 (fun x y => (min x y, 0))
def maxnBody : RegBody := scalar3 1 (fun x y => (max x y, 0))
def seqBody : RegBody := scalar3 1 (fun x y => (ofBool (x == y), 0))
def sneBody : RegBody := scalar3 1 (fun x y => (ofBool (x != y), 0))
def sltBody : RegBody := scalar3 1 (fun x y => (ofBool (decide (s64 x < s64 y)), 0))
def sltnBody : RegBody := scalar3 1 (fun x y => (ofBool (decide (x < y)), 0))
def clmulBody : RegBody := scalar3 1 (fun x y => (clmulN 64 x y, 0))
def clmulhBody : RegBody := scalar3 1 (fun x y => (clmulN 64 x y / 2 ^ 64, 0))

/-- SEL reads d as its condition (05 R106). -/
def selBody : RegBody := fun _ c s => do
  let d := s.reg .scalar c.a.toNat
  let a := s.reg .scalar c.b.toNat
  let b := s.reg .scalar c.c.toNat
  s.checkUses { all := [d, a, b], src := [a, b, d], dst := [d] }
  let x := s.readUe a 64
  let y := s.readUe b 64
  let q := s.readUe d 64
  .ok { writes := scalarResult s c.a.toNat (if q.1 ≠ 0 then x.1 else y.1), ue := x.2 ++ y.2 ++ q.2 }

/-- EXT (05 R109). -/
def extBody : RegBody := scalarImm (fun x i =>
  let n := i.toNat
  let pos := bitsOf 5 0 n
  let width := bitsOf 11 6 n + 1
  let z := (x >>> pos) % 2 ^ width
  (if n / 4096 = 1 then wrapNat (sextNat z width) 64 else z, 0))

/-- BSWAP (05 R110). -/
def bswapBody : RegBody := fun p c s =>
  scalar2 (fun x => bswapN (8 / 2 ^ (satMode c)) x) p c s

/-- Target of BR, JMP and CALL (05 R111). -/
def Slot.target (s : Slot) (c : Chain) : Word := s.pc + BitVec.ofInt 64 (2 * c.imm)

/-- Address after an instruction. -/
def Slot.nextPc (s : Slot) (c : Chain) : Word := s.pc + BitVec.ofNat 64 (2 * c.words)

/-- Condition of BR (05 R112). -/
def brTaken (cond : Nat) (x : Int) : Bool :=
  match cond with
  | 0 => x != 0
  | 1 => x == 0
  | 2 => decide (x < 0)
  | _ => decide (x ≥ 0)

/-- BR (05 R112). -/
def brBody : RegBody := fun _ c s => do
  let a := s.reg .scalar c.a.toNat
  s.checkUses { all := [a], src := [a] }
  let x := s.readUe a 64
  .ok { ue := x.2, jump := if brTaken (c.mod.toNat % 4) (s64 x.1) then some (s.target c) else none }

/-- JMP (05 R112). -/
def jmpBody : RegBody := fun _ c s => .ok { jump := some (s.target c) }

/-- CALL (05 R112). -/
def callBody : RegBody := fun _ c s => do
  let d := s.reg .scalar c.a.toNat
  s.checkUses { all := [d], dst := [d] }
  .ok { writes := scalarResult s c.a.toNat (s.nextPc c).toNat, jump := some (s.target c) }

/-- RET (05 R112). -/
def retBody : RegBody := fun _ c s => do
  let a := s.reg .scalar c.a.toNat
  s.checkUses { all := [a], src := [a] }
  let x := s.readUe a 64
  if x.1 % 2 = 1 then .error (.trap .align (BitVec.ofNat 64 x.1))
  else .ok { ue := x.2, jump := some (BitVec.ofNat 64 x.1) }

/-- JMPI (05 R112).  Of a link register with an empty granule and an odd target, the register is found first, as 18 R355 orders
the checks (log 66). -/
def jmpiBody : RegBody := fun _ c s => do
  let d := s.reg .scalar c.a.toNat
  let a := s.reg .scalar c.b.toNat
  s.checkUses { all := [d, a], src := [a], dst := [d] }
  let x := s.readUe a 64
  if x.1 % 2 = 1 then .error (.trap .align (BitVec.ofNat 64 x.1))
  else .ok { writes := scalarResult s c.a.toNat (s.nextPc c).toNat, ue := x.2, jump := some (BitVec.ofNat 64 x.1) }

/-- NOP (05 R114). -/
def nopBody : RegBody := fun _ _ _ => .ok {}

end Sys2Proof.Machine
end

