-- ==== Sys2Proof/Machine/VectorOps.lean ====
section
/-!
DEFINITION. Values and checks of the register-only instructions of page 1 (06 R118 to R134).
-/

namespace Sys2Proof.Machine

/-- Element type, rounding mode and lane-0 form of a page-1 or page-2 MOD (03 R58). -/
def chainTy (c : Chain) : Ty := Ty.ofCode (c.mod.toNat % 16)
def chainRm (c : Chain) : RMode := RMode.ofCode (c.mod.toNat / 16 % 4)
def chainL0 (c : Chain) : Bool := c.mod.toNat / 64 == 1

/-- Operand B: the partner's register with a gang offset, otherwise the slot's own (03 R62, 02 R45).  The partner's register is
the bytes at the reader's own offset (log 62). -/
def readB (p : Option Partner) (s : Slot) (r : Reg) (w : Nat) : Nat × List UeEvent :=
  match p, r.loc with
  | some q, .main off => zeroUe q.view.ueRegs r w (readAt q.view.file off r.size)
  | _, _ => s.readUe r w

/-- The checks of registers where `b` may be the gang partner's. -/
def checkGang (p : Option Partner) (s : Slot) (u : Uses) (b : Reg) : Except Stop Unit :=
  match p with
  | some q => s.checkUses u (some (q, b))
  | none => s.checkUses { u with src := b :: u.src }

/-- Lane-wise evaluation over the active lanes of `mask`: the container of results and the OR of flags (02 R37). -/
def laneMap (n w mask : Nat) (f : Nat → Nat × BitVec 6) : Nat × BitVec 6 :=
  (List.range n).foldl (fun z i =>
    if mask.testBit i then
      let r := f i
      (z.1 ||| ((r.1 % 2 ^ w) <<< (i * w)), z.2 ||| r.2)
    else z) (0, 0)

/-- Events of elements that active lanes read. -/
def activeEvents (mask : Nat) (es : List UeEvent) : List UeEvent := es.filter (fun e => mask.testBit e.col)

/-- A lane-wise instruction: `three` says that C names operand b, `readsD` that d is read; `f` gives a lane's result
from the lanes of a, b and d.  In the lane-0 form the operands are scalars (06 R120, R125); while its lane is inactive, d's own
64 bits are its scalar result (03 R63, R66; log 65). -/
def vecOp (three readsD : Bool) (f : Ty → RMode → Nat → Nat → Nat → Nat × BitVec 6) : RegBody := fun p c s => do
  let ty := chainTy c
  let rm := chainRm c
  let w := ty.width
  let v : View := if chainL0 c then .scalar else .vector
  let d := s.reg v c.a.toNat
  let a := s.reg v c.b.toNat
  let b := s.reg v c.c.toNat
  let bs := if three then [b] else []
  checkGang p s { all := [d, a] ++ bs, src := bs ++ (if readsD then [d] else []) ++ s.maskReg c, dst := [d] } a
  let x := readB p s a w
  let y := if three then s.readUe b w else (0, [])
  let q := if readsD then s.readUe d w else (0, [])
  let m := s.lmaskBits c
  if chainL0 c then
    let z := if m.testBit 0 then f ty rm (elem x.1 0 w) (elem y.1 0 w) (elem q.1 0 w) else (s.readReg d, 0)
    .ok { writes := scalarResult s c.a.toNat z.1, flags := z.2,
          ue := (activeEvents m (x.2 ++ y.2 ++ q.2)).filter (fun e => e.col == 0) ++ s.lmaskUe c 1 }
  else
    let n := 4096 / w
    let z := laneMap n w m (fun i => f ty rm (elem x.1 i w) (elem y.1 i w) (elem q.1 i w))
    .ok { writes := vectorResult s c.a.toNat z.1 (laneBits n w m.testBit), flags := z.2,
          ue := activeEvents m (x.2 ++ y.2 ++ q.2) ++ s.lmaskUe c n }

/-- Rounding of an exact result; NV only when no operand was a NaN (02 R30). -/
def finish (t : Ty) (rm : RMode) (r : FVal × Bool) (ops : List FVal) : Nat × BitVec 6 :=
  roundVal t rm r.1 (r.2 && ops.all (fun x => x != .nan))

/-- Wrapped integer result. -/
def intRes (t : Ty) (z : Int) : Nat × BitVec 6 := (wrapNat z t.width, 0)

def addLane (t : Ty) (rm : RMode) (p r _s : Nat) : Nat × BitVec 6 :=
  if t.isInt then intRes t (p + r)
  else finish t rm ((fdec t p).add rm (fdec t r)) [fdec t p, fdec t r]
def subLane (t : Ty) (rm : RMode) (p r _s : Nat) : Nat × BitVec 6 :=
  if t.isInt then intRes t ((p : Int) - r)
  else finish t rm ((fdec t p).add rm (fdec t r).neg) [fdec t p, fdec t r]
def mulLane (t : Ty) (rm : RMode) (p r _s : Nat) : Nat × BitVec 6 :=
  if t.isInt then intRes t (p * r)
  else finish t rm ((fdec t p).mul (fdec t r)) [fdec t p, fdec t r]

/-- (negp x p x r) + (negs x s), rounded once (06 R126 item 1). -/
def fmaLane (negp negs : Bool) (t : Ty) (rm : RMode) (p r s : Nat) : Nat × BitVec 6 :=
  if t.isInt then
    intRes t ((if negp then -(p * r : Int) else p * r) + (if negs then -(s : Int) else s))
  else
    let x := fdec t p
    let y := fdec t r
    let z := fdec t s
    let pr := x.mul y
    let pr1 := if negp then pr.1.neg else pr.1
    let z1 := if negs then z.neg else z
    let r := pr1.add rm z1
    finish t rm (r.1, pr.2 || r.2) [x, y, z]

def minmaxLane (big : Bool) (t : Ty) (_rm : RMode) (p r _s : Nat) : Nat × BitVec 6 :=
  if t.isInt then (if decide (intOf t p ≤ intOf t r) != big then p else r, 0)
  else (fminmax t big p r, 0)

def absLane (t : Ty) (_rm : RMode) (p _r _s : Nat) : Nat × BitVec 6 :=
  if t.isInt then intRes t (intOf t p).natAbs
  else (if fdec t p = .nan then t.nan else p % 2 ^ t.fmt.magBits, 0)
def negLane (t : Ty) (_rm : RMode) (p _r _s : Nat) : Nat × BitVec 6 :=
  if t.isInt then intRes t (-(intOf t p))
  else (if fdec t p = .nan then t.nan else p ^^^ 2 ^ t.fmt.magBits, 0)
def absdLane (t : Ty) (rm : RMode) (p r _s : Nat) : Nat × BitVec 6 :=
  if t.isInt then intRes t (intOf t p - intOf t r).natAbs
  else
    let d := (fdec t p).add rm (fdec t r).neg
    finish t rm (d.1.abs, d.2) [fdec t p, fdec t r]
def avgLane (t : Ty) (_rm : RMode) (p r _s : Nat) : Nat × BitVec 6 := intRes t ((intOf t p + intOf t r + 1) / 2)
def andLane (_t : Ty) (_rm : RMode) (p r _s : Nat) : Nat × BitVec 6 := (p &&& r, 0)
def orLane (_t : Ty) (_rm : RMode) (p r _s : Nat) : Nat × BitVec 6 := (p ||| r, 0)
def xorLane (_t : Ty) (_rm : RMode) (p r _s : Nat) : Nat × BitVec 6 := (p ^^^ r, 0)
def andnLane (_t : Ty) (_rm : RMode) (p r _s : Nat) : Nat × BitVec 6 := (p &&& (p ^^^ r), 0)
def shlLane (t : Ty) (_rm : RMode) (p r _s : Nat) : Nat × BitVec 6 := (p <<< (r % t.width), 0)
def shrLane (t : Ty) (_rm : RMode) (p r _s : Nat) : Nat × BitVec 6 := (p >>> (r % t.width), 0)
def sarLane (t : Ty) (_rm : RMode) (p r _s : Nat) : Nat × BitVec 6 :=
  intRes t (sextNat p t.width / (2 ^ (r % t.width) : Nat))
def movLane (_t : Ty) (_rm : RMode) (p _r _s : Nat) : Nat × BitVec 6 := (p, 0)

def vaddBody : RegBody := vecOp true false addLane
def vsubBody : RegBody := vecOp true false subLane
def vmulBody : RegBody := vecOp true false mulLane
def vfmaBody : RegBody := vecOp true true (fmaLane false false)
def vfmsBody : RegBody := vecOp true true (fmaLane false true)
def vfnmaBody : RegBody := vecOp true true (fmaLane true false)
def vminBody : RegBody := vecOp true false (minmaxLane false)
def vmaxBody : RegBody := vecOp true false (minmaxLane true)
def vabsBody : RegBody := vecOp false false absLane
def vnegBody : RegBody := vecOp false false negLane
def vabsdBody : RegBody := vecOp true false absdLane
def vavgBody : RegBody := vecOp true false avgLane
def vandBody : RegBody := vecOp true false andLane
def vorBody : RegBody := vecOp true false orLane
def vxorBody : RegBody := vecOp true false xorLane
def vandnBody : RegBody := vecOp true false andnLane
def vshlBody : RegBody := vecOp true false shlLane
def vshrBody : RegBody := vecOp true false shrLane
def vsarBody : RegBody := vecOp true false sarLane
def vmovBody : RegBody := vecOp false false movLane

/-- VBCAST (06 R127). -/
def vbcastBody : RegBody := fun _ c s => do
  let w := (chainTy c).width
  let d := s.reg .vector c.a.toNat
  let a := s.reg .scalar c.b.toNat
  s.checkUses { all := [d, a], src := a :: s.maskReg c, dst := [d] }
  let x := s.readUe a 64
  let m := s.lmaskBits c
  let n := 4096 / w
  .ok { writes := vectorResult s c.a.toNat (ofLanes n w (fun _ => x.1)) (laneBits n w m.testBit), ue := x.2 ++ s.lmaskUe c n }

/-- VINS (06 R127). -/
def vinsBody : RegBody := fun _ c s => do
  let w := (chainTy c).width
  let d := s.reg .vector c.a.toNat
  let a := s.reg .scalar c.b.toNat
  let b := s.reg .scalar c.c.toNat
  s.checkUses { all := [d, a, b], src := [a, b, d] ++ s.maskReg c, dst := [d] }
  let x := s.readUe a 64
  let y := s.readUe b 64
  let q := s.readUe d w
  let n := 4096 / w
  let j := y.1 % n
  let z := if (s.lmaskBits c).testBit j then setBits ((j + 1) * w - 1) (j * w) q.1 x.1 else q.1
  .ok { writes := vectorResult s c.a.toNat z (ones 4096), ue := x.2 ++ y.2 ++ q.2 ++ s.lmaskUe c n }

/-- VEXTR (06 R127). -/
def vextrBody : RegBody := fun p c s => do
  let t := chainTy c
  let w := t.width
  let d := s.reg .scalar c.a.toNat
  let a := s.reg .vector c.b.toNat
  let b := s.reg .scalar c.c.toNat
  checkGang p s { all := [d, a, b], src := [b], dst := [d] } a
  let x := readB p s a w
  let y := s.readUe b 64
  let j := y.1 % (4096 / w)
  let e := elem x.1 j w
  .ok { writes := scalarResult s c.a.toNat (if t.signed then wrapNat (sextNat e w) 64 else e),
        ue := x.2.filter (fun u => u.col == j) ++ y.2 }

/-- The four relations of a lane: less, equal, greater, unordered (06 R128, 02 R35). -/
def relLane (t : Ty) (p r : Nat) : Nat :=
  if t.isInt then
    if intOf t p < intOf t r then 0 else if intOf t p = intOf t r then 1 else 2
  else
    match (fdec t p).cmp (fdec t r) with
    | none => 3
    | some z => if z < 0 then 0 else if z = 0 then 1 else 2

/-- VCMP (06 R128, R129). -/
def vcmpBody : RegBody := fun p c s => do
  let t := chainTy c
  let w := t.width
  let v : View := if chainL0 c then .scalar else .vector
  let d := s.reg v c.a.toNat
  let a := s.reg v c.b.toNat
  let b := s.reg v c.c.toNat
  checkGang p s { all := [d, a, b], src := b :: s.maskReg c, dst := [d] } a
  let x := readB p s a w
  let y := s.readUe b w
  let m := s.lmaskBits c
  if chainL0 c then
    let z := if m.testBit 0 then 2 ^ relLane t (elem x.1 0 w) (elem y.1 0 w) else s.readReg d
    .ok { writes := scalarResult s c.a.toNat z, ue := (activeEvents m (x.2 ++ y.2)).filter (fun e => e.col == 0) ++ s.lmaskUe c 1 }
  else
    let n := 4096 / w
    let z := (List.range n).foldl (fun z i =>
      if m.testBit i then z ||| (1 <<< (1024 * relLane t (elem x.1 i w) (elem y.1 i w) + i)) else z) 0
    -- bits of inactive lanes keep their value; bits N to 1023 of every row are written 0
    let row := ones 1024 ^^^ ((List.range n).foldl (fun z i => if m.testBit i then z else z ||| (1 <<< i)) 0)
    let mask := row + (row <<< 1024) + (row <<< 2048) + (row <<< 3072)
    .ok { writes := vectorResult s c.a.toNat z mask, ue := activeEvents m (x.2 ++ y.2) ++ s.lmaskUe c n }

/-- VSEL (06 R130). -/
def vselBody : RegBody := fun p c s => do
  let w := (chainTy c).width
  let d := s.reg .vector c.a.toNat
  let a := s.reg .vector c.b.toNat
  let b := s.reg .vector c.c.toNat
  checkGang p s { all := [d, a, b], src := b :: s.maskReg c, dst := [d] } a
  let x := readB p s a w
  let y := s.readUe b w
  let m := s.lmaskBits c
  let n := 4096 / w
  let lanes := laneBits n w m.testBit
  .ok { writes := vectorResult s c.a.toNat ((x.1 &&& lanes) ||| (y.1 &&& (y.1 ^^^ lanes))) (ones 4096),
        ue := activeEvents m x.2 ++ y.2.filter (fun e => !m.testBit e.col) ++ s.lmaskUe c n }

/-- Writes of a group of `k` vector registers from `d` on, with `mask` over the group's bits; lat receives the first
register's container (07 R143 item 3, 06 R131). -/
def groupResult (s : Slot) (d k v mask : Nat) : List RegWrite :=
  let r0 := s.reg .vector d
  let old := s.readReg r0
  let m0 := mask % 2 ^ 4096
  (List.range k).map (fun j =>
      { dst := (s.reg .vector (d + j)).loc, bits := 4096, value := (v >>> (4096 * j)) % 2 ^ 4096,
        mask := (mask >>> (4096 * j)) % 2 ^ 4096 })
    ++ [{ dst := .lat, bits := 4096, value := (old &&& (old ^^^ m0)) ||| ((v % 2 ^ 4096) &&& m0), mask := ones 4096 }]

/-- Contents of a group of `k` registers: element i of width w at bit i w (blocked order). -/
def readGroup (s : Slot) (rs : List Reg) (w : Nat) : Nat × List UeEvent :=
  (rs.zipIdx).foldl (fun z rj =>
    let v := s.readUe rj.1 w
    let n := 4096 / w
    (z.1 ||| (v.1 <<< (4096 * rj.2)), z.2 ++ v.2.map (fun e => { e with col := e.col + n * rj.2 }))) (0, [])

/-- VADDW and VMULW (06 R131): source lane i gives result element i of twice or four times the width. -/
def widenOp (isMul : Bool) : RegBody := fun p c s => do
  let t := chainTy c
  let rm := chainRm c
  let w := t.width
  let wide := if t.isInt then 2 * w else 32
  let k := wide / w
  let n := 4096 / w
  let ds := s.regs .vector c.a.toNat k
  let a := s.reg .vector c.b.toNat
  let b := s.reg .vector c.c.toNat
  checkGang p s { all := ds.take 1 ++ [a, b] ++ ds.drop 1, src := b :: s.maskReg c, dst := ds } a
  let x := readB p s a w
  let y := s.readUe b w
  let m := s.lmaskBits c
  let f := fun i =>
    let p := elem x.1 i w
    let r := elem y.1 i w
    if t.isInt then
      (wrapNat (if isMul then intOf t p * intOf t r else intOf t p + intOf t r) wide, (0 : BitVec 6))
    else if isMul then finish .f32 rm ((fdec t p).mul (fdec t r)) [fdec t p, fdec t r]
    else finish .f32 rm ((fdec t p).add rm (fdec t r)) [fdec t p, fdec t r]
  let z := laneMap n wide m f
  .ok { writes := groupResult s c.a.toNat k z.1 (laneBits n wide m.testBit), flags := z.2,
        ue := activeEvents m (x.2 ++ y.2) ++ s.lmaskUe c n }

def vaddwBody : RegBody := widenOp false
def vmulwBody : RegBody := widenOp true

/-! ### Dot products (06 R132 to R134) -/

/-- A scale row as it is read: block scales, band scale, and whether they are uncorrectable. -/
structure ScaleRow where
  row : Nat
  band : FVal
  bandBad : Bool
  badBlocks : List Nat
  deriving DecidableEq, Repr

/-- The scale row in a register (07 R146). -/
def scaleRow (s : Slot) (r : Reg) : ScaleRow :=
  let row := s.readReg r
  let base := ueBase r.loc
  let bad := s.ueRegs.filter (fun b => decide (base ≤ b) && decide (b < base + 130))
  { row := row, band := fdec .bf16 (elem row 64 16),
    bandBad := bad.any (fun b => decide (base + 128 ≤ b)),
    badBlocks := (bad.filter (fun b => decide (b < base + 128))).map (fun b => b - base) }

/-- A scale that applies to lane `i` is corrupted (02 R46). -/
def ScaleRow.badAt (row : ScaleRow) (block band : Bool) (i : Nat) : Bool :=
  (band && row.bandBad) || (block && row.badBlocks.contains (i / 8))

/-- Value of an element with its composite scale, and whether an invalid product arose (02 R38, R39, R46).  `block` and
`band` say which scales apply. -/
def scaledVal (t : Ty) (row : ScaleRow) (block band : Bool) (i c : Nat) : FVal × Bool :=
  if row.badAt block band i then (.fin false 0 0, false)
  else
    let v := fdec t c
    let v := if block then (v.mul (fdec .e3m5 (elem row.row (i / 8) 8))).1 else v
    if band then v.mul row.band else (v, false)

/-- An element is a NaN as an operand: its own code or its band scale is, and no corrupted scale makes it +0 (02 R30, R46). -/
def ScaleRow.nanAt (row : ScaleRow) (t : Ty) (block band : Bool) (i c : Nat) : Bool :=
  !row.badAt block band i && (fdec t c == .nan || (band && row.band == .nan))

/-- Events of corrupted scales that active lanes meet (02 R46), in the register at place `l`.  An element whose block scale and
band scale are both corrupted counts as one with a corrupted band scale (log 64). -/
def scaleEvents (row : ScaleRow) (block band : Bool) (n mask : Nat) (l : Loc) : List UeEvent :=
  ((List.range n).filter (fun i => mask.testBit i && row.badAt block band i)).map (fun i =>
      { where' := l.where', src := if band && row.bandBad then 9 else 8, row := 0, col := i, kind := 3 })

/-- Exact sum of terms with the addend `t0` (02 R42): the sum, and NV. -/
def exactSum (rm : RMode) (t0 : FVal) (terms : List (FVal × Bool)) : FVal × Bool :=
  terms.foldl (fun a t => let r := a.1.add rm t.1; (r.1, a.2 || t.2 || r.2)) (t0, false)

/-- Scale rows an operation of type `t` reads for operands a and b, and whether block and band scales apply. -/
def dotScales (s : Slot) (t : Ty) : Bool × Bool × Bool :=
  (t == .f4, t == .f4 || (t.isF8 && s.fmt.toNat.testBit 8), t == .f4 || (t.isF8 && s.fmt.toNat.testBit 9))

/-- Registers of VDOT and VDOTS and the sum of the lanes `lanes` with addend element `j`. -/
def dotOp (whole : Bool) : RegBody := fun p c s => do
  let t := chainTy c
  let rm := chainRm c
  let w := t.width
  let n := 4096 / w
  let d := s.reg .vector c.a.toNat
  let a := s.reg .vector c.b.toNat
  let b := s.reg .vector c.c.toNat
  let (blk, bandA, bandB) := dotScales s t
  let ra : List Reg := if bandA then [s.reg .vector 6] else []
  let rb : List Reg := if bandB then [s.reg .vector 7] else []
  checkGang p s { all := [d, a, b], src := [b, d] ++ s.maskReg c ++ ra ++ rb, dst := [d] } a
  let x := readB p s a w
  let y := s.readUe b w
  let q := s.readUe d 32
  let m := s.lmaskBits c
  let sa := scaleRow s (s.reg .vector 6)
  let sb := scaleRow s (s.reg .vector 7)
  let lane := fun (j : Nat) (ls : List Nat) =>
    let old := elem q.1 j 32
    if t.isInt then
      let z := ls.foldl (fun z i => if m.testBit i then z + intOf t (elem x.1 i w) * intOf t (elem y.1 i w) else z)
        (intOf .i32 old)
      (wrapNat z 32, (0 : BitVec 6))
    else
      let act := ls.filter (fun i => m.testBit i)
      let vals := act.map (fun i => (scaledVal t sa blk bandA i (elem x.1 i w), scaledVal t sb blk bandB i (elem y.1 i w)))
      let terms := vals.map (fun v => let r := v.1.1.mul v.2.1; (r.1, r.2 || v.1.2 || v.2.2))
      let anyNan := fdec .f32 old == .nan || act.any (fun i =>
        sa.nanAt t blk bandA i (elem x.1 i w) || sb.nanAt t blk bandB i (elem y.1 i w))
      let r := exactSum rm (fdec .f32 old) terms
      roundVal .f32 rm r.1 (r.2 && !anyNan)
  let ue := activeEvents m (x.2 ++ y.2) ++ (if whole then q.2.filter (fun e => e.col == 0) else q.2) ++ scaleEvents sa blk bandA n m (.o 6) ++ scaleEvents sb blk bandB n m (.o 7) ++ s.lmaskUe c n
  if whole then
    let z := lane 0 (List.range n)
    .ok { writes := vectorResult s c.a.toNat z.1 (ones 4096), flags := z.2, ue := ue }
  else
    let g := n / 128
    let z := laneMap 128 32 (ones 128) (fun j => lane j ((List.range g).map (fun i => j * g + i)))
    .ok { writes := vectorResult s c.a.toNat z.1 (ones 4096), flags := z.2, ue := ue }

def vdotBody : RegBody := dotOp true
def vdotsBody : RegBody := dotOp false

end Sys2Proof.Machine
end

