-- ==== Sys2Proof/Machine/Sfu.lean ====
section
/-!
DEFINITION. The special functions (07 R155, R156).

The accuracy bounds leave several results allowed for most operands.  The exact value is enclosed by integer
arithmetic on numbers scaled by 2^P, and the free function `Config.sfuPick` picks one of the codes within the
bound (log 3).  Special and exact cases are as R155 and R156 item 3 give them.
-/

namespace Sys2Proof.Machine

/-- Fraction bits of the fixed-point arithmetic below. -/
def sfuP : Nat := 320

/-- Series sum for e^x - 1 at x = t / 2^P, |x| < 1, from the term `term` of index `k`, `n` terms. -/
def expSeries : Nat → Int → Int → Int → Int
  | 0, _, _, _ => 0
  | n + 1, t, k, term => term + expSeries n t (k + 1) (term * t / (2 ^ sfuP : Nat) / (k + 1))

/-- e^x scaled by 2^P for x = t / 2^P with |x| < 1. -/
def expFix (t : Int) : Int := (2 ^ sfuP : Nat) + expSeries 80 t 1 t

/-- 2 (z + z^3 / 3 + ...) for z = t / 2^P: the logarithm of (1 + z) / (1 - z). -/
def atanhSeries : Nat → Int → Int → Int → Int
  | 0, _, _, _ => 0
  | n + 1, z2, pw, k => pw / k + atanhSeries n z2 (pw * z2 / (2 ^ sfuP : Nat)) (k + 2)

/-- ln((1 + z) / (1 - z)) scaled by 2^P for z = t / 2^P, |z| ≤ 1/3. -/
def lnRatio (t : Int) : Int := 2 * atanhSeries 110 (t * t / (2 ^ sfuP : Nat)) t 1

/-- ln 2 scaled by 2^P. -/
def ln2Fix : Int := lnRatio ((2 ^ sfuP : Nat) / 3)

/-- arctan(1 / n) scaled by 2^P. -/
def atanInvSeries : Nat → Int → Int → Int → Int
  | 0, _, _, _ => 0
  | k + 1, n2, pw, d => pw / d - atanInvSeries k n2 (pw / n2) (d + 2)
def atanInv (n : Nat) : Int := atanInvSeries 150 (n * n) ((2 ^ sfuP : Nat) / n) 1

/-- pi scaled by 2^P (Machin's formula). -/
def piFix : Int := 4 * (4 * atanInv 5 - atanInv 239)

/-- Sine and cosine series at x = t / 2^P with |x| ≤ 1: alternating terms with factors x^2 / ((k+1)(k+2)). -/
def trigSeries : Nat → Int → Int → Int → Int
  | 0, _, _, _ => 0
  | n + 1, x2, term, k => term - trigSeries n x2 (term * x2 / (2 ^ sfuP : Nat) / ((k + 1) * (k + 2))) (k + 2)
def sinFix (t : Int) : Int := trigSeries 60 (t * t / (2 ^ sfuP : Nat)) t 1
def cosFix (t : Int) : Int := trigSeries 60 (t * t / (2 ^ sfuP : Nat)) ((2 ^ sfuP : Nat)) 0

/-- Sine of m x 2^e (m > 0), or its cosine, scaled by 2^P, for -200 ≤ e: argument reduced by a multiple of pi / 2
(07 R156: exact reduction). -/
def trigFix (cos : Bool) (m : Nat) (e : Int) : Int :=
  let x : Int := if e ≥ 0 then ((m * 2 ^ e.toNat * 2 ^ sfuP : Nat) : Int) else ((m * 2 ^ sfuP : Nat) : Int) / (2 ^ (-e).toNat : Nat)
  let half := piFix / 2
  let q := (x + half / 2) / half
  let r := x - q * half
  let q := (if cos then q + 1 else q) % 4
  if q = 0 then sinFix r else if q = 1 then cosFix r else if q = 2 then -(sinFix r) else -(cosFix r)

/-- e^(-x) scaled by 2^P for x = m x 2^e > 0. -/
def expNegFix (m : Nat) (e : Int) : Int :=
  let x : Int := if e ≥ 0 then ((m * 2 ^ e.toNat * 2 ^ sfuP : Nat) : Int) else ((m * 2 ^ sfuP : Nat) : Int) / (2 ^ (-e).toNat : Nat)
  let n := x / ln2Fix
  if n > 2 * sfuP then 0 else expFix (-(x - n * ln2Fix)) / (2 ^ n.toNat : Nat)

/-- Largest and smallest codes of non-negative f32 values (code order is value order) within `bound` of `val`, all
three as fractions `_ / 2^P` times two to the `sc`. -/
def codeRange (val bound : Int) (sc : Int) : Nat × Nat :=
  let lo := val - bound
  let hi := val + bound
  let f := fun (up : Bool) (v : Int) =>
    if v ≤ 0 then 0
    else (roundFrac .f32 (if up then .rup else .rdn) false v.toNat (2 ^ sfuP) sc).1
  (f true lo, f false hi)

/-- A code picked in a range. -/
def pickIn (fn : SfuFn) (x : Nat) (r : Nat × Nat) : Nat :=
  if r.2 ≤ r.1 then r.1 else r.1 + Config.sfuPick fn.num x % (r.2 - r.1 + 1)

/-- One unit in the last place of the f32 code nearest below a positive value `v / 2^P x 2^sc`, in the same scale. -/
def ulpOf (v : Int) (sc : Int) : Int :=
  let E := log2Frac v.toNat (2 ^ sfuP) + sc
  let e := max (E - 23) (-149)
  let k := e - sc + sfuP
  if k ≥ 0 then (2 ^ k.toNat : Nat) else 1

/-- RNE result where the value leaves the normal f32 range (07 R156 item 1); otherwise a pick within `ulps`. -/
def withinUlps (fn : SfuFn) (x ulps : Nat) (v : Int) (sc : Int) : Nat × BitVec 6 :=
  let r := roundFrac .f32 .rne false v.toNat (2 ^ sfuP) sc
  let E := log2Frac v.toNat (2 ^ sfuP) + sc
  if E < -126 || r.2.toNat.testBit 2 || r.2.toNat.testBit 3 then (r.1, r.2 ||| fNX)
  else
    let (lo, hi) := codeRange v (ulps * ulpOf v sc) sc
    (pickIn fn x (max lo 0x00800000, min hi 0x7F7FFFFF), fNX)

/-- Sign put on an f32 code. -/
def signed32 (neg : Bool) (c : Nat) : Nat := if neg then c + 2 ^ 31 else c

/-- A power of two: m x 2^e with m a power of two; its exponent. -/
def pow2Exp (m : Nat) (e : Int) : Option Int := if m ≠ 0 ∧ m = 2 ^ m.log2 then some (m.log2 + e) else none

/-- Result of VSIGM for x ≥ 0: a code of a multiple of 2^-24 between 0.5 and 1 within 2^-22 (07 R156). -/
def sigmPos (x m : Nat) (e : Int) : Nat :=
  let en := expNegFix m e
  let one : Int := (2 ^ sfuP : Nat)
  let v := one * one / (one + en)
  -- multiples of 2^-24 within the bound
  let q : Int := (2 ^ (sfuP - 24) : Nat)
  let lo := max (2 ^ 23 : Nat) ((v - 4 * q + q - 1) / q).toNat
  let hi := min (2 ^ 24 : Nat) ((v + 4 * q) / q).toNat
  pickIn .sigm x (lo, hi)

/-- f32 result of an SFU function on a value that is not NaN, with its flags (07 R155, R156). `x` is the operand's
code, on which alone the result depends. -/
def sfu32 (fn : SfuFn) (x : Nat) (v : FVal) : Nat × BitVec 6 :=
  let one : Int := (2 ^ sfuP : Nat)
  match fn, v with
  | _, .nan => (Ty.nan .f32, 0)
  | .rcp, .inf s => (signed32 s 0, 0)
  | .rcp, .fin s m e =>
    if m = 0 then (signed32 s 0x7F800000, fDZ)
    else match pow2Exp m e with
      | some _ => roundFrac .f32 .rne s 1 m (-e)
      | none =>
        let sc := -e - m.log2
        let r := withinUlps .rcp (x % 2 ^ 31) 1 ((2 ^ (sfuP + m.log2) : Nat) / m) sc
        (signed32 s r.1, r.2)
  | .rsq, .inf s => if s then (Ty.nan .f32, fNV) else (0, 0)
  | .rsq, .fin s m e =>
    if m = 0 then (signed32 s 0x7F800000, fDZ)
    else if s then (Ty.nan .f32, fNV)
    else
      let (m', e') := if e % 2 = 0 then (m, e) else (2 * m, e - 1)
      let r := isqrt (2 ^ (2 * sfuP) / m')
      match pow2Exp m' e' with
      | some k => if k % 2 = 0 then roundFrac .f32 .rne false 1 1 (-(k / 2)) else withinUlps .rsq x 1 r (-(e' / 2))
      | none => withinUlps .rsq x 1 r (-(e' / 2))
  | .exp2, .inf s => if s then (0, 0) else (0x7F800000, 0)
  | .exp2, .fin s m e =>
    if m = 0 then (0x3F800000, 0)
    else if e ≥ 0 then
      -- integer x is exact, within the range
      let k : Int := if m.log2 + e > 12 then 5000 else (m * 2 ^ e.toNat : Nat)
      roundFrac .f32 .rne false 1 1 (if s then -k else k)
    else
      let fr := m % 2 ^ (min (-e).toNat 400)
      let ip := m / 2 ^ (min (-e).toNat 400)
      if fr = 0 ∧ (-e).toNat ≤ 400 then
        roundFrac .f32 .rne false 1 1 (if s then -(min ip 5000 : Int) else (min ip 5000 : Int))
      else
        let xf : Int := ((fr * 2 ^ sfuP : Nat) : Int) / (2 ^ (-e).toNat : Nat)
        let xf := if s then -xf else xf
        let v := expFix (xf * ln2Fix / one)
        withinUlps .exp2 x 2 v (if s then -(min ip 5000 : Int) else (min ip 5000 : Int))
  | .log2, .inf s => if s then (Ty.nan .f32, fNV) else (0x7F800000, 0)
  | .log2, .fin s m e =>
    if m = 0 then (0xFF800000, fDZ)
    else if s then (Ty.nan .f32, fNV)
    else match pow2Exp m e with
      | some k => let r := roundVal .f32 .rne (FVal.ofInt k); (r.1, 0)
      | none =>
        let E : Int := m.log2 + e
        -- ln of m / 2^log2 m by the ratio z = (y - 1) / (y + 1)
        let y : Int := ((m * 2 ^ sfuP : Nat) : Int) / (2 ^ m.log2 : Nat)
        let l := lnRatio ((y - one) * one / (y + one)) * one / ln2Fix
        let v := E * one + l
        let neg := decide (v < 0)
        let av := if neg then -v else v
        let ulp := ulpOf av 0
        -- within 2 ulp, or 2^-22 absolute on [0.5, 2]
        let near := decide (E = 0 ∨ E = -1)
        let b := if near then max (2 * ulp) (2 ^ (sfuP - 22) : Nat) else 2 * ulp
        let r := codeRange av b 0
        (signed32 neg (pickIn .log2 x r), fNX)
  | .sin, .inf _ => (Ty.nan .f32, fNV)
  | .cos, .inf _ => (Ty.nan .f32, fNV)
  | .sin, .fin s m e =>
    if m = 0 then (signed32 s 0, 0)
    else if m.log2 + e < -126 then (x, fNX ||| fUF)
    else if e < -200 then (x, fNX)
    else
      let v := trigFix false m e
      let neg := decide (v < 0)
      let r := codeRange (if neg then -v else v) (2 ^ (sfuP - 22) : Nat) 0
      (signed32 (s != neg) (pickIn .sin (x % 2 ^ 31) (r.1, min r.2 0x3F800000)), fNX)
  | .cos, .fin _ m e =>
    if m = 0 then (0x3F800000, 0)
    else
      let v := trigFix true m e
      let neg := decide (v < 0)
      let r := codeRange (if neg then -v else v) (2 ^ (sfuP - 22) : Nat) 0
      (signed32 neg (pickIn .cos (x % 2 ^ 31) (r.1, min r.2 0x3F800000)), fNX)
  | .tanh, .inf s => (signed32 s 0x3F800000, 0)
  | .tanh, .fin s m e =>
    if m = 0 then (signed32 s 0, 0)
    else if m.log2 + e < -126 then (x, fNX ||| fUF)
    else
      -- tanh x = (1 - e^-2x) / (1 + e^-2x)
      let t := expNegFix m (e + 1)
      let v := (one - t) * one / (one + t)
      let r := codeRange v (2 ^ (sfuP - 22) : Nat) 0
      (signed32 s (pickIn .tanh (x % 2 ^ 31) (r.1, min r.2 0x3F800000)), fNX)
  | .sigm, .inf s => (if s then 0 else 0x3F800000, 0)
  | .sigm, .fin s m e =>
    if m = 0 then (0x3F000000, 0)
    else
      let k := sigmPos (x % 2 ^ 31) m e
      if s then
        -- 1 - VSIGM(-x), exactly, but for a tiny value, which is delivered as under RNE (R156 item 1; log 3)
        let en := expNegFix m e
        let tiny := decide (en < (2 ^ (sfuP - 126) : Nat))
        if tiny then ((roundFrac .f32 .rne false (en * one / (one + en)).toNat (2 ^ sfuP) 0).1, fNX ||| fUF)
        else ((roundFrac .f32 .rne false (2 ^ 24 - k) 1 (-24)).1, fNX)
      else ((roundFrac .f32 .rne false k 1 (-24)).1, fNX)

/-- An SFU function on an operand of type `t` (07 R156 item 2): the f32 result is rounded once into narrow types. -/
def sfuFn (fn : SfuFn) (t : Ty) (rm : RMode) (x : Nat) : Nat × BitVec 6 :=
  let v := fdec t x
  if v = .nan then (t.nan, 0)
  else
    -- the f32 stage sees the same value whatever the operand's type (R156 item 4)
    let c32 := (convertElem t .f32 .rne x).1
    let r := sfu32 fn c32 v
    if t = .f32 then r
    else
      let z := convertElem .f32 t rm r.1
      (z.1, r.2 ||| z.2)

end Sys2Proof.Machine
end

