-- ==== Sys2Proof/Machine/SpecialOps.lean ====
section
/-!
DEFINITION. Values and checks of the instructions of page 2 (07 R140 to R157).
-/

namespace Sys2Proof.Machine

/-- An effect of a vector operation on element groups of `k` destination registers. -/
def groupEffect (s : Slot) (d k n w mask : Nat) (z : Nat × BitVec 6) (ue : List UeEvent) : Effect :=
  { writes := groupResult s d k z.1 (laneBits n w mask.testBit), flags := z.2, ue := ue }

/-- VCVT (07 R144, R145). -/
def vcvtBody : RegBody := fun p c s => do
  let t := chainTy c
  let dt := Ty.ofCode c.c.toNat
  let rm := chainRm c
  let ws := t.width
  let wd := dt.width
  let m := s.lmaskBits c
  if chainL0 c then
    let d := s.reg .scalar c.a.toNat
    let a := s.reg .scalar c.b.toNat
    s.checkUses { all := [d, a], src := a :: s.maskReg c, dst := [d] }
    let x := s.readUe a ws
    let z := if m.testBit 0 then convertElem t dt rm (elem x.1 0 ws) else (s.readReg d, 0)
    .ok { writes := scalarResult s c.a.toNat z.1, flags := z.2, ue := (activeEvents m x.2).filter (fun e => e.col == 0) ++ s.lmaskUe c 1 }
  else
    let kd := max 1 (wd / ws)
    let ks := max 1 (ws / wd)
    let n := 4096 / min ws wd
    let ds := s.regs .vector c.a.toNat kd
    let as := s.regs .vector c.b.toNat ks
    let u : Uses := { all := ds.take 1 ++ as.take 1 ++ ds.drop 1 ++ as.drop 1, src := as.drop 1 ++ s.maskReg c, dst := ds }
    checkGang p s u (s.reg .vector c.b.toNat)
    let x := if ks = 1 then readB p s (s.reg .vector c.b.toNat) ws else readGroup s as ws
    let z := laneMap n wd m (fun i => convertElem t dt rm (elem x.1 i ws))
    .ok (groupEffect s c.a.toNat kd n wd m z (activeEvents m x.2 ++ s.lmaskUe c n))

/-- A finite nonzero element of a block: its magnitude. -/
def finMag (x : FVal) : FVal :=
  match x with
  | .fin _ m e => .fin false m e
  | _ => .fin false 0 0

/-- The larger of two finite magnitudes. -/
def maxMag (x y : FVal) : FVal :=
  match x.cmp y with
  | some z => if z < 0 then y else x
  | none => x

/-- VQUANT of 1024 elements (07 R146, 02 R40, R41): data container, scale row, flags. -/
def quantize (t : Ty) (rm : RMode) (mcode : Nat) (el : Nat → Nat) : Nat × Nat × BitVec 6 :=
  let mv := fdec t mcode
  let special := match mv with | .fin _ _ _ => false | _ => true
  let mm := finMag mv
  let b := match mm with
    | .fin _ m e => roundFrac .bf16 .rup false m 189 e
    | _ => (0, 0)
  let (bm, be) := match fdec .bf16 b.1 with | .fin _ m e => (m, e) | _ => (0, 0)
  let blk := fun (z : Nat × Nat × BitVec 6) (k : Nat) =>
    let xs := (List.range 8).map (fun j => fdec t (el (8 * k + j)))
    let m := xs.foldl (fun a x => maxMag a (finMag x)) (.fin false 0 0)
    let sc := match m with
      | .fin _ m e => if bm = 0 ∨ m = 0 then (0, 0) else roundFrac .e3m5 .rup false m (6 * bm) (e - be)
      | _ => (0, 0)
    let (sm, se) := match fdec .e3m5 sc.1 with | .fin _ m e => (m, e) | _ => (0, 0)
    let qs := xs.map (fun x => match x with
      | .nan => ((0 : Nat), fNV)
      | .inf s => (if s then 0xF else 0x7, fNV)
      | .fin s m e =>
        if sm = 0 ∨ bm = 0 then (if s then 8 else 0, 0) else roundFrac .f4 rm s m (sm * bm) (e - se - be))
    let d := (qs.zipIdx).foldl (fun a q => a ||| (q.1.1 <<< (4 * q.2))) 0
    (z.1 ||| (d <<< (32 * k)), z.2.1 ||| (sc.1 <<< (8 * k)), qs.foldl (fun f q => f ||| q.2) (z.2.2 ||| sc.2))
  (List.range 128).foldl blk (0, b.1 <<< 1024, b.2 ||| (if special then fNV else 0))

/-- VQUANT (07 R146). -/
def vquantBody : RegBody := fun _ c s => do
  let t := chainTy c
  let w := t.width
  let k := w / 4
  let ds := s.regs .vector c.a.toNat 2
  let as := s.regs .vector c.b.toNat k
  let b := s.reg .scalar c.c.toNat
  s.checkUses { all := ds.take 1 ++ as.take 1 ++ [b] ++ ds.drop 1 ++ as.drop 1, src := b :: as, dst := ds }
  let x := readGroup s as w
  let y := s.readUe b 64
  let q := quantize t (chainRm c) (elem y.1 0 w) (fun i => elem x.1 i w)
  .ok { writes := groupResult s c.a.toNat 2 (q.1 ||| (q.2.1 <<< 4096)) (ones 8192), flags := q.2.2, ue := x.2 ++ y.2 }

/-- VDEQ (07 R147). -/
def vdeqBody : RegBody := fun p c s => do
  let t := chainTy c
  let w := t.width
  let k := w / 4
  let ds := s.regs .vector c.a.toNat k
  let a := s.reg .vector c.b.toNat
  let b := s.reg .vector c.c.toNat
  checkGang p s { all := ds.take 1 ++ [a, b] ++ ds.drop 1, src := b :: s.maskReg c, dst := ds } a
  let x := readB p s a 4
  let row := scaleRow s b
  let m := s.lmaskBits c
  let z := laneMap 1024 w m (fun i =>
    let v := scaledVal .f4 row true true i (elem x.1 i 4)
    finish t (chainRm c) v [row.band])
  .ok (groupEffect s c.a.toNat k 1024 w m z (activeEvents m x.2 ++ scaleEvents row true true 1024 m b.loc ++ s.lmaskUe c 1024))

/-- p x 2^n (07 R148). -/
def scaleLane (t : Ty) (rm : RMode) (p : Nat) (n : Int) : Nat × BitVec 6 :=
  match fdec t p with
  | .nan => (t.nan, 0)
  | .inf _ => (p, 0)
  | .fin s m e => if m = 0 then (p, 0) else roundFrac t rm s m 1 (e + max (-2000) (min 2000 n))

/-- VSCALE (07 R148): in the lane-0 form n is all 64 bits of b. -/
def vscaleBody : RegBody := fun p c s => do
  if chainL0 c then
    let t := chainTy c
    let d := s.reg .scalar c.a.toNat
    let a := s.reg .scalar c.b.toNat
    let b := s.reg .scalar c.c.toNat
    s.checkUses { all := [d, a, b], src := [a, b] ++ s.maskReg c, dst := [d] }
    let x := s.readUe a t.width
    let y := s.readUe b 64
    let m := s.lmaskBits c
    let z := if m.testBit 0 then scaleLane t (chainRm c) (elem x.1 0 t.width) (s64 y.1) else (s.readReg d, 0)
    .ok { writes := scalarResult s c.a.toNat z.1, flags := z.2, ue := (activeEvents m (x.2 ++ y.2)).filter (fun e => e.col == 0) ++ s.lmaskUe c 1 }
  else vecOp true false (fun t rm p r _ => scaleLane t rm p (sextNat r t.width)) p c s

/-- A whole-vector instruction: `f` gives the container from a, b and d; lanes merge under the mask.  Its operand elements are
all those of its source registers (02 R45; log 64). -/
def permOp (three readsD : Bool) (f : Nat → Nat → Nat → Nat → Nat → Nat) : RegBody := fun p c s => do
  let w := (chainTy c).width
  let n := 4096 / w
  let d := s.reg .vector c.a.toNat
  let a := s.reg .vector c.b.toNat
  let b := s.reg .vector c.c.toNat
  let bs := if three then [b] else []
  checkGang p s { all := [d, a] ++ bs, src := bs ++ (if readsD then [d] else []) ++ s.maskReg c, dst := [d] } a
  let x := readB p s a w
  let y := if three then s.readUe b w else (0, [])
  let q := if readsD then s.readUe d w else (0, [])
  let m := s.lmaskBits c
  .ok { writes := vectorResult s c.a.toNat (ofLanes n w (f n x.1 y.1 q.1)) (laneBits n w m.testBit),
        ue := x.2 ++ y.2 ++ q.2 ++ s.lmaskUe c n }

/-- VPERM and VSHUF (07 R149): lane i of the result. -/
def vpermBody : RegBody := fun p c s =>
  let w := (chainTy c).width
  permOp true false (fun n x y _ i => elem x (elem y i w % n) w) p c s
def vshufBody : RegBody := fun p c s =>
  let w := (chainTy c).width
  permOp true true (fun n x y q i =>
    let j := elem q i w % (2 * n)
    if j < n then elem x j w else elem y (j - n) w) p c s

/-- VZIP and VUNZIP (07 R150): `pick i` gives, for mask bit i, the two destination lanes of the pair and their
sources among the lanes of a then b; every element of a and b is read (02 R45; log 64). -/
def zipOp (pick : Nat → Nat → List (Nat × Nat)) : RegBody := fun p c s => do
  let w := (chainTy c).width
  let n := 4096 / w
  let ds := s.regs .vector c.a.toNat 2
  let a := s.reg .vector c.b.toNat
  let b := s.reg .vector c.c.toNat
  checkGang p s { all := ds.take 1 ++ [a, b] ++ ds.drop 1, src := b :: s.maskReg c, dst := ds } a
  let x := readB p s a w
  let y := s.readUe b w
  let m := s.lmaskBits c
  let both := x.1 ||| (y.1 <<< 4096)
  let z := (List.range n).foldl (fun (z : Nat × Nat) i =>
    if m.testBit i then
      (pick n i).foldl (fun z ds => (z.1 ||| (elem both ds.2 w <<< (ds.1 * w)), z.2 ||| (ones w <<< (ds.1 * w)))) z
    else z) (0, 0)
  .ok { writes := groupResult s c.a.toNat 2 z.1 z.2, ue := x.2 ++ y.2 ++ s.lmaskUe c n }
def vzipBody : RegBody := zipOp (fun n i => [(2 * i, i), (2 * i + 1, n + i)])
def vunzipBody : RegBody := zipOp (fun n i => [(i, 2 * i), (n + i, 2 * i + 1)])

/-- VROTL (07 R151): every element of a is read (02 R45; log 64). -/
def vrotlBody : RegBody := fun p c s => do
  let w := (chainTy c).width
  let n := 4096 / w
  let d := s.reg .vector c.a.toNat
  let a := s.reg .vector c.b.toNat
  let b := s.reg .scalar c.c.toNat
  checkGang p s { all := [d, a, b], src := b :: s.maskReg c, dst := [d] } a
  let x := readB p s a w
  let y := s.readUe b 64
  let m := s.lmaskBits c
  .ok { writes := vectorResult s c.a.toNat (ofLanes n w (fun i => elem x.1 ((i + y.1 % n) % n) w)) (laneBits n w m.testBit),
        ue := x.2 ++ y.2 ++ s.lmaskUe c n }

/-- Code of an infinity of a class F type. -/
def infCode (t : Ty) (neg : Bool) : Nat := t.fmt.withSign neg ((2 ^ t.fmt.eb - 1) <<< t.fmt.mb)

/-- Identity of a selection (07 R152). -/
def redIdentity (sel : Nat) (t : Ty) : Nat :=
  match sel with
  | 1 => if t.isF then infCode t false else if t.signed then 2 ^ (t.width - 1) - 1 else 2 ^ t.width - 1
  | 2 => if t.isF then infCode t true else if t.signed then 2 ^ (t.width - 1) else 0
  | 4 => 2 ^ t.width - 1
  | _ => 0

/-- Larger magnitude among finite lanes (07 R152 .maxabs). -/
def maxabs (t : Ty) (z x : Nat) : Nat :=
  match fdec t x with
  | .fin _ _ _ => max z (x % 2 ^ t.fmt.magBits)
  | _ => z

/-- One more lane of a selecting or bitwise operation. -/
def redStep (sel : Nat) (t : Ty) (z x : Nat) : Nat :=
  match sel with
  | 1 => (minmaxLane false t .rne z x 0).1
  | 2 => (minmaxLane true t .rne z x 0).1
  | 3 => maxabs t z x
  | 4 => z &&& x
  | 5 => z ||| x
  | _ => z ^^^ x

/-- Exact sum of float lanes and whether one was NaN; the first lane starts the sum, so that the sum of zeros of one
sign keeps it (06 R126 item 2); no lane gives +0. -/
def floatSum (t : Ty) (rm : RMode) (xs : List Nat) : FVal × Bool :=
  match xs.map (fdec t) with
  | [] => (.fin false 0 0, false)
  | v :: vs =>
    let r := exactSum rm v (vs.map (fun x => (x, false)))
    (r.1, r.2 && (v :: vs).all (fun x => x != .nan))

/-- Result of VRED over the active lanes (07 R153). -/
def redValue (sel : Nat) (t : Ty) (rm : RMode) (xs : List Nat) : Nat × BitVec 6 :=
  if sel = 0 then
    if t.isInt then (wrapNat (xs.foldl (fun z x => z + intOf t x) (0 : Int)) 64, 0)
    else let r := floatSum t rm xs; roundVal .f32 rm r.1 r.2
  else
    let z := match xs with
      | [] => redIdentity sel t
      | _ => xs.foldl (redStep sel t) (redIdentity sel t)
    let z := if (sel = 1 ∨ sel = 2) ∧ t.isF ∧ xs ≠ [] then
        -- both NaN gives NaN: a NaN result only when every lane is NaN (02 R35)
        (if xs.all (fun x => fdec t x == .nan) then t.nan else z) else z
    (if (sel = 1 ∨ sel = 2) ∧ t.signed then wrapNat (sextNat z t.width) 64 else z, 0)

/-- Prefix result of VSCAN, in TY (07 R153). -/
def scanValue (sel : Nat) (t : Ty) (rm : RMode) (xs : List Nat) : Nat × BitVec 6 :=
  if sel = 0 then
    if t.isInt then (wrapNat (xs.foldl (fun z x => z + intOf t x) (0 : Int)) t.width, 0)
    else let r := floatSum t rm xs; roundVal t rm r.1 r.2
  else
    let r := redValue sel t rm xs
    (r.1 % 2 ^ t.width, r.2)

/-- VRED (07 R152, R153). -/
def vredBody : RegBody := fun _ c s => do
  let t := chainTy c
  let w := t.width
  let n := 4096 / w
  let d := s.reg .scalar c.a.toNat
  let a := s.reg .vector c.b.toNat
  s.checkUses { all := [d, a], src := a :: s.maskReg c, dst := [d] }
  let x := s.readUe a w
  let m := s.lmaskBits c
  let xs := ((List.range n).filter (fun i => m.testBit i)).map (fun i => elem x.1 i w)
  let z := redValue c.c.toNat t (chainRm c) xs
  .ok { writes := scalarResult s c.a.toNat z.1, flags := z.2, ue := activeEvents m x.2 ++ s.lmaskUe c n }

/-- VSCAN (07 R152, R153). -/
def vscanBody : RegBody := fun _ c s => do
  let t := chainTy c
  let w := t.width
  let n := 4096 / w
  let d := s.reg .vector c.a.toNat
  let a := s.reg .vector c.b.toNat
  s.checkUses { all := [d, a], src := a :: s.maskReg c, dst := [d] }
  let x := s.readUe a w
  let m := s.lmaskBits c
  let excl := c.c.toNat.testBit 3
  let z := laneMap n w m (fun i =>
    let xs := ((List.range (if excl then i else i + 1)).filter (fun j => m.testBit j)).map (fun j => elem x.1 j w)
    scanValue (c.c.toNat % 8) t (chainRm c) xs)
  .ok { writes := vectorResult s c.a.toNat z.1 (laneBits n w m.testBit), flags := z.2, ue := activeEvents m x.2 ++ s.lmaskUe c n }

/-- VCLMUL, VCLMULH, VPOPC, VCLZ (07 R154). -/
def vclmulBody : RegBody := vecOp true false (fun t _ p r _ => (clmulN t.width p r, 0))
def vclmulhBody : RegBody := vecOp true false (fun t _ p r _ => (clmulN t.width p r / 2 ^ t.width, 0))
def vpopcBody : RegBody := vecOp false false (fun t _ p _ _ => (popN t.width p, 0))
def vclzBody : RegBody := vecOp false false (fun t _ p _ _ => (t.width - sigBits p, 0))

/-- The effect of an instruction of the divide unit or the SFU: the same result, later. -/
def delayed (latency : Nat) (sfu : Bool) (b : RegBody) : RegBody := fun p c s => do
  let e ← b p c s
  .ok { e with latency := latency, sfu := if sfu then some (if chainL0 c then 1 else 4) else none }

/-- VDIV and VSQRT (07 R155 to R157). -/
def vdivBody : RegBody := delayed 5 false (vecOp true false (fun t rm p r _ => fdiv t rm (fdec t p) (fdec t r)))
def vsqrtBody : RegBody := delayed 5 false (vecOp false false (fun t rm p _ _ => fsqrt t rm (fdec t p)))

/-- An SFU instruction (07 R155, R156, R158). -/
def sfuBody (fn : SfuFn) : RegBody := delayed 4 true (vecOp false false (fun t rm p _ _ => sfuFn fn t rm p))

end Sys2Proof.Machine
end

