-- ==== Sys2Proof/Machine/State.lean ====
section
/-!
DEFINITION. The state of the die, its value after reset, and the ways a step can stop.
-/

namespace Sys2Proof.Machine

/-- What a message asks of the unit it travels to. -/
inductive MsgOp where
  /-- A load of pieces of memory, deposited with others of the same instruction; `cached` marks a read through the L1
  with its line, leaf flag W, and issue order. -/
  | load (pieces : List Piece) (fill : Option Bool)
  /-- A store of pieces. -/
  | store (pieces : List Piece) (data : Nat)
  /-- An atomic of `w` bytes. -/
  | amo (op : AmoOp) (w : Nat) (operand : Nat)
  | vname (n r : Nat)
  | vopen (h : Word) (desc cnt : Word) (acc : Bool) (op : Nat) (replay : Bool)
  | vstore (h : Word) (off size : Nat) (data : Nat) (replay : Bool)
  /-- An engine's seal may be POISONED, and carries the flags of its task (13 R267, R276). -/
  | vseal (h : Word) (replay poison : Bool) (flags : Nat)
  | vacc (h : Word) (j w : Nat) (data : Nat) (replay : Bool)
  | vload (h : Word) (l : VLoad) (loff : Nat)
  | vprobe (h : Word)
  | vref (h : Word) (n : Nat) (replay : Bool)
  | vrel (h : Word) (n : Nat) (replay : Bool)
  /-- The decrement of a consuming load served by a proxy (10 R212), or of an engine's read. -/
  | vconsume (h : Word)
  /-- A pool entry's waiter (12 R243), or a launch's (16 R319). -/
  | vwait (h : Word) (w : WaitWho)
  | task (record : Nat)
  | next (nw : Bool)
  | push (pa : Nat) (v : Word)
  /-- `pope` sets a POPE apart from a load. -/
  | pop (pa : Nat) (nw pope : Bool)
  | packet (target header : Word) (words : List Word)
  /-- The image that SEND.lb takes from a core's spill heap (12 R258). -/
  | heapRead (core : Nat)
  /-- That image once another agent has sent it, while no inbox entry is free for it. -/
  | heapHeld (core : Nat) (image : Nat)
  | reserve (kid seg live : Nat) (target : Word) (link : List RegWrite) (ue : List UeEvent)
  | startNotice (kid seg core ctx place : Nat)
  /-- A barrier request: 0 BARI, 1 BARI.clr, 2 BARA, 3 BARW, 4 BARQ, 5 BARX; operands; the slot's group and member. -/
  | barrier (op : Nat) (h a m : Word) (group member : Nat)
  /-- An access to a core's exchange bank: 0 RLD, 1 RST, 2 RAMO (19 R392). -/
  | remote (kind : Nat) (x : Word) (off wd : Nat) (op : AmoOp) (data : Nat)
  | mcst (pa : Nat) (data : Nat) (agents : List Nat)
  | gett (agent : Nat)
  | tlbi (scope : Nat) (va : Word) (ctx : Nat)
  /-- A STEAL of a context's class, answered by one GRANT (17 R344). -/
  | steal (pulled : Bool)
  /-- A VNOTICE that awaits its acknowledgement; RECLAIM when the flag is set (19 R384). -/
  | notice (h : Word) (agent : Nat) (reclaim : Bool)
  /-- A VFETCH or VSUB of the die's proxy. -/
  | proxy (h : Word) (fetch : Bool)
  /-- A TASKPOST report of a group's exit, made when the group's stores are performed (16 R326). -/
  | report (p : Packet)
  /-- A mirror update to the deputy, and the deal that waits for its acknowledgement (16 R323). -/
  | mirror (l : Nat) (p : Packet) (deal : Option Packet)
  /-- A query of a deputy that has become the leader (16 R324). -/
  | query (l : Nat) (p : Packet)
  /-- A store or atomic of another die to a REPLICATED page, performed here: its packet, the WRITE for each replica, and
  the response that follows the last one's acknowledgement (08 R168). -/
  | relay (p w response : Packet)
  deriving DecidableEq, Repr

/-- A request on its way to the unit that performs it. -/
structure Msg where
  /-- Issuing slot; none for the die's own units. -/
  sid : Option Nat
  ctx : Nat
  user : Bool
  op : MsgOp
  /-- Physical address, or the number by which its home is found. -/
  pa : Nat
  /-- Requests that must be done before this one is performed (11 R222, R223; 09 R186). -/
  after : List Nat
  /-- Deposit that receives the answer. -/
  dep : Option Nat
  /-- An ordered access (11 R221 item 2), a store or atomic, fabric scope. -/
  ordered : Bool := false
  isStore : Bool := false
  isLoad : Bool := false
  fab : Bool := false
  /-- A release: REL of its packet (19 R379). -/
  rel : Bool := false
  /-- It waits at the request port of its core (18 R366). -/
  port : Option PortWait := none
  /-- PROP and REPLICATED of the leaf that translated it (08 R167, R168). -/
  prop : Bool := false
  replicated : Bool := false
  /-- Sent to another agent; its answer is awaited. -/
  sent : Bool := false
  /-- Agents whose answers are awaited. -/
  dsts : List Nat := []
  /-- Physical line bases whose reads are held until the replicas are written (08 R168 item 4). -/
  held : List Nat := []
  epc : Word := 0
  /-- Held in a pair buffer (21 R408). -/
  buffered : Bool := false
  replay : Bool := false
  /-- The slot is STALLED until the answer. -/
  stalls : Bool := false
  /-- Cycle of the re-send after NACK RETRY (19 R382). -/
  retryAt : Option Nat := none
  /-- Answer that has not yet reached the requester: 0 for success (ACKNOWLEDGEMENT). -/
  answer : Option Nat := none
  /-- k.tval of a REMOTE_NACK. -/
  nackVal : Word := 0
  /-- Lane of the instruction, for the lowest refused one (06 R135 item 7). -/
  lane : Nat := 0
  /-- First virtual address that the request was translated from, and its page: the first page number of 4 KiB and how
  many (08 R172). -/
  va : Nat := 0
  page : Nat × Nat := (0, 0)
  /-- Bytes of the access at its home, where the request goes to a replica (11 R221 item 4, R222). -/
  locs : List (Nat × Nat) := []
  /-- A vector access (06 R135 item 5). -/
  vec : Bool := false
  /-- Its data are not installed in the L1 (09 R175). -/
  noFill : Bool := false
  /-- Performed at die scope (09 R185). -/
  dieDone : Bool := false
  /-- A push at another agent's port that a save has asked to be withdrawn (13 R281). -/
  withdrawn : Bool := false
  deriving DecidableEq, Repr

/-- A destination that a reply will fill (04 R88). -/
structure Dep where
  /-- Slot, or saved image (`savedBase` + its order number, 18 R363). -/
  sid : Nat
  dst : Loc
  len : Nat
  /-- Bits of the destination that the reply writes. -/
  mask : Nat
  value : Nat := 0
  /-- Messages still to be answered. -/
  outstanding : Nat := 1
  /-- A load for releases and fences (09 R186, R193). -/
  isLoad : Bool := false
  /-- Lowest lane answered with a negative acknowledgement, and the value for k.tval. -/
  nack : Option (Nat × Nat) := none
  /-- Late fault that came in place of the value. -/
  fault : Option LateFault := none
  ue : List UeEvent := []
  idem : Bool := true
  acq : Bool := false
  /-- Sign extension of a scalar load: width in bits. -/
  sx : Option Nat := none
  /-- The requests as first sent, for a re-issue (18 R363), and what the L1 had served of the value. -/
  sent : List Msg := []
  base : Nat := 0
  /-- Registers of a pulled task that come with the handle: record and handle. -/
  task : Option (Nat × Word) := none
  done : Bool := false
  flags : BitVec 6 := 0
  deriving DecidableEq, Repr

/-- A saved slot: where its image lies and what only the die reads (18 R359 to R364).  Requests and deposits of the
slot carry the number `savedBase + order` in place of a slot's. -/
structure Saved where
  sid : Nat
  ctx : Nat
  order : Nat
  /-- The slot as it was saved: used for what the image words 22 to 31 stand for. -/
  slot : Slot
  /-- Core and first granule of the image in a save area, or none for the save region. -/
  place : Option (Nat × Nat) := none
  size : Nat
  /-- Deposit list: requests in order. -/
  deps : List Nat
  /-- Words 22 to 31 and the second words of deposit entries, as the die wrote them. -/
  drawn : Nat
  /-- Rotations by which the SFU queue had lengthened the slot's stall. -/
  extra : Nat := 0
  /-- The image has been written; writes of it at other agents that are on their way. -/
  written : Bool := false
  writes : List Nat := []
  /-- Deposits whose reply was dropped, to be re-issued at restore (R363 item 3). -/
  lost : KMap Dep := []
  /-- Address of the SFU instruction whose result was dropped (07 R159 item 2). -/
  back : Option Word := none
  /-- The image as a restore has read it. -/
  image : Option Nat := none
  deriving DecidableEq, Repr

/-- Who asked for a walk, at which address and for what KIND of access (08 R170, R171). -/
inductive Walker where
  | slot (sid va kind : Nat)
  | engine (src va kind : Nat)
  deriving DecidableEq, Repr

/-- A page-table walk in flight (08 R170). -/
structure Walk where
  who : List Walker
  ctx : Nat
  vpn : Nat
  va : Nat
  /-- A TLBI was performed after the walk began: its result is not kept (08 R172). -/
  stale : Bool := false
  /-- Table entries read at other agents, by address, and the read that is on its way. -/
  got : KMap Word := []
  asked : Option Nat := none
  deriving DecidableEq, Repr

/-- A cached translation (08 R169): context, first page number, pages covered, leaf. -/
structure TlbEntry where
  ctx : Nat
  vpn : Nat
  pages : Nat
  leaf : Word
  deriving DecidableEq, Repr

/-- An entry of the walk cache (08 R169): its context, level, the address bits that select it, and the table entry. -/
structure WEntry where
  ctx : Nat
  level : Nat
  at' : Nat
  e : Word
  deriving DecidableEq, Repr

/-- A record of the fault queue (08 R171). -/
structure FqRec where
  va : Word
  src : Nat
  ctx : Nat
  code : Nat
  kind : Nat
  deriving DecidableEq, Repr

/-- A pair of cores in pair mode (21 R406 to R409), kept with its leader: fingerprints of leader and checker,
instructions retired and messages held since the last checkpoint, and that checkpoint. -/
structure PairState where
  fpA : Nat := 0
  fpB : Nat := 0
  count : Nat := 0
  buffer : List Nat := []
  /-- A comparison is in progress. -/
  comparing : Bool := false
  /-- The interval is being re-run after a mismatch. -/
  rerun : Bool := false
  /-- The state at the checkpoint: slots, local memory, SFU queue, and the first request number after it. -/
  slots : KMap Slot := []
  loc : Memory := []
  sfu : List SfuEntry := []
  mark : Nat := 0
  /-- Deposits made since the checkpoint for requests from before it. -/
  redo : List (Nat × Dep) := []
  deriving DecidableEq, Repr

/-- What a core holds beside its slots. -/
structure CoreSt where
  loc : Memory := []
  ueLoc : List Nat := []
  /-- Contexts whose last active slot has left the core since its scratchpad and banks were last zeroed (09 R184). -/
  left : List Nat := []
  l1 : List L1Line := []
  sfu : List SfuEntry := []
  /-- First cycle in which the SFU can start another request. -/
  sfuFree : Nat := 0
  inbox : List InboxEntry := []
  /-- Head and tail of the spill heap of each context, in packets (12 R258). -/
  heap : KMap (Nat × Nat) := []
  spillReason : Nat := 0
  gran : Nat := 128
  shad : Nat := 0
  save : Nat := 64
  xtop : Nat := 64
  /-- LCORE_TABLE of the logical core of this number: V and physical core (16 R312). -/
  tabV : Bool := true
  tabPhys : Nat := 0
  /-- Save-area granules in use: first granule and length (18 R361). -/
  areas : List (Nat × Nat) := []
  matrix : Option MxTask := none
  nextMatrix : Option MxTask := none
  pair : PairState := {}
  /-- The request port (18 R366): tokens of each context, contexts that have sent in this period, cycle from which the port
  is free, and the context that sent last. -/
  tokens : KMap Nat := []
  active : List Nat := []
  portFree : Nat := 0
  portLast : Nat := 15
  deriving DecidableEq, Repr

/-- Packets that leave for a link, and what else goes to other agents (19 R379). -/
inductive OutItem where
  | packet (p : Packet)
  /-- A queue packet for a core of another die (12 R255). -/
  | message (agent : Nat) (rid : Nat) (target header : Word) (words : List Word)
  /-- A DISCOVER record sent through a module (19 R388). -/
  | discover (m : Nat) (r : DiscoverRec)
  /-- A flit sent only to answer one (19 R377). -/
  | flit (m : Nat) (f : Flit)
  /-- Completion of a host read, or Unsupported Request status (19 R370, R371). -/
  | hostReply (data : Option (List Byte))
  deriving DecidableEq, Repr

/-- W1C bits that an event can set in a cycle before a write that clears them (00 R5). -/
inductive Sticky where
  | poolFull | poolBad | launchLost | launchBad | launchFull | versionFull | monOvf
  | ctxBad (ctx : Nat)
  deriving DecidableEq, Repr

/-- The order of steps (model's own, log 1). -/
structure Order where
  /-- Steps that have been started, and what has arrived at the die. -/
  agenda : List Instr := []
  cur : Nat := 0
  /-- Core from which the issue of this cycle goes on. -/
  scan : Nat := 0
  /-- Class of events that the cycle is at, counted from 1; 0 while slots issue. -/
  mscan : Nat := 0
  /-- Events of that class that have had their turn. -/
  mdone : List Nat := []
  /-- W1C bits set in this cycle. -/
  sets : List Sticky := []
  nextId : Nat := 0
  fresh : Nat := 0
  irqs : List Nat := []
  outbox : List OutItem := []
  deriving DecidableEq, Repr

/-- Time (04 R82, 19 R386). -/
structure Clock where
  cycle : Nat := 0
  time : Nat := 0
  /-- Fifths of a nanosecond not yet counted; the slew still to be made, and the ticks since its last nanosecond. -/
  timeFrac : Int := 0
  slew : Int := 0
  slewTicks : Nat := 0
  /-- The time base is still to be set to the master's (19 R386 item 3). -/
  setDue : Bool := false
  deriving DecidableEq, Repr

/-- Identification (01 R21, R22; 19 R389). -/
structure Ident where
  stepId : Nat := 0
  agv : Bool := false
  agent : Nat := 0
  memGib : Nat := 0
  uid : Word := 0
  deriving DecidableEq, Repr

/-- Paging (08). -/
structure Paging where
  /-- The TLBs (R169): of core c under number c, of grotto g under 144 + g, of slice k under 180 + k. -/
  tlb : KMap (List TlbEntry) := []
  wcache : List WEntry := []
  walks : KMap Walk := []
  fq : List FqRec := []
  fqVec : Nat := 0
  fqOvf : Bool := false
  /-- Records of slots' faults of this cycle, which enter after the cycle's removals (R171). -/
  fqNew : List FqRec := []
  /-- Records that wait for room in the queue, and requests held for replay: source and address. -/
  fqWait : List FqRec := []
  fqHeld : List FqRec := []
  /-- Reads of the die's own units at other agents: source, physical address, deposit. -/
  engReads : List (Nat × Nat × Nat) := []
  /-- Pages walked for a unit's request that is still being made: source and translation. -/
  unitTlb : List (Nat × TlbEntry) := []
  deriving DecidableEq, Repr

/-- Slices and versions (09 R178 to R180, 10; 21 R414, R415). -/
structure Store where
  live : Word := 0xFFFFFFFFFFFFFFFF
  splitBusy : Bool := false
  vways : Nat := 4
  splitTo : Nat := 4
  vxBase : Nat := 0
  vxSize : Nat := 0
  vFull : Bool := false
  /-- Requests that are held for room, by context and handle; context 16 is a lowering of the ways (10 R202). -/
  vHeld : List (Nat × Word) := []
  vVec : Nat := 0
  orphan : Nat := 0
  versions : List Version := []
  vgens : KMap Nat := []
  proxies : List ProxyCopy := []
  names : KMap Nat := []
  wayErrs : KMap Nat := []
  waysOff : List (Nat × Nat × Nat) := []
  deriving DecidableEq, Repr

/-- Pool (12). -/
structure Pool where
  pool : KMap PoolEntry := []
  pgens : KMap Nat := []
  spans : List ReadySpan := []
  rotation : Nat := 0
  /-- Requests of waiting NEXTs, oldest first (R249). -/
  nexts : List Nat := []
  keyWin : Nat := 0x400
  poolFull : Bool := false
  poolBad : Bool := false
  poolVec : Nat := 0
  poolDrop : Nat := 0
  rsv : Bool := true
  lastCtx : Nat := 15
  deriving DecidableEq, Repr

/-- Engines (13). -/
structure Engines where
  channels : KMap Channel := []
  fifos : KMap EFifo := []
  elog : List ELog := []
  elogVec : Nat := 0
  elogOvf : Bool := false
  deriving DecidableEq, Repr

/-- Kernels and passage (14, 15). -/
structure Kernels where
  kernels : List Kernel := []
  ksrc : Word := 0
  kdva : Word := 0
  kvec : Nat := 0
  kbusy : Bool := false
  kresult : Nat := 0
  kcmd : Word := 0
  /-- LCORE_KSRC and LCORE_KDVA as the command in progress found them. -/
  csrc : Word := 0
  cdva : Word := 0
  /-- Writes of a load's data part at other agents, once it has been made. -/
  cwrites : Option (List Nat) := none
  transfers : KMap Transfer := []
  /-- Arrivals a lead core counts: kernel, segment, core. -/
  arrCounts : List (Nat × Nat × Nat) := []
  /-- Ring places in use: context, core, place. -/
  rings : List (Nat × Nat × Nat) := []
  accepts : Nat := 0
  deriving DecidableEq, Repr

/-- Groups and launches (16). -/
structure Groups where
  groups : KMap Group := []
  launches : KMap Launch := []
  /-- Mirrors that this die holds as deputy: leader, index there, launch (16 R323). -/
  mirrors : List (Nat × Nat × Launch) := []
  /-- Posts whose record is being read: value written and context. -/
  posts : KMap (Word × Nat) := []
  deals : KMap Deal := []
  parts : List Part := []
  /-- Launches whose leader has been replaced: its late deals are discarded (16 R324). -/
  replaced : List (Nat × Nat) := []
  /-- Context whose launch took the last round (16 R321). -/
  lastRound : Nat := 15
  lvec : Nat := 0
  llost : Bool := false
  lbad : Bool := false
  lfull : Bool := false
  deriving DecidableEq, Repr

/-- Barriers (17). -/
structure Barriers where
  barriers : KMap Barrier := []
  dieBars : KMap Barrier := []
  echoThresh : Nat := 0x2710
  echoMaxT : Nat := 1
  echoCtx : Nat := 0
  stealCnt : List Nat := [0, 0, 0]
  /-- Echo records 0 to 6. -/
  echo : KMap EchoRec := []
  /-- Straggler view of each context (R343), as a mask of list positions. -/
  views : KMap Nat := []
  deriving DecidableEq, Repr

/-- Contexts and quality of service (18). -/
structure Contexts where
  ctxs : KMap Context := []
  saved : List Saved := []
  saveOrder : Nat := 0
  /-- BUILDs whose record is being read at another agent: context, physical address, deposit. -/
  builds : List (Nat × Nat × Nat) := []
  shares : KMap Nat := []
  portCap : Nat := 65536
  deriving DecidableEq, Repr

/-- Host and links (19). -/
structure Links where
  hwbase : Word := 0
  hctx : Nat := 0
  links : KMap Link := []
  /-- DIE_TOPOn by agent (19 R389). -/
  topo : KMap Word := []
  topoGen : Nat := 0
  topoDone : Bool := false
  topoMaster : Nat := 0
  /-- When each agent was last heard (19 R387). -/
  heard : KMap Nat := []
  records : List DiscoverRec := []
  recordAt : Nat := 0
  /-- UIDs of the agents, and the modules that lie on a shortest path to each (19 R383, R388). -/
  uids : KMap Word := []
  paths : KMap (List Nat) := []
  /-- Host writes on their way to other agents: agent and deposit; host reads at other agents: BAR, offset, size, deposit
  (19 R370, R371). -/
  hostWrites : List (Nat × Nat) := []
  /-- Host writes to this die that wait for those before them: BAR, offset and bytes (11 R232 item 5, 19 R371). -/
  hostHeld : List (Nat × Nat × List Byte) := []
  /-- Requests of other agents that wait at this die, oldest first: for a line, a port, room, or accesses under way. -/
  pktHeld : List Packet := []
  /-- Queue packets of other dies that wait for an inbox entry: core, header, words (12 R257). -/
  inHeld : List (Nat × Word × List Word) := []
  hostReads : List (Nat × Nat × Nat × Nat) := []
  deriving DecidableEq, Repr

/-- Zones (20). -/
structure Zones where
  zones : KMap Zone := []
  scheds : KMap Sched := []
  zshares : KMap Nat := []
  tjShut : Nat := 125
  tjHi : Nat := 105
  zvec : Nat := 0
  zlast : Nat := 0
  zvoid : Bool := false
  zflow : Bool := false
  ztherm : Bool := false
  deriving DecidableEq, Repr

/-- Pairs, regions, health (21). -/
structure Health where
  pairCtx : KMap (Nat × Bool) := []
  pairStat : Nat := 0
  regions : KMap Region := []
  /-- Grottos fenced with their zone (20 R397), and the requests that were in flight out of a region when it was fenced. -/
  fenced : List Nat := []
  drain : KMap (List Nat) := []
  mons : KMap Monitor := []
  watches : KMap (List Word) := []
  mlog : List (Word × Word) := []
  /-- Records that enter the event log after the removals of their cycle. -/
  mlogNew : List (Word × Word) := []
  mlogVec : Nat := 0
  mlogOvf : Bool := false
  lifeIdx : Nat := 0
  life : KMap Nat := []
  /-- Time base up to which minutes are counted, and minutes of the hour begun (21 R419). -/
  lifeAt : Nat := 0
  lifeMins : Nat := 0
  harvest : List Word := [0, 0, 0]
  deriving DecidableEq, Repr

/-- Bring-up (22). -/
structure Boot where
  svn : Nat := 0
  arb : Nat := 0
  copyB : Bool := false
  bfail : Bool := false
  bcode : Nat := 0
  bstep : Nat := 1
  bstepAt : Nat := 0
  attBuf : Word := 0
  attErr : Bool := false
  attBusy : Bool := false
  nonce : List Byte := []
  /-- The write of a report at another agent. -/
  attWrite : Option Nat := none
  deriving DecidableEq, Repr

/-- The die. -/
structure State where
  o : Order := {}
  t : Clock := {}
  idn : Ident := {}
  slots : KMap Slot := []
  cores : KMap CoreSt := []
  mem : Memory := []
  ueMem : List Nat := []
  msgs : KMap Msg := []
  deps : KMap Dep := []
  pg : Paging := {}
  vs : Store := {}
  pl : Pool := {}
  en : Engines := {}
  kn : Kernels := {}
  gr : Groups := {}
  br : Barriers := {}
  cx : Contexts := {}
  lk : Links := {}
  zn : Zones := {}
  hl : Health := {}
  bt : Boot := {}
  deriving DecidableEq, Repr

/-- Reasons for a step to stop with a fault.  No step of this model stops with a fault: what goes wrong on the die is a
trap, a negative acknowledgement, a register bit or an event without effect (00 R6). -/
inductive Fault where
  /-- Raised by no step: kept so that the type is inhabited.  Safe. -/
  | none
  deriving DecidableEq, Repr

/-- Reasons for a step to be refused. -/
inductive Refusal where
  /-- Raised by an arm of `exec` whose instruction has no meaning yet.  Safe. -/
  | notModelled (mnemonic : String)
  deriving DecidableEq, Repr

/-- The die right after reset (00 to 22; log 4 to log 7 for what the spec does not give). -/
def State.reset : State := {}

end Sys2Proof.Machine
end

