-- ==== Sys2Proof/Machine/Ops.lean ====
section
/-!
DEFINITION. The named operations over memory, slots, cores, requests and their answers.
-/

namespace Sys2Proof.Machine

/-! ### Memory -/

/-- One byte of memory; an address that is not listed reads as 0 (log 4). -/
def Memory.read (m : Memory) (a : Nat) : Byte := kgetD m a 0

/-- `n` bytes from `a` on, as a little-endian number. -/
def Memory.readN (m : Memory) (a : Nat) : Nat → Nat
  | 0 => 0
  | n + 1 => (m.read a).toNat + 256 * Memory.readN m (a + 1) n

/-- The cells of bytes at `a`: those that are not 0. -/
def cellsOf (a : Nat) : List Byte → Memory
  | [] => []
  | b :: bs => if b = 0 then cellsOf (a + 1) bs else (a, b) :: cellsOf (a + 1) bs

/-- Memory with bytes written from `a` on. -/
def Memory.write (m : Memory) (a : Nat) (bs : List Byte) : Memory :=
  m.filter (fun p => decide (p.1 < a)) ++ cellsOf a bs ++ m.filter (fun p => decide (a + bs.length ≤ p.1))

/-- The canonical form: addresses strictly rising and no byte equal to what an unlisted address reads as. -/
def Memory.wf (m : Memory) : Bool := ksorted m && m.all (fun p => p.2 != 0)

/-- Marks of uncorrectable bytes after a write of `n` bytes at `a`. -/
def unmark (m : List Nat) (a n : Nat) : List Nat :=
  if m = [] then [] else m.filter (fun b => decide (b < a) || decide (a + n ≤ b))

/-- A byte range holds an uncorrectable byte. -/
def marked (m : List Nat) (a n : Nat) : Bool := m.any (fun b => decide (a ≤ b) && decide (b < a + n))

/-- HBM4 of the die's own window written at offset `a`. -/
def State.memWrite (s : State) (a : Nat) (bs : List Byte) : State :=
  { s with mem := s.mem.write a bs, ueMem := unmark s.ueMem a bs.length }

/-! ### Slots and cores -/

/-- Number of a slot. -/
def sidOf (core slot : Nat) : Nat := core * 16 + slot

/-- A core's state. -/
def State.core (s : State) (c : Nat) : CoreSt := (kget s.cores c).getD { tabPhys := c }

/-- A core's state replaced. -/
def State.setCore (s : State) (c : Nat) (k : CoreSt) : State := { s with cores := kset s.cores c k }

/-- A core's state changed. -/
def State.modCore (s : State) (c : Nat) (f : CoreSt → CoreSt) : State := s.setCore c (f (s.core c))

/-- An active slot that is not SAVED. -/
def State.slot (s : State) (sid : Nat) : Option Slot := kget s.slots sid

/-- A slot replaced. -/
def State.setSlot (s : State) (sid : Nat) (x : Slot) : State := { s with slots := kset s.slots sid x }

/-- A slot changed, if it is active. -/
def State.modSlot (s : State) (sid : Nat) (f : Slot → Slot) : State := { s with slots := kmod s.slots sid f }

/-- Bytes of local memory written. -/
def State.locWrite (s : State) (c a : Nat) (bs : List Byte) : State :=
  s.modCore c (fun k => { k with loc := k.loc.write a bs, ueLoc := unmark k.ueLoc a bs.length })

/-- A physical core is fused off or out of range (16 R310). -/
def State.fused (s : State) (c : Nat) : Bool :=
  decide (144 ≤ c) || ((s.hl.harvest[c / 64]?.getD 0).toNat.testBit (c % 64))

/-- The next request number. -/
def State.newId (s : State) : Nat × State := (s.o.nextId, { s with o := { s.o with nextId := s.o.nextId + 1 } })

/-- A post of a launch taken up, with the address of its record and its context: it stays pending until the record has been
read (16 R317). -/
def State.putPost (s : State) (v : Word) (ctx : Nat) : State :=
  let (n, s) := s.newId
  { s with gr := { s.gr with posts := kset s.gr.posts n (v, ctx) } }

/-- A free choice (log 3). -/
def State.draw (s : State) : Nat × State := (Config.free s.o.fresh, { s with o := { s.o with fresh := s.o.fresh + 1 } })

/-- An MSI-X vector sent to the host (19 R371). -/
def State.irq (s : State) (v : Nat) : State := { s with o := { s.o with irqs := s.o.irqs ++ [v] } }

/-- A W1C bit has been set in this cycle: a write that clears it is lost (00 R5). -/
def State.sticky (s : State) (b : Sticky) : State :=
  if s.o.sets.contains b then s else { s with o := { s.o with sets := b :: s.o.sets } }

/-- A message put on its way under number `r`. -/
def State.post (s : State) (r : Nat) (m : Msg) : State := { s with msgs := kset s.msgs r m }

/-- A message that is done. -/
def State.unpost (s : State) (r : Nat) : State := { s with msgs := kdel s.msgs r }

/-- The die's own agent number as fields name it: before discovery every number names the die itself (01 R16). -/
def State.isOwn (s : State) (agent : Nat) : Bool := !s.idn.agv || agent == s.idn.agent

/-- Number of an agent as the die's own requests carry it. -/
def State.ownAgent (s : State) : Nat := if s.idn.agv then s.idn.agent else 0

/-- DIE_TOPOn (19 R389). -/
def State.topo (s : State) (agent : Nat) : Nat := (kgetD s.lk.topo agent 0).toNat

/-- An agent has an ID (19 R389). -/
def State.agentKnown (s : State) (agent : Nat) : Bool := (s.topo agent).testBit 63

/-- An agent is known and neither FENCED nor DOWN (19 R387). -/
def State.agentUp (s : State) (agent : Nat) : Bool := s.agentKnown agent && bitsOf 60 59 (s.topo agent) == 0

/-- An agent of role COMPUTE, whose window is laid out as 01 R17 gives. -/
def State.isCompute (s : State) (agent : Nat) : Bool :=
  s.isOwn agent || (s.agentKnown agent && bitsOf 62 61 (s.topo agent) == 0)

/-! ### Packets that leave (19 R378, R379, R383) -/

/-- Argument beats of a packet: the enables of a WRITE, one bit a byte or nibble; the operands of an ATOMIC; one beat for
what else carries fields (log 27). -/
def argBeats (p : Packet) : Nat :=
  if p.typ = 0x02 then max 1 (ceilDiv (2 ^ p.lsz * (if p.nibbles then 2 else 1)) 128)
  else if p.typ = 0x03 then (if p.op % 256 = 9 ∧ p.space = 0 then 2 else 1)
  else if p.typ = 0x04 ∨ p.typ = 0x05 ∨ p.typ = 0x07 ∨ p.typ = 0x08 ∨ p.typ = 0x0A ∨ p.typ = 0x0B ∨ p.typ = 0x0D then 1
  else 0

/-- Beats of a packet. -/
def packetBeats (p : Packet) : Nat := 1 + argBeats p + ceilDiv p.data.length 16

/-- A link; DOWN at reset (19 R373). -/
def State.link (s : State) (m : Nat) : Link := kgetD s.lk.links m {}

/-- A link changed. -/
def State.modLink (s : State) (m : Nat) (f : Link → Link) : State :=
  { s with lk := { s.lk with links := kset s.lk.links m (f (s.link m)) } }

/-- Modules on a shortest path to an agent that are neither FENCED nor DOWN. -/
def State.modulesTo (s : State) (agent : Nat) : List Nat :=
  (kgetD s.lk.paths agent []).filter (fun m => (s.link m).state != .fenced && (s.link m).state != .down)

/-- The module a packet leaves on: any on a shortest path (19 R383 item 2), else the first hop that DIE_TOPO gives. -/
def State.route (s : State) (agent : Nat) : Nat × State :=
  match s.modulesTo agent with
  | [] => (bitsOf 58 56 (s.topo agent), s)
  | [m] => (m, s)
  | m :: ms => let (f, s) := s.draw; (((m :: ms)[f % (ms.length + 1)]?).getD m, s)

/-- A packet queued at a module. -/
def State.toLink (s : State) (m : Nat) (p : Packet) : State := s.modLink m (fun l => { l with queue := l.queue ++ [p] })

/-- Something that leaves the die: a packet queues at a module. -/
def State.out (s : State) (x : OutItem) : State :=
  match x with
  | .packet p => let r := s.route p.dst; r.2.toLink r.1 p
  | x => { s with o := { s.o with outbox := s.o.outbox ++ [x] } }

/-! ### What is heard from other agents (19 R383, R387) -/

/-- An agent from which a packet has come, and the module on the way to it. -/
def State.hear (s : State) (agent : Nat) : State :=
  let now := s.t.time % 2 ^ 64
  let s := { s with lk := { s.lk with heard := kset s.lk.heard agent now } }
  s.modLink (bitsOf 58 56 (s.topo agent)) (fun l => { l with lastUse := now })

/-- A packet that passes through this die. -/
def State.transit (s : State) (p : Packet) : Bool := s.idn.agv && p.dst != s.idn.agent && p.src != s.idn.agent

/-- A packet that arrives: sent on, or acted upon. -/
def State.packetIn (s : State) (p : Packet) (f : State → State) : State :=
  if p.src == s.ownAgent && s.idn.agv then f s
  else if s.transit p then (s.hear p.src).out (.packet p)
  else f (s.hear p.src)

/-- The same for a step of its own. -/
def State.packetStep (s : State) (p : Packet) (f : State → Host.Outcome State Fault Refusal) : Host.Outcome State Fault Refusal :=
  if p.src == s.ownAgent && s.idn.agv then f s
  else if s.transit p then .next ((s.hear p.src).out (.packet p))
  else f (s.hear p.src)

/-- A context's record and state. -/
def State.ctx (s : State) (c : Nat) : Context := kgetD s.cx.ctxs c {}

/-- A context changed. -/
def State.modCtx (s : State) (c : Nat) (f : Context → Context) : State :=
  { s with cx := { s.cx with ctxs := kset s.cx.ctxs c (f (s.ctx c)) } }

/-- A context counts as admitted (18 R350). -/
def CState.admitted' : CState → Bool
  | .admitted => true
  | .resident => true
  | .draining => true
  | .saved => true
  | _ => false

/-- The kernel of an identifier that is on the die for a context. -/
def State.kernel (s : State) (kid : Nat) : Option Kernel := s.kn.kernels.find? (fun k => k.kid == kid)

/-- A kernel that is SEALED for a context (12 R239 item 4). -/
def State.sealedFor (s : State) (kid ctx : Nat) : Option Kernel :=
  s.kn.kernels.find? (fun k => k.kid == kid && k.ctx == ctx && k.state == .sealed)

/-- A kernel of a context whose code is on the die: SEALED or UNLOADING (14 R290). -/
def State.loadedFor (s : State) (kid ctx : Nat) : Option Kernel :=
  s.kn.kernels.find? (fun k => k.kid == kid && k.ctx == ctx && k.state != .loading)

/-- A kernel holds a range of a core's instruction store (14 R284, R285). -/
def Kernel.holdsCore (k : Kernel) (c : Nat) : Bool := !k.pass || k.segments.any (fun g => g.cores.contains c)

/-- Local offset of the first byte that is not instruction store (14 R285, R286). -/
def CoreSt.xbound (k : CoreSt) : Nat := 4096 * k.xtop

/-- LTOP of 09 R181. -/
def CoreSt.ltop (k : CoreSt) : Nat := 0x100000 - 4096 * (k.save + k.shad)

/-- Code range of a kernel (14 R285): first offset and first beyond. -/
def Kernel.range (k : Kernel) : Nat × Nat := (k.kbase, k.kbase + k.resLen + 256 * k.ovl)

/-! ### Zones: what the rest of the die asks of them (01 R12, R13; 20 R397) -/

/-- Grotto of a physical core (01 R11). -/
def grottoOf (c : Nat) : Nat := c / 4

/-- Compute zone of a grotto (01 R12): zone 3 y + floor(x / 2). -/
def zoneOfGrotto (g : Nat) : Nat := 3 * (g / 6) + (g % 6) / 2

/-- Zone of a core. -/
def zoneOf (c : Nat) : Nat := zoneOfGrotto (grottoOf c)

/-- Slices of a zone (01 R13): first and number. -/
def zoneSlices (z : Nat) : Nat × Nat :=
  let y := z / 3
  let j := z % 3
  if y = 0 then (4 * j, 4)
  else if y = 5 then (52 + 4 * j, 4)
  else
    let first := 12 + 10 * (y - 1)
    if j = 0 then (first, 3) else if j = 1 then (first + 3, 4) else (first + 7, 3)

/-- A zone. -/
def State.zone (s : State) (z : Nat) : Zone := kgetD s.zn.zones z {}

/-- A zone changed. -/
def State.modZone (s : State) (z : Nat) (f : Zone → Zone) : State :=
  { s with zn := { s.zn with zones := kset s.zn.zones z (f (s.zone z)) } }

/-- A slice is live (21 R415). -/
def State.liveSlice (s : State) (k : Nat) : Bool := decide (k < 64) && s.vs.live.toNat.testBit k

/-- The live slices in ascending order. -/
def State.liveSlices (s : State) : List Nat := (List.range 64).filter s.liveSlice

/-- The live slice that a hash selects. -/
def State.sliceOf (s : State) (h : Nat) : Nat :=
  let l := s.liveSlices
  l[h % l.length]?.getD 0

/-! ### Late faults, waking, deposits -/

/-- Causes whose k.tval carries a reason byte (10 R214 item 4). -/
def Cause.hasReason : Cause → Bool
  | .versionExists => true
  | .versionPoison => true
  | .barrierBroken => true
  | _ => false

/-- A late fault falls due for a slot: the first is kept, further ones leave marks (10 R214 item 4). -/
def Slot.addLate (x : Slot) (f : LateFault) : Slot :=
  match x.late with
  | none => { x with late := some f }
  | some k => { x with lmore := true, late := some (if k.cause.hasReason then { k with tval := k.tval ||| 0x80 } else k) }

/-- A parked slot whose awaited register of its own has filled becomes READY (04 R79, R89). -/
def Slot.wake (x : Slot) : Slot :=
  match x.status with
  | .parked (.granule g) => if x.empty.toNat.testBit g then x else { x with status := .ready }
  | .parked (.oreg k) => if x.oEmpty.toNat.testBit k then x else { x with status := .ready }
  | _ => x

/-- A YIELD ends (05 R115). -/
def Slot.unyield (x : Slot) : Slot :=
  match x.status with
  | .stalled (.yield _ least) => { x with status := if least = 0 then .ready else .stalled (.count least) }
  | _ => x

/-- Granules of a destination marked empty (04 R88); results still due there are no longer written (R91). -/
def Slot.markEmpty (x0 : Slot) (l : Loc) (len : Nat) : Slot :=
  let x := { x0 with results := dropPending l (8 * len) x0.results }
  match l with
  | .lat => x
  | .o k => { x with oEmpty := x.oEmpty ||| BitVec.ofNat 8 (2 ^ k) }
  | .main off => { x with empty := x.empty ||| BitVec.ofNat 8192 (granuleMask off len) }

/-- Granules of a destination marked full again. -/
def Slot.markFull (x : Slot) (l : Loc) (len : Nat) : Slot :=
  match l with
  | .lat => x
  | .o k => { x with oEmpty := x.oEmpty &&& ~~~ BitVec.ofNat 8 (2 ^ k) }
  | .main off => { x with empty := x.empty &&& ~~~ BitVec.ofNat 8192 (granuleMask off len) }

/-- Gang partners that await a register of slot `sid` which has filled become READY (04 R94 item 2). -/
def State.wakePartners (s : State) (sid : Nat) (x : Slot) : State :=
  { s with slots := kmap s.slots (fun _ y =>
      match y.status with
      | .parked (.partner p g) => if p = sid ∧ !x.empty.toNat.testBit g then { y with status := .ready } else y
      | _ => y) }

/-- The registers that a pulled task brings with its handle (12 R249). -/
def Slot.takeTask (x : Slot) (r : Nat) (h : Word) : Slot :=
  let p := (r >>> 448) % 2 ^ 64
  { x with task := h, fmt := BitVec.ofNat 64 (p % 2 ^ 16 &&& 0x3FFF), band := BitVec.ofNat 64 (p / 2 ^ 16 % 2 ^ 16),
           sca := BitVec.ofNat 64 (p / 2 ^ 32 % 2 ^ 16), scb := BitVec.ofNat 64 (p / 2 ^ 48), pulled := true
           tasks := if x.pulled then x.tasks ++ [x.task] else x.tasks }

/-- The registers of a slot after a deposit: the value under its mask with its flags and events, or, when the request
failed, the previous contents and a late fault; full again in either case (04 R88; 02 R37, R45; 06 R135 items 6 and 7;
10 R214 items 1 and 2; 12 R249).  A deposit of no bytes is the collected answer of a vector store. -/
def Slot.fillRegs (x : Slot) (d : Dep) : Slot :=
  match d.nack, d.fault with
  | some (_, v), _ => (x.markFull d.dst d.len).addLate { cause := .remoteNack, tval := BitVec.ofNat 64 v }
  | none, some f => (x.markFull d.dst d.len).addLate f
  | none, none =>
    let v := match d.sx with
      | some w => wrapNat (sextNat d.value w) 64
      | none => d.value
    let x := if d.len = 0 then x else x.store { dst := d.dst, bits := 8 * d.len, value := v, mask := d.mask }
    let x := ({ x with flags := x.flags ||| d.flags }.captureAll d.ue).markFull d.dst d.len
    match d.task with
    | some (r, h) => x.takeTask r h
    | none => x

/-- A deposit into the registers of a slot, which wakes it when it was parked on them or yielding (04 R79; 05 R115). -/
def Slot.fill (x : Slot) (d : Dep) : Slot :=
  let y := (x.fillRegs d).wake
  if d.len = 0 then y else y.unyield

/-- A lifetime counter raised (21 R419). -/
def State.lived (s : State) (i n : Nat) : State :=
  { s with hl := { s.hl with life := kset s.hl.life i (min (2 ^ 64 - 1) (kgetD s.hl.life i 0 + n)) } }

/-- Operand elements that a step found uncorrectable count once in the lifetime record (02 R45, 21 R419). -/
def State.consumed (s : State) (es : List UeEvent) : State :=
  if es.any (fun e => e.kind.getLsbD 0 && !e.kind.getLsbD 2) then s.lived 129 1 else s

/-- The deposit of request `d` into the slot it belongs to (04 R88).  A request whose slot is gone is discarded
(12 R251 item 3). -/
def State.deposit (s : State) (rid : Nat) (d : Dep) : State :=
  let s := { s with deps := kdel s.deps rid }
  match s.slot d.sid with
  | none => s
  | some x =>
    let x := { x.fill d with acqHold := x.acqHold.filter (fun r => r != rid) }
    let x := if x.nextRid = some rid then { x with nextRid := none } else x
    let s := if x.pairMode then s.modCore (d.sid / 16) (fun k => { k with pair := { k.pair with redo := if rid < k.pair.mark then k.pair.redo ++ [(rid, d)] else k.pair.redo } }) else s
    ((s.setSlot d.sid x).wakePartners d.sid x).consumed d.ue

/-- A reply that is complete is kept with its request until its DEPOSIT step. -/
def State.modDep (s : State) (rid : Nat) (f : Dep → Dep) : State := { s with deps := kmod s.deps rid f }

/-- One answer of a deposit's requests has come, with bits for the destination. -/
def Dep.answer (d : Dep) (bits : Nat) (ue : List UeEvent) : Dep :=
  { d with value := d.value ||| bits, ue := d.ue ++ ue, outstanding := d.outstanding - 1 }

/-- One of a deposit's requests met a late fault in place of its value; the first is kept. -/
def Dep.fail (d : Dep) (f : LateFault) : Dep :=
  { d with fault := d.fault.orElse (fun _ => some f), outstanding := d.outstanding - 1 }

/-- One of a deposit's requests was answered with a negative acknowledgement (01 R18, 06 R135 item 7). -/
def Dep.refuse (d : Dep) (lane pa : Nat) : Dep :=
  { d with
    nack := some (match d.nack with
      | some (l, p) => if lane < l then (lane, pa) else (l, p)
      | none => (lane, pa))
    outstanding := d.outstanding - 1 }

/-- The saved image that a number from `savedBase` on names. -/
def State.image (s : State) (sid : Nat) : Option Saved := s.cx.saved.find? (fun v => v.order + savedBase == sid)

/-- A saved image changed. -/
def State.modImage (s : State) (sid : Nat) (f : Saved → Saved) : State :=
  { s with cx := { s.cx with saved := s.cx.saved.map (fun v => if v.order + savedBase == sid then f v else v) } }

/-- What comes from outside for a slot on a pair changes its checkpoint too (21 R407, R409). -/
def State.modHeld (s : State) (sid : Nat) (f : Slot → Slot) : State :=
  if (s.core (sid / 16)).pair.slots = [] then s
  else s.modCore (sid / 16) (fun k => { k with pair := { k.pair with slots := kmod k.pair.slots sid f } })

/-- ORPHAN counts a late fault whose slot is FREE. -/
def State.orphaned (s : State) (count : Bool) : State :=
  if count then { s with vs := { s.vs with orphan := min 0xFFFF (s.vs.orphan + 1) } } else s

/-- A late fault for the slot that issued a request; dropped when the slot is FREE, and counted in ORPHAN when `count`
says so (10 R210).  A slot that is SAVED keeps it for its first boundary after restore (10 R214 item 3). -/
def State.lateFor (s : State) (sid : Option Nat) (f : LateFault) (count : Bool) : State :=
  match sid with
  | some i =>
    if i < savedBase ∧ (s.slot i).isSome then
      let f' := fun (x : Slot) => if x.status = .held then x else x.addLate f
      (s.modSlot i f').modHeld i f'
    else if (s.image i).isSome then s.modImage i (fun v => { v with slot := v.slot.addLate f })
    else s.orphaned count
  | none => s.orphaned count

/-- A request is done when neither its message nor its deposit is outstanding. -/
def State.isDone (s : State) (rid : Nat) : Bool := (kget s.msgs rid).isNone && (kget s.deps rid).isNone

/-- A store held in a pair buffer, from which later loads of its slot are served (21 R408 item 2). -/
def State.isHeldStore (s : State) (rid : Nat) : Bool :=
  match kget s.msgs rid with
  | some m => m.buffered && (match m.op with | .store .. => true | _ => false)
  | none => false

/-- A store has been performed at die scope: at its home, and at the replica of this die (09 R185). -/
def State.isDieDone (s : State) (rid : Nat) : Bool := s.isDone rid || (kget s.msgs rid).any Msg.dieDone

/-- Every request a message waits for is done, which for a release at fabric scope is at that scope (11 R222, R223; 09 R185,
R186). -/
def State.mayGo (s : State) (m : Msg) : Bool :=
  !m.buffered && m.after.all (fun r =>
    (if m.rel && m.fab then s.isDone r else s.isDieDone r) || (m.isLoad && !m.isStore && s.isHeldStore r))

/-- Bits of a load's pieces with the bytes that its slot's held stores write laid over them, oldest first. -/
def State.overHeld (s : State) (m : Msg) (ps : List Piece) (v : Nat) : Nat :=
  m.after.foldl (fun v r =>
    match kget s.msgs r with
    | some b =>
      match b.buffered, b.op with
      | true, .store qs data => ps.foldl (fun v p => qs.foldl (fun v q =>
          -- nibbles of the two pieces that lie at one place
          let at' := fun (z : Piece) => 2 * z.pa + (if z.high then 1 else 0)
          (List.range (p.bits / 4)).foldl (fun v i =>
            let j := at' p + i - at' q
            if at' q ≤ at' p + i ∧ j < q.bits / 4 then setBits (p.bit + 4 * i + 3) (p.bit + 4 * i) v ((data >>> (q.bit + 4 * j)) % 16) else v) v) v) v
      | _, _ => v
    | none => v) v

end Sys2Proof.Machine
end

