-- ==== Sys2Proof/Machine/Mmu.lean ====
section
/-!
DEFINITION. Address translation: table walks, cached translations, page attributes, the fault queue (08).
-/

namespace Sys2Proof.Machine

/-- Fault codes of a walk (08 R171). -/
def fcUnmapped : Nat := 0
def fcBad : Nat := 1
def fcMig : Nat := 2
def fcPoi : Nat := 3
def fcProt : Nat := 4

/-- Fields of a leaf (08 R162). -/
def leafProp (l : Word) : Bool := l.toNat.testBit 53
def leafE (l : Word) : Bool := l.toNat.testBit 52
def leafFrame (l : Word) : Nat := bitsOf 51 12 l.toNat * 4096
def leafState (l : Word) : Nat := bitsOf 11 10 l.toNat
def leafU (l : Word) : Bool := l.toNat.testBit 9
def leafX (l : Word) : Bool := l.toNat.testBit 8
def leafW (l : Word) : Bool := l.toNat.testBit 7
def leafR (l : Word) : Bool := l.toNat.testBit 6
def leafSize (l : Word) : Nat := bitsOf 5 2 l.toNat

/-- Bits of a page's offset by size code (08 R161). -/
def pageBits (code : Nat) : Nat :=
  match code with
  | 0 => 12 | 1 => 14 | 2 => 16 | 3 => 18 | 4 => 20 | 5 => 21 | 6 => 24 | 7 => 26 | 8 => 28 | _ => 30

/-- Leaf level of a size code; codes 10 to 15 are invalid. -/
def pageLevel (code : Nat) : Option Nat :=
  if code ≤ 4 then some 0 else if code ≤ 8 then some 1 else if code = 9 then some 2 else none

/-- Physical address of a virtual address under a leaf. -/
def leafPa (l : Word) (va : Nat) : Nat := leafFrame l + va % 2 ^ pageBits (leafSize l)

/-- The page of a virtual address: its first page number of 4 KiB, and how many of them it spans. -/
def leafPage (l : Word) (va : Nat) : Nat × Nat :=
  let b := pageBits (leafSize l)
  (va / 2 ^ b * 2 ^ (b - 12), 2 ^ (b - 12))

/-- A leaf at a level is malformed (08 R163). -/
def leafBad (l : Word) (level : Nat) : Bool :=
  pageLevel (leafSize l) != some level || leafFrame l % 2 ^ pageBits (leafSize l) != 0

/-- What a walk gives. -/
inductive WalkRes where
  | leaf (l : Word)
  | fault (code : Nat)
  /-- A table entry at another agent must be read first. -/
  | ask (pa : Nat)
  /-- Reads of an entry's line wait (08 R168 item 4). -/
  | held
  deriving DecidableEq, Repr

/-- What a read of a table entry gives. -/
inductive EntryRes where
  | word (e : Word)
  /-- No block serves its address. -/
  | none
  /-- It must be asked for at another agent. -/
  | ask
  | held
  deriving DecidableEq, Repr

/-- A walk from a table at `table` over the levels still to come; `rd` reads an entry of a level (08 R160 to R163, R170
item 3). -/
def walkLevels (rd : Nat → Nat → EntryRes) (va : Nat) : List Nat → Nat → WalkRes
  | [], _ => .fault fcBad
  | level :: rest, table =>
    let pa := table + 8 * ((va >>> (12 + 9 * level)) % 512)
    match rd level pa with
    | .none => .fault fcBad
    | .ask => .ask pa
    | .held => .held
    | .word e =>
      if !e.toNat.testBit 0 then .fault fcUnmapped
      else if bitsOf 63 54 e.toNat != 0 then .fault fcBad
      else if e.toNat.testBit 1 then
        if level = 0 then .fault fcBad else walkLevels rd va rest (leafFrame e)
      else if leafBad e level then .fault fcBad
      else .leaf e

/-- Bytes of HBM4 that the die has (01 R22). -/
def State.memBytes (s : State) : Nat := s.idn.memGib * 2 ^ 30

/-- A line of the die's own window whose reads wait until its replicas are written (08 R168 item 4). -/
def State.lineHeld (s : State) (pa : Nat) : Bool := s.msgs.any (fun (p : Nat × Msg) => p.2.held.contains (pa / 256))

/-- A table entry as a walker reads it, which is as a .byp load does: own memory, in which an uncorrectable entry reads as 0,
or what another agent has sent (08 R170 item 3). -/
def State.readEntry (s : State) (got : KMap Word) (pa : Nat) : EntryRes :=
  let agent := pa / 2 ^ 42
  let off := pa % 2 ^ 42
  if s.isOwn agent then
    if s.memBytes < off + 8 then .none
    else if s.lineHeld pa then .held
    else .word (if marked s.ueMem off 8 then 0 else BitVec.ofNat 64 (s.mem.readN off 8))
  else if s.agentUp agent then (match kget got pa with | some e => .word e | none => .ask)
  else .none

/-- The walk-cache entry for a level of a walk. -/
def State.wcacheFind (s : State) (ctx va level : Nat) : Option Word :=
  (s.pg.wcache.find? (fun q => q.ctx == ctx && q.level == level && q.at' == va >>> (12 + 9 * level))).map WEntry.e

/-- A table entry of a walk: from the walk cache, or read. -/
def State.entryAt (s : State) (got : KMap Word) (ctx va level pa : Nat) : EntryRes :=
  match s.wcacheFind ctx va level with
  | some e => .word e
  | none => s.readEntry got pa

/-- A walk of a context's tables for a virtual address (08 R160, R165). -/
def State.walkTables (s : State) (got : KMap Word) (ctx va : Nat) : WalkRes :=
  if va ≥ 2 ^ 57 then .fault fcUnmapped
  else walkLevels (s.entryAt got ctx va) va [4, 3, 2, 1, 0] (s.ctx ctx).root.toNat

/-- The entries of levels 1 to 4 that point to a further table, on the way of a walk. -/
def walkPath (rd : Nat → Nat → EntryRes) (va : Nat) : List Nat → Nat → List (Nat × Word)
  | [], _ => []
  | level :: rest, table =>
    match rd level (table + 8 * ((va >>> (12 + 9 * level)) % 512)) with
    | .word e => if level != 0 && e.toNat % 4 == 3 then (level, e) :: walkPath rd va rest (leafFrame e) else []
    | _ => []

/-- An entry kept in a set of at most `n`; the one that leaves a full set is a free choice (08 R169; log 3). -/
def State.keepOne {α : Type} [DecidableEq α] (s : State) (l set : List α) (n : Nat) (q : α) : List α × State :=
  if set.length < n then (l ++ [q], s)
  else
    let (f, s) := s.draw
    match set[f % n]? with
    | some v => (l.filter (fun p => decide (p ≠ v)) ++ [q], s)
    | none => (l ++ [q], s)

/-- The entries that a walk has read, kept in the walk cache (08 R169). -/
def State.cacheWalk (s : State) (got : KMap Word) (ctx va : Nat) : State :=
  (walkPath (s.entryAt got ctx va) va [4, 3, 2, 1] (s.ctx ctx).root.toNat).foldl (fun (s : State) p =>
    let q : WEntry := { ctx := ctx, level := p.1, at' := va >>> (12 + 9 * p.1), e := p.2 }
    if s.pg.wcache.contains q then s
    else
      let r := s.keepOne s.pg.wcache s.pg.wcache 256 q
      { r.2 with pg := { r.2.pg with wcache := r.1 } }) s

/-- What an access is, for the checks of attributes. -/
inductive Access where
  | load | store | atomic | bteWrite
  /-- The kernel loader's fetch of code. -/
  | fetch
  deriving DecidableEq, Repr

/-- KIND of a fault record (08 R171). -/
def Access.kind : Access → Nat
  | .load => 0
  | .store => 1
  | .atomic => 3
  | .bteWrite => 1
  | .fetch => 2

/-- The access writes. -/
def Access.writes : Access → Bool
  | .load => false
  | .fetch => false
  | _ => true

/-- A window offset lies in an aperture of 01 R17. -/
def inAperture (off : Nat) : Bool :=
  (decide (0x20000000000 ≤ off) && decide (off < 0x20000000000 + 0x1040000)) ||
  (decide (0x20002000000 ≤ off) && decide (off < 0x20003000000))

/-- A window offset lies in the register region, or in the local memory window (01 R17). -/
def inRegs (off : Nat) : Bool := decide (0x20004000000 ≤ off) && decide (off < 0x200040E0000)
def inLocWin (off : Nat) : Bool := decide (0x20008000000 ≤ off) && decide (off < 0x20011000000)

/-- What the attributes make of an access (08 R165, R166). -/
inductive Attr where
  | ok
  | prot
  | fault (code : Nat)
  deriving DecidableEq, Repr

/-- The checks of 08 R166 in their order, then the leaf's state (08 R165).  `slot` says that a slot makes the access,
which R19 of 01 concerns. -/
def State.checkLeaf (s : State) (l : Word) (user slot : Bool) (a : Access) (pa : Nat) : Attr :=
  let off := pa % 2 ^ 42
  let die := s.isCompute (pa / 2 ^ 42)
  let ap := die && inAperture off
  if user && !leafU l then .prot
  else if (a == .load || a == .atomic) && !leafR l then .prot
  else if a == .fetch && !leafX l then .prot
  else if a.writes && !leafW l then .prot
  else if ap && !leafE l then .prot
  else if leafE l && !ap then .prot
  else if die && slot && ((user && inRegs off) || inLocWin off) then .prot
  else if leafE l && leafState l != 0 then .fault fcBad
  else if a.writes && leafState l == 2 then .fault fcMig
  else if a.writes && leafState l == 3 then .fault fcPoi
  else .ok

/-- A TLB entry for a leaf found at `va`: no entry spans more than 64 MiB (08 R169). -/
def tlbEntry (ctx va : Nat) (l : Word) : TlbEntry :=
  let b := min (pageBits (leafSize l)) 26
  { ctx := ctx, vpn := (va / 2 ^ b) * 2 ^ (b - 12), pages := 2 ^ (b - 12), leaf := l }

/-- An entry covers a virtual address in a context. -/
def TlbEntry.covers (e : TlbEntry) (ctx va : Nat) : Bool :=
  e.ctx == ctx && decide (e.vpn ≤ va / 4096) && decide (va / 4096 < e.vpn + e.pages)

/-- A TLB (08 R169). -/
def State.tlbAt (s : State) (t : Nat) : List TlbEntry := kgetD s.pg.tlb t []

/-- The last-level TLB slice of a virtual address: a hash of it over the live slices, the same for the addresses of one
64 MiB fraction (08 R169; log 3). -/
def State.tlbSlice (s : State) (va : Nat) : Nat := 180 + s.sliceOf (Config.lineHash (va / 2 ^ 26))

/-- The TLBs that serve a core, nearest first, and the one that serves the die's own units (08 R169). -/
def State.coreTlbs (s : State) (core va : Nat) : List Nat := [core, 144 + grottoOf core, s.tlbSlice va]
def State.unitTlbs (s : State) (va : Nat) : List Nat := [s.tlbSlice va]

/-- The entry of a TLB for an address. -/
def State.tlbHit (s : State) (ctx va t : Nat) : Option TlbEntry := (s.tlbAt t).find? (fun e => e.covers ctx va)

/-- The leaf by which the first of several TLBs that holds the page translates an address; the leaf gives the page base by
the address's own bits. -/
def State.tlbFind (s : State) (ts : List Nat) (ctx va : Nat) : Option Word := (ts.findSome? (s.tlbHit ctx va)).map (fun e => e.leaf)

/-- Set of an entry in a grotto's TLB, which has 128 sets of 8 (08 R169; log 3). -/
def TlbEntry.set (e : TlbEntry) : Nat := Config.lineHash (e.vpn / e.pages) % 128

/-- An entry installed in a TLB of 64 entries, of 8-way sets, or of 192 entries. -/
def State.tlbFill (s : State) (e : TlbEntry) (t : Nat) : State :=
  let l := (s.tlbAt t).filter (fun q => !(q.ctx == e.ctx && q.vpn == e.vpn && q.pages == e.pages))
  let r := if t < 144 then s.keepOne l l 64 e
    else if t < 180 then s.keepOne l (l.filter (fun q => q.set == e.set)) 8 e
    else s.keepOne l l 192 e
  { r.2 with pg := { r.2.pg with tlb := kset r.2.pg.tlb t r.1 } }

/-- An access has found its page in one of its TLBs: those nearer to it hold it too. -/
def State.tlbTouch (s : State) (ctx va : Nat) (ts : List Nat) : State :=
  let missed := ts.takeWhile (fun t => (s.tlbHit ctx va t).isNone)
  if missed.length = ts.length then s
  else
    match ts.findSome? (s.tlbHit ctx va) with
    | some e => missed.foldl (fun (s : State) t => s.tlbFill e t) s
    | none => s

/-- A record enters the fault queue; of a slot it is lost when the queue is full, any other waits (08 R171). -/
def State.faultRecord (s : State) (r : FqRec) (slot : Bool) : State :=
  if s.pg.fq.length < 64 then
    let s' := { s with pg := { s.pg with fq := s.pg.fq ++ [r] } }
    if s.pg.fq = [] then s'.irq s.pg.fqVec else s'
  else if slot then { s with pg := { s.pg with fqOvf := true } }
  else { s with pg := { s.pg with fqWait := s.pg.fqWait ++ [r] } }

/-- A slot's fault of this cycle: its record enters once what is removed in the cycle has left (08 R171). -/
def State.faultLater (s : State) (r : FqRec) : State := { s with pg := { s.pg with fqNew := s.pg.fqNew ++ [r] } }

/-- Records of waiting engine faults enter the queue while it has room. -/
def State.fqRefill (s : State) : State :=
  match s.pg.fqWait with
  | [] => s
  | r :: rs => if s.pg.fq.length < 64 then ({ s with pg := { s.pg with fqWait := rs } }).faultRecord r false else s

/-- What an access of one of the die's own units to a virtual address gives. -/
inductive EngRes where
  | pa (a : Nat) (l : Word)
  | prot
  | fault (code : Nat)
  | ask (pa : Nat)
  | held
  deriving DecidableEq, Repr

/-- The page of an address for one of the die's own units: from the last-level TLB, else by a walk that takes no time. -/
def State.unitLeaf (s : State) (ctx va : Nat) : WalkRes :=
  match s.tlbFind (s.unitTlbs va) ctx va with
  | some l => .leaf l
  | none => s.walkTables [] ctx va

/-- Translation for a unit other than a slot (08 R165, R170 items 5 and 6). -/
def State.engTranslate (s : State) (ctx va : Nat) (a : Access) : EngRes :=
  match s.unitLeaf ctx va with
  | .fault c => .fault c
  | .ask p => .ask p
  | .held => .held
  | .leaf l =>
    let pa := leafPa l va
    match s.checkLeaf l false false a pa with
    | .ok => .pa pa l
    | .prot => .prot
    | .fault c => .fault c

/-! ### Translation for a slot -/

/-- What a lane's address gives. -/
inductive LaneRes where
  | pa (a : Nat) (l : Word)
  | trap (c : Cause) (code : Option Nat)
  /-- The page must be walked. -/
  | miss
  deriving DecidableEq, Repr

/-- One lane translated and checked: by what this instruction's own walk gave, then by a TLB, else a miss. -/
def State.lane (s : State) (core : Nat) (x : Slot) (user : Bool) (a : Access) (va : Nat) : LaneRes :=
  let found := match x.xlat.find? (fun t => t.vpn == va / 4096) with
    | some t => some (match t.fault with | some c => Except.error c | none => Except.ok t.leaf)
    | none => (s.tlbFind (s.coreTlbs core va) x.ctx va).map Except.ok
  match found with
  | none => .miss
  | some (.error c) => .trap .page (some c)
  | some (.ok l) =>
    let pa := leafPa l va
    match s.checkLeaf l user true a pa with
    | .ok => .pa pa l
    | .prot => .trap .prot none
    | .fault c => .trap .page (some c)

/-- The numbers of a list, each once. -/
def distinct (ns : List Nat) : List Nat := ns.foldl (fun ps v => if ps.contains v then ps else ps ++ [v]) []

/-- A walk started for a page, or joined when one is in flight (08 R170 item 1). -/
def State.startWalk (s : State) (who : Walker) (ctx va : Nat) : Nat × State :=
  match s.pg.walks.find? (fun w => w.2.ctx == ctx && w.2.vpn == va / 4096 && !w.2.stale) with
  | some (w, q) =>
    (w, { s with pg := { s.pg with walks := kset s.pg.walks w { q with who := q.who ++ [who] } } })
  | none =>
    let (w, s) := s.newId
    (w, { s with pg := { s.pg with walks := kset s.pg.walks w { who := [who], ctx := ctx, vpn := va / 4096, va := va } } })

/-- Translation of the addresses of an instruction's active lanes, lowest first (06 R135 item 2): physical addresses
and leaves; or the trap of the lowest faulting lane; or a hold while pages are walked. -/
def State.translate (s : State) (sid : Nat) (x : Slot) (a : Access) (vas : List Nat) :
    State × Except Stop (List (Nat × Word)) :=
  let user := !x.sup
  let rs := vas.map (fun v => (v, s.lane (sid / 16) x user a v))
  let missed := rs.filter (fun r => r.2 == .miss)
  if missed.isEmpty then
    match rs.find? (fun r => match r.2 with | .trap _ _ => true | _ => false) with
    | some (v, .trap c code) =>
      -- a fault found by a walk has entered its record already
      let walked := x.xlat.any (fun t => t.vpn == v / 4096 && t.fault.isSome)
      let s := match code with
        | some k => if walked then s
            else s.faultLater { va := BitVec.ofNat 64 v, src := sid, ctx := x.ctx, code := k, kind := a.kind }
        | none => s
      (s, .error (.trap c (BitVec.ofNat 64 v)))
    | _ =>
      let s := vas.foldl (fun (s : State) v => s.tlbTouch x.ctx v (s.coreTlbs (sid / 16) v)) s
      (s, .ok (rs.filterMap (fun r => match r.2 with | .pa p l => some (p, l) | _ => none)))
  else
    -- one walk for each page that misses; the first address of a page stands for it
    let firsts := missed.foldl (fun (acc : List Nat) r => if acc.any (fun v => v / 4096 == r.1 / 4096) then acc else acc ++ [r.1]) []
    let (ws, s) := firsts.foldl (fun (acc : List Nat × State) v =>
      let (w, s) := acc.2.startWalk (.slot sid v a.kind) x.ctx v
      (acc.1 ++ [w], s)) ([], s)
    (s, .error (.hold (.walk ws)))

end Sys2Proof.Machine
end

