-- ==== Sys2Proof/Machine/Reply.lean ====
section
/-!
DEFINITION. How requests are answered: by values for a deposit, by negative acknowledgements, by late faults, by
acknowledgements; and the packets that carry requests to other agents.
-/

namespace Sys2Proof.Machine

/-- A message changed. -/
def State.modMsg (s : State) (rid : Nat) (f : Msg → Msg) : State := { s with msgs := kmod s.msgs rid f }

/-- A line installed in the L1: at most four in its set, the oldest leaving (09 R174). -/
def CoreSt.l1Fill (k : CoreSt) (q : L1Line) : CoreSt :=
  let rest := k.l1.filter (fun p => !(p.line == q.line && p.ctx == q.ctx))
  let set := rest.filter (fun p => p.line % 512 == q.line % 512)
  let out := if set.length < 4 then [] else set.take (set.length - 3)
  { k with l1 := rest.filter (fun p => !out.contains p) ++ [q] }

/-- A message is answered with bits for its deposit. -/
def State.answerMsg (s : State) (rid : Nat) (m : Msg) (bits : Nat) (ue : List UeEvent) : State :=
  let s := s.unpost rid
  match m.dep with
  | some d => s.modDep d (fun x => x.answer bits ue)
  | none => s

/-- A message on whose answer a slot is STALLED keeps the answer until ACKNOWLEDGEMENT; any other is done (09 R185). -/
def State.ackMsg (s : State) (rid : Nat) (m : Msg) (code : Nat) : State :=
  if m.stalls then s.modMsg rid (fun x => { x with answer := some code }) else s.answerMsg rid m 0 []

/-- Operations on versions whose late faults count in ORPHAN (10 R210). -/
def MsgOp.orphans : MsgOp → Bool
  | .vstore .. => true
  | .vseal .. => true
  | .vacc .. => true
  | _ => false

/-- Answer code of a negative acknowledgement to a stalled slot. -/
def ackNack : Nat := 255

/-- Answer code for a push that has left its port unaccepted (13 R281; log 41). -/
def ackBack : Nat := 254

/-- A message meets a late fault (10 R214). -/
def State.failMsg (s : State) (rid : Nat) (m : Msg) (f : LateFault) : State :=
  let s := s.unpost rid
  match m.dep with
  | some d => s.modDep d (fun x => x.fail f)
  | none => s.lateFor m.sid f m.op.orphans

/-- A message is answered with a negative acknowledgement (01 R18; 06 R135 items 7 and 8; 10 R196 item 4). -/
def State.nackMsg (s : State) (rid : Nat) (m : Msg) : State :=
  if m.stalls then s.modMsg rid (fun x => { x with answer := some ackNack })
  else
    let s := s.unpost rid
    match m.dep with
    | some d => s.modDep d (fun x => x.refuse m.lane m.nackVal.toNat)
    | none => s.lateFor m.sid { cause := .remoteNack, tval := m.nackVal } m.op.orphans

/-- A packet of this die for another agent, with the request's number as its TAG. -/
def State.sendPacket (s : State) (dst tag ctx : Nat) (p : Packet) : State :=
  s.out (.packet { p with dst := dst, src := s.ownAgent, tag := tag, ctx := ctx })

/-- The response to a packet: same TYPE, RSP set, on VC1 unless the packet came on VC2 (19 R378, R379).  What the die
has said to itself needs none. -/
def State.respond (s : State) (p : Packet) (q : Packet) : State :=
  if s.isOwn p.src then s
  else
    let r : Packet := { q with typ := p.typ, rsp := true, vc := (if p.typ = 0x0B ∨ p.typ = 0x04 then 2 else 1), dst := p.src,
                               src := s.ownAgent, tag := p.tag, ctx := p.ctx, space := p.space, lsz := p.lsz }
    s.out (.packet r)

/-- A NACK in answer to a packet (19 R380, R382). -/
def State.refusePacket (s : State) (p : Packet) (reason : Nat) : State :=
  s.out (.packet { typ := 0x0E, rsp := true, vc := 1, dst := p.src, src := s.ownAgent, tag := p.tag, ctx := p.ctx,
                   addr := BitVec.ofNat 64 (reason + 256 * s.ownAgent) })

/-- A message sent to another agent as a packet; its answer comes by an event that names the request. -/
def State.sendMsg (s : State) (rid : Nat) (m : Msg) (agent : Nat) (p : Packet) : State :=
  (s.sendPacket agent rid m.ctx p).modMsg rid (fun x => { x with sent := true, dsts := [agent] })

/-! ### Answers of ports (13 R272, R279, R280) -/

/-- What a port answers. -/
inductive PortRes where
  | done (v : Nat)
  | nack
  deriving DecidableEq, Repr

/-- A request at a port of this die, of its own or of another agent, is answered. -/
def State.portAnswer (s : State) (q : HomeReq) (write : Bool) (r : PortRes) : State :=
  match q with
  | .own rid =>
    match kget s.msgs rid, r with
    | some m, .done v => if write then s.ackMsg rid m 0 else s.answerMsg rid m v []
    | some m, .nack => s.nackMsg rid m
    | none, _ => s
  | .packet p =>
    match r with
    | .done v => s.respond p { typ := p.typ, data := if write then [] else bytesOf 8 v }
    | .nack => s.refusePacket p 3

/-- Context and value of a request that waits at a port; none for one that a save has withdrawn (13 R281). -/
def State.portReq (s : State) (q : HomeReq) : Option (Nat × Word) :=
  match q with
  | .own rid => (kget s.msgs rid).map (fun m => (m.ctx, match m.op with | .push _ v => v | _ => 0))
  | .packet p => some (p.ctx, BitVec.ofNat 64 (ofBytes p.data))

/-! ### Where a name range and a die-list position lead -/

/-- What answers for an agent. -/
inductive Home where
  | own
  | agent (a : Nat)
  | gone
  deriving DecidableEq, Repr

/-- An agent as a home: this die, another that is up, or none (01 R16; 10 R196 item 4; 17 R329 item 1). -/
def State.homeOf (s : State) (agent : Nat) : Home :=
  if s.isOwn agent then .own else if s.agentUp agent then .agent agent else .gone

/-- Home die of a name range in a context (10 R196). -/
def State.rangeHome (s : State) (ctx range : Nat) : Home :=
  match ((s.ctx ctx).nsmap[range]?).join with
  | some a => s.homeOf a
  | none => .gone

/-- Home die of a version name. -/
def State.nameHome (s : State) (ctx : Nat) (h : Word) : Home := s.rangeHome ctx (bitsOf 31 28 h.toNat)

/-- List position of an agent in a context's die list (18 R349). -/
def State.diePos (s : State) (ctx agent : Nat) : Option Nat :=
  ((s.ctx ctx).dies.findIdx? (fun d => d == some agent))

/-- The die's own list position P. -/
def State.ownPos (s : State) (ctx : Nat) : Nat :=
  (((s.ctx ctx).dies.findIdx? (fun d => match d with | some a => s.isOwn a | none => false)).getD 0)

/-- The time base of the die in ns (19 R386). -/
def State.now (s : State) : Nat := s.t.time % 2 ^ 64

/-- A record for the MON_ event log; a removal of the same cycle takes effect first (21 R418). -/
def State.monLog (s : State) (where' : Word) (src offset ctx kind : Nat) : State :=
  let w1 := BitVec.ofNat 64 ((src % 2 ^ 16) * 2 ^ 48 + (offset % 2 ^ 24) * 2 ^ 24 + (ctx % 16) * 2 ^ 20 + kind)
  { s with hl := { s.hl with mlogNew := s.hl.mlogNew ++ [(where', w1)] } }

/-- A record enters the event log, or is lost with OVF (21 R418). -/
def State.logEntry (s : State) (r : Word × Word) : State :=
  if s.hl.mlog.length < 64 then
    let t := { s with hl := { s.hl with mlog := s.hl.mlog ++ [r] } }
    if s.hl.mlog.isEmpty then t.irq s.hl.mlogVec else t
  else ({ s with hl := { s.hl with mlogOvf := true } }).sticky .monOvf

/-- The records of the cycle enter the event log. -/
def State.takeLogs (s : State) : State :=
  s.hl.mlogNew.foldl (fun (s : State) r => s.logEntry r) { s with hl := { s.hl with mlogNew := [] } }

end Sys2Proof.Machine
end

