-- ==== Sys2Proof/Machine/PoolOps.lean ====
section
/-!
DEFINITION. The task pool: records and their fields, the states of entries, dependence counters, dispatch order, NEXT
and retirement; the end of a kernel's unload (12 R238 to R249, 14 R290).
-/

namespace Sys2Proof.Machine

/-! ### Fields of a task record (12 R238) -/

/-- Word `k` of a record. -/
def recWord (r k : Nat) : Nat := (r >>> (64 * k)) % 2 ^ 64

def recKind (r : Nat) : Nat := bitsOf 2 0 r
def recNin (r : Nat) : Nat := bitsOf 5 3 r
def recPull (r : Nat) : Bool := r.testBit 7
def recExtra (r : Nat) : Nat := bitsOf 15 8 r
def recShape (r : Nat) : Nat := bitsOf 25 16 r
def recTherm (r : Nat) : Nat := bitsOf 28 26 r
def recKey (r : Nat) : Nat := bitsOf 63 32 r
def recKid (r : Nat) : Nat := bitsOf 75 64 r
def recPc (r : Nat) : Nat := bitsOf 95 76 r
def recRelease (r : Nat) : Nat := bitsOf 127 96 r
def recIn (r k : Nat) : Word := BitVec.ofNat 64 (recWord r (2 + k))
def recOut (r : Nat) : Word := BitVec.ofNat 64 (recWord r 6)
def recParam (r : Nat) : Nat := recWord r 7

/-- A shape breaks 16 R306. -/
def shapeBad (sh : Nat) : Bool :=
  let c := bitsOf 2 0 sh
  let n := bitsOf 8 4 sh
  sh.testBit 3 || c == 0 || decide (4 < c) || n == 0 || decide (16 < n) || decide (64 < c * n)

/-- The kernel and entry pc of a record or launch are valid for a context (12 R239 item 4, 15 R292). -/
def State.entryBad (s : State) (ctx kid pc : Nat) (single : Bool) : Bool :=
  match s.sealedFor kid ctx with
  | none => true
  | some k =>
    pc % 2 == 1 || decide (pc < k.range.1) || decide (k.range.2 ≤ pc) ||
      (k.pass && (!single || !k.entries.any (fun e => k.kbase + e.off == pc)))

/-- Lowest reason for which a record is invalid (12 R239, R248; 15 R292). -/
def State.recordBad (s : State) (ctx r : Nat) : Option Nat :=
  let kind := recKind r
  let plain := kind ≤ 1 && !recPull r
  if 3 < kind ∨ 4 < recNin r then some 1
  else if r.testBit 6 || bitsOf 31 29 r != 0 then some 2
  else if recPull r && kind != 0 then some 3
  else if (kind != 1 && recShape r != 0) || (kind == 1 && shapeBad (recShape r)) then some 4
  else if plain && s.entryBad ctx (recKid r) (recPc r) (kind == 0 || recShape r == 0x11) then some 5
  else if kind == 3 && bitsOf 15 0 (recParam r) != 0 then some 6
  else none

/-- A RELEASE value is 0 or has passed (12 R243, R244). -/
def State.released (s : State) (t : Nat) : Bool :=
  t == 0 || decide ((s.now / 2 ^ 10 % 2 ^ 32 + 2 ^ 32 - t) % 2 ^ 32 < 2 ^ 31)

/-! ### Entries -/

/-- An entry that is not EMPTY. -/
def State.entry (s : State) (i : Nat) : Option PoolEntry := kget s.pl.pool i

/-- Generation of an entry (12 R240). -/
def State.pgen (s : State) (i : Nat) : Nat := kgetD s.pl.pgens i 0

/-- Handle of an entry (12 R240). -/
def State.taskHandle (s : State) (i : Nat) : Word := BitVec.ofNat 64 (64 * i + s.pgen i * 2 ^ 24)

/-- Entry that a handle names, when its generation is current. -/
def State.entryOf (s : State) (h : Word) : Option Nat :=
  let i := bitsOf 23 6 h.toNat
  if (s.entry i).isSome && bitsOf 39 24 h.toNat == s.pgen i then some i else none

/-- An entry replaced. -/
def State.setEntry (s : State) (i : Nat) (e : PoolEntry) : State :=
  { s with pl := { s.pl with pool := kset s.pl.pool i e } }

/-- A kernel's use count (14 R290). -/
def State.useCount (s : State) (kid : Nat) : Nat :=
  (s.slots.filter (fun p => p.2.kid == kid)).length + (s.cx.saved.filter (fun v => v.slot.kid == kid)).length +
    (s.pl.pool.filter (fun (p : Nat × PoolEntry) => decide (recKind p.2.record ≤ 1) && !recPull p.2.record && recKid p.2.record == kid)).length

/-- Kernels that are UNLOADING with use count 0 become ABSENT, and VEC is sent for each (14 R290). -/
def State.unloadEnd (s : State) : State :=
  let gone := s.kn.kernels.filter (fun k => k.state == .unloading && s.useCount k.kid == 0)
  if gone.isEmpty then s
  else
    { s with
      kn := { s.kn with kernels := s.kn.kernels.filter (fun k => !(k.state == .unloading && s.useCount k.kid == 0)) }
      o := { s.o with irqs := s.o.irqs ++ gone.map (fun _ => s.kn.kvec) } }

/-- The span of an entry that was READY ends (12 R245 item 2). -/
def State.endSpan (s : State) (e : PoolEntry) : List ReadySpan :=
  let f := fun (acc : Bool × List ReadySpan) (p : ReadySpan) =>
    if !acc.1 && p.ctx == e.ctx && p.pull == recPull e.record && p.key == recKey e.record && p.start == e.readyAt && p.stop.isNone
    then (true, acc.2 ++ [{ p with stop := some s.t.cycle }])
    else (acc.1, acc.2 ++ [p])
  -- spans that ended more than 128 cycles ago concern no later choice
  (s.pl.spans.foldl f (false, [])).2.filter (fun p => match p.stop with | some c => decide (s.t.cycle < c + 256) | none => true)

/-- An entry becomes EMPTY and its generation is incremented (12 R243, R247). -/
def State.emptyEntry (s : State) (i : Nat) : State :=
  match s.entry i with
  | none => s
  | some e =>
    let spans := if e.state = .ready then s.endSpan e else s.pl.spans
    { s with pl := { s.pl with pool := kdel s.pl.pool i, pgens := kset s.pl.pgens i ((s.pgen i + 1) % 2 ^ 16), spans := spans } }

/-- An entry retires (12 R247); a kernel whose unload waited for it may end (14 R290). -/
def State.retire (s : State) (i : Nat) : State := (s.emptyEntry i).unloadEnd

/-- A decrement is dropped and counted (12 R243, R252). -/
def State.dropDecrement (s : State) : State :=
  { s with pl := { s.pl with poolDrop := min 0xFFFF (s.pl.poolDrop + 1) } }

/-! ### Dispatch order (12 R245) -/

/-- Least KEY among the entries of a class that were READY 128 cycles before the choice. -/
def State.leastKey (s : State) (ctx : Nat) (pull : Bool) : Option Nat :=
  if s.t.cycle < 128 then none
  else
    let c := s.t.cycle - 128
    let ks := (s.pl.spans.filter (fun p => p.ctx == ctx && p.pull == pull && decide (p.start ≤ c) &&
      (match p.stop with | some e => decide (c < e) | none => true))).map ReadySpan.key
    ks.foldl (fun m k => match m with | none => some k | some x => some (min x k)) none

/-- READY entries of a class that a choice may take. -/
def State.qualifying (s : State) (ctx : Nat) (pull : Bool) : List Nat :=
  let ready : List (Nat × PoolEntry) := s.pl.pool.filter (fun (p : Nat × PoolEntry) => p.2.state == .ready && p.2.ctx == ctx && recPull p.2.record == pull)
  let ok : List (Nat × PoolEntry) := match s.leastKey ctx pull with
    | some k => ready.filter (fun p => decide (recKey p.2.record ≤ min (2 ^ 32 - 1) (k + s.pl.keyWin)))
    | none => ready
  ok.map (fun p => p.1)

/-- One of a list, freely chosen; a single one needs no choice (12 R245 item 4; log 3). -/
def State.pick (s : State) (l : List Nat) : Option Nat × State :=
  match l with
  | [] => (none, s)
  | [i] => (some i, s)
  | _ => let (f, s) := s.draw; (l[f % l.length]?, s)

/-- An entry becomes RUNNING (12 R243). -/
def State.runEntry (s : State) (i : Nat) : State :=
  match s.entry i with
  | none => s
  | some e => { (s.setEntry i { e with state := .running }) with
                pl := { (s.setEntry i { e with state := .running }).pl with spans := s.endSpan e } }

/-- A NEXT takes an entry: RUNNING, and the handle and registers go to its deposit (12 R249). -/
def State.giveNext (s : State) (d i : Nat) : State :=
  match s.entry i with
  | none => s
  | some e =>
    let h := s.taskHandle i
    (s.runEntry i).modDep d (fun x => { (x.answer h.toNat []) with task := some (e.record, h) })

/-- Waiting NEXTs of a context are served, oldest first, while pulled entries are READY (12 R249 item 1). -/
def State.serveNexts (s : State) (ctx : Nat) : List Nat → State
  | [] => s
  | rid :: rest =>
    match kget s.msgs rid with
    | none => State.serveNexts { s with pl := { s.pl with nexts := s.pl.nexts.filter (fun r => r != rid) } } ctx rest
    | some m =>
      if m.ctx != ctx then s.serveNexts ctx rest
      else
        match s.pick (s.qualifying ctx true) with
        | (some i, s) =>
          let s := (s.unpost rid).giveNext (m.dep.getD rid) i
          State.serveNexts { s with pl := { s.pl with nexts := s.pl.nexts.filter (fun r => r != rid) } } ctx rest
        | (none, s) => s

/-- Every context's waiting NEXTs are looked at again: the key window moves with time and with DIE_KEYWIN (12 R245, R249). -/
def State.serveWaiting (s : State) : State :=
  if s.pl.nexts.isEmpty then s
  else (List.range 16).foldl (fun (s : State) (c : Nat) => s.serveNexts c s.pl.nexts) s

/-- An entry whose counter is 0 and whose release time has passed becomes READY, and a waiting NEXT is served
(12 R243, R249). -/
def State.tryReady (s : State) (i : Nat) : State :=
  match s.entry i with
  | some e =>
    if e.state = .waiting ∧ e.counter = 0 ∧ (s.released (recRelease e.record) ∨ e.stolen.isSome) then
      let s := s.setEntry i { e with state := .ready, readyAt := s.t.cycle }
      let span : ReadySpan := { ctx := e.ctx, pull := recPull e.record, key := recKey e.record, start := s.t.cycle, stop := none }
      let s := { s with pl := { s.pl with spans := s.pl.spans ++ [span] } }
      if recPull e.record then s.serveNexts e.ctx s.pl.nexts else s
    else s
  | none => s

/-- An entry of a generation loses one from its counter (12 R243). -/
def State.countDown (s : State) (i gen : Nat) : State :=
  match s.entry i with
  | some e =>
    if e.state = .waiting ∧ s.pgen i = gen then (s.setEntry i { e with counter := e.counter - 1 }).tryReady i else s
  | none => s

/-- A decrement by handle (12 R240, R243). -/
def State.decrement (s : State) (h : Word) : State :=
  match s.entryOf h with
  | some i =>
    match s.entry i with
    | some e => if e.state = .waiting ∧ e.counter ≠ 0 then s.countDown i (s.pgen i) else s.dropDecrement
    | none => s.dropDecrement
  | none => s.dropDecrement

/-! ### Where a record is placed (12 R241) -/

/-- Lowest EMPTY entry from index `i` on, among the next `n`. -/
def State.freeEntry (s : State) (i : Nat) : Nat → Option Nat
  | 0 => none
  | n + 1 => if (s.entry i).isNone then some i else s.freeEntry (i + 1) n

/-- Live slices from `k` on, in slice order and round. -/
def State.slicesFrom (s : State) (k : Nat) : List Nat :=
  s.liveSlices.filter (fun x => decide (k ≤ x)) ++ s.liveSlices.filter (fun x => decide (x < k))

/-- Entry for a record, and the rotation after it; no entry when every live shard is full. -/
def State.placeRecord (s : State) (out : Word) : Option Nat × Nat :=
  let turn := (s.slicesFrom s.pl.rotation).headD 0
  let first := if out = 0 then turn else s.sliceOf (Config.nameHash (out.toNat % 2 ^ 32))
  let i := (s.slicesFrom first).findSome? (fun k => s.freeEntry (1024 * k) 1024)
  (i, if out = 0 then (s.slicesFrom (turn + 1)).headD 0 else s.pl.rotation)

end Sys2Proof.Machine
end

