-- ==== Sys2Proof/Machine/VersionOps.lean ====
section
/-!
DEFINITION. Tile versions at their home and at a proxy: the table, storage, waiters, seal, counts, reclaim, poison
(10 R195 to R220).
-/

namespace Sys2Proof.Machine

/-! ### The table -/

/-- A version-table entry (10 R199). -/
def State.version (s : State) (ctx : Nat) (h : Word) : Option Version :=
  s.vs.versions.find? (fun v => v.ctx == ctx && v.handle == h)

/-- The other entries. -/
def State.otherVersions (s : State) (ctx : Nat) (h : Word) : List Version :=
  s.vs.versions.filter (fun v => !(v.ctx == ctx && v.handle == h))

/-- An entry written. -/
def State.setVersion (s : State) (v : Version) : State :=
  { s with vs := { s.vs with versions := s.otherVersions v.ctx v.handle ++ [v] } }

/-- The name of a handle, and the version number (10 R195). -/
def hName (h : Word) : Nat := bitsOf 31 0 h.toNat
def hVer (h : Word) : Nat := bitsOf 63 32 h.toNat

/-- Home slice of a name on this die (10 R196). -/
def State.nameSlice (s : State) (h : Word) : Nat := s.sliceOf (Config.nameHash (hName h))

/-- Number of the n-th table slot of a slice; those from the 32,768th on lie in the extension region (10 R199, R201 item 3). -/
def tableSlot (slice n : Nat) : Nat := n / 32768 * 2 ^ 21 + 32768 * slice + n % 32768

/-- Slice of a table slot, and whether it lies in the extension region. -/
def slotSlice (i : Nat) : Nat := i % 2 ^ 21 / 32768
def slotExt (i : Nat) : Bool := decide (2 ^ 21 ≤ i)

/-- Lowest free table slot of a slice from the `i`-th on (10 R199, R200). -/
def freeTable (used : List Nat) (slice i : Nat) : Nat → Nat
  | 0 => tableSlot slice i
  | n + 1 => if used.contains (tableSlot slice i) then freeTable used slice (i + 1) n else tableSlot slice i

/-- An entry for a version that has none: ABSENT, in a table slot of its home slice with that slot's generation. -/
def State.newVersion (s : State) (ctx : Nat) (h : Word) : Version :=
  let used := s.vs.versions.map Version.slot
  let i := freeTable used (s.nameSlice h) 0 used.length
  { ctx := ctx, handle := h, state := .absent, slot := i, gen := kgetD s.vs.vgens i 0 }

/-- The entry of a version, or a new one. -/
def State.versionOrNew (s : State) (ctx : Nat) (h : Word) : Version :=
  (s.version ctx h).getD (s.newVersion ctx h)

/-- k.tval of a late fault (10 R214). -/
def versionTval (h : Word) (reason : Nat) : Word :=
  BitVec.ofNat 64 (hName h * 2 ^ 32 + (hVer h % 2 ^ 24) * 2 ^ 8 + reason)

/-- A late fault with a reason (10 R214). -/
def versionFault (h : Word) (reason : Nat) : LateFault :=
  { cause := if reason = 0x10 then .versionPoison else .versionExists, tval := versionTval h reason }

/-! ### Storage (10 R201 to R203, 09 R180) -/

/-- Granules that the version ways of a slice hold: 64 a way, less the lines of sets that have fewer working ways than
VWAYS, 16 lines to a granule (09 R180, 21 R414). -/
def State.wayGranules (s : State) (slice : Nat) : Nat :=
  let mine := s.vs.waysOff.filter (fun w => w.1 == slice)
  let sets := distinct (mine.map (fun w => w.2.1))
  let lost := sets.foldl (fun n a => n + (s.vs.vways + (mine.filter (fun w => w.2.1 == a)).length - 16)) 0
  64 * s.vs.vways - ceilDiv lost 16

/-- Granules that a version holds in its slice. -/
def Version.resident (v : Version) : Nat :=
  if v.state = .absent then 0 else v.g - v.spill

/-- Granules in use in the version ways of a slice. -/
def State.granulesUsed (s : State) (slice : Nat) : Nat :=
  (s.vs.versions.filter (fun v => slotSlice v.slot == slice)).foldl (fun n v => n + v.resident) 0

/-- Granules that the extension region holds: it is used only up to DIE_MEMSZ (10 R203). -/
def State.extGranules (s : State) : Nat :=
  let base := s.vs.vxBase * 2 ^ 16
  let size := s.vs.vxSize * 2 ^ 16
  (min size (s.memBytes - base)) / 4096

/-- Granules in the extension region. -/
def State.spilled (s : State) : Nat := s.vs.versions.foldl (fun n v => n + v.spill) 0

/-- A matrix task pins a version's lines (13 R270 item 6). -/
def State.pinned (s : State) (ctx : Nat) (h : Word) : Bool :=
  s.cores.any (fun (p : Nat × CoreSt) => match p.2.matrix with
    | some m => m.state == .run && m.ctx == ctx && (List.range 4).any (fun k => (kget m.data k).isSome && recIn m.record k == h)
    | none => false)

/-- Granules of a slice that a matrix task pins: they are not spilled (13 R270 item 4). -/
def State.pinnedGranules (s : State) (slice : Nat) : Nat :=
  (s.vs.versions.filter (fun v => slotSlice v.slot == slice && s.pinned v.ctx v.handle)).foldl (fun n v => n + v.resident) 0

/-- Waiter records that a slice holds, for versions homed here and at the proxy. -/
def State.waiterRecs (s : State) (slice : Nat) : Nat :=
  (s.vs.versions.filter (fun v => slotSlice v.slot == slice)).foldl (fun n v => n + v.waiters.length) 0 +
    (s.vs.proxies.filter (fun p => s.nameSlice p.handle == slice)).foldl (fun n p => n + p.waiters.length) 0

/-- Table entries and waiter records in the extension region: those beyond a slice's 32,768 entries and 8,192 waiter slots
(10 R201 item 3). -/
def State.extRecs (s : State) : Nat :=
  (s.vs.versions.filter (fun v => slotExt v.slot)).length + s.liveSlices.foldl (fun n k => n + (s.waiterRecs k - 8192)) 0

/-- Granules that these and `n` more of them take, at 64 bytes each (log 67). -/
def State.recGranules (s : State) (n : Nat) : Nat := ceilDiv (64 * (s.extRecs + n)) 4096

/-- The extension region has room for `n` more records. -/
def State.recRoom (s : State) (n : Nat) : Bool := n == 0 || decide (s.spilled + s.recGranules n ≤ s.extGranules)

/-- Records that a new entry for a version puts into the extension region: none when it has an entry already, or a table slot of
its slice is free. -/
def State.entryNeed (s : State) (ctx : Nat) (h : Word) : Nat :=
  match s.version ctx h with
  | some _ => 0
  | none => if slotExt (s.newVersion ctx h).slot then 1 else 0

/-- Order of the spill: COMPLETE and DEAD versions by completion, then the others; what is pinned stays (10 R201 item 2, 13 R270
item 4). -/
def State.spillOrder (s : State) (slice : Nat) : List Version :=
  let mine := s.vs.versions.filter (fun v => slotSlice v.slot == slice && decide (v.resident ≠ 0) && !s.pinned v.ctx v.handle)
  let done := mine.filter (fun v => v.state == .complete || v.state == .dead || (v.state == .poisoned && v.sealed))
  let ins := fun (l : List Version) (v : Version) =>
    l.filter (fun u => decide (u.doneAt ≤ v.doneAt)) ++ [v] ++ l.filter (fun u => decide (v.doneAt < u.doneAt))
  done.foldl ins [] ++ mine.filter (fun v => !(v.state == .complete || v.state == .dead || (v.state == .poisoned && v.sealed)))

/-- `n` granules of a slice spilled, oldest completion first. -/
def State.spill (s : State) (slice n : Nat) : State :=
  ((s.spillOrder slice).foldl (fun (acc : Nat × State) v =>
    let k := min acc.1 v.resident
    if k = 0 then acc else (acc.1 - k, acc.2.setVersion { v with spill := v.spill + k })) (n, s)).2

/-- Room for `g` more granules of a slice and `n` more records in the extension region, spilling what must be spilled; none when
both the ways and the extension region are full (10 R202). -/
def State.makeRoom (s : State) (slice g n : Nat) : Option State :=
  let beyond := s.granulesUsed slice + g - s.wayGranules slice
  if beyond = 0 ∧ n = 0 then some s
  else if s.spilled + beyond + s.recGranules n ≤ s.extGranules then some (s.spill slice beyond)
  else none

/-- Granules of a version of `g` that lie in the extension region from the start: those that do not fit the ways even
when every other version of the slice that is not pinned has spilled. -/
def State.bornSpilled (s : State) (slice g : Nat) : Nat := g - (s.wayGranules slice - s.pinnedGranules slice)

/-- A request is held for room: SLICE_VSTAT.FULL is set, once for each, and its vector sent (10 R202 item 3). -/
def State.holdFull (s : State) (ctx : Nat) (h : Word) : State :=
  if s.vs.vHeld.contains (ctx, h) then s
  else
    let t := ({ s with vs := { s.vs with vFull := true, vHeld := (ctx, h) :: s.vs.vHeld } } : State).sticky .versionFull
    if s.vs.vFull then t else t.irq s.vs.vVec

/-- The request is held no more. -/
def State.unholdFull (s : State) (ctx : Nat) (h : Word) : State :=
  if s.vs.vHeld.isEmpty then s else { s with vs := { s.vs with vHeld := s.vs.vHeld.filter (fun p => p != (ctx, h)) } }

/-! ### Late faults and data of a load -/

/-- The version reads as poisoned (10 R204, R219). -/
def Version.bad (v : Version) : Bool := v.state == .poisoned || v.poisonDead

/-- What a load of a version's data receives: data or zeros and events, or a late fault (10 R204, R213, R214, R219). -/
def loadResult (h : Word) (g data : Nat) (bad : Bool) (l : VLoad) : Except LateFault (Nat × List UeEvent) :=
  let size := if l.size = 0 then 4096 * g else l.size
  let off := if l.size = 0 then 0 else l.off
  if l.size ≠ 0 ∧ 4096 * g < l.off + size then .error (versionFault h 0x08)
  else if bad then
    if l.pt then .error (versionFault h 0x10)
    else .ok (0, [{ where' := hName h, src := 4, row := 0, col := off / 512, kind := 0b101 }])
  else .ok ((data >>> (8 * off)) % 2 ^ (8 * size), [])

/-- Lines of a COMPLETE version's window that its load may leave in the core's L1, tagged with the slot index and generation (10
R213 item 5); whether it does is free.  A hit on one returns what the version's home or proxy holds, from where every load is
served (log 67). -/
def State.cacheVersion (s : State) (core ctx : Nat) (tag : Nat × Nat) (off size v : Nat) : State :=
  let (f, s) := s.draw
  if f % 2 = 0 then s
  else s.modCore core (fun k => (List.range (size / 32)).foldl (fun (k : CoreSt) j =>
    k.l1Fill { line := 2 ^ 60 + tag.1 * 2 ^ 15 + off / 32 + j, ctx := ctx, w := false, bytes := bytesOf 32 (v >>> (256 * j)), ver := some tag }) k)

/-- A version's lines leave the L1s of the die at its reclaim (09 R175 item 4, 10 R213 item 5). -/
def State.uncacheVersion (s : State) (tag : Nat × Nat) : State :=
  { s with cores := kmap s.cores (fun _ k => if k.l1.any (fun q => q.ver == some tag) then { k with l1 := k.l1.filter (fun q => q.ver != some tag) } else k) }

/-- A version load's answer to its deposit.  LDVL (size 0) streams into local memory after the check of R213 item 2,
and its deposit receives the byte count; `loff` is the local offset. -/
def State.answerLoad (s : State) (d : Nat) (h : Word) (tag : Nat × Nat) (g data : Nat) (bad : Bool) (l : VLoad) : State :=
  match kget s.deps d with
  | none => s
  | some dep =>
    match loadResult h g data bad l with
    | .error f => s.modDep d (fun x => x.fail f)
    | .ok (v, ue) =>
      if l.size ≠ 0 then
        let s := match s.slot dep.sid with
          | some x => if bad then s else s.cacheVersion (dep.sid / 16) x.ctx tag l.off l.size v
          | none => s
        s.modDep d (fun x => x.answer v ue)
      else
        let core := (match s.image dep.sid with | some i => i.sid | none => dep.sid) / 16
        let k := s.core core
        let stop := l.off + 4096 * g
        if l.off < k.xbound then s.modDep d (fun x => x.fail { cause := .prot, tval := BitVec.ofNat 64 l.off })
        else if k.ltop < stop then
          s.modDep d (fun x => x.fail { cause := .prot, tval := BitVec.ofNat 64 (max l.off k.ltop) })
        -- a saved slot's stream that another context's slots have followed on the core leaves their memory alone (10 R213 item 3)
        else if (s.image dep.sid).isSome && s.slots.any (fun (p : Nat × Slot) => p.1 / 16 == core && p.2.ctx != ((s.image dep.sid).map Saved.ctx).getD 0) then
          s.modDep d (fun x => x.answer (4096 * g) ue)
        else (s.locWrite core l.off (bytesOf (4096 * g) v)).modDep d (fun x => x.answer (4096 * g) ue)

/-- An awaited version of a launch is sealed; the count of IND 2 comes with it (16 R319, R320). -/
def State.launchInput (s : State) (l : Nat) (count : Nat) (bad : Bool) : State :=
  { s with gr := { s.gr with launches := kmap s.gr.launches (fun _ x =>
      if x.uid = l / 2 ∧ x.state = .waiting then
        let x := { x with waits := x.waits - 1 }
        let x := if l % 2 = 1 then { x with count := some count, countBad := bad } else x
        if x.waits = 0 ∧ s.released (recRelease x.record) then { x with state := .ready } else x
      else x) } }

/-- One waiter is served with a version's data (10 R211, 12 R243, 16 R319). -/
def State.serveWaiter (s : State) (h : Word) (tag : Nat × Nat) (g data : Nat) (bad : Bool) (w : Waiter) : State :=
  match w.who with
  | .dep d => s.answerLoad d h tag g data bad w.load
  | .entry i gen => s.countDown i gen
  | .launch l => s.launchInput l (data % 2 ^ 32) bad

/-! ### Notices to other dies (10 R212, R217; 19 R384) -/

/-- A VNOTICE: beats of slot index and generation, G, poison mark and RECLAIM. -/
def Version.notice (v : Version) (reclaim : Bool) : Packet :=
  { typ := 0x04, vc := 2, space := 1, addr := v.handle, op := (if v.bad then 1 else 0) + (if reclaim then 2 else 0),
    arg1 := BitVec.ofNat 64 (v.slot + v.gen * 2 ^ 32), arg2 := BitVec.ofNat 64 v.g }

/-- A VNOTICE to one agent, on whose acknowledgement it waits. -/
def State.sendNotice (s : State) (v : Version) (reclaim : Bool) (agent : Nat) : State :=
  let (r, s) := s.newId
  let m : Msg := { sid := none, ctx := v.ctx, user := false, op := .notice v.handle agent reclaim, pa := 0, after := [], dep := none, sent := true, dsts := [agent],
                       retryAt := some (s.t.cycle + 2500) }
  (s.post r m).sendPacket agent r v.ctx (v.notice reclaim)

/-- Notices to every subscriber that is up; one that is FENCED or DOWN counts as acknowledged. -/
def State.notify (s : State) (v : Version) (reclaim : Bool) : State :=
  (v.subs.filter s.agentUp).foldl (fun s a => s.sendNotice v reclaim a) s

/-! ### Reclaim (10 R217) -/

/-- The version becomes DEAD and reclaim begins. -/
def State.reclaimStart (s : State) (v : Version) : State :=
  let d := { v with state := .dead, poisonDead := v.bad }
  ((s.uncacheVersion (d.slot, d.gen)).setVersion d).notify d true

/-- Reclaim can end: no reclaim notice is unacknowledged, and no read of the version is in flight. -/
def State.reclaimDone (s : State) (ctx : Nat) (h : Word) : Bool :=
  !s.pinned ctx h && !s.msgs.any (fun p => p.2.ctx == ctx && (match p.2.op with
    | .notice h' _ true => h' == h
    | .vload h' _ _ => h' == h && !p.2.sent
    | _ => false))

/-- The entry becomes ABSENT: granules and slot are freed, and the slot's generation is incremented (10 R200). -/
def State.freeVersion (s : State) (v : Version) : State :=
  { s with vs := { s.vs with versions := s.otherVersions v.ctx v.handle,
                             vgens := kset s.vs.vgens v.slot ((v.gen + 1) % 2 ^ 16) } }

/-! ### Counts and the seal -/

/-- A consuming load, a VREL or a seal may leave the count at 0: the version is DEAD (10 R204, R205 item 5, R216). -/
def State.settle (s : State) (v : Version) : State :=
  if !v.manual && v.count == 0 && (v.state == .complete || (v.state == .poisoned && v.sealed)) then s.reclaimStart v
  else s.setVersion v

/-- The decrement that a consuming load makes (10 R216 items 1 and 5). -/
def Version.consume (v : Version) (l : VLoad) : Version :=
  if l.cons && !l.replay && !v.manual && v.state != .dead then { v with count := v.count - 1 } else v

/-- A load met a late fault at the home, so that no data left it. -/
def loadFails (v : Version) (l : VLoad) : Bool :=
  match loadResult v.handle v.g v.data v.bad l with
  | .ok _ => false
  | .error _ => true

/-- A waiter or load is served at the home, with its decrement. -/
def State.serveAtHome (s : State) (v : Version) (w : Waiter) : Version × State :=
  let s := s.serveWaiter v.handle (v.slot, v.gen) v.g v.data v.bad w
  (if loadFails v w.load then v else v.consume w.load, s)

/-- A seal: COMPLETE or SEALED, waiters served, notices sent, DEAD at once when nobody is to consume it (10 R205).
Tasks that name the version as an input wait through waiters of their own (item 4). -/
def State.sealVersion (s : State) (v : Version) : State :=
  let v1 := { v with sealed := true, state := (if v.state = .poisoned then .poisoned else .complete), waiters := [], doneAt := s.t.cycle }
  let (v2, s) := v.waiters.foldl (fun (acc : Version × State) w => acc.2.serveAtHome acc.1 w) (v1, s.setVersion v1)
  let s := (s.setVersion v2).notify v2 false
  s.settle v2

/-! ### Registration (10 R211, R212; 12 R243) -/

/-- What is held of a version at the proxy. -/
def State.proxy (s : State) (ctx : Nat) (h : Word) : Option ProxyCopy :=
  s.vs.proxies.find? (fun p => p.ctx == ctx && p.handle == h)

/-- A proxy entry written. -/
def State.setProxy (s : State) (p : ProxyCopy) : State :=
  { s with vs := { s.vs with proxies := s.vs.proxies.filter (fun q => !(q.ctx == p.ctx && q.handle == p.handle)) ++ [p] } }

/-- A proxy entry removed. -/
def State.dropProxy (s : State) (ctx : Nat) (h : Word) : State :=
  { s with vs := { s.vs with proxies := s.vs.proxies.filter (fun q => !(q.ctx == ctx && q.handle == h)) } }

/-- A decrement forwarded to a version's home on another die (10 R212 item 3; 19 R381 item 2). -/
def State.sendDecrement (s : State) (ctx : Nat) (h : Word) (agent : Nat) : State :=
  let (r, s) := s.newId
  let m : Msg := { sid := none, ctx := ctx, user := false, op := .vconsume h, pa := 0, after := [], dep := none, sent := true, dsts := [agent] }
  (s.post r m).sendPacket agent r ctx { typ := 0x03, vc := 0, space := 1, addr := h, op := 11 }

/-- A load or waiter at the proxy of a version homed at `agent` (10 R212). -/
def State.proxyLoad (s : State) (ctx : Nat) (h : Word) (agent : Nat) (w : Waiter) : State :=
  match s.proxy ctx h with
  | some p =>
    if p.present then
      let s := s.serveWaiter h (p.slot, p.gen) p.g p.data p.poisoned w
      if w.load.cons && !w.load.replay then s.sendDecrement ctx h agent else s
    else s.setProxy { p with waiters := p.waiters ++ [w] }
  | none =>
    let (r, s) := s.newId
    let m : Msg := { sid := none, ctx := ctx, user := false, op := .proxy h false, pa := 0, after := [], dep := none, sent := true, dsts := [agent] }
    ((s.setProxy { ctx := ctx, handle := h, waiters := [w] }).post r m).sendPacket agent r ctx
      { typ := 0x06, vc := 0, space := 1, addr := h }

/-- A load or waiter at the home: served, or registered (10 R204, R211). -/
def State.homeLoad (s : State) (ctx : Nat) (h : Word) (w : Waiter) : State :=
  match s.version ctx h with
  | some v =>
    if v.state = .complete ∨ v.state = .dead ∨ (v.state = .poisoned ∧ v.sealed) then
      let (v', s) := s.serveAtHome v w
      if v' = v then s else s.settle v'
    else s.setVersion { v with waiters := v.waiters ++ [w] }
  | none => s.setVersion { s.newVersion ctx h with waiters := [w] }

/-- A waiter that no home answers: an entry's input or a launch's counts as sealed, with a bad count; a load's deposit
is refused (12 R243, 16 R320, 10 R196 item 4). -/
def State.refuseWaiter (s : State) (h : Word) (w : Waiter) : State :=
  match w.who with
  | .dep d => s.modDep d (fun x => x.refuse 0 h.toNat)
  | .entry i gen => s.countDown i gen
  | .launch l => s.launchInput l 0 true

/-- Waiter of an entry or launch: no window, no decrement. -/
def plainWait (who : WaitWho) : Waiter :=
  { who := who, load := { off := 0, size := 4, cons := false, pt := false, replay := false } }

/-- A load or waiter finds what it needs: it is served at once, or a waiter record and an entry have room (10 R202 item 2). -/
def State.loadRoom (s : State) (ctx : Nat) (h : Word) : Bool :=
  let full := if s.waiterRecs (s.nameSlice h) < 8192 then 0 else 1
  match s.nameHome ctx h with
  | .gone => true
  | .own =>
    match s.version ctx h with
    | some v => v.state == .complete || v.state == .dead || (v.state == .poisoned && v.sealed) || s.recRoom full
    | none => s.recRoom (full + s.entryNeed ctx h)
  | .agent _ => (s.proxy ctx h).any ProxyCopy.present || s.recRoom full

/-- A waiter registered at the home of a version, wherever that is. -/
def State.registerWaiter (s : State) (ctx : Nat) (h : Word) (w : Waiter) : State :=
  match s.nameHome ctx h with
  | .own => s.homeLoad ctx h w
  | .agent a => s.proxyLoad ctx h a w
  | .gone => s.refuseWaiter h w

/-- The same for an entry or a launch: its request waits at the slice while there is no room. -/
def State.seekWaiter (s : State) (ctx : Nat) (h : Word) (who : WaitWho) : State :=
  if s.loadRoom ctx h then s.registerWaiter ctx h (plainWait who)
  else
    let (r, s) := s.newId
    (s.holdFull ctx h).post r { sid := none, ctx := ctx, user := false, op := .vwait h who, pa := 0, after := [], dep := none }

/-! ### Posting a record (12 R241, R243) -/

/-- A valid record enters the pool at entry `i`: WAITING, with a waiter for each input. -/
def State.enterRecord (s : State) (ctx r i rotation : Nat) (stolen : Option Nat) (replay : Bool) : State :=
  let nin := if stolen.isSome then 0 else recNin r
  let e : PoolEntry := { state := .waiting, ctx := ctx, record := r, counter := if stolen.isSome then 0 else recNin r + recExtra r,
                         stolen := stolen, replay := replay }
  let s := { s with pl := { s.pl with rotation := rotation } }
  let s := s.setEntry i e
  let gen := s.pgen i
  let s := (List.range nin).foldl (fun s k => s.seekWaiter ctx (recIn r k) (.entry i gen)) s
  s.tryReady i

/-- A valid record posted: its entry, none when every live shard is full; the rotation moves in either case
(12 R241 items 2 and 4). -/
def State.postRecord (s : State) (ctx r : Nat) (stolen : Option Nat) : Option Nat × State :=
  match s.placeRecord (recOut r) with
  | (some i, rot) => (some i, s.enterRecord ctx r i rot stolen false)
  | (none, rot) => (none, { s with pl := { s.pl with rotation := rot } })

end Sys2Proof.Machine
end

