-- ==== Sys2Proof/Machine/BarrierOps.lean ====
section
/-!
DEFINITION. Barriers at their home: episodes, releases, breaks, the exchange banks' swap, echo records
(17 R327 to R343).
-/

namespace Sys2Proof.Machine

/-! ### Names (17 R327, R328) -/

/-- Fields of a barrier handle. -/
def bhDie (h : Word) : Bool := h.toNat.testBit 40
def bhN (h : Word) : Nat := bitsOf 6 0 h.toNat
def bhId (h : Word) : Nat := bitsOf 7 0 h.toNat
def bhHome (h : Word) : Nat := bitsOf 25 16 h.toNat

/-- Two handles name one die barrier: their other bits are ignored (17 R327). -/
def sameBarrier (g h : Word) : Bool := bhId g == bhId h && bhHome g == bhHome h

/-- A barrier: named barrier n of the group of a key, as 128 × key + n, which its file entry follows through saves
(17 R328); or a die barrier. -/
inductive BKey where
  | named (k : Nat)
  | die (id : Nat)
  deriving DecidableEq, Repr

/-- The barrier at a place; none while it is FREE. -/
def State.barrierAt (s : State) (k : BKey) : Option Barrier :=
  match k with
  | .named n => kget s.br.barriers n
  | .die id => kget s.br.dieBars id

/-- A barrier written. -/
def State.setBarrier (s : State) (k : BKey) (b : Barrier) : State :=
  match k with
  | .named n => { s with br := { s.br with barriers := kset s.br.barriers n b } }
  | .die id => { s with br := { s.br with dieBars := kset s.br.dieBars id b } }

/-- A barrier removed: FREE. -/
def State.delBarrier (s : State) (k : BKey) : State :=
  match k with
  | .named n => { s with br := { s.br with barriers := kdel s.br.barriers n } }
  | .die id => { s with br := { s.br with dieBars := kdel s.br.dieBars id } }

/-- Place of a group's named barrier n in the barrier files: core × 512 + entry (17 R328). -/
def Group.barrierKey (g : Group) (n : Nat) : Nat :=
  let p := n % g.cores.length
  g.cores[p]?.getD 0 * 512 + 32 * (((g.slots[p]?.getD []).headD 0)) + n / g.cores.length

/-- Reasons (17 R336). -/
def brFault : Nat := 1
def brFence : Nat := 2
def brMismatch : Nat := 3
def brDup : Nat := 4
def brCleared : Nat := 5
def brNobar : Nat := 6
def brMask : Nat := 7
def brBusy : Nat := 8

/-- k.tval of BARRIER_BROKEN (17 R337). -/
def barrierTval (h : Word) (reason : Nat) : Word := BitVec.ofNat 64 (bitsOf 40 0 h.toNat * 256 + reason)

/-- A fail delivered late (17 R337). -/
def barrierFault (h : Word) (reason : Nat) : LateFault := { cause := .barrierBroken, tval := barrierTval h reason }

/-! ### Answers to waiters and arrivals -/

/-- A value answered to who asked: a deposit, or a response packet whose data are the 8 bytes. -/
def State.barrierValue (s : State) (w : BWho) (ctx v : Nat) : State :=
  match w with
  | .own d => s.modDep d (fun x => x.answer v [])
  | .agent a tag => s.out (.packet { typ := 0x0A, rsp := true, vc := 1, dst := a, src := s.ownAgent, tag := tag, ctx := ctx,
                                     space := 3, data := bytesOf 8 v })

/-- A fail answered to who asked. -/
def State.barrierFail (s : State) (w : BWho) (ctx : Nat) (h : Word) (reason : Nat) : State :=
  match w with
  | .own d => s.modDep d (fun x => x.fail (barrierFault h reason))
  | .agent a tag => s.out (.packet { typ := 0x0A, rsp := true, vc := 1, dst := a, src := s.ownAgent, tag := tag, ctx := ctx,
                                     space := 3, op := reason })

/-- The barrier becomes BROKEN, and every registered waiter fails with the reason (17 R330). -/
def State.breakBarrier (s : State) (k : BKey) (b : Barrier) (reason : Nat) : State :=
  let s := b.waiters.foldl (fun (s : State) (w : BWaiter) => s.barrierFail w.who b.ctx w.h reason) s
  s.setBarrier k { b with state := .broken, reason := reason, waiters := [] }

/-! ### Echo records (17 R342, R343) -/

/-- A record. -/
def State.echoRec (s : State) (r : Nat) : EchoRec := kgetD s.br.echo r {}

/-- A record written. -/
def State.setEcho (s : State) (r : Nat) (e : EchoRec) : State := { s with br := { s.br with echo := kset s.br.echo r e } }

/-- The records of a group's named barriers follow it to the cores on which it is placed (17 R328, R342). -/
def State.followEcho (s : State) (group : Nat) : State :=
  match kget s.gr.groups group with
  | none => s
  | some g =>
    (s.br.barriers.filter (fun p => p.1 / 128 == group)).foldl (fun (s : State) (p : Nat × Barrier) =>
      match p.2.echo with
      | some r => let q := g.barrierKey (p.1 % 128); s.setEcho r { s.echoRec r with core := q / 512, entry := q % 512 }
      | none => s) s

/-- A record loses its binding and keeps its contents. -/
def State.unbindEcho (s : State) (r : Option Nat) : State :=
  match r with
  | some i => s.setEcho i { s.echoRec i with bound := false }
  | none => s

/-- A record is bound to a barrier: cleared, and taken from any barrier that held it (17 R335). -/
def State.bindEcho (s : State) (r : Nat) (k : BKey) (ctx : Nat) : State :=
  let loosen := fun (_ : Nat) (b : Barrier) => if b.echo = some r then { b with echo := none } else b
  let s := { s with br := { s.br with barriers := kmap s.br.barriers loosen, dieBars := kmap s.br.dieBars loosen } }
  match k with
  | .named n =>
    let q := ((kget s.gr.groups (n / 128)).map (fun g => g.barrierKey (n % 128))).getD 0
    s.setEcho r { bound := true, ctx := ctx, core := q / 512, entry := q % 512 }
  | .die id => s.setEcho r { bound := true, die := true, ctx := ctx, entry := id }

/-- Bin of a lag. -/
def lagBin (l : Nat) : Nat := if l = 0 then 0 else if 64 ≤ l then 7 else l.log2 + 1

/-- The columns of one member after an episode in slot j. -/
def EMember.record (x : EMember) (j : Nat) (lag : Option Nat) : EMember :=
  match lag with
  | none => { x with lags := kset x.lags j 0xFFFF }
  | some l => { x with lags := kset x.lags j l, min' := min x.min' l, max' := max x.max' l,
                       hist := kset x.hist (lagBin l) (min 255 (kgetD x.hist (lagBin l) 0 + 1)) }

/-- LASTN and STRAG of member m (17 R343 items 6 and 7). -/
def EchoRec.mark (e : EchoRec) (m : Nat) (x : EMember) : EMember :=
  let n := (e.epis.filter (fun p => p.2.lastm == m && p.2.beyond)).length
  { x with lastn := n, strag := if 8 ≤ n then true else if n ≤ 4 then false else x.strag }

/-- The record of a released episode (17 R343). -/
def EchoRec.write (e : EchoRec) (episode rtime thresh : Nat) (arrivals : List (Nat × Nat)) : EchoRec :=
  let j := episode % 16
  let f := arrivals.foldl (fun m a => min m a.2) (arrivals.headD (0, 0)).2
  let last := arrivals.foldl (fun (m : Nat × Nat) a => if m.2 < a.2 ∨ (m.2 = a.2 ∧ m.1 < a.1) then a else m) (arrivals.headD (0, 0))
  let members := (List.range 64).foldl (fun ms m =>
    kset ms m ((kgetD e.members m {}).record j ((arrivals.find? (fun a => a.1 == m)).map (fun a => min 0xFFFE ((a.2 - f) / 64))))) e.members
  let e := { e with members := members, episodes := (e.episodes + 1) % 2 ^ 32,
                    epis := kset e.epis j { beyond := decide (thresh < last.2 - f), lastm := last.1, episode := episode, rtime := rtime } }
  { e with members := kmap e.members (fun m x => e.mark m x) }

/-- The straggler mask: STRAG of members 0 to 7. -/
def EchoRec.stragglers (e : EchoRec) : Nat :=
  (List.range 8).foldl (fun z m => if (kgetD e.members m {}).strag then z + 2 ^ m else z) 0

/-! ### The exchange banks (17 R341) -/

/-- The two banks of a core change places; no byte is cleared. -/
def CoreSt.swapBanks (k : CoreSt) : CoreSt :=
  let n := 4096 * k.shad
  let lo := k.ltop - n
  let a := bytesOf n (k.loc.readN lo n)
  let b := bytesOf n (k.loc.readN k.ltop n)
  { k with loc := (k.loc.write lo b).write k.ltop a,
           ueLoc := k.ueLoc.map (fun x => if lo ≤ x ∧ x < k.ltop then x + n else if k.ltop ≤ x ∧ x < k.ltop + n then x - n else x) }

/-- Every YIELD on a core ends (05 R115 items 2 and 3). -/
def State.endYields (s : State) (core : Nat) : State :=
  { s with slots := kmap s.slots (fun sid x => if sid / 16 = core then x.unyield else x) }

/-! ### The states (17 R330, R331) -/

/-- Release of the episode that is collecting: swap, echo record, deposits; other dies with waiters are told by one
packet each (17 R331, R341). -/
def State.releaseBarrier (s : State) (k : BKey) (b : Barrier) : State :=
  let t := s.now
  let s := match k with
    | .named n =>
      let s := if b.barx then
        match kget s.gr.groups b.group with
        | some g => g.cores.foldl (fun (s : State) (c : Nat) => if (s.core c).shad = 0 then s else s.modCore c CoreSt.swapBanks) s
        | none => s
      else s
      match kget s.gr.groups (n / 128) with
      | some g => s.endYields (g.barrierKey (n % 128) / 512)
      | none => s
    | .die _ => s
  let s := match b.echo with
    | some r => s.setEcho r ((s.echoRec r).write b.e t s.br.echoThresh b.arrivals)
    | none => s
  let view := match k, b.echo with
    | .die _, some r => some (s.echoRec r).stragglers
    | _, _ => none
  let s := match view with
    | some v => { s with br := { s.br with views := kset s.br.views b.ctx v } }
    | none => s
  let (go, stay) := b.waiters.partition (fun w => w.episode == b.e)
  let s := go.foldl (fun s w => match w.who with
    | .own d => s.modDep d (fun x => x.answer t [])
    | .agent _ _ => s) s
  let agents := distinct (go.filterMap (fun w => match w.who with | .agent a _ => some a | .own _ => none))
  let h := (b.waiters.headD { who := .own 0, h := 0, episode := 0 }).h
  let word : Packet := { typ := 0x0A, vc := 2, ctx := b.ctx, space := 3, addr := h,
                         op := (if view.isSome then 1 else 0) + 2 * view.getD 0,
                         arg1 := BitVec.ofNat 64 b.e, arg2 := BitVec.ofNat 64 t }
  let s := agents.foldl (fun (s : State) a => s.out (.packet { word with dst := a, src := s.ownAgent })) s
  s.setBarrier k { b with state := .released, e := (b.e + 1) % 2 ^ 32, k := 0, arrivals := [], barx := false, waiters := stay, lastRelease := t }

/-- A member's arrival time: for a die, the latest (17 R343 item 2). -/
def noteArrival (l : List (Nat × Nat)) (m t : Nat) : List (Nat × Nat) :=
  l.filter (fun a => a.1 != m) ++ [(m, t)]

/-- Own die's context is admitted, as barrier requests need (18 R350). -/
def State.barrierAdmits (s : State) (ctx : Nat) : Bool := (s.ctx ctx).state.admitted'

/-- An arrival at the home as member `m` of context `ctx`; BARX waits for the release (17 R330, R336). -/
def State.arrive (s : State) (k : BKey) (ctx m : Nat) (barx : Bool) (w : BWho) (h : Word) : State :=
  match s.barrierAt k with
  | none => s.barrierFail w ctx h brNobar
  | some b =>
    let isDie := match k with | .die _ => true | .named _ => false
    if isDie && b.ctx != ctx then s.barrierFail w ctx h brBusy
    else if b.state = .broken then s.barrierFail w ctx h b.reason
    else if isDie && !b.mask.testBit m then (s.breakBarrier k b brMask).barrierFail w ctx h brMask
    else if !isDie && b.state == .collecting && b.arrivals.any (fun a => a.1 == m) then
      (s.breakBarrier k b brDup).barrierFail w ctx h brDup
    else
      let b := { b with k := b.k + 1, arrivals := noteArrival b.arrivals m s.now, barx := b.barx || barx, state := .collecting,
                        waiters := if barx then b.waiters ++ [{ who := w, h := h, episode := b.e }] else b.waiters }
      let s := if barx then s else s.barrierValue w ctx b.e
      if b.k = b.t then s.releaseBarrier k b else s.setBarrier k b

/-- A wait at the home for episode `e` (17 R336). -/
def State.awaitBarrier (s : State) (k : BKey) (ctx e : Nat) (w : BWho) (h : Word) : State :=
  match s.barrierAt k with
  | none => s.barrierFail w ctx h brNobar
  | some b =>
    let isDie := match k with | .die _ => true | .named _ => false
    let d := (b.e + 2 ^ 32 - e) % 2 ^ 32
    if isDie && b.ctx != ctx then s.barrierFail w ctx h brBusy
    else if b.state = .broken then s.barrierFail w ctx h b.reason
    else if 1 ≤ d ∧ d ≤ 2 ^ 31 then s.barrierValue w ctx b.lastRelease
    else s.setBarrier k { b with waiters := b.waiters ++ [{ who := w, h := h, episode := e }] }

/-- Status word of a barrier that is not FREE (17 R338). -/
def Barrier.status (b : Barrier) : Nat :=
  b.e * 2 ^ 32 + b.state.num * 2 ^ 29 + (if b.state = .broken then b.reason else 0) * 2 ^ 25 + (b.k % 8192) * 2 ^ 12 + (b.t - 1)

/-- The status word (17 R338). -/
def State.barrierStatus (s : State) (k : BKey) (ctx : Nat) : Nat :=
  match s.barrierAt k with
  | none => 0
  | some b =>
    match k with
    | .die _ => if b.ctx != ctx then 4 * 2 ^ 29 + brBusy * 2 ^ 25 else b.status
    | .named _ => b.status

/-- BARI at the home: 0 when it is acknowledged, else the reason of its failure (17 R330, R335). -/
def State.armBarrier (s : State) (k : BKey) (ctx group cf mask : Nat) : Nat × State :=
  let t := bitsOf 11 0 cf + 1
  let r := bitsOf 19 16 cf
  let echo := if cf.testBit 20 && decide (r < 7) then some r else none
  match s.barrierAt k with
  | none =>
    let s := match echo with
      | some i => s.bindEcho i k ctx
      | none => s
    (0, s.setBarrier k { ctx := ctx, t := t, mask := mask, cfgEcho := echo, echo := echo, group := group })
  | some b =>
    let isDie := match k with | .die _ => true | .named _ => false
    if isDie && b.ctx != ctx then (brBusy, s)
    else if b.t = t ∧ b.mask = mask ∧ b.cfgEcho = echo then (0, s)
    else (brMismatch, s.breakBarrier k b brMismatch)

/-- A barrier becomes FREE: waiters fail with `reason` where one is given, and its record loses its binding. -/
def State.freeBarrier (s : State) (k : BKey) (reason : Option Nat) : State :=
  match s.barrierAt k with
  | none => s
  | some b =>
    let s := match reason with
      | some r => b.waiters.foldl (fun (s : State) (w : BWaiter) => s.barrierFail w.who b.ctx w.h r) s
      | none => s
    (s.unbindEcho b.echo).delBarrier k

/-- Barriers that meet a test break with a reason (17 R332). -/
def State.breakWhere (s : State) (named : Barrier → Bool) (die : Barrier → Bool) (reason : Nat) : State :=
  let ns := s.br.barriers.filter (fun p => named p.2 && p.2.state != .broken)
  let ds := s.br.dieBars.filter (fun p => die p.2 && p.2.state != .broken)
  let s := ns.foldl (fun (s : State) p => s.breakBarrier (.named p.1) p.2 reason) s
  ds.foldl (fun (s : State) p => s.breakBarrier (.die p.1) p.2 reason) s

end Sys2Proof.Machine
end

