-- ==== Sys2Proof/Machine/GroupOps.lean ====
section
/-!
DEFINITION. Where work is placed and how a slot starts and ends: thermal classes, regions, room on a core and on a
grotto, the start of a slot, its freeing, the exit of a group (04 R79 to R85, 12 R246 to R251, 16 R306 to R309, 20 R404).
-/

namespace Sys2Proof.Machine

/-! ### Zones and regions -/

/-- Weight of a thermal class for a slot, in units of 0.25 W (20 R404). -/
def thermWeight (t : Nat) : Nat := [1, 2, 3, 4, 6, 8, 12, 16][t % 8]?.getD 0

/-- Declared load of a zone, of one context when `ctx` says so (20 R404). -/
def State.zoneLoad (s : State) (z : Nat) (ctx : Option Nat) : Nat :=
  let mine : Nat → Bool := fun c => match ctx with | some k => c == k | none => true
  let slots := s.slots.foldl (fun n p => if zoneOf (p.1 / 16) == z && mine p.2.ctx then n + thermWeight p.2.thermal else n) 0
  s.cores.foldl (fun n p =>
    match p.2.matrix with
    | some m => if zoneOf p.1 == z && mine m.ctx then n + 4 * thermWeight (recTherm m.record) else n
    | none => n) slots

/-- BUDGET of a zone (20 R401). -/
def Zone.budget (z : Zone) : Nat := z.flow * 16 / 3

/-- A zone's state takes work of thermal class at most `cls` (20 R404 item 1). -/
def Zone.open' (z : Zone) (cls : Nat) : Bool := z.state == .flowing || (z.state == .throttled && cls == 0)

/-- A zone accepts new work of a context, of a class and total weight (20 R404). -/
def State.zoneAccepts (s : State) (z ctx cls w : Nat) : Bool :=
  let q := s.zone z
  let share := fun (c : Nat) => kgetD s.zn.zshares c 0x10
  let among := (List.range 16).filter (fun c => (s.ctx c).state == .resident && q.cmask.testBit c)
  let sum := among.foldl (fun n c => n + share c) 0
  q.open' cls && q.cmask.testBit ctx && decide (s.zoneLoad z none + w ≤ q.budget) &&
    decide (s.zoneLoad z (some ctx) + w ≤ q.budget * share ctx / sum)

/-- A region's rectangle holds a grotto (21 R411). -/
def Region.holds (r : Region) (g : Nat) : Bool :=
  r.en && decide (r.x0 ≤ g % 6) && decide (g % 6 ≤ r.x1) && decide (r.y0 ≤ g / 6) && decide (g / 6 ≤ r.y1)

/-- Key of the region of a grotto: the lowest enabled one whose rectangle holds it, else 8 + the grotto (21 R411). -/
def State.regionOf (s : State) (g : Nat) : Nat :=
  ((List.range 8).find? (fun r => (kgetD s.hl.regions r {}).holds g)).getD (8 + g)

/-- A grotto lies in a fenced region. -/
def State.grottoFenced (s : State) (g : Nat) : Bool :=
  (kgetD s.hl.regions (s.regionOf g) {}).state != 0 || s.hl.fenced.contains g

/-- A core works and lies outside every fenced region (16 R307 items 1 and 3). -/
def State.coreUp (s : State) (c : Nat) : Bool := !s.fused c && !s.grottoFenced (grottoOf c)

/-! ### Room on a core -/

/-- Spill kernels' space for which room is kept on a core (12 R258 item 3). -/
def State.spillSpace (s : State) (c : Nat) : Nat :=
  if !s.pl.rsv || (s.slot (sidOf c 15)).isSome then 0
  else (List.range 16).foldl (fun n x =>
    if (s.ctx x).state = .resident then
      match s.sealedFor (s.ctx x).spkid x with
      | some k => max n k.space
      | none => n
    else n) 0

/-- Bytes of register space in use on a core (04 R85). -/
def State.spaceUsed (s : State) (c : Nat) : Nat :=
  let held := s.kn.transfers.foldl (fun n (t : Nat × Transfer) =>
    if t.2.core = c ∧ t.2.reserved.isSome then n + ((s.kernel t.2.kid).map Kernel.space).getD 0 else n) 0
  s.slots.foldl (fun n p => if p.1 / 16 = c then n + p.2.space else n) held

/-- Bytes of register space that a core can still take. -/
def State.spaceFree (s : State) (c : Nat) : Nat :=
  (s.core c).gran * 4096 - s.spaceUsed c - s.spillSpace c

/-- A core runs in pair mode: its leader holds slots of the pair (21 R406). -/
def State.corePaired (s : State) (c : Nat) : Bool :=
  s.slots.any (fun p => p.1 / 16 == 2 * (c / 2) && p.2.pairMode)

/-- Pair mode of a context (21 R409). -/
def State.pairOn (s : State) (ctx : Nat) : Bool := (kgetD s.hl.pairCtx ctx (4, false)).2

/-- FREE slots of a core that may take tasks, groups and arrivals, ascending (12 R258). -/
def State.freeSlots (s : State) (c : Nat) : List Nat :=
  (List.range (if s.pl.rsv then 15 else 16)).filter (fun k => (s.slot (sidOf c k)).isNone &&
    !s.kn.transfers.any (fun (t : Nat × Transfer) => t.2.core == c && t.2.reserved == some k))

/-- What a core offers to new slots. -/
structure Offer where
  core : Nat
  slots : List Nat
  space : Nat
  deriving DecidableEq, Repr

/-- What a core offers to slots of a context; nothing where it does not work, or runs in the other mode
(16 R307; 21 R406: a pair counts as one core, its leader, with the lesser space). -/
def State.offer (s : State) (c : Nat) (pair : Bool) : Option Offer :=
  if !s.coreUp c then none
  else if !pair then (if s.corePaired c then none else some { core := c, slots := s.freeSlots c, space := s.spaceFree c })
  else if c % 2 = 1 || !s.coreUp (c + 1) then none
  else if s.slots.any (fun p => (p.1 / 16 == c || p.1 / 16 == c + 1) && !p.2.pairMode) then none
  else some { core := c, slots := s.freeSlots c,
              space := min (s.spaceFree c) ((s.core (c + 1)).gran * 4096 - s.spaceUsed c - s.spillSpace (c + 1)) }

/-! ### Room on a grotto (16 R307) -/

/-- Offers of a grotto's cores. -/
def State.offers (s : State) (g : Nat) (pair : Bool) : List Offer :=
  (List.range 4).filterMap (fun j => s.offer (4 * g + j) pair)

/-- Ascending choices of `n` from a list, in lexicographic order. -/
def choices : Nat → List Nat → List (List Nat)
  | 0, _ => [[]]
  | _ + 1, [] => []
  | n + 1, x :: xs => (choices n xs).map (fun l => x :: l) ++ choices (n + 1) xs

/-- Cores and slots for one group of `c` × `n` on offers; with gang mode the same slots on each core. -/
def placeGroup (os : List Offer) (c n space : Nat) (gang : Bool) : Option (List (Nat × List Nat)) :=
  let fit := os.filter (fun o => decide (n ≤ o.slots.length) && decide (n * space ≤ o.space))
  if !gang then
    if fit.length < c then none else some ((fit.take c).map (fun o => (o.core, o.slots.take n)))
  else
    (choices n (List.range 16)).findSome? (fun q =>
      let all := fit.filter (fun o => q.all (fun k => o.slots.contains k))
      if all.length < c then none else some ((all.take c).map (fun o => (o.core, q))))

/-- Offers after a group has been placed. -/
def takeOffers (os : List Offer) (p : List (Nat × List Nat)) (space : Nat) : List Offer :=
  os.map (fun o =>
    match p.find? (fun x => x.1 == o.core) with
    | some (_, q) => { o with slots := o.slots.filter (fun k => !q.contains k), space := o.space - q.length * space }
    | none => o)

/-- Groups that repeated placement would fit, at most `n`. -/
def roomOf (os : List Offer) (c k space : Nat) (gang : Bool) : Nat → Nat
  | 0 => 0
  | n + 1 =>
    match placeGroup os c k space gang with
    | some p => 1 + roomOf (takeOffers os p space) c k space gang n
    | none => 0

/-- Fields of a shape (04 R96). -/
def shCores (sh : Nat) : Nat := bitsOf 2 0 sh
def shSlots (sh : Nat) : Nat := bitsOf 8 4 sh
def shGang (sh : Nat) : Bool := sh.testBit 9

/-- Room of a grotto for a shape of a context (16 R307): by slots and space, and by the zone's load. -/
def State.room (s : State) (g ctx sh space cls : Nat) : Nat :=
  let pair := s.pairOn ctx
  let w := shCores sh * shSlots sh * thermWeight cls
  let n := if pair && decide (2 < shCores sh) then 0
    else roomOf (s.offers g pair) (shCores sh) (shSlots sh) space (shGang sh) 64
  ((List.range n).takeWhile (fun k => s.zoneAccepts (zoneOfGrotto g) ctx cls ((k + 1) * w))).length

/-- Grottos of a list with the largest BUDGET − LOAD among those of zones that have room; a tie goes to the lower zone
(20 R404). -/
def State.preferZone (s : State) (gs : List Nat) : List Nat :=
  let zs := distinct (gs.map zoneOfGrotto)
  let val := fun (z : Nat) => ((s.zone z).budget : Int) - (s.zoneLoad z none : Nat)
  match zs.foldl (fun (m : Option Nat) z =>
    match m with
    | none => some z
    | some y => if val y < val z ∨ (val y = val z ∧ z < y) then some z else some y) none with
  | some z => gs.filter (fun g => zoneOfGrotto g == z)
  | none => []

/-! ### Start of a slot (04 R80) -/

/-- A slot as it leaves FREE, from its context and kernel. -/
def State.freshSlot (s : State) (ctx : Nat) (k : Kernel) (pc : Word) : Slot :=
  let c := s.ctx ctx
  let v := fun (i : Nat) => BitVec.ofNat 64 (k.views[i]?.getD 0)
  { ctx := ctx, kid := k.kid, pc := pc, space := k.space, vws := v 0, vwv := v 1, vwt := v 2, vwa := v 3,
    sup := k.kid == c.hkid || (c.spkid != 0 && k.kid == c.spkid) || (k.kid != 0 && c.skids.contains k.kid),
    pass := k.pass, pairMode := s.pairOn ctx }

/-- FMT, BAND, SCA and SCB of a PARAM word in a slot (04 R80 item 6, 12 R238). -/
def Slot.withParam (x : Slot) (p : Nat) : Slot :=
  { x with fmt := BitVec.ofNat 64 (p % 2 ^ 16 &&& 0x3FFF), band := BitVec.ofNat 64 (p / 2 ^ 16 % 2 ^ 16),
           sca := BitVec.ofNat 64 (p / 2 ^ 32 % 2 ^ 16), scb := BitVec.ofNat 64 (p / 2 ^ 48 % 2 ^ 16) }

/-- The scratchpad and both banks of a core zeroed when another context's slot comes after one whose last slot has
left (09 R184). -/
def State.claimCore (s : State) (c ctx : Nat) : State :=
  let k := s.core c
  if k.left.all (fun o => o == ctx) then s.setCore c { k with left := [] }
  else
    let stop := k.ltop + 4096 * k.shad
    s.setCore c { k with left := [], loc := k.loc.filter (fun p => decide (p.1 < k.xbound) || decide (stop ≤ p.1)),
                         ueLoc := k.ueLoc.filter (fun a => decide (a < k.xbound) || decide (stop ≤ a)) }

/-- Writable lines dropped (09 R175 item 3). -/
def CoreSt.l1DropW (k : CoreSt) : CoreSt := { k with l1 := k.l1.filter (fun q => !q.w) }

/-- Fills in flight on a core that meet a test are not installed (09 R175). -/
def State.noFill (s : State) (core : Nat) (p : Bool → List (Nat × Nat) → Bool) : State :=
  { s with msgs := kmap s.msgs (fun _ m =>
      match m.sid, m.op with
      | some sid, .load ps (some w) =>
        if sid / 16 = core ∧ p w (ps.map (fun q => (q.pa / 32 * 32, 32))) then { m with noFill := true } else m
      | _, _ => m) }

/-- An acquire on a core: writable lines leave its L1 (09 R175 item 3). -/
def State.dropWritable (s : State) (core : Nat) : State := (s.modCore core CoreSt.l1DropW).noFill core (fun w _ => w)

/-- A slot placed on a core; its start is an acquire (12 R246, 16 R322). -/
def State.startSlot (s : State) (sid : Nat) (x : Slot) : State :=
  let (a, s) := s.newId
  let s := s.dropWritable (sid / 16)
  let x := { x with age := a }
  let s := (s.claimCore (sid / 16) x.ctx).setSlot sid x
  -- a slot that starts on a pair goes back to its start when the pair rolls back (21 R409)
  if x.pairMode then s.modCore (sid / 16) (fun k => { k with pair := { k.pair with slots := kset k.pair.slots sid x } }) else s

/-- A group's key and record. -/
def State.newGroup (s : State) (g : Group) : Nat × State :=
  let (k, s) := s.newId
  (k, { s with gr := { s.gr with groups := kset s.gr.groups k g } })

/-- Members of a placed group start (16 R308): each with its k.gthr. -/
def State.startGroup (s : State) (key : Nat) (place : List (Nat × List Nat)) (n : Nat) (x : Slot) : State :=
  let ps := (List.range place.length).flatMap (fun p =>
    match place[p]? with
    | some (c, q) => (List.range q.length).map (fun j => (sidOf c (q[j]?.getD 0), p * n + j))
    | none => [])
  ps.foldl (fun (s : State) m => s.startSlot m.1 { x with group := key, gthr := BitVec.ofNat 64 m.2 }) s

/-! ### End of a slot -/

/-- A slot's requests go on without it: what they still have to say is dropped (12 R251 items 3 and 4).  A HELD slot is not
FREE yet: the late faults of its version stores count in ORPHAN only from then on (10 R210). -/
def State.orphanMsgs (s : State) (sid : Nat) (held : Bool) : State :=
  { s with msgs := kmap s.msgs (fun _ m =>
      if m.sid = some sid ∧ !(held && m.op.orphans) then { m with sid := none, stalls := false } else m) }

/-- An entry taken by a NEXT that was not deposited returns to READY (12 R251 item 2). -/
def State.unrun (s : State) (h : Word) : State :=
  match s.entryOf h with
  | some i =>
    match s.entry i with
    | some e =>
      let s := s.setEntry i { e with state := .ready, readyAt := s.t.cycle }
      let span : ReadySpan := { ctx := e.ctx, pull := recPull e.record, key := recKey e.record, start := s.t.cycle, stop := none }
      let s := { s with pl := { s.pl with spans := s.pl.spans ++ [span] } }
      s.serveNexts e.ctx s.pl.nexts
    | none => s
  | none => s

/-- Pending deposits of a slot are abandoned: they are forgotten, a waiting NEXT or RECV with them, and a task that a
NEXT had taken returns to READY (12 R251 items 2 and 3). -/
def State.abandon (s : State) (sid : Nat) : State :=
  let mine := s.deps.filter (fun p => p.2.sid == sid)
  let s := { s with
    deps := s.deps.filter (fun p => p.2.sid != sid)
    msgs := s.msgs.filter (fun p => !(p.2.sid == some sid && (match p.2.op with | .next _ => true | _ => false)))
    pl := { s.pl with nexts := s.pl.nexts.filter (fun r =>
      match kget s.msgs r with | some m => m.sid != some sid | none => false) } }
  mine.foldl (fun (s : State) p => match p.2.task with | some (_, h) => s.unrun h | none => s) s

/-- A packet closed and put on its way: message `packet` (12 R255). -/
def State.closePacket (s : State) (sid : Option Nat) (ctx : Nat) (p : OpenPacket) (trunc stalls : Bool) : Nat × State :=
  let (r, s) := s.newId
  let header := p.header.toNat + p.words.length * 2 ^ 43 + (if trunc then 2 ^ 42 else 0)
  (r, s.post r { sid := sid, ctx := ctx, user := false, op := .packet p.target (BitVec.ofNat 64 header) p.words, pa := 0,
                 after := [], dep := none, stalls := stalls, nackVal := p.target })

/-- An open SEND packet of a slot is closed with TRUNC set (12 R251 item 5). -/
def State.truncate (s : State) (ctx : Nat) (x : Slot) : State :=
  match x.openPkt with
  | some p => (s.closePacket none ctx p true false).2
  | none => s

/-- SFU requests that meet a test are cancelled; when one of them occupies the SFU, the next starts in the next cycle
(07 R159 item 4). -/
def CoreSt.cancelSfu (k : CoreSt) (cycle : Nat) (p : SfuEntry → Bool) : CoreSt :=
  let busy := k.sfu.any (fun q => p q && (match q.start with | some c => decide (cycle < c + q.occ) | none => false))
  { k with sfu := k.sfu.filter (fun q => !p q), sfuFree := if busy then cycle + 1 else k.sfuFree }

/-- The SFU requests of a slot are cancelled. -/
def State.cancelSfu (s : State) (sid : Nat) : State :=
  s.modCore (sid / 16) (fun k => k.cancelSfu s.t.cycle (fun q => q.sid == sid && q.image.isNone))

/-- Walks no longer answer to a slot. -/
def State.leaveWalks (s : State) (sid : Nat) : State :=
  { s with pg := { s.pg with walks := kmap s.pg.walks (fun _ w => { w with who := w.who.filter (fun q => match q with | .slot i _ _ => i != sid | .engine .. => true) }) } }

/-- The scratchpad and banks of a core as another has them. -/
def CoreSt.withScratch (k q : CoreSt) : CoreSt :=
  let stop := q.ltop + 4096 * q.shad
  { k with left := q.left
           loc := k.loc.filter (fun p => decide (p.1 < q.xbound)) ++ q.loc.filter (fun p => decide (q.xbound ≤ p.1) && decide (p.1 < stop)) ++
             k.loc.filter (fun p => decide (q.xbound ≤ p.1) && decide (stop ≤ p.1))
           ueLoc := k.ueLoc.filter (fun a => decide (a < q.xbound) || decide (stop ≤ a)) ++ q.ueLoc.filter (fun a => decide (q.xbound ≤ a) && decide (a < stop)) }

/-- A slot has left a core.  When it was the last active one of its context there, the core's memory is to be zeroed for another
(09 R184); the checker of a pair has what its leader has (21 R406). -/
def State.leaveCore (s : State) (c ctx : Nat) (pair : Bool) : State :=
  let s := if s.slots.any (fun p => p.1 / 16 == c && p.2.ctx == ctx) then s
    else s.modCore c (fun k => { k with left := k.left.filter (fun o => o != ctx) ++ [ctx] })
  if pair then s.modCore (c + 1) (fun k => k.withScratch (s.core c)) else s

/-- A slot becomes FREE: its register space is released and what it was waiting for is forgotten. -/
def State.freeSlot (s : State) (sid : Nat) : State :=
  match s.slot sid with
  | none => s
  | some x =>
    let s := (((s.abandon sid).orphanMsgs sid false).cancelSfu sid).leaveWalks sid
    (({ s with slots := kdel s.slots sid }).leaveCore (sid / 16) x.ctx x.pairMode)

/-- The deputy of a launch: of its listed dies other than the leader, the lowest agent that is up (16 R323). -/
def State.deputyOf (s : State) (dies : List Nat) (leader : Nat) : Option Nat :=
  (dies.filter (fun a => a != leader && !(s.isOwn a && s.isOwn leader) && (s.isOwn a || s.agentUp a))).foldl
    (fun (m : Option Nat) a => match m with | none => some a | some b => some (min a b)) none

/-- The TASKPOST exit report of a launched group, to its leader or deputy (16 R319, R323): the launch's index in the
leader's table and the group's index. -/
def exitPacket (leader launch index dst : Nat) : Packet :=
  { typ := 0x07, space := 3, dst := dst, addr := 4, arg1 := BitVec.ofNat 64 (leader + launch * 2 ^ 16), arg2 := BitVec.ofNat 64 index }

/-- Reports of a launched group's exit, made once what the group left behind is performed (16 R323 item 2, R326). -/
def State.reportExit (s : State) (g : Group) : State :=
  match g.launch with
  | none => s
  | some (leader, l, dies, index) =>
    let dsts := leader :: (s.deputyOf dies leader).toList
    dsts.foldl (fun (s : State) a =>
      let (r, s) := s.newId
      s.post r { sid := none, ctx := g.ctx, user := false, op := .report (exitPacket leader l index a), pa := 0, after := g.left, dep := none }) s

/-- A command of a context that is rejected: BAD, and VEC (18 R350, R352). -/
def State.ctxReject (s : State) (c : Nat) : State := ((s.modCtx c (fun k => { k with bad := true })).irq (s.ctx c).vec).sticky (.ctxBad c)

/-- A packet of a launch sent to an agent, whose completion is awaited, or taken by this die itself (16 R322). -/
def State.sendDeal (s : State) (p : Packet) : State :=
  if s.isOwn p.dst then { s with o := { s.o with agenda := s.o.agenda ++ [.launchDeal { p with src := s.ownAgent }] } }
  else
    let (r, s) := s.newId
    let m : Msg := { sid := none, ctx := p.ctx, user := false, op := .report p, pa := 0, after := [], dep := none, sent := true, dsts := [p.dst] }
    (s.post r m).sendPacket p.dst r p.ctx p

/-- Stores, atomics, version stores and posts of a slot that are still on their way. -/
def State.leftBehind (s : State) (sid : Nat) : List Nat :=
  (s.msgs.filter (fun p => p.2.sid == some sid && p.2.isStore)).map (fun p => p.1)

/-- The end of a group with the exit of its last live member: HELD members become FREE, its named barriers too, its
task retires or its launch is told (04 R79, 12 R247, 17 R328 item 6, 16 R319). -/
def State.endGroup (s : State) (key : Nat) (g : Group) : State :=
  let members := (s.slots.filter (fun p => p.2.group == key)).map (fun p => p.1)
  let s := members.foldl (fun (s : State) sid => s.freeSlot sid) s
  let bars := (s.br.barriers.filter (fun p => p.2.group == key)).map (fun p => p.1)
  let s := bars.foldl (fun (s : State) k => s.freeBarrier (.named k) none) s
  let s := { s with gr := { s.gr with groups := kdel s.gr.groups key } }
  let s := match g.task.bind s.entryOf with
    | some i => s.retire i
    | none => s
  (s.reportExit g).unloadEnd

/-- The exit of a member: HELD while others live, else the end of the group (04 R79). -/
def State.exitMember (s : State) (sid : Nat) : State :=
  match s.slot sid with
  | none => s
  | some x =>
    let left := s.leftBehind sid
    match kget s.gr.groups x.group with
    | none => (s.freeSlot sid).unloadEnd
    | some g =>
      let g := { g with live := g.live - 1, left := g.left ++ left }
      let s := { s with gr := { s.gr with groups := kset s.gr.groups x.group g } }
      if g.live = 0 then s.endGroup x.group g
      else
        let s := ((s.abandon sid).orphanMsgs sid true).leaveWalks sid
        -- the abandoned destinations are full again with the contents they held (12 R251 item 3); results of fixed latency
        -- and of the SFU are still written (04 R83, 07 R159 item 4)
        let y := { x with status := .held, empty := 0, oEmpty := 0, late := none, openPkt := none, owned := none,
                          nextRid := none, recvs := [], acqHold := [], xlat := [] }
        (s.setSlot sid y).wakePartners sid y

/-- Entries that handles name retire (12 R247). -/
def State.retireAll (s : State) (hs : List Word) : State :=
  hs.foldl (fun (s : State) h => match s.entryOf h with | some i => s.retire i | none => s) s

/-- Handles of the pulled tasks that a thread holds. -/
def heldTasks (tasks : List Word) (pulled : Bool) (task : Word) : List Word := tasks ++ (if pulled then [task] else [])

/-- Handles of a thread's tasks: the pulled ones, and the KIND 0 record that started it. -/
def Slot.handles (x : Slot) : List Word := heldTasks x.tasks x.pulled x.task ++ x.dealt.toList

/-- The same of a thread in passage. -/
def Transfer.handles (t : Transfer) : List Word := heldTasks t.tasks t.pulled t.task ++ t.dealt.toList

/-- Tasks that a thread holds retire at its EXIT: the pulled ones and the KIND 0 record that started it (12 R247). -/
def State.retireHeld (s : State) (x : Slot) : State := s.retireAll x.handles

/-- EXIT (12 R251). -/
def State.exitSlot (s : State) (sid : Nat) : State :=
  match s.slot sid with
  | none => s
  | some x =>
    let s := s.truncate x.ctx x
    -- an owned packet's entry is freed with its owner
    (s.retireHeld x).exitMember sid

/-- What a partner reads of a slot in cycle `cycle`, before the slot's own issue (04 R94 item 1). -/
def Slot.gangView (x : Slot) (cycle : Nat) : GangView := ⟨cycle, x.file, x.empty, x.results, x.ueRegs⟩

/-- The registers of a slot of a group in gang mode noted for its partners as it issues. -/
def Slot.snapshot (x : Slot) (cycle : Nat) : Slot :=
  if x.gshape.toNat.testBit 9 then { x with gang := some (x.gangView cycle) } else x

/-- A gang partner: the slot in the same place on the core at position (p + g) mod c (03 R62, 04 R94). -/
def State.partner (s : State) (sid : Nat) (x : Slot) (g : Nat) : Option Partner := do
  let grp ← kget s.gr.groups x.group
  let p ← grp.cores.findIdx? (fun c => c == sid / 16)
  let c ← grp.cores[(p + g) % grp.cores.length]?
  let psid := sidOf c (sid % 16)
  let y ← s.slot psid
  some ⟨psid, match y.gang with
    | some v => if v.cycle = s.t.cycle then v else y.gangView s.t.cycle
    | none => y.gangView s.t.cycle⟩

end Sys2Proof.Machine
end

