-- ==== Sys2Proof/Machine/Trap.lean ====
section
/-!
DEFINITION. Taking a trap, returning from one, and the end of a context's work on the die (18 R351 to R357; 13 R272;
15 R293, R301).
-/

namespace Sys2Proof.Machine

/-! ### Segments of a passage kernel (15 R291, R293) -/

/-- The segment of a kernel that holds a local address. -/
def Kernel.segmentAt (k : Kernel) (a : Nat) : Option Nat :=
  k.segments.findIdx? (fun g => decide (k.kbase + g.off ≤ a) && decide (a < k.kbase + g.off + g.len))

/-- A segment is loaded on a core. -/
def Kernel.onCore (k : Kernel) (g c : Nat) : Bool :=
  match k.segments[g]? with
  | some q => q.cores = [] || q.cores.contains c
  | none => false

/-- Some segment loaded on a core holds an address. -/
def Kernel.holdsOn (k : Kernel) (c a : Nat) : Bool :=
  match k.segmentAt a with
  | some g => k.onCore g c
  | none => false

/-! ### Channels (13 R272) -/

/-- A channel. -/
def State.channel (s : State) (n : Nat) : Channel := kgetD s.en.channels n {}

/-- A channel written. -/
def State.setChannel (s : State) (n : Nat) (c : Channel) : State :=
  { s with en := { s.en with channels := kset s.en.channels n c } }

/-- What one of the die's own units has asked for is forgotten: its reads, walks and held requests (08 R170). -/
def State.dropEngine (s : State) (src : Nat) : State :=
  let ds := (s.pg.engReads.filter (fun r => r.1 == src)).map (fun r => r.2.2)
  { s with deps := s.deps.filter (fun (p : Nat × Dep) => !ds.contains p.1)
           pg := { s.pg with
      engReads := s.pg.engReads.filter (fun r => r.1 != src)
      fqHeld := s.pg.fqHeld.filter (fun r => r.src != src)
      fqWait := s.pg.fqWait.filter (fun r => r.src != src)
      unitTlb := s.pg.unitTlb.filter (fun p => p.1 != src)
      walks := kmap s.pg.walks (fun _ w => { w with who := w.who.filter (fun q => match q with | .engine i _ _ => i != src | .slot .. => true) }) } }

/-- A channel stops: its copy and its queue are gone without a completion action, the tasks among them retire, and
each push that waits at a full queue is refused (13 R272, R278). -/
def State.stopChannel (s : State) (n : Nat) : State :=
  let c := s.channel n
  let gone := (match c.cur with | some p => [p] | none => []) ++ c.queue
  let s := s.dropEngine (0x1000 + n)
  let s := { s with deps := s.deps.filter (fun (p : Nat × Dep) => !c.writes.contains p.1) }
  let s := s.setChannel n { c with state := .idle, queue := [], cur := none, tmpl := none, moved := 0, pending := [],
                                   row := [], rowAt := 0, under := 0, fail := 0, ue := {}, writes := [], await := none, opened := false }
  let s := c.pending.foldl (fun (s : State) q => s.portAnswer q true .nack) s
  gone.foldl (fun (s : State) (p : ChPush) => match p.task with | some i => s.retire i | none => s) s

/-! ### The end of a context's work (18 R351, R353) -/

/-- Slots, tasks, channels, barriers, launches and arrivals of a context end (18 R351 items 1 to 3; 15 R301 item 4). -/
def State.dropWork (s : State) (c reason : Nat) : State :=
  let mine : List Nat := (s.slots.filter (fun (p : Nat × Slot) => p.2.ctx == c)).map (fun p => p.1)
  let s := s.breakWhere (fun b => b.ctx == c) (fun b => b.ctx == c && b.mask.testBit (s.ownPos c)) reason
  let s := mine.foldl (fun (s : State) i => s.freeSlot i) s
  let images := s.cx.saved.filter (fun v => v.ctx == c)
  let s := { s with
    cx := { s.cx with saved := s.cx.saved.filter (fun v => v.ctx != c) }
    deps := s.deps.filter (fun (p : Nat × Dep) => !images.any (fun v => v.order + savedBase == p.2.sid))
    cores := kmap s.cores (fun n (k0 : CoreSt) =>
      let k := k0.cancelSfu s.t.cycle (fun q => images.any (fun v => q.image == some v.order))
      { k with
        areas := k.areas.filter (fun a => !images.any (fun v => v.place == some (n, a.1)))
        inbox := k.inbox.filter (fun e => !(e.ctx == c && e.header.toNat / 2 ^ 43 % 32 == 0))
        matrix := (match k.matrix with | some m => if m.ctx == c then some { m with state := .stopped } else some m | none => none)
        nextMatrix := (match k.nextMatrix with | some m => if m.ctx == c then none else some m | none => none) })
    kn := { s.kn with transfers := s.kn.transfers.filter (fun (p : Nat × Transfer) => p.2.ctx != c)
                      rings := s.kn.rings.filter (fun r => r.1 != c)
                      arrCounts := s.kn.arrCounts.filter (fun (a : Nat × Nat × Nat) =>
                        !s.kn.kernels.any (fun k => k.kid == a.1 && k.ctx == c)) }
    -- what the passage network, save regions and launches had asked for in the context's name
    msgs := s.msgs.filter (fun (p : Nat × Msg) => !(p.2.ctx == c && (match p.2.op with
      | .reserve .. => true | .startNotice .. => true | .packet _ h _ => h.toNat / 2 ^ 43 % 32 == 0 | _ => false)))
    pg := { s.pg with fqHeld := s.pg.fqHeld.filter (fun r => !(r.ctx == c && decide (0x4000 ≤ r.src)))
                      fqWait := s.pg.fqWait.filter (fun r => !(r.ctx == c && decide (0x4000 ≤ r.src))) }
    gr := { s.gr with groups := s.gr.groups.filter (fun (p : Nat × Group) => p.2.ctx != c)
                      launches := s.gr.launches.filter (fun (p : Nat × Launch) => p.2.ctx != c)
                      mirrors := s.gr.mirrors.filter (fun p => p.2.2.ctx != c)
                      deals := s.gr.deals.filter (fun (p : Nat × Deal) => p.2.ctx != c)
                      parts := s.gr.parts.filter (fun (q : Part) => q.ctx != c)
                      posts := s.gr.posts.filter (fun (p : Nat × (Word × Nat)) => p.2.2 != c) } }
  let bars : List Nat := (s.br.barriers.filter (fun (p : Nat × Barrier) => p.2.ctx == c)).map (fun p => p.1)
  let s := bars.foldl (fun (s : State) k => s.freeBarrier (.named k) none) s
  let chans : List Nat := (s.en.channels.filter (fun (p : Nat × Channel) => p.2.ctx == c && p.2.en)).map (fun p => p.1)
  let s := chans.foldl (fun (s : State) n => s.stopChannel n) s
  let tasks : List Nat := (s.pl.pool.filter (fun (p : Nat × PoolEntry) => p.2.ctx == c)).map (fun p => p.1)
  (tasks.foldl (fun (s : State) i => s.emptyEntry i) s).unloadEnd

/-- A pending SAVES or RESTS receives its value (18 R365). -/
def State.endCommand (s : State) (c v : Nat) : State :=
  let s := match (s.ctx c).cmdRid with
    | some d => s.modDep d (fun x => x.answer v [])
    | none => s
  s.modCtx c (fun k => { k with cmdRid := none })

/-- The other dies of a context hear that it is FAULTED here, and break the die barriers they hold whose mask names this die:
a BARRIER packet with OP 6 (17 R332 item 4, log 35). -/
def State.tellFault (s : State) (c : Nat) : State :=
  let others := ((s.ctx c).dies.filterMap id).filter (fun a => !s.isOwn a && s.agentUp a)
  others.foldl (fun (s : State) a =>
    let (r, s) := s.newId
    s.post r { sid := none, ctx := c, user := false, op := .report { typ := 0x0A, space := 3, dst := a, op := 6 }, pa := 0, after := [],
               dep := none }) s

/-- A context becomes FAULTED (18 R351). -/
def State.faultContext (s : State) (c fcause fdata : Nat) : State :=
  let s := (s.dropWork c brFault).tellFault c
  let s := s.endCommand c (2 ^ 63 + (if fcause = 20 then 20 else 4))
  -- a command of the same cycle sets BAD (18 R350)
  let s := if (s.ctx c).cmdAt = some s.t.cycle then s.ctxReject c else s
  let s := s.modCtx c (fun k => { k with state := .faulted, fcause := fcause, fdata := fdata, restoring := false, busy := false
                                         faultAt := some s.t.cycle })
  s.irq (s.ctx c).vec

/-! ### Control registers written (04 R99) -/

/-- A control register written, reserved bits as 0 (04 R99). -/
def Slot.setKreg (x : Slot) (n : Nat) (v : Nat) : Slot :=
  let w := BitVec.ofNat 64 v
  match n with
  | 0x010 => { x with fmt := w &&& 0x3FFF }
  | 0x011 => { x with sca := w &&& 0xFFFF }
  | 0x012 => { x with scb := w &&& 0xFFFF }
  | 0x013 => { x with band := w &&& 0xFFFF }
  | 0x020 => { x with vws := w }
  | 0x021 => { x with vwv := w }
  | 0x022 => { x with vwt := w }
  | 0x023 => { x with vwa := w }
  | 0x025 => { x with chk := v.testBit 0 }
  | 0x030 => { x with flags := BitVec.ofNat 6 v }
  | 0x031 => { x with uefl := BitVec.ofNat 4 v }
  | 0x032 => { x with uexy := w &&& 0xFFFFFFFF0FFFFFFF }
  | 0x101 => { x with trapc := w &&& 0xF0FF }
  | 0x102 => { x with epc := w }
  | 0x103 => { x with tval := w }
  | 0x104 => { x with sscr := w }
  | _ => x

/-- The registers of words 0 and 2 to 21 of an image (15 R297, 18 R360), reserved bits as 0. -/
def Slot.ofStateWords (x : Slot) (w : Nat → Nat) : Slot :=
  let y := ([(0x030, 2), (0x031, 3), (0x032, 4), (0x025, 5), (0x020, 6), (0x021, 7), (0x022, 8), (0x023, 9), (0x010, 10), (0x011, 11),
    (0x012, 12), (0x013, 13), (0x101, 18), (0x102, 19), (0x103, 20), (0x104, 21)] : List (Nat × Nat)).foldl
      (fun (x : Slot) (p : Nat × Nat) => x.setKreg p.1 (w p.2)) x
  { y with pc := BitVec.ofNat 64 (w 0), task := BitVec.ofNat 64 (w 14), gid := BitVec.ofNat 64 (w 15), gthr := BitVec.ofNat 64 (w 16),
           gshape := BitVec.ofNat 64 (w 17) &&& 0x3F7 }

/-! ### Traps (18 R356) -/

/-- The trap sequence of a slot, which is as it stands before the trap. -/
def State.takeTrap (s : State) (sid : Nat) (x : Slot) (cause : Cause) (tval : Word) (late : Bool) : State :=
  let hact := x.trapc.toNat.testBit 13
  let more := late && x.lmore
  let word := cause.code + (if late then 2 ^ 15 else 0) + (if x.sup then 2 ^ 14 else 0) + (if hact then 2 ^ 13 else 0) +
    (if more then 2 ^ 12 else 0)
  let c := s.ctx x.ctx
  let (v, off) := c.traptab[cause.code]?.getD (false, 0)
  match s.sealedFor c.hkid x.ctx with
  | some k =>
    if hact || !v then s.faultContext x.ctx cause.code sid
    else
      s.setSlot sid { x with
        epc := x.pc, tval := tval, trapc := BitVec.ofNat 64 (word ||| 2 ^ 13), sup := true, handler := true,
        pc := BitVec.ofNat 64 (k.kbase + off), status := .ready, xlat := [],
        late := (if late then none else x.late), lmore := (if late then false else x.lmore) }
  | none => s.faultContext x.ctx cause.code sid

/-- ERET, once it is allowed (18 R357). -/
def Slot.eret (x : Slot) : Slot :=
  { x with pc := x.epc, sup := x.trapc.toNat.testBit 14,
           handler := x.handler && !x.trapc.toNat.testBit 13,
           trapc := BitVec.ofNat 64 (setBits 13 13 x.trapc.toNat 0) }

end Sys2Proof.Machine
end

