-- ==== Sys2Proof/Machine/Issue.lean ====
section
/-!
DEFINITION. The issue of one instruction by the slot whose turn it is: encoding and privilege checks, the body, what
the slot does afterwards (03 R60 to R62, R73; 04 R79, R83; 07 R158; 15 R294, R295; 18 R355).
-/

namespace Sys2Proof.Machine

/-- What a slot does after an instruction that took effect. -/
inductive After where
  /-- The effect on the registers; pc advances or takes the effect's jump. -/
  | go (e : Effect)
  /-- Register writes, then STALLED until request `rid` is answered; pc stays at the instruction. -/
  | answer (rid : Nat) (e : Effect)
  /-- The slot as the instruction leaves it, its pc set. -/
  | set (x : Slot)
  /-- The slot as the instruction leaves it, with its status. -/
  | setStatus (x : Slot)
  /-- The instruction has left nothing of the slot to go on with. -/
  | gone
  deriving DecidableEq, Repr

/-- An instruction's own action: slot number, chain, slot, die. -/
abbrev Body := Nat → Chain → Slot → State → State × Except Stop After

/-- k.tval of ILLEGAL and PRIV: a word and its position (03 R73). -/
def wordTval (w pos : Nat) : Word := BitVec.ofNat 64 (w % 2 ^ 16 + pos * 2 ^ 16)

/-- The base word of an instruction and its position as k.tval. -/
def baseTval (o : OpInfo) (c : Chain) : Word :=
  let ws := encodeChain o c
  wordTval (ws.getLast?.getD 0) (ws.length - 1)

/-! ### Gang offsets (03 R62 items 1 and 4) -/

/-- Registers that a page-1 or page-2 instruction writes. -/
def destRegs (o : OpInfo) (c : Chain) (x : Slot) : List Reg :=
  let w := (chainTy c).width
  let wide := if (chainTy c).isInt then 2 * w else 32
  let a := c.a.toNat
  match o.page, o.code with
  | 1, 0x04 => [x.reg .scalar a]
  | 1, 0x1A => x.regs .vector a (wide / w)
  | 1, 0x1B => x.regs .vector a (wide / w)
  | 2, 0x01 => x.regs .vector a (max 1 ((Ty.ofCode c.c.toNat).width / w))
  | 2, 0x03 => x.regs .vector a (w / 4)
  | 2, 0x07 => x.regs .vector a 2
  | 2, 0x08 => x.regs .vector a 2
  | _, _ => [x.reg .vector a]

/-- A gang offset that the slot's group or registers do not allow. -/
def Slot.gangBad (x : Slot) (o : OpInfo) (c : Chain) : Bool :=
  c.gang != 0 &&
    (!x.gshape.toNat.testBit 9 ||
      (let b := x.reg .vector c.b.toNat
       (destRegs o c x).any (fun d => overlaps b.loc b.size d.loc d.size)))

/-! ### After the effect -/

/-- First cycle in which the slot may issue after an instruction with stall count `n` (03 R60). -/
def stallUntil (cycle n : Nat) : Nat := cycle + 16 * (1 + n)

/-- Status of a slot that has issued an instruction with a stall count. -/
def stallStatus (cycle n : Nat) : Status := if n = 0 then .ready else .stalled (.count (stallUntil cycle n))

/-- A slot after an instruction: effect, pc, stall count.  After an SFU instruction the stall may be lengthened when the
request starts (07 R158 item 5). -/
def Slot.complete (x : Slot) (cycle : Nat) (c : Chain) (e : Effect) : Slot :=
  { (x.applyEffect cycle e) with
    pc := e.jump.getD (x.nextPc c)
    status := if e.sfu.isSome then .stalled (.count (stallUntil cycle c.stall.toNat)) else stallStatus cycle c.stall.toNat
    xlat := [], longer := 0 }

/-- A request of the SFU enters its queue (07 R158). -/
def State.enqueueSfu (s : State) (sid : Nat) (pc : Word) (e : Effect) : State :=
  match e.sfu with
  | some occ => s.modCore (sid / 16) (fun k => { k with sfu := k.sfu ++ [{ sid := sid, image := none, occ := occ, start := none, pc := pc }] })
  | none => s

/-- The kernel whose segments bound a slot's transfers: its own, when it is a passage kernel and the slot is outside
its handler (15 R293). -/
def State.passageOf (s : State) (x : Slot) : Option Kernel :=
  if x.pass && !x.handler then s.kernel x.kid else none

/-- A transfer to `t` leaves the current segment (15 R294). -/
def State.leaves (s : State) (x : Slot) (t : Word) : Option Kernel :=
  match s.passageOf x with
  | some k => if k.segmentAt x.pc.toNat = k.segmentAt t.toNat then none else some k
  | none => none

/-- A granule or o-register below `live` bytes that is not full (15 R295). -/
def Slot.firstOpen (x : Slot) (live : Nat) : Option Awaited :=
  match (List.range 7).find? (fun k => x.oEmpty.toNat.testBit (k + 1)) with
  | some k => some (.oreg (k + 1))
  | none => (firstEmpty x.empty 0 live).map .granule

/-- The registers that an image carries, in the order of its places: byte offset, register (15 R297). -/
def shipped (live : Nat) : List (Nat × Reg) :=
  (List.range 8).map (fun k => (512 * k, { val := k, loc := if k = 0 then .lat else .o k, size := 512 })) ++
    [(0x1000, { val := 8, loc := .main 0, size := live })]

/-- A register to be shipped for which a result has not been written yet, where the slot checks for such reads (04 R93): the
operand value of lat or an o-register, or of the first register of the file (log 66). -/
def Slot.shortShip (x : Slot) (live : Nat) : Option Nat :=
  if x.chk then ((shipped live).find? (fun r => r.2.size != 0 && unwrittenIn x.results r.2)).map (fun r => r.2.val) else none

/-- Departure (15 R295): the RESERVE is sent and the slot is STALLED until its answer. -/
def State.depart (s : State) (sid : Nat) (x : Slot) (c : Chain) (k : Kernel) (t : Word) (live : Nat) (link : List RegWrite)
    (ue : List UeEvent) : State × Except Stop After :=
  match k.segmentAt t.toNat with
  | none => (s, .error (.trap .passageMap t))
  | some g =>
    match x.firstOpen live, x.shortShip live with
    | some a, _ => (s, .error (.park a))
    | none, some v => (s, .error (.trap .stallShort (BitVec.ofNat 64 v)))
    | none, none =>
      let (r, s) := s.newId
      let s := s.post r { sid := some sid, ctx := x.ctx, user := !x.sup, op := .reserve k.kid g live t link ue, pa := 0, after := [],
                          dep := none, stalls := true }
      (s.setSlot sid { x with xlat := [], status := .stalled (.answer r (x.nextPc c) (stallUntil s.t.cycle c.stall.toNat)) },
       .ok .gone)

/-- An instruction took effect on a slot. -/
def State.settleSlot (s : State) (sid : Nat) (x : Slot) (c : Chain) (a : After) : State :=
  match a with
  | .go e => ((s.setSlot sid (x.complete s.t.cycle c e)).enqueueSfu sid x.pc e).consumed e.ue
  | .answer r e =>
    (s.setSlot sid { (x.applyEffect s.t.cycle e) with
      xlat := [], status := .stalled (.answer r (x.nextPc c) (stallUntil s.t.cycle c.stall.toNat)) }).consumed e.ue
  | .set y => s.setSlot sid { y with xlat := [], status := stallStatus s.t.cycle c.stall.toNat }
  | .setStatus y => s.setSlot sid { y with xlat := [] }
  | .gone => s

/-- The awaited register of a partner has filled since the start of the cycle: its EXIT in this cycle has ended the deposit
(04 R81, R94 items 2 and 3). -/
def State.filledNow (s : State) (a : Awaited) : Bool :=
  match a with
  | .partner p g => match s.slot p with | some y => !y.empty.toNat.testBit g | none => false
  | _ => false

/-- What stopped an instruction, acted on. -/
def State.stopSlot (s : State) (sid : Nat) (x : Slot) (st : Stop) : State :=
  match st with
  | .trap k v => s.takeTrap sid x k v false
  | .park a => s.setSlot sid { x with status := if s.filledNow a then .ready else .parked a }
  | .hold w => s.setSlot sid { x with status := .stalled w }

/-- The issue of an instruction by the slot whose turn it is: the faults of 03 R73 items 4 and 5, then the body. -/
def State.issue (s : State) (o : OpInfo) (c : Chain) (body : Body) : State :=
  let sid := s.o.cur
  match s.slot sid with
  | none => s
  | some x0 =>
    let x := x0.snapshot s.t.cycle
    if !c.legal o || x.gangBad o c then s.takeTrap sid x .illegal (baseTval o c) false
    else if o.priv && !x.sup then s.takeTrap sid x .priv (baseTval o c) false
    else
      match body sid c x s with
      | (s, .error st) => s.stopSlot sid x st
      | (s, .ok a) => s.settleSlot sid x c a

/-- The slot that an instruction of a chain reads its operand B from, with a gang offset (03 R62). -/
def State.gangPartner (s : State) (sid : Nat) (x : Slot) (c : Chain) : Option Partner :=
  if c.gang = 0 then none else s.partner sid x c.gang.toNat

/-- The body of an instruction that only acts on its slot's registers. -/
def regs (b : RegBody) : Body := fun sid c x s =>
  match b (s.gangPartner sid x c) c x with
  | .error st => (s, .error st)
  | .ok e => (s, .ok (.go e))

/-- The body of a control transfer: in a passage kernel a target outside the current segment is a passage transfer, to
an entry only (15 R294). -/
def transfer (b : RegBody) : Body := fun sid c x s =>
  match b none c x with
  | .error st => (s, .error st)
  | .ok e =>
    match e.jump with
    | none => (s, .ok (.go e))
    | some t =>
      match s.leaves x t with
      | none => (s, .ok (.go e))
      | some k =>
        match k.entries.find? (fun n => k.kbase + n.off == t.toNat) with
        | some n => s.depart sid x c k t n.live e.writes e.ue
        | none => (s, .error (.trap .passageMap t))

/-- The body of an instruction of the SFU: it is held while an earlier one of the slot has not been written
(07 R158). -/
def sfuIssue (b : RegBody) : Body := fun sid c x s =>
  if x.results.any (fun p => p.sfu) then (s, .error (.hold .sfu)) else regs b sid c x s

end Sys2Proof.Machine
end

