-- ==== Sys2Proof/Machine/MemOps.lean ====
section
/-!
DEFINITION. How a slot's accesses to memory are checked, put on their way, ordered, and served by the L1
(06 R135; 09 R173 to R186; 11 R222 to R228; 18 R366; 21 R417).
-/

namespace Sys2Proof.Machine

/-! ### Lanes and their checks (06 R135 items 1 to 3) -/

/-- One lane of an access: its number, address, bytes, and the place of its bits in the register. -/
structure Lane where
  lane : Nat
  va : Nat
  len : Nat
  bit : Nat
  bits : Nat
  high : Bool := false
  deriving DecidableEq, Repr

/-- A lane with its translation. -/
structure Located where
  l : Lane
  pa : Nat
  leaf : Word
  deriving DecidableEq, Repr

/-- Lowest address of an access that a watchpoint of the context matches (21 R417). -/
def State.watchHit (s : State) (ctx : Nat) (a : Access) (ls : List Lane) : Option Nat :=
  let one := fun (w : Nat × List Word) =>
    let base := bitsOf 56 0 ((w.2[0]?.getD 0).toNat)
    let q := (w.2[1]?.getD 0).toNat
    let len := bitsOf 15 0 q + 1
    let kind := match a with | .load => bitsOf 62 61 q % 2 == 1 | .atomic => bitsOf 62 61 q != 0 | _ => decide (2 ≤ bitsOf 62 61 q)
    if q.testBit 63 && kind && bitsOf 19 16 q == ctx then
      ls.filterMap (fun l => if l.va < base + len ∧ base < l.va + l.len then some (max l.va base) else none)
    else []
  (s.hl.watches.flatMap one).foldl (fun m v => match m with | none => some v | some u => some (min u v)) none

/-- Every active lane of an access checked, lowest first: ALIGN, PAGE and PROT by lane, then WATCH (06 R135 items 2
and 3; 18 R355; 21 R417). -/
def State.access (s : State) (sid : Nat) (x : Slot) (a : Access) (align : Nat) (ls : List Lane) :
    State × Except Stop (List Located) :=
  let good := ls.takeWhile (fun l => l.va % align == 0)
  match s.translate sid x a (good.map Lane.va) with
  | (s, .error st) => (s, .error st)
  | (s, .ok ps) =>
    match ls.drop good.length with
    | l :: _ => (s, .error (.trap .align (BitVec.ofNat 64 l.va)))
    | [] =>
      match s.watchHit x.ctx a good with
      | some v => (s, .error (.trap .watch (BitVec.ofNat 64 v)))
      | none => (s, .ok ((good.zip ps).map (fun q => { l := q.1, pa := q.2.1, leaf := q.2.2 })))

/-! ### Order (11 R222, R223, R228; 09 R186) -/

/-- Bytes that a message reads or writes: address and length. -/
def MsgOp.bytes : MsgOp → List (Nat × Nat)
  | .load ps _ => ps.map (fun p => (p.pa, (p.bits + 7) / 8))
  | .store ps _ => ps.map (fun p => (p.pa, (p.bits + 7) / 8))
  | _ => []

/-- Bytes of a message that is on its way, at their home. -/
def Msg.bytes (m : Msg) : List (Nat × Nat) :=
  if m.locs != [] then m.locs else
  match m.op with
  | .amo _ w _ => [(m.pa, w)]
  | .push pa _ => [(pa, 8)]
  | .pop pa _ _ => [(pa, 8)]
  -- an exchange bank's bytes, kept apart from memory (19 R392)
  | .remote kind x off wd _ _ => [((1 + 2 * bitsOf 34 17 x.toNat + (if kind = 1 then 1 else 0)) * 2 ^ 66 + off, wd)]
  -- a version's window
  | .vstore h off size _ _ => [((2 ^ 80 + h.toNat) * 2 ^ 66 + off, size)]
  | op => op.bytes

/-- Two byte sets meet. -/
def meet (xs ys : List (Nat × Nat)) : Bool := xs.any (fun p => ys.any (fun q => decide (p.1 < q.1 + q.2) && decide (q.1 < p.1 + p.2)))

/-- The home of a physical address is this die. -/
def State.local' (s : State) (pa : Nat) : Bool := s.isOwn (pa / 2 ^ 42)

/-- A message of a load, store or atomic of memory. -/
def MsgOp.isMem : MsgOp → Bool
  | .load .. => true
  | .store .. => true
  | .amo .. => true
  | _ => false

/-- A later message of a slot concerns a location of an earlier one: accesses of memory that name the same bytes and size
(11 R222), a vector load and a store that meet (06 R135 item 5), other accesses that meet. -/
def Msg.follows (m e : Msg) : Bool :=
  if m.op.isMem && e.op.isMem && !(m.vec && !m.isStore && e.isStore) then m.bytes.any e.bytes.contains
  else meet m.bytes e.bytes

/-- Address of a message at its home. -/
def Msg.homePa (m : Msg) : Nat := match m.locs with | p :: _ => p.1 | [] => m.pa

/-- Earlier requests that a new one of the slot waits for: those to the same location; local ordered pairs other than a
store before a load; every store and load before a release, its own deposit apart (11 R222 items 2 and 3, R223, R228; 09
R186). -/
def State.orderAfter (s : State) (sid : Nat) (m : Msg) (release : Bool) : List Nat :=
  let mine : List (Nat × Msg) := s.msgs.filter (fun (p : Nat × Msg) => p.2.sid == some sid)
  let same := fun (e : Msg) => m.follows e
  let pair := fun (e : Msg) => m.ordered && e.ordered && s.local' m.homePa && s.local' e.homePa && !(e.isStore && !e.isLoad && !m.isStore)
  let before := (mine.filter (fun p => same p.2 || pair p.2 || (release && p.2.isStore))).map (fun p => p.1)
  let loads := if release then (s.deps.filter (fun (p : Nat × Dep) => p.2.sid == sid && p.2.isLoad && some p.1 != m.dep)).map (fun p => p.1) else []
  before ++ loads

/-! ### Shares of the request port (18 R366) -/

/-- Cost of a request. -/
def portCost (bytes : Nat) : Nat := max 32 (ceilDiv bytes 32 * 32)

/-- Requests that wait at a core's port, oldest first; what a pair holds back has not come there yet (21 R408). -/
def State.atPort (s : State) (core : Nat) : List (Nat × Msg × PortWait) :=
  s.msgs.filterMap (fun (p : Nat × Msg) => p.2.port.bind (fun w => if w.core = core ∧ !p.2.buffered then some (p.1, p.2, w) else none))

/-- The head request of each context at a core's port, the context after the one that sent last first. -/
def State.portHeads (s : State) (core : Nat) : List (Nat × Msg × PortWait) :=
  let waiting := s.atPort core
  (List.range 16).filterMap (fun i => waiting.find? (fun p => p.2.1.ctx == ((s.core core).portLast + 1 + i) % 16))

/-- The request that a core's port sends now, and whether its context's tokens cover it: the first head that is covered, else
the first head of all (18 R366 items 5 and 6). -/
def State.portPick (s : State) (core : Nat) : Option ((Nat × Msg × PortWait) × Bool) :=
  let heads := s.portHeads core
  match heads.find? (fun p => decide (p.2.2.cost ≤ kgetD (s.core core).tokens p.2.1.ctx 0)) with
  | some p => some (p, true)
  | none => heads.head?.map (fun p => (p, false))

/-- A core's port sends its next request, which takes one cycle for each 64 bytes of its cost (18 R366 items 5 to 7). -/
def State.portSend (s : State) (core : Nat) : State :=
  match s.portPick core with
  | none => s
  | some (p, paid) =>
    let ctx := p.2.1.ctx
    let cost := p.2.2.cost
    (s.modMsg p.1 (fun m => { m with port := none })).modCore core (fun k =>
      { k with tokens := if paid then kset k.tokens ctx (kgetD k.tokens ctx 0 - cost) else k.tokens
               active := if k.active.contains ctx then k.active else k.active ++ [ctx]
               portFree := s.t.cycle + ceilDiv cost 64, portLast := ctx })

/-- Cores whose ports can send in this cycle. -/
def State.portsDue (s : State) : List Nat :=
  (distinct (s.msgs.filterMap (fun (p : Nat × Msg) => p.2.port.map PortWait.core))).filter (fun c =>
    decide ((s.core c).portFree ≤ s.t.cycle) && (s.portPick c).isSome)

/-- A request of a slot put on its way through its core's port, behind what it must wait for. -/
def State.request (s : State) (sid : Nat) (m : Msg) (release : Bool) (bytes : Nat) : Nat × State :=
  let after := s.orderAfter sid m release
  let (r, s) := s.newId
  (r, s.post r { m with after := after ++ m.after, rel := release
                        port := some { core := sid / 16, cost := portCost bytes, since := s.t.cycle } })

/-! ### The L1 (09 R173 to R176) -/

/-- A line of the L1 that a context's loads may hit. -/
def CoreSt.l1Find (k : CoreSt) (ctx line : Nat) : Option L1Line := k.l1.find? (fun q => q.line == line && q.ctx == ctx)

/-- Lines with a byte in a set dropped (09 R175 item 2). -/
def CoreSt.l1Drop (k : CoreSt) (bytes : List (Nat × Nat)) : CoreSt :=
  { k with l1 := k.l1.filter (fun q => !meet [(q.line * 32, 32)] bytes) }

/-- A store or atomic of a slot issues: lines holding its bytes leave the core's L1 (09 R175 item 2). -/
def State.dropStored (s : State) (core : Nat) (bytes : List (Nat × Nat)) : State :=
  (s.modCore core (fun k => k.l1Drop bytes)).noFill core (fun _ ls => meet ls bytes)

/-! ### Holds at issue -/

/-- A memory instruction is held at issue: an acquire of the slot has not deposited (09 R186), or 512 deposits are
outstanding (18 R360). -/
def State.memHold (s : State) (sid : Nat) (x : Slot) (deposits : Bool) : Except Stop Unit :=
  if x.acqHold != [] then .error (.hold .again)
  else if deposits && decide (512 ≤ (s.deps.filter (fun (p : Nat × Dep) => p.2.sid == sid && p.2.len != 0)).length) then
    .error (.hold .again)
  else .ok ()

/-! ### Requests of loads, stores and atomics -/

/-- Where a load of a page is served: a die of the replica set reads its own copy (08 R168 item 1). -/
def State.readPa (s : State) (ctx pa : Nat) (leaf : Word) : Nat :=
  if leafState leaf = 1 && !s.local' pa && (s.ctx ctx).rep.testBit (s.ownPos ctx) &&
      (s.ctx ctx).dies.any (fun d => d == some s.ownAgent) then
    s.ownAgent * 2 ^ 42 + pa % 2 ^ 42
  else pa

/-- Bytes whose lines a store drops: at their home, and at this die's replica, under which a line of theirs is held. -/
def State.lineBytes (s : State) (ctx : Nat) (ls : List Located) : List (Nat × Nat) :=
  ls.flatMap (fun q => [(q.pa, q.l.len), (s.readPa ctx q.pa q.leaf, q.l.len)])

/-- The piece of memory that a located lane reads or writes. -/
def Located.piece (q : Located) (pa : Nat) : Piece :=
  { pa := pa, bit := q.l.bit, bits := q.l.bits, high := q.l.high, lane := q.l.lane, va := q.l.va, poison := leafState q.leaf == 3 }

/-- Bits of the data of a store or load of one piece. -/
def Piece.of (p : Piece) (data : Nat) : Nat := (data >>> p.bit) % 2 ^ p.bits

/-- Groups of an instruction's lanes that travel in one request: the lanes of one 256-byte line, one lane at an
aperture. -/
def requestGroups (ls : List Located) : List (List Located) :=
  let plain := ls.filter (fun q => !leafE q.leaf)
  (distinct (plain.map (fun q => q.pa / 256))).map (fun n => plain.filter (fun q => q.pa / 256 == n)) ++
    (ls.filter (fun q => leafE q.leaf)).map (fun q => [q])

/-- What an access asks for beside its lanes: its order, scope and path. -/
structure Kind where
  ordered : Bool := false
  acquire : Bool := false
  release : Bool := false
  fab : Bool := false
  byp : Bool := false
  deriving DecidableEq, Repr

/-- The message of a group of lanes of a load or store. -/
def groupMsg (sid : Nat) (x : Slot) (k : Kind) (g : List Located) (dep : Option Nat) (op : MsgOp) (store : Bool) : Msg :=
  let q := g.headD { l := { lane := 0, va := 0, len := 0, bit := 0, bits := 0 }, pa := 0, leaf := 0 }
  { sid := some sid, ctx := x.ctx, user := !x.sup, op := op, pa := q.pa, after := [], dep := dep, ordered := k.ordered,
    isStore := store, isLoad := !store, fab := k.fab, prop := leafProp q.leaf && leafState q.leaf == 1,
    replicated := leafState q.leaf == 1, epc := x.pc, nackVal := BitVec.ofNat 64 q.pa, lane := q.l.lane, va := q.l.va,
    page := leafPage q.leaf q.l.va }

/-- The lanes of a load that the L1 serves, and the others.  A line that is present may have been replaced (09 R175
item 1): the choice is free. -/
def State.l1Serve (s : State) (core : Nat) (x : Slot) (ok : Located → Bool) (ls : List Located) :
    Nat × List Located × State :=
  let k := s.core core
  let at' := fun (q : Located) => s.readPa x.ctx q.pa q.leaf
  let has := fun (q : Located) => ok q && (k.l1Find x.ctx (at' q / 32)).isSome
  if !ls.any has then (0, ls, s)
  else
    let (f, s) := s.draw
    if f % 2 = 1 then (0, ls, s)
    else
      let v := (ls.filter has).foldl (fun v q =>
        match k.l1Find x.ctx (at' q / 32) with
        | some line => v ||| ((ofBytes ((line.bytes.drop (q.pa % 32)).take q.l.len) >>> (if q.l.high then 4 else 0)) % 2 ^ q.l.bits) <<< q.l.bit
        | none => v) 0
      (v, ls.filter (fun q => !has q), s)

/-- A load of a channel's write pointer, which is an acquire (11 R233 item 2, 13 R279). -/
def readsPointer (q : Located) : Bool :=
  let off := q.pa % 2 ^ 42
  leafE q.leaf && decide (0x20001000000 ≤ off) && decide (off < 0x20001040000) && off % 0x1000 == 8

/-- A load of located lanes: its deposit, its requests and the slot with the destination marked empty. -/
def State.sendLoad (s : State) (sid : Nat) (x : Slot) (k : Kind) (vector : Bool) (d : Reg) (mask : Nat) (sx : Option Nat)
    (ls : List Located) : State × Slot :=
  let core := sid / 16
  let k := { k with acquire := k.acquire || ls.any readsPointer }
  -- a line of a writable page is cached on its home die only, but for a REPLICATED one (11 R234)
  let l1 := fun (q : Located) => !k.ordered && !k.byp && !leafE q.leaf && leafState q.leaf != 3 && !(vector && leafW q.leaf) &&
    (!leafW q.leaf || s.local' q.pa || leafState q.leaf == 1)
  let (v, rest, s) := s.l1Serve core x l1 ls
  let (d0, s) := s.newId
  let groups := requestGroups rest
  let dep : Dep := { sid := sid, dst := d.loc, len := d.size, mask := mask, value := v, base := v, outstanding := groups.length, isLoad := true,
                     acq := k.acquire || ls.any (fun q => leafE q.leaf), sx := sx }
  let s := { s with deps := kset s.deps d0 dep }
  let s := if k.acquire then s.dropWritable core else s
  let s := groups.foldl (fun (s : State) g =>
    let q := g.headD { l := { lane := 0, va := 0, len := 0, bit := 0, bits := 0 }, pa := 0, leaf := 0 }
    let at' := fun (q : Located) => s.readPa x.ctx q.pa q.leaf
    let op : MsgOp :=
      if leafE q.leaf && q.l.bits == 64 then .pop q.pa true false
      else .load (g.map (fun q => q.piece (at' q))) (if l1 q then some (leafW q.leaf) else none)
    let m := groupMsg sid x k g (some d0) op false
    let m := { m with vec := vector, pa := at' q, nackVal := BitVec.ofNat 64 (at' q)
                      locs := if at' q = q.pa then [] else g.map (fun q => (q.pa, q.l.len)) }
    let (_, s) := s.request sid m k.release (g.foldl (fun n q => n + q.l.len) 0)
    s.modDep d0 (fun y => { y with sent := y.sent ++ [m], idem := !leafE q.leaf && y.idem })) s
  (s, { (x.markEmpty d.loc d.size) with acqHold := if k.acquire then x.acqHold ++ [d0] else x.acqHold })

/-- A register whose write is a release at fabric scope of the writer's earlier stores: DIE_LPOST, DIE_CTXCMD, LCORE_KCMD
(16 R317, 18 R352, 14 R288). -/
def isCommand (pa : Nat) : Bool :=
  pa % 2 ^ 42 == 0x20004000300 || pa % 2 ^ 42 == 0x20004000400 || pa % 2 ^ 42 == 0x20004020010

/-- A store of located lanes.  The requests of a vector store share a collector, so that the lowest lane that is refused
is reported (06 R135 item 8). -/
def State.sendStore (s : State) (sid : Nat) (x : Slot) (k : Kind) (vector : Bool) (data : Nat) (ls : List Located) : State :=
  let s := s.dropStored (sid / 16) (s.lineBytes x.ctx ls)
  let groups := requestGroups ls
  let (d0, s) := s.newId
  let dep : Dep := { sid := sid, dst := .lat, len := 0, mask := 0, outstanding := groups.length, idem := false }
  let s := if vector && decide (1 < groups.length) then { s with deps := kset s.deps d0 dep } else s
  groups.foldl (fun (s : State) g =>
    let q := g.headD { l := { lane := 0, va := 0, len := 0, bit := 0, bits := 0 }, pa := 0, leaf := 0 }
    let e := leafE q.leaf
    let op : MsgOp :=
      if e && q.l.bits == 64 then .push q.pa (BitVec.ofNat 64 ((data >>> q.l.bit) % 2 ^ 64))
      else .store (g.map (fun q => q.piece q.pa)) data
    let rel := k.release || e || isCommand q.pa
    let m := groupMsg sid x { k with fab := k.fab || e || isCommand q.pa } g (if vector && decide (1 < groups.length) then some d0 else none) op true
    let m := { m with vec := vector }
    (s.request sid m rel (g.foldl (fun n q => n + q.l.len) 0)).2) s

/-- The slot after a memory instruction that has left: events of its sources captured, pc advanced. -/
def Slot.leaveMem (x : Slot) (c : Chain) (ue : List UeEvent) : Slot := { (x.captureAll ue) with pc := x.nextPc c }

end Sys2Proof.Machine
end

