-- ==== Sys2Proof/Machine/PlaceOps.lean ====
section
/-!
DEFINITION. Where the dispatcher places READY tasks, and the start of threads and groups; the inbox and its spill heap
(12 R245, R246, R253 to R258; 16 R307, R325; 20 R404).
-/

namespace Sys2Proof.Machine

/-! ### Dispatch (12 R245, R246) -/

/-- A register space is at hand on an offer for one slot. -/
def Offer.fits (o : Offer) (space : Nat) : Bool := o.slots != [] && decide (space ≤ o.space)

/-- Cores that can take one thread of a context and thermal class, ascending. -/
def State.threadCores (s : State) (ctx space cls : Nat) : List Offer :=
  (List.range 144).filterMap (fun c =>
    match s.offer c (s.pairOn ctx) with
    | some o => if o.fits space && s.zoneAccepts (zoneOf c) ctx cls (thermWeight cls) then some o else none
    | none => none)

/-- Arrivals reserved on a core for a segment and not yet started (15 R296). -/
def State.arrivals (s : State) (kid seg core : Nat) : Nat :=
  (s.kn.arrCounts.filter (fun (a : Nat × Nat × Nat) => a.1 == kid && a.2.1 == seg && a.2.2 == core)).length

/-- Of a segment's cores, in list order, the one with the fewest arrivals (15 R296 item 4). -/
def State.fewest (s : State) (kid seg : Nat) (cores : List Nat) : Option Nat :=
  cores.foldl (fun (m : Option Nat) c =>
    match m with
    | none => some c
    | some b => if s.arrivals kid seg c < s.arrivals kid seg b then some c else some b) none

/-- Core of a thread: in the zone that 20 R404 prefers, the lowest (12 R246); of a passage kernel, the core of the
entry's segment that 15 R296 would choose (15 R292). -/
def State.threadCore (s : State) (ctx : Nat) (k : Kernel) (pc cls : Nat) : Option Offer :=
  let os := s.threadCores ctx k.space cls
  if k.pass then
    match k.segmentAt pc with
    | none => none
    | some g =>
      let list := ((k.segments[g]?).map Segment.cores).getD []
      match s.fewest k.kid g (list.filter (fun c => os.any (fun o => o.core == c))) with
      | some c => os.find? (fun o => o.core == c)
      | none => none
  else
    let gs := s.preferZone (distinct (os.map (fun o => grottoOf o.core)))
    os.find? (fun o => gs.contains (grottoOf o.core))

/-- Grotto of a group of its own die: in the zone that 20 R404 prefers, the lowest (16 R325, R307). -/
def State.groupGrotto (s : State) (ctx sh space cls : Nat) : Option Nat :=
  (s.preferZone ((List.range 36).filter (fun g => decide (0 < s.room g ctx sh space cls)))).head?

/-- A core's matrix engine has room, and its zone accepts a task of a context and class (13 R268, 20 R404). -/
def State.engineRoom (s : State) (c ctx cls : Nat) : Bool :=
  s.coreUp c && ((s.core c).matrix.isNone || (s.core c).nextMatrix.isNone) && s.zoneAccepts (zoneOf c) ctx cls (4 * thermWeight cls)

/-- Engines that a matrix task may be given to: those with room in the zone that 20 R404 prefers. -/
def State.engines (s : State) (ctx cls : Nat) : List Nat :=
  let cs := (List.range 144).filter (fun c => s.engineRoom c ctx cls)
  let gs := s.preferZone (distinct (cs.map grottoOf))
  cs.filter (fun c => gs.contains (grottoOf c))

/-- A READY dealt entry could start now (12 R246, 13 R278). -/
def State.fits (s : State) (e : PoolEntry) : Bool :=
  let r := e.record
  if recKind r = 0 then
    match s.loadedFor (recKid r) e.ctx with
    | some k => (s.threadCore e.ctx k (recPc r) (recTherm r)).isSome
    | none => false
  else if recKind r = 1 then
    match s.loadedFor (recKid r) e.ctx with
    | some k => if k.pass then (s.threadCore e.ctx k (recPc r) (recTherm r)).isSome else (s.groupGrotto e.ctx (recShape r) k.space (recTherm r)).isSome
    | none => false
  else if recKind r = 2 then s.engines e.ctx (recTherm r) != []
  else
    let ch := s.channel (bitsOf 69 64 r)
    ch.en && decide (ch.queue.length < 16) && ch.pending.isEmpty

/-- Dealt entries of a context that the dispatcher may start now: its context is RESIDENT with nothing of it still to be
restored (18 R364 item 3), the key window holds it, and there is room (12 R245 items 2 to 5). -/
def State.dealable (s : State) (ctx : Nat) : List Nat :=
  if (s.ctx ctx).state != .resident || (s.ctx ctx).restoring then []
  else (s.qualifying ctx false).filter (fun i => match s.entry i with | some e => s.fits e | none => false)

/-- The dispatcher may start entry `i` next: contexts take turns (12 R245 item 6). -/
def State.mayDispatch (s : State) (i : Nat) : Option PoolEntry :=
  match s.entry i with
  | none => none
  | some e =>
    let turn := fun (c : Nat) => (c + 15 - s.pl.lastCtx) % 16
    let before := (List.range 16).filter (fun c => decide (turn c < turn e.ctx))
    if (s.dealable e.ctx).contains i && before.all (fun c => s.dealable c == []) then some e else none

/-- An entry starts: RUNNING, and its context was served last. -/
def State.deal (s : State) (i : Nat) (e : PoolEntry) : State :=
  let s := s.runEntry i
  { s with pl := { s.pl with lastCtx := e.ctx } }

/-- A thread that is a group of one starts on a core at its lowest slot that an offer gives (04 R80, 12 R246). -/
def State.startThread (s : State) (o : Offer) (x : Slot) : State :=
  let k := o.slots.headD 0
  let (key, s) := s.newGroup { ctx := x.ctx, kid := x.kid, shape := 0x11, cores := [o.core], slots := [[k]], live := 1 }
  s.startSlot (sidOf o.core k) { x with group := key }

/-- A group placed on a grotto (16 R307, R308): none when the grotto has lost its room. -/
def State.placeOn (s : State) (g : Nat) (grp : Group) (space cls : Nat) (x : Slot) : Option State :=
  let pair := s.pairOn grp.ctx
  let c := shCores grp.shape
  let n := shSlots grp.shape
  if s.room g grp.ctx grp.shape space cls = 0 then none
  else
    match placeGroup (s.offers g pair) c n space (shGang grp.shape) with
    | none => none
    | some place =>
      let (key, s) := s.newGroup { grp with cores := place.map (fun p => p.1), slots := place.map (fun p => p.2), live := c * n }
      some (s.startGroup key place n { x with gshape := BitVec.ofNat 64 grp.shape })

/-- The slot of a task's thread before it is placed (04 R80, 12 R238). -/
def State.taskSlot (s : State) (i : Nat) (e : PoolEntry) (k : Kernel) : Slot :=
  let h := s.taskHandle i
  { ((s.freshSlot e.ctx k (BitVec.ofNat 64 (recPc e.record))).withParam (recParam e.record)) with
    task := h, thermal := recTherm e.record, replay := e.replay }

/-! ### The inbox (12 R253 to R258) -/

/-- Fields of an inbox header (12 R253). -/
def ihTag (h : Word) : Nat := bitsOf 63 48 h.toNat
def ihLen (h : Word) : Nat := bitsOf 47 43 h.toNat
def ihCtx (h : Word) : Nat := bitsOf 41 38 h.toNat
def ihAgent (h : Word) : Nat := bitsOf 37 28 h.toNat
def ihSource (h : Word) : Nat := bitsOf 27 16 h.toNat

/-- An entry holds an arrival descriptor (15 R299). -/
def InboxEntry.isDesc (e : InboxEntry) : Bool := ihLen e.header == 0

/-- Entries of a core's inbox in use: those that wait, and those that a slot or a saved slot owns. -/
def State.inboxHeld (s : State) (c : Nat) : Nat :=
  (s.core c).inbox.length + (s.slots.filter (fun (p : Nat × Slot) => p.1 / 16 == c && p.2.owned.isSome)).length +
    (s.cx.saved.filter (fun v => v.sid / 16 == c && v.slot.owned.isSome)).length

/-- A slot runs as the spill thread (12 R258). -/
def State.isSpill (s : State) (sid : Nat) (x : Slot) : Bool :=
  s.pl.rsv && sid % 16 == 15 && (s.ctx x.ctx).spkid != 0 && x.kid == (s.ctx x.ctx).spkid

/-- Head and tail of a context's spill heap on a core. -/
def CoreSt.heapOf (k : CoreSt) (ctx : Nat) : Nat × Nat := kgetD k.heap ctx (0, 0)

/-- Packets in a context's spill heap on a core. -/
def CoreSt.heapLen (k : CoreSt) (ctx : Nat) : Nat := (k.heapOf ctx).2 - (k.heapOf ctx).1

/-- Virtual address of an image of a core's spill heap (12 R258 item 4). -/
def Context.heapVa (c : Context) (core i : Nat) : Nat := c.ihbase.toNat + core * c.ihsize * 256 + i % c.ihsize * 256

/-- A packet's image: header, words, zeros. -/
def InboxEntry.image (e : InboxEntry) : Nat :=
  e.header.toNat + (List.range e.words.length).foldl (fun n i => n + (e.words[i]?.getD 0).toNat * 2 ^ (64 * (i + 1))) 0

/-- The entry that a heap image stands for, with LB set. -/
def entryOfImage (n : Nat) : InboxEntry :=
  let h := BitVec.ofNat 64 (n % 2 ^ 64 ||| 1)
  { ctx := ihCtx h, header := h, words := (List.range (min 16 (ihLen h))).map (fun i => BitVec.ofNat 64 ((n >>> (64 * (i + 1))) % 2 ^ 64)) }

/-- Oldest entry of a context in an inbox that meets a test. -/
def CoreSt.oldest (k : CoreSt) (ctx : Nat) (p : InboxEntry → Bool) : Option (InboxEntry × List InboxEntry) :=
  match k.inbox.findIdx? (fun e => e.ctx == ctx && p e) with
  | some i => (k.inbox[i]?).map (fun e => (e, k.inbox.eraseIdx i))
  | none => none

/-- Entries of a context in an inbox. -/
def CoreSt.inboxOf (k : CoreSt) (ctx : Nat) : Nat := (k.inbox.filter (fun e => e.ctx == ctx)).length

/-- Waiting RECV.h's of a core served, in slot order (12 R256). -/
def State.serveRecvs (s : State) (c : Nat) : State :=
  (List.range 16).foldl (fun (s : State) i =>
    match s.slot (sidOf c i) with
    | none => s
    | some x =>
      match x.recvs, (s.core c).oldest x.ctx (fun e => !e.isDesc) with
      | r :: rest, some (e, left) =>
        let s := s.modCore c (fun k => { k with inbox := left })
        let s := s.setSlot (sidOf c i) { x with recvs := rest, owned := some e, ownedPos := 0 }
        s.modDep r (fun d => d.answer e.header.toNat [])
      | _, _ => s) s

/-- The transfer that a descriptor stands for: core, context, place (15 R299). -/
def State.transferAt (s : State) (core : Nat) (e : InboxEntry) : Option (Nat × Transfer) :=
  s.kn.transfers.find? (fun (p : Nat × Transfer) => p.2.core == core && p.2.ctx == e.ctx && p.2.place == ihTag e.header)

/-- An entry enters an inbox at the tail; a descriptor joins the tail of the core's arrivals (15 R300). -/
def State.enterInbox (s : State) (c : Nat) (e : InboxEntry) : State :=
  let s := s.modCore c (fun k => { k with inbox := k.inbox ++ [e] })
  let s := if e.isDesc then
    match s.transferAt c e with
    | some (t, x) =>
      let (n, s) := s.newId
      { s with kn := { s.kn with transfers := kset s.kn.transfers t { x with accepted := some n } } }
    | none => s
  else s
  (s.endYields c).serveRecvs c

/-- A descriptor leaves an inbox for a heap. -/
def State.leaveInbox (s : State) (c : Nat) (e : InboxEntry) : State :=
  if e.isDesc then
    match s.transferAt c e with
    | some (t, x) => { s with kn := { s.kn with transfers := kset s.kn.transfers t { x with accepted := none } } }
    | none => s
  else s

/-- Slot 15 of a core starts as the spill thread of a context (12 R258 items 1 and 2). -/
def State.startSpill (s : State) (c ctx reason : Nat) : State :=
  let cx := s.ctx ctx
  match (if cx.spkid = 0 || cx.state != .resident then none else s.sealedFor cx.spkid ctx) with
  | none => s
  | some k =>
    if s.coreUp c && decide (s.spaceUsed c + k.space ≤ (s.core c).gran * 4096) then
      (s.modCore c (fun q => { q with spillReason := reason })).startThread { core := c, slots := [15], space := k.space }
        (s.freshSlot ctx k (BitVec.ofNat 64 (k.kbase + cx.spoff)))
    else s

/-- Context and reason for which a core's spill thread is to start: its inbox is full, or has drained while a context with a
slot there has packets in its heap (12 R258 items 1 and 2; 18 R362). -/
def State.spillFor (s : State) (c : Nat) : Option (Nat × Nat) :=
  let k := s.core c
  if !s.pl.rsv || (s.slot (sidOf c 15)).isSome then none
  else if 64 ≤ s.inboxHeld c then k.inbox.head?.map (fun e => (e.ctx, 1))
  else if s.inboxHeld c ≤ 16 then
    ((List.range 16).find? (fun x => decide (k.heapLen x ≠ 0) && (s.ctx x).state == .resident &&
      s.slots.any (fun (p : Nat × Slot) => p.1 / 16 == c && p.2.ctx == x))).map (fun x => (x, 2))
  else none

/-- The spill thread of a core starts. -/
def State.spillWake (s : State) (c : Nat) : State :=
  match s.spillFor c with
  | some (ctx, reason) => s.startSpill c ctx reason
  | none => s

end Sys2Proof.Machine
end

