-- ==== Sys2Proof/Machine/Queue.lean ====
section
/-!
DEFINITION. Meanings of TASK, NEXT, EXIT, SEND and RECV, and of the steps of the pool and the inboxes (12 R238 to R258).
-/

namespace Sys2Proof.Machine

/-! ### TASK, NEXT, EXIT (12 R248 to R251) -/

/-- A deposit into a scalar register that no re-issue repeats. -/
def scalarDep (sid : Nat) (d : Reg) (outstanding value : Nat) : Dep :=
  { sid := sid, dst := d.loc, len := 8, mask := ones 64, value := value, outstanding := outstanding, idem := false }

/-- A deposit entered under a new number. -/
def State.newDep (s : State) (d : Dep) : Nat × State :=
  let (r, s) := s.newId
  (r, { s with deps := kset s.deps r d })

/-- TASK (12 R248). -/
def taskBody : Body := fun sid c x s =>
  let d := x.reg .scalar c.a.toNat
  let a := x.reg .vector c.b.toNat
  match s.memHold sid x true with
  | .error st => (s, .error st)
  | .ok _ =>
    match x.checkUses { all := [d, a], src := [a], dst := [d] } with
    | .error st => (s, .error st)
    | .ok _ =>
      let v := x.readUe a 64
      let r := v.1 % 2 ^ 512
      let y := (x.markEmpty d.loc 8).leaveMem c (v.2.filter (fun e => decide (e.col < 8)))
      match s.recordBad x.ctx r with
      | some reason => ((s.newDep (scalarDep sid d 0 (2 ^ 63 + reason))).2, .ok (.set y))
      | none =>
        let (d0, s) := s.newDep (scalarDep sid d 1 0)
        let msg : Msg := { sid := some sid, ctx := x.ctx, user := !x.sup, op := .task r, pa := s.ownAgent * 2 ^ 42, after := [],
                           dep := some d0, isStore := true, fab := true, epc := x.pc }
        ((s.request sid msg true 64).2, .ok (.set y))

/-- TASK (12 R248). -/
def execTask (c : Chain) (s : State) : Host.Outcome State Fault Refusal := .next (s.issue opTask c taskBody)

/-- The tasks that a slot pulled retire, and their shadow registers with them (12 R247, 04 R95). -/
def Slot.dropTask (x : Slot) : Slot := { x with pulled := false, tasks := [], task := 0, fmt := 0, band := 0, sca := 0, scb := 0 }

/-- NEXT (12 R249): its deposit is an acquire for what follows (item 3, R246). -/
def nextBody : Body := fun sid c x s =>
  let nw := c.mod.toNat.testBit 0
  let d := x.reg .scalar c.a.toNat
  match s.memHold sid x true with
  | .error st => (s, .error st)
  | .ok _ =>
    match x.checkUses { all := [d], dst := [d] } with
    | .error st => (s, .error st)
    | .ok _ =>
      let s := s.retireAll (heldTasks x.tasks x.pulled x.task)
      let x := if x.pulled then x.dropTask else x
      let y := (x.markEmpty d.loc 8).leaveMem c []
      let earlier := s.pl.nexts.any (fun r => match kget s.msgs r with | some m => m.ctx == x.ctx | none => false)
      let ready := s.pl.pool.any (fun (p : Nat × PoolEntry) => p.2.state == .ready && p.2.ctx == x.ctx && recPull p.2.record)
      match (if earlier then (none, s) else s.pick (s.qualifying x.ctx true)) with
      | (some i, s) =>
        let (d0, s) := s.newDep { scalarDep sid d 1 0 with acq := true }
        (s.giveNext d0 i, .ok (.set y))
      | (none, s) =>
        -- a NEXT that finds no READY pulled entry asks another die for one (17 R344 item 1)
        let s := if ready then s else { s with o := { s.o with agenda := s.o.agenda ++ [.stealSend x.ctx true] } }
        if nw then ((s.newDep (scalarDep sid d 0 0)).2, .ok (.set y))
        else
          let (d0, s) := s.newDep { scalarDep sid d 1 0 with acq := true }
          let (r, s) := s.newId
          let msg : Msg := { sid := some sid, ctx := x.ctx, user := !x.sup, op := .next nw, pa := 0, after := [], dep := some d0, epc := x.pc }
          let s := s.post r msg
          ({ s with pl := { s.pl with nexts := s.pl.nexts ++ [r] } }, .ok (.set { y with nextRid := some d0 }))

/-- NEXT (12 R249). -/
def execNext (c : Chain) (s : State) : Host.Outcome State Fault Refusal := .next (s.issue opNext c nextBody)

/-- EXIT (12 R251). -/
def exitBody : Body := fun sid _ x s =>
  match s.memHold sid x false with
  | .error st => (s, .error st)
  | .ok _ => ((s.setSlot sid x).exitSlot sid, .ok .gone)

/-- EXIT (12 R251). -/
def execExit (c : Chain) (s : State) : Host.Outcome State Fault Refusal := .next (s.issue opExit c exitBody)

/-! ### SEND (12 R254, R255, R258) -/

/-- Header of a packet that a slot opens: its target's TAG and the slot's place (12 R253). -/
def State.openHeader (s : State) (sid ctx : Nat) (t : Word) : Word :=
  BitVec.ofNat 64 (bitsOf 63 48 t.toNat * 2 ^ 48 + ctx % 16 * 2 ^ 38 + s.ownAgent * 2 ^ 28 + sid / 16 * 2 ^ 20 + sid % 16 * 2 ^ 16)

/-- SEND without LB (12 R255). -/
def sendBody : Body := fun sid c x s =>
  let t := x.reg .scalar c.a.toNat
  let w := x.reg .scalar c.b.toNat
  match s.memHold sid x false with
  | .error st => (s, .error st)
  | .ok _ =>
    match x.checkUses { all := [t, w], src := [t, w] } with
    | .error st => (s, .error st)
    | .ok _ =>
      let u := x.readUe t 64
      let v := x.readUe w 64
      let tw := BitVec.ofNat 64 u.1
      let p := x.openPkt.getD { target := tw, header := s.openHeader sid x.ctx tw, words := [], since := none }
      let p := { p with words := p.words ++ [BitVec.ofNat 64 v.1] }
      if c.mod.toNat.testBit 0 || decide (16 ≤ p.words.length) then
        let (r, s) := s.closePacket (some sid) x.ctx p false true
        (s, .ok (.setStatus { (x.captureAll (u.2 ++ v.2)) with
          openPkt := none, status := .stalled (.answer r (x.nextPc c) (stallUntil s.t.cycle c.stall.toNat)) }))
      else (s, .ok (.set ({ x with openPkt := some p }.leaveMem c (u.2 ++ v.2))))

/-- SEND (12 R255). -/
def execSend (c : Chain) (s : State) : Host.Outcome State Fault Refusal := .next (s.issue opSend c sendBody)

/-- SEND.lb: the oldest packet of the slot's context in the core's heap is read back, and the slot is STALLED until an
inbox entry takes it (12 R258 item 6). -/
def sendLbBody : Body := fun sid c x s =>
  let core := sid / 16
  match s.memHold sid x false with
  | .error st => (s, .error st)
  | .ok _ =>
    if !s.isSpill sid x then (s, .error (.trap .priv (baseTval opSendLb c)))
    else if (s.core core).heapLen x.ctx = 0 then (s, .ok (.go {}))
    else
      match s.access sid x .load 1 [{ lane := 0, va := (s.ctx x.ctx).heapVa core ((s.core core).heapOf x.ctx).1, len := 256, bit := 0, bits := 2048 }] with
      | (s, .error st) => (s, .error st)
      | (s, .ok ls) =>
        let q := ls.headD { l := { lane := 0, va := 0, len := 0, bit := 0, bits := 0 }, pa := 0, leaf := 0 }
        let pa := s.readPa x.ctx q.pa q.leaf
        let msg : Msg := { sid := some sid, ctx := x.ctx, user := false, op := .heapRead core, pa := pa, after := [], dep := none, stalls := true,
                           epc := x.pc, nackVal := BitVec.ofNat 64 pa, va := q.l.va, page := leafPage q.leaf q.l.va }
        -- it follows the store that spilled the packet
        let after := (s.msgs.filter (fun (p : Nat × Msg) => meet [(pa, 256)] p.2.bytes)).map (fun p => p.1)
        let (r, s) := s.request sid { msg with after := after } false 256
        (s, .ok (.answer r {}))

/-- SEND.lb (12 R258). -/
def execSendLb (c : Chain) (s : State) : Host.Outcome State Fault Refusal :=
  .next (s.issue opSendLb c sendLbBody)

/-- A slot whose awaited answer allows it to go on (03 R60). -/
def Slot.goOn (x : Slot) (cycle : Nat) (next : Word) (until' : Nat) : Slot :=
  { x with pc := next, status := if until' ≤ cycle + 16 then .ready else .stalled (.count until') }

/-- A closed packet leaves the core's send buffer, and the slot that closed it goes on (12 R255 item 4). -/
def execPacketLeave (sid : Nat) (s : State) : Host.Outcome State Fault Refusal :=
  match s.slot sid with
  | some x =>
    match x.status with
    | .stalled (.answer r n u) =>
      match kget s.msgs r with
      | some m =>
        match m.op with
        | .packet .. => .next ((s.modMsg r (fun m => { m with stalls := false })).setSlot sid (x.goOn s.t.cycle n u))
        | _ => .next s
      | none => .next s
    | _ => .next s
  | none => .next s

/-- A packet that a slot keeps open 1,024 rotations after its save was requested is closed with TRUNC set (12 R255). -/
def execSendTruncTimeout (sid : Nat) (s : State) : Host.Outcome State Fault Refusal :=
  match s.slot sid with
  | some x =>
    match x.openPkt with
    | some p =>
      match p.since with
      | some c =>
        if c + 16384 ≤ s.t.cycle then .next ((s.closePacket (some sid) x.ctx p true false).2.setSlot sid { x with openPkt := none })
        else .next s
      | none => .next s
    | none => .next s
  | none => .next s

/-- A packet can be taken by a core of this die: the core works, and the context is admitted (12 R253). -/
def State.inboxTakes (s : State) (core ctx : Nat) : Bool := s.coreUp core && (s.ctx ctx).state.admitted'

/-- A queue packet of another die: taken, refused, or waiting behind what waits from its source (12 R253, R255, R257). -/
def State.takeFromDie (s : State) (core : Nat) (header : Word) (words : List Word) : State :=
  if !s.inboxTakes core (ihCtx header) then s.refusePacket { typ := 0, src := ihAgent header, ctx := ihCtx header } 4
  else if 64 ≤ s.inboxHeld core || s.lk.inHeld.any (fun q => q.1 == core && ihSource q.2.1 == ihSource header) then
    { s with lk := { s.lk with inHeld := s.lk.inHeld ++ [(core, header, words)] } }
  else s.enterInbox core { ctx := ihCtx header, header := header, words := words.take 16 }

/-- Queue packets of other dies that wait are looked at, oldest first. -/
def State.retryInbox (s : State) : State :=
  s.lk.inHeld.foldl (fun (s : State) q => s.takeFromDie q.1 q.2.1 q.2.2) { s with lk := { s.lk with inHeld := [] } }

/-- A packet or an arrival descriptor is accepted into a free inbox entry, or refused; without a free entry it waits in
the network (12 R253, R257, R258; 15 R299). -/
def execPacketAccept (p : PktSource) (s : State) : Host.Outcome State Fault Refusal :=
  match p with
  | .inNetwork rid =>
    match kget s.msgs rid with
    | none => .next s
    | some m =>
      match m.op with
      | .packet target header words =>
        let core := bitsOf 17 10 target.toNat
        if m.stalls || m.sent then .next s
        else
          match s.homeOf (bitsOf 9 0 target.toNat) with
          | .gone => .next (s.nackMsg rid m)
          | .agent a => .next ((s.out (.message a rid target header words)).modMsg rid (fun m => { m with sent := true }))
          | .own =>
            let earlier := s.msgs.any (fun (q : Nat × Msg) =>
              decide (q.1 < rid) && (match q.2.op with
                | .packet t h _ => ihSource h == ihSource header && bitsOf 17 10 t.toNat == core && !q.2.sent && ihLen h != 0 && ihLen header != 0
                | _ => false))
            if !s.inboxTakes core m.ctx then .next (s.nackMsg rid m)
            else if earlier || decide (64 ≤ s.inboxHeld core) then .next s
            else .next ((s.unpost rid).enterInbox core { ctx := m.ctx, header := header, words := words })
      | _ => .next s
  | .fromDie core header words => .next (s.takeFromDie core header words)

/-! ### RECV (12 R256) -/

/-- A RECV that deposits a value at once. -/
def recvValue (sid : Nat) (c : Chain) (x : Slot) (s : State) (d : Reg) (v : Nat) : State × Except Stop After :=
  ((s.newDep (scalarDep sid d 0 v)).2, .ok (.set ((x.markEmpty d.loc 8).leaveMem c [])))

/-- The checks that every RECV makes. -/
def State.recvCheck (s : State) (sid : Nat) (x : Slot) (d : Reg) : Except Stop Unit :=
  match s.memHold sid x true with
  | .error st => .error st
  | .ok _ => x.checkUses { all := [d], dst := [d] }

/-- RECV.h (12 R256). -/
def recvHBody : Body := fun sid c x s =>
  let d := x.reg .scalar c.a.toNat
  match s.recvCheck sid x d with
  | .error st => (s, .error st)
  | .ok _ =>
    let x := { x with owned := none, ownedPos := 0 }
    match (s.core (sid / 16)).oldest x.ctx (fun e => !e.isDesc) with
    | some (e, left) =>
      recvValue sid c { x with owned := some e } (s.modCore (sid / 16) (fun k => { k with inbox := left })) d e.header.toNat
    | none =>
      if c.mod.toNat.testBit 2 then recvValue sid c x s d 0
      else
        let (r, s) := s.newDep (scalarDep sid d 1 0)
        (s, .ok (.set { ((x.markEmpty d.loc 8).leaveMem c []) with recvs := x.recvs ++ [r] }))

/-- RECV.h (12 R256). -/
def execRecvH (c : Chain) (s : State) : Host.Outcome State Fault Refusal :=
  .next (s.issue opRecvH c recvHBody)

/-- RECV.w (12 R256). -/
def recvWBody : Body := fun sid c x s =>
  let d := x.reg .scalar c.a.toNat
  match s.recvCheck sid x d with
  | .error st => (s, .error st)
  | .ok _ =>
    match x.owned with
    | none => recvValue sid c x s d 0
    | some e =>
      match e.words[x.ownedPos]? with
      | none => recvValue sid c x s d 0
      | some w =>
        if x.ownedPos + 1 = e.words.length then recvValue sid c { x with owned := none, ownedPos := 0 } s d w.toNat
        else recvValue sid c { x with ownedPos := x.ownedPos + 1 } s d w.toNat

/-- RECV.w (12 R256). -/
def execRecvW (c : Chain) (s : State) : Host.Outcome State Fault Refusal :=
  .next (s.issue opRecvW c recvWBody)

/-- RECV.sp (12 R256, R258 items 4 and 5). -/
def recvSpBody : Body := fun sid c x s =>
  let core := sid / 16
  let d := x.reg .scalar c.a.toNat
  match s.memHold sid x true, (if s.isSpill sid x then x.checkUses { all := [d], dst := [d] } else .error (.trap .priv (baseTval opRecvSp c))) with
    | .error st, _ => (s, .error st)
    | _, .error st => (s, .error st)
    | .ok _, .ok _ =>
      let k := s.core core
      match k.oldest x.ctx (fun _ => true) with
      | none => recvValue sid c x s d 0
      | some (e, left) =>
        let cx := s.ctx x.ctx
        let (head, tail) := k.heapOf x.ctx
        if cx.ihsize ≤ tail - head then (s, .error (.trap .inboxHeap 0))
        else
          match s.access sid x .store 1 [{ lane := 0, va := cx.heapVa core tail, len := 256, bit := 0, bits := 2048 }] with
          | (s, .error st) => (s, .error st)
          | (s, .ok ls) =>
            let s := s.sendStore sid x {} false e.image ls
            let s := s.modCore core (fun k => { k with inbox := left, heap := kset k.heap x.ctx (head, tail + 1) })
            let s := s.leaveInbox core e
            recvValue sid c x s d ((s.core core).inboxOf x.ctx)

/-- RECV.sp (12 R256). -/
def execRecvSp (c : Chain) (s : State) : Host.Outcome State Fault Refusal :=
  .next (s.issue opRecvSp c recvSpBody)

/-- RECV.st (12 R256). -/
def recvStBody : Body := fun sid c x s =>
  let d := x.reg .scalar c.a.toNat
  match s.recvCheck sid x d with
  | .error st => (s, .error st)
  | .ok _ =>
    let k := s.core (sid / 16)
    recvValue sid c x s d (s.inboxHeld (sid / 16) % 256 + k.heapLen x.ctx % 2 ^ 16 * 2 ^ 8 +
      (if s.isSpill sid x then k.spillReason * 2 ^ 24 else 0))

/-- RECV.st (12 R256). -/
def execRecvSt (c : Chain) (s : State) : Host.Outcome State Fault Refusal := .next (s.issue opRecvSt c recvStBody)

/-! ### Steps of the pool -/

/-- A release time passes (12 R243, R244). -/
def execTaskReleaseTime (entry : Nat) (s : State) : Host.Outcome State Fault Refusal := .next (s.tryReady entry)

/-- A READY task of kind thread starts on a core (12 R245, R246; 15 R292). -/
def execTaskDispatch (entry : Nat) (s : State) : Host.Outcome State Fault Refusal :=
  match s.mayDispatch entry with
  | some e =>
    if recKind e.record = 0 then
      match s.loadedFor (recKid e.record) e.ctx with
      | some k =>
        match s.threadCore e.ctx k (recPc e.record) (recTherm e.record) with
        | some o => .next ((s.deal entry e).startThread o { (s.taskSlot entry e k) with dealt := some (s.taskHandle entry) })
        | none => .next s
      | none => .next s
    else .next s
  | none => .next s

/-- A READY task of kind group is placed on a grotto (16 R325, R307); one of a passage kernel, which is of one thread,
on a core of its segment (15 R292). -/
def execGroupTaskDispatch (entry : Nat) (s : State) : Host.Outcome State Fault Refusal :=
  match s.mayDispatch entry with
  | some e =>
    if recKind e.record = 1 then
      match s.loadedFor (recKid e.record) e.ctx with
      | some k =>
        let x := s.taskSlot entry e k
        let grp : Group := { ctx := e.ctx, kid := k.kid, shape := recShape e.record, cores := [], slots := [], live := 0,
                             task := some (s.taskHandle entry) }
        if k.pass then
          match s.threadCore e.ctx k (recPc e.record) (recTherm e.record) with
          | some o =>
            let q := o.slots.headD 0
            let (key, t) := (s.deal entry e).newGroup { grp with cores := [o.core], slots := [[q]], live := 1 }
            .next (t.startSlot (sidOf o.core q) { x with group := key })
          | none => .next s
        else
          match s.groupGrotto e.ctx (recShape e.record) k.space (recTherm e.record) with
          | some g =>
            match s.placeOn g grp k.space (recTherm e.record) x with
            | some t => .next (t.deal entry e)
            | none => .next s
          | none => .next s
      | none => .next s
    else .next s
  | none => .next s

/-- A host post is dropped: BAD, and FULL for a full pool; the vector is sent when a bit is set (12 R250, R252). -/
def State.dropPost (s : State) (full : Bool) : State :=
  let fresh := !s.pl.poolBad || (full && !s.pl.poolFull)
  let s := { s with pl := { s.pl with poolBad := true, poolFull := s.pl.poolFull || full } }
  let s := if full then (s.sticky .poolBad).sticky .poolFull else s.sticky .poolBad
  if fresh then s.irq s.pl.poolVec else s

/-- A TASK found every shard full (12 R241 item 4, R252). -/
def State.setPoolFull (s : State) : State :=
  if s.pl.poolFull then s.sticky .poolFull else (({ s with pl := { s.pl with poolFull := true } }).irq s.pl.poolVec).sticky .poolFull

/-- A host write to the task-pool aperture (12 R242, R250): a post at a port, dropped at the record window. -/
def execHostPost (offset : Nat) (data : List Byte) (s : State) : Host.Outcome State Fault Refusal :=
  if offset < 0x400000 then .next s
  else if 0x400400 ≤ offset then .next (s.out (.hostReply none))
  else
    let ctx := (offset - 0x400000) / 64
    let r := ofBytes data
    if data.length ≠ 64 ∨ offset % 64 ≠ 0 then .next (s.dropPost false)
    else if !(s.ctx ctx).state.admitted' || (s.recordBad ctx r).isSome then .next (s.dropPost false)
    else
      match s.postRecord ctx r none with
      | (some _, s) => .next s
      | (none, s) => .next (s.dropPost true)

end Sys2Proof.Machine
end

