-- ==== Sys2Proof/Machine/Registers.lean ====
section
/-!
DEFINITION. The register region: what every register reads, and what a write does or which step it starts
(00 R4, R5; 01 R21, R22, R428 and the register rules of each chapter).
-/

namespace Sys2Proof.Machine

/-- A number made of fields: lowest bit and value. -/
def fields (l : List (Nat × Nat)) : Nat := l.foldl (fun n p => n + p.2 * 2 ^ p.1) 0

/-! ### Reading: the 8 bytes at an 8-aligned offset of a block -/

/-- DIE_CTXSTATc (18 R352). -/
def State.ctxStat (s : State) (c : Nat) : Nat :=
  let k := s.ctx c
  fields [(32, k.fdata), (24, k.vec), (16, k.fcause), (6, k.bad.toNat), (5, k.busy.toNat), (0, k.state.num)]

/-- The DIE_ block (01 R21, R22; 08 R171; 12 R252, R258; 16 R318; 18 R352; 19 R389). -/
def State.readDie (s : State) (o : Nat) : Nat :=
  let head := s.pg.fq.head?
  if o = 0x000 then fields [(20, 0x7A7), (16, s.idn.stepId % 16), (10, s.idn.agv.toNat), (0, if s.idn.agv then s.idn.agent else 0)]
  else if o = 0x008 then s.idn.memGib
  else if o = 0x100 then fields [(8, s.pg.fqVec), (7, s.pg.fqOvf.toNat), (0, s.pg.fq.length)]
  else if o = 0x108 then (match head with | some r => r.va.toNat | none => 0)
  else if o = 0x110 then (match head with | some r => fields [(48, r.src), (12, r.ctx), (8, r.code), (0, r.kind)] | none => 0)
  else if o = 0x200 then s.pl.keyWin
  else if o = 0x208 then fields [(63, s.pl.poolFull.toNat), (62, s.pl.poolBad.toNat), (48, s.pl.poolVec), (32, s.pl.poolDrop), (0, s.pl.pool.length)]
  else if o = 0x210 then s.pl.rsv.toNat
  else if o = 0x308 then fields [(16, s.gr.lvec), (9, s.gr.llost.toNat), (8, s.gr.lbad.toNat), (7, s.gr.lfull.toNat), (0, s.gr.launches.length)]
  else if 0x480 ≤ o ∧ o < 0x500 then s.ctxStat ((o - 0x480) / 8)
  else if o = 0x800 then
    fields [(63, s.lk.topoDone.toNat), (32, s.lk.topoMaster), (16, s.lk.topoGen % 2 ^ 16),
      (0, (s.lk.topo.filter (fun (p : Nat × Word) => p.2.toNat.testBit 63)).length)]
  else if o = 0x808 then s.idn.uid.toNat
  else if 0x1000 ≤ o ∧ o < 0x3000 then s.topo ((o - 0x1000) / 8)
  else 0

/-- Working cores of a grotto (16 R311). -/
def State.workOf (s : State) (g : Nat) : Nat := ((List.range 4).filter (fun j => !s.fused (4 * g + j))).length

/-- The HARV_ block (16 R310, R311). -/
def State.readHarv (s : State) (o : Nat) : Nat :=
  if o < 0x18 then (s.hl.harvest[o / 8]?.getD 0).toNat
  else if o = 0x18 then
    let g := fun (n : Nat) => ((List.range 36).filter (fun i => s.workOf i == n)).length
    fields [(40, g 0), (32, g 1), (24, g 2), (16, g 3), (8, g 4), (0, ((List.range 144).filter (fun c => !s.fused c)).length)]
  else 0

/-- A 32-bit register of an array of one per core, beside its neighbour. -/
def perCore (base o : Nat) (f : Nat → Nat) : Nat := f ((o - base) / 4) + f ((o - base) / 4 + 1) * 2 ^ 32

/-- The LCORE_ block (04 R86; 09 R182; 14 R286, R288; 15 R302; 16 R312). -/
def State.readLcore (s : State) (o : Nat) : Nat :=
  if o = 0x000 then s.kn.ksrc.toNat
  else if o = 0x008 then s.kn.kdva.toNat
  else if o = 0x018 then
    fields [(16, (s.kn.kernels.filter (fun k => k.state == .unloading)).length), (8, s.kn.kvec), (7, s.kn.kbusy.toNat), (0, s.kn.kresult)]
  else if 0x400 ≤ o ∧ o < 0x640 then perCore 0x400 o (fun n => let k := s.core n; if k.tabV then 2 ^ 31 + k.tabPhys else 0)
  else if 0x800 ≤ o ∧ o < 0xA40 then perCore 0x800 o (fun n => if s.fused n then 0 else (s.core n).gran)
  else if 0xC00 ≤ o ∧ o < 0xE40 then perCore 0xC00 o (fun n => (s.core n).shad * 256 + (s.core n).save)
  else if 0x1400 ≤ o ∧ o < 0x1640 then perCore 0x1400 o (fun n => (s.core n).xtop)
  else if 0x1800 ≤ o ∧ o < 0x1A40 then
    perCore 0x1800 o (fun n => ((s.core n).inbox.filter InboxEntry.isDesc).length * 2 ^ 16 +
      (s.kn.transfers.filter (fun (t : Nat × Transfer) => t.2.core == n)).length)
  else 0

/-- The SLICE_ block (09 R180, 10 R203, 21 R415). -/
def State.readSlice (s : State) (o : Nat) : Nat :=
  if o = 0x00 then s.vs.live.toNat
  else if o = 0x40 then fields [(31, s.vs.splitBusy.toNat), (0, s.vs.splitTo)]
  else if o = 0x48 then s.vs.vxBase * 2 ^ 16
  else if o = 0x50 then s.vs.vxSize
  else if o = 0x58 then fields [(31, s.vs.vFull.toNat), (16, s.vs.vVec), (0, s.vs.orphan)]
  else 0

/-- The QOS_ block (18 R367). -/
def State.readQos (s : State) (o : Nat) : Nat :=
  if o < 0x80 then kgetD s.cx.shares (o / 8) 0x10 else if o = 0x100 then s.cx.portCap else 0

/-- STATE of a channel (13 R271). -/
def Channel.num (c : Channel) : Nat :=
  if !c.en then 0 else match c.state with | .idle => 1 | .ready => 2 | .running => 2 | .held => 3 | .error => 4

/-- BTE_STATn (13 R271). -/
def Channel.stat (c : Channel) : Nat := fields [(16, c.arg), (12, c.err), (4, c.queue.length), (0, c.num)]

/-- The BTE_ block (13 R271, R277, R280). -/
def State.readBte (s : State) (o : Nat) : Nat :=
  let head := s.en.elog.head?
  if o = 0x00 then fields [(8, s.en.elogVec), (7, s.en.elogOvf.toNat), (0, s.en.elog.length)]
  else if o = 0x08 then (match head with | some r => r.w0.toNat | none => 0)
  else if o = 0x10 then (match head with | some r => r.w1.toNat | none => 0)
  else if o = 0x18 then (match head with | some r => r.w2.toNat | none => 0)
  else if 0x1000 ≤ o ∧ o < 0x2000 then
    let c := s.channel ((o - 0x1000) / 64)
    match (o % 64) / 8 with
    | 0 => fields [(63, c.en.toNat), (16, c.ctx), (0, c.tcount)]
    | 1 => c.tbase.toNat
    | 2 => c.wptr.toNat
    | 3 => c.doneCnt.toNat
    | 4 => c.stat
    | _ => 0
  else if 0x2000 ≤ o ∧ o < 0x2800 then
    let f := kgetD s.en.fifos ((o - 0x2000) / 8) {}
    fields [(63, f.en.toNat), (0, f.ctx)]
  else 0

/-- An echo record (17 R342). -/
def EchoRec.read (e : EchoRec) (o : Nat) : Nat :=
  if o < 0x1000 then
    let x := kgetD e.members (o / 64) {}
    let q := o % 64
    if q < 0x20 then
      let lag := fun (j : Nat) => kgetD x.lags j 0xFFFF
      fields [(0, lag (q / 2)), (16, lag (q / 2 + 1)), (32, lag (q / 2 + 2)), (48, lag (q / 2 + 3))]
    else if q = 0x20 then fields [(40, x.strag.toNat), (32, x.lastn), (16, x.max'), (0, x.min')]
    else if q = 0x28 then fields ((List.range 8).map (fun k => (8 * k, kgetD x.hist k 0)))
    else 0
  else if o < 0x1100 then
    match kget e.epis ((o - 0x1000) / 16) with
    | none => 0
    | some p =>
      if o % 16 = 0 then fields [(39, 1), (38, p.beyond.toNat), (32, p.lastm), (0, p.episode)] else p.rtime
  else if o = 0x1100 then
    fields [(63, e.bound.toNat), (62, e.die.toNat), (58, e.ctx), (50, e.core), (41, e.entry), (0, e.episodes)]
  else 0

/-- The ECHO_ block (17 R342). -/
def State.readEcho (s : State) (o : Nat) : Nat :=
  if o = 0x00 then s.br.echoThresh
  else if o = 0x08 then fields [(16, s.br.echoMaxT), (0, s.br.echoCtx)]
  else if o = 0x10 then fields [(32, s.br.stealCnt[2]?.getD 0), (16, s.br.stealCnt[1]?.getD 0), (0, s.br.stealCnt[0]?.getD 0)]
  else if 0x2000 ≤ o then (s.echoRec (o / 0x2000 - 1)).read (o % 0x2000)
  else 0

/-- The ZONE_ block (20 R400 to R402).  LOAD is read as it stands. -/
def State.readZone (s : State) (o : Nat) : Nat :=
  if o < 0xA0 then let z := s.zone (o / 8); fields [(48, z.cmask), (16, z.maxF), (0, z.minF)]
  else if 0x100 ≤ o ∧ o < 0x180 then kgetD s.zn.zshares ((o - 0x100) / 8) 0x10
  else if 0x200 ≤ o ∧ o < 0x340 then
    let n := (o - 0x200) / 16
    let z := s.zone n
    let tj := fun (j : Nat) => z.tj[j]?.getD 0
    if o % 16 = 0 then
      fields [(56, tj 3), (48, tj 2), (40, tj 1), (32, tj 0), (24, z.tin), (16, z.tout), (15, z.void.toNat), (0, z.flow % 2 ^ 15)]
    else fields [(48, z.dp), (40, z.state.num), (16, if z.budget < 2 ^ 16 then z.budget else Config.wideBudget z.flow % 2 ^ 16), (0, min 0xFFFF (s.zoneLoad n none))]
  else if o = 0x400 then fields [(8, s.zn.tjShut), (0, s.zn.tjHi)]
  else if o = 0x408 then
    fields [(16, s.zn.zvec), (8, s.zn.zlast), (2, s.zn.zvoid.toNat), (1, s.zn.zflow.toNat), (0, s.zn.ztherm.toNat)]
  else 0

/-- The VALVE_ block (20 R398, R399). -/
def State.readValve (s : State) (o : Nat) : Nat :=
  if o < 0xA0 then let z := s.zone (o / 8); fields [(8, z.act), (0, z.openN)]
  else if 0x100 ≤ o ∧ o < 0x200 then
    let k := kgetD s.zn.scheds ((o - 0x100) / 16) {}
    if o % 16 = 0 then k.time.toNat else k.actn.toNat
  else 0

/-- The PAIR_ block (21 R409). -/
def State.readPair (s : State) (o : Nat) : Nat :=
  if o < 0x80 then let p := kgetD s.hl.pairCtx (o / 8) (4, false); fields [(16, p.1), (0, p.2.toNat)]
  else if o = 0x100 then s.hl.pairStat
  else 0

/-- The REGION_ block (21 R411). -/
def State.readRegion (s : State) (o : Nat) : Nat :=
  if o < 0x40 then
    let r := kgetD s.hl.regions (o / 8) {}
    fields [(63, r.en.toNat), (16, r.fences), (14, r.state), (9, r.y1), (6, r.x1), (3, r.y0), (0, r.x0)]
  else 0

/-- Number of a link state (19 R374). -/
def Link.num (l : Link) : Nat :=
  match l.state with
  | .down => 0 | .training => 1 | .discovery => 2 | .up => 3 | .degraded => 4 | .fenced => 5 | .sleep => 6 | .waking => 7

/-- The LINK_ block (19 R370, R374). -/
def State.readLink (s : State) (o : Nat) : Nat :=
  if o < 0x800 then
    let l := s.link (o / 0x100)
    if o % 0x100 = 0 then fields [(32, l.idle), (1, l.rateCfg), (0, l.en.toNat)]
    else if o % 0x100 = 8 then
      fields [(32, min (2 ^ 32 - 1) l.replays), (22, l.peer), (8, l.width), (4, l.rate), (0, l.num)]
    else 0
  else if o = 0x800 then s.lk.hwbase.toNat + s.lk.hctx
  else 0

/-- The MON_ block (21 R417, R418). -/
def State.readMon (s : State) (o : Nat) : Nat :=
  let head := s.hl.mlog.head?
  if o < 0x1000 then
    let m := kgetD s.hl.mons (o / 0x100) {}
    let q := o % 0x100
    if q = 0x00 then m.sel.toNat
    else if q = 0x08 then m.bin.toNat
    else if q = 0x10 then m.min'.toNat
    else if q = 0x18 then m.max'.toNat
    else if q = 0x20 then m.cnt.toNat
    else if 0x80 ≤ q then (m.hist[(q - 0x80) / 4]?.getD 0) + (m.hist[(q - 0x80) / 4 + 1]?.getD 0) * 2 ^ 32
    else 0
  else if o < 0x1040 then (((kgetD s.hl.watches ((o - 0x1000) / 16) [])[o % 16 / 8]?).getD 0).toNat
  else if o = 0x2000 then fields [(8, s.hl.mlogVec), (7, s.hl.mlogOvf.toNat), (0, s.hl.mlog.length)]
  else if o = 0x2008 then (match head with | some r => r.1.toNat | none => 0)
  else if o = 0x2010 then (match head with | some r => r.2.toNat | none => 0)
  else 0

/-- The FERP_ block (21 R419; 22 R423, R424). -/
def State.readFerp (s : State) (o : Nat) : Nat :=
  if o = 0x000 then
    fields [(16, s.bt.svn), (10, s.bt.arb % 64), (9, s.bt.copyB.toNat), (8, s.bt.bfail.toNat), (4, s.bt.bcode), (0, s.bt.bstep)]
  else if o = 0x010 then s.bt.attBuf.toNat
  else if o = 0x020 then fields [(1, s.bt.attErr.toNat), (0, s.bt.attBusy.toNat)]
  else if o = 0x100 then s.hl.lifeIdx
  else if o = 0x108 then kgetD s.hl.life s.hl.lifeIdx 0
  else 0

/-- The 8 bytes at an 8-aligned offset of the register region (01 R17, R428). -/
def State.regCell (s : State) (o : Nat) : Nat :=
  let q := o % 0x10000
  match o / 0x10000 with
  | 0 => s.readDie q
  | 1 => s.readHarv q
  | 2 => s.readLcore q
  | 3 => s.readSlice q
  | 4 => s.readQos q
  | 5 => s.readBte q
  | 6 => s.readEcho q
  | 7 => s.readZone q
  | 8 => s.readValve q
  | 9 => s.readPair q
  | 10 => s.readRegion q
  | 11 => s.readLink q
  | 12 => s.readMon q
  | 13 => s.readFerp q
  | _ => 0

/-- An access of the register region is served: 4 or 8 bytes, naturally aligned (01 R428 item 1). -/
def regServed (o size : Nat) : Bool := (size == 4 || size == 8) && o % size == 0 && decide (o < 0xE0000)

/-- A read of the register region (01 R428). -/
def State.regRead (s : State) (o size : Nat) : Nat := (s.regCell (o / 8 * 8) >>> (8 * (o % 8))) % 2 ^ (8 * size)

/-! ### Writing -/

/-- A write to an 8-byte cell: the bits written and their values. -/
structure CellWrite where
  v : Nat
  mask : Nat
  deriving DecidableEq, Repr

/-- The whole cell is written (01 R428 item 5). -/
def CellWrite.full (w : CellWrite) : Bool := w.mask == 2 ^ 64 - 1

/-- The 32-bit register in half `h` is written. -/
def CellWrite.half (w : CellWrite) (h : Nat) : Bool := w.mask.testBit (32 * h)

/-- A field after the write: bits [hi:lo], old value. -/
def CellWrite.field (w : CellWrite) (hi lo old : Nat) : Nat :=
  let m := bitsOf hi lo w.mask
  (old &&& (old ^^^ m)) ||| (bitsOf hi lo w.v &&& m)

/-- A W1C bit after the write. -/
def CellWrite.w1c (w : CellWrite) (b : Nat) (old : Bool) : Bool := old && !(w.mask.testBit b && w.v.testBit b)

/-- A W1C bit after the write, which an event of the cycle may have set (00 R5). -/
def CellWrite.w1cKeep (w : CellWrite) (s : State) (k : Sticky) (b : Nat) (old : Bool) : Bool :=
  if s.o.sets.contains k then old else w.w1c b old

/-- A step that the write starts, taken next. -/
def State.start (s : State) (i : Instr) : State := { s with o := { s.o with agenda := i :: s.o.agenda } }

/-- Some context is in a state. -/
def State.anyCtx (s : State) (p : CState → Bool) : Bool := (List.range 16).any (fun c => p (s.ctx c).state)

/-- The DIE_ block. -/
def State.writeDie (s : State) (o : Nat) (w : CellWrite) : State :=
  if o = 0x100 then { s with pg := { s.pg with fqVec := w.field 15 8 s.pg.fqVec, fqOvf := w.w1c 7 s.pg.fqOvf } }
  else if o = 0x118 then
    if w.half 0 then s.start (if w.v.testBit 0 then .fqReplay else .fqPop) else s
  else if o = 0x200 then { s with pl := { s.pl with keyWin := w.field 31 0 s.pl.keyWin } }
  else if o = 0x208 then
    { s with pl := { s.pl with poolFull := w.w1cKeep s .poolFull 63 s.pl.poolFull, poolBad := w.w1cKeep s .poolBad 62 s.pl.poolBad, poolVec := w.field 55 48 s.pl.poolVec } }
  else if o = 0x210 then
    if s.anyCtx (fun c => c == .resident) || !w.half 0 then s else { s with pl := { s.pl with rsv := w.v.testBit 0 } }
  else if o = 0x300 then
    if w.full then s.putPost (BitVec.ofNat 64 w.v) (w.v % 16) else s
  else if o = 0x308 then
    { s with gr := { s.gr with lvec := w.field 23 16 s.gr.lvec, llost := w.w1cKeep s .launchLost 9 s.gr.llost, lbad := w.w1cKeep s .launchBad 8 s.gr.lbad,
                                      lfull := w.w1cKeep s .launchFull 7 s.gr.lfull } }
  else if o = 0x400 then
    if !w.full then s
    else
      let c := bitsOf 7 4 w.v
      match bitsOf 3 0 w.v with
      | 1 => s.start (.ctxBuild c (bitsOf 51 8 w.v * 256))
      | 2 => s.start (.ctxAdmit c)
      | 3 => s.start (.ctxRun c)
      | 4 => s.start (.ctxDrain c)
      | 5 => s.start (.ctxRestore c)
      | 6 => s.start (.ctxRetire c)
      | _ => s.ctxReject c
  else if 0x480 ≤ o ∧ o < 0x500 then
    s.modCtx ((o - 0x480) / 8) (fun k => { k with vec := w.field 31 24 k.vec, bad := w.w1cKeep s (.ctxBad ((o - 0x480) / 8)) 6 k.bad })
  else s

/-- The LCORE_ block. -/
def State.writeLcore (s : State) (o : Nat) (w : CellWrite) : State :=
  if o = 0x000 then { s with kn := { s.kn with ksrc := BitVec.ofNat 64 (w.field 56 1 (s.kn.ksrc.toNat / 2) * 2) } }
  else if o = 0x008 then { s with kn := { s.kn with kdva := BitVec.ofNat 64 (w.field 56 0 s.kn.kdva.toNat) } }
  else if o = 0x010 then
    if !w.full || s.kn.kbusy then s
    else
      let cmd := BitVec.ofNat 64 w.v
      let bad := bitsOf 63 62 w.v == 3 || bitsOf 61 52 w.v != 0 || bitsOf 31 20 w.v == 0 || w.v.testBit 32
      if bad then s.start (.badcmd cmd)
      else match bitsOf 63 62 w.v with
        | 0 => s.start (.kernelLoad cmd)
        | 1 => s.start (.kernelUnload cmd)
        | _ => s.start (.kernelOverlay cmd)
  else if o = 0x018 then { s with kn := { s.kn with kvec := w.field 15 8 s.kn.kvec } }
  else
    let two := fun (base : Nat) (f : Nat → Nat → Instr) =>
      let s := if w.half 1 then s.start (f ((o - base) / 4 + 1) (w.v / 2 ^ 32)) else s
      if w.half 0 then s.start (f ((o - base) / 4) (w.v % 2 ^ 32)) else s
    if 0xC00 ≤ o ∧ o < 0xE40 then two 0xC00 .lmapWrite
    else if 0x1400 ≤ o ∧ o < 0x1640 then two 0x1400 .xtopWrite
    else s

/-- The SLICE_ block. -/
def State.writeSlice (s : State) (o : Nat) (w : CellWrite) : State :=
  let still := !s.anyCtx (fun c => c == .resident || c == .draining)
  if o = 0x40 then (if w.half 0 then s.start (.sliceSplitWrite (w.v % 2 ^ 32)) else s)
  else if o = 0x48 then (if still then { s with vs := { s.vs with vxBase := w.field 41 16 s.vs.vxBase } } else s)
  else if o = 0x50 then (if still then { s with vs := { s.vs with vxSize := w.field 19 0 s.vs.vxSize } } else s)
  else if o = 0x58 then { s with vs := { s.vs with vFull := w.w1cKeep s .versionFull 31 s.vs.vFull, vVec := w.field 23 16 s.vs.vVec } }
  else s

/-- The QOS_ block. -/
def State.writeQos (s : State) (o : Nat) (w : CellWrite) : State :=
  if o < 0x80 then
    { s with cx := { s.cx with shares := kset s.cx.shares (o / 8) (w.field 7 0 (kgetD s.cx.shares (o / 8) 0x10)) } }
  else if o = 0x100 then
    let v := w.field 16 0 s.cx.portCap
    if 32 ≤ v ∧ v ≤ 65536 ∧ v % 32 = 0 then { s with cx := { s.cx with portCap := v } } else s
  else s

/-- The BTE_ block (13 R271: CTX, TCOUNT and TBASE change only in DISABLED, and in IDLE with an empty queue). -/
def State.writeBte (s : State) (o : Nat) (w : CellWrite) : State :=
  if o = 0x00 then { s with en := { s.en with elogVec := w.field 15 8 s.en.elogVec, elogOvf := w.w1c 7 s.en.elogOvf } }
  else if o = 0x20 then (if w.half 0 then s.start .elogPop else s)
  else if 0x1000 ≤ o ∧ o < 0x2000 then
    let n := (o - 0x1000) / 64
    let c := s.channel n
    let still := !c.en || (c.state == .idle && c.queue == [])
    match (o % 64) / 8 with
    | 0 =>
      let en := w.field 63 63 c.en.toNat == 1
      let s := if still then s.setChannel n { c with ctx := w.field 19 16 c.ctx, tcount := w.field 15 0 c.tcount } else s
      if en && !c.en then s.start (.bteChannelEnable n) else if !en && c.en then s.start (.bteChannelDisable n) else s
    | 1 => if still then s.setChannel n { c with tbase := BitVec.ofNat 64 (w.field 56 6 (c.tbase.toNat / 64) * 64) } else s
    | 5 =>
      if !w.full then s
      else
        let s := if w.v.testBit 0 then s.start (.resume n) else s
        if w.v.testBit 1 then s.start (.flush n) else s
    | _ => s
  else if 0x2000 ≤ o ∧ o < 0x2800 then
    let f := (o - 0x2000) / 8
    let q := kgetD s.en.fifos f {}
    s.start (.fifoConfigWrite f (BitVec.ofNat 64 (w.field 63 63 q.en.toNat * 2 ^ 63 + w.field 3 0 q.ctx)))
  else s

/-- The ECHO_ block. -/
def State.writeEcho (s : State) (o : Nat) (w : CellWrite) : State :=
  if o = 0x00 then { s with br := { s.br with echoThresh := w.field 31 0 s.br.echoThresh } }
  else if o = 0x08 then
    { s with br := { s.br with echoMaxT := max 1 (w.field 19 16 s.br.echoMaxT), echoCtx := w.field 15 0 s.br.echoCtx } }
  else s

/-- The ZONE_ block. -/
def State.writeZone (s : State) (o : Nat) (w : CellWrite) : State :=
  if o < 0xA0 then
    let z := s.zone (o / 8)
    s.start (.zoneAllocWrite (o / 8) (BitVec.ofNat 64 (fields [(48, w.field 63 48 z.cmask), (16, w.field 31 16 z.maxF), (0, w.field 15 0 z.minF)])))
  else if 0x100 ≤ o ∧ o < 0x180 then
    let c := (o - 0x100) / 8
    { s with zn := { s.zn with zshares := kset s.zn.zshares c (w.field 7 0 (kgetD s.zn.zshares c 0x10)) } }
  else if o = 0x400 then (if w.half 0 then s.start (.zoneLimitWrite (w.v % 2 ^ 32)) else s)
  else if o = 0x408 then
    { s with zn := { s.zn with zvec := w.field 23 16 s.zn.zvec, zvoid := w.w1c 2 s.zn.zvoid, zflow := w.w1c 1 s.zn.zflow, ztherm := w.w1c 0 s.zn.ztherm } }
  else s

/-- The VALVE_ block. -/
def State.writeValve (s : State) (o : Nat) (w : CellWrite) : State :=
  if o < 0xA0 then (if w.half 0 then s.start (.valveOpenWrite (o / 8) (w.v % 2 ^ 32)) else s)
  else if 0x100 ≤ o ∧ o < 0x200 then
    let k := (o - 0x100) / 16
    let q := kgetD s.zn.scheds k {}
    let actn := o % 16 == 8
    s.start (.valveSchedWrite k actn (BitVec.ofNat 64 (w.field 63 0 (if actn then q.actn else q.time).toNat)))
  else s

/-- The PAIR_ block (21 R409: a write of 0 or above 64 leaves INT). -/
def State.writePair (s : State) (o : Nat) (w : CellWrite) : State :=
  if o < 0x80 then
    let p := kgetD s.hl.pairCtx (o / 8) (4, false)
    let n := w.field 22 16 p.1
    { s with hl := { s.hl with pairCtx := kset s.hl.pairCtx (o / 8) (if 1 ≤ n ∧ n ≤ 64 then n else p.1, w.field 0 0 p.2.toNat == 1) } }
  else s

/-- The REGION_ block. -/
def State.writeRegion (s : State) (o : Nat) (w : CellWrite) : State :=
  if o < 0x40 then s.start (.regionDefWrite (o / 8) (BitVec.ofNat 64 (w.field 63 0 (s.readRegion o)))) else s

/-- The LINK_ block (19 R374: RATE 3 is read as 2). -/
def State.writeLink (s : State) (o : Nat) (w : CellWrite) : State :=
  if o < 0x800 then
    let m := o / 0x100
    let l := s.link m
    if o % 0x100 = 0 && !w.half 0 then s.modLink m (fun l => { l with idle := w.field 39 32 l.idle })
    else if o % 0x100 = 0 then
      s.start (.linkEnable m (BitVec.ofNat 64 (fields [(32, w.field 39 32 l.idle), (1, min 2 (w.field 2 1 l.rateCfg)), (0, w.field 0 0 l.en.toNat)])))
    else if o % 0x100 = 0x10 && w.full then
      let s := if w.v.testBit 1 then s.start (.linkFence m) else s
      if w.v.testBit 0 then s.start (.retrain m) else s
    else s
  else if o = 0x800 then
    { s with lk := { s.lk with hwbase := BitVec.ofNat 64 (w.field 51 26 (s.lk.hwbase.toNat / 2 ^ 26) * 2 ^ 26), hctx := w.field 3 0 s.lk.hctx } }
  else s

/-- A monitor with its samples cleared (21 R417). -/
def Monitor.clear (m : Monitor) : Monitor := { m with min' := 0xFFFFFFFFFFFFFFFF, max' := 0, cnt := 0, hist := [] }

/-- The MON_ block. -/
def State.writeMon (s : State) (o : Nat) (w : CellWrite) : State :=
  if o < 0x1000 then
    let n := o / 0x100
    let m := kgetD s.hl.mons n {}
    let put := fun (q : Monitor) => { s with hl := { s.hl with mons := kset s.hl.mons n q } }
    if o % 0x100 = 0x00 then
      if w.half 0 then
        put { m.clear with sel := BitVec.ofNat 64 (w.field 31 31 0 * 2 ^ 31 + w.field 23 0 0) }
      else s
    else if o % 0x100 = 0x08 then
      put { m.clear with bin := BitVec.ofNat 64 (w.field 63 32 (m.bin.toNat / 2 ^ 32) * 2 ^ 32 + w.field 4 0 (m.bin.toNat % 32)) }
    else if o % 0x100 = 0x28 then (if w.half 0 && w.v.testBit 0 then s.start (.monClear n) else s)
    else s
  else if o < 0x1040 then
    let n := (o - 0x1000) / 16
    let q := kgetD s.hl.watches n []
    let old := fun (i : Nat) => (q[i]?.getD 0).toNat
    let v0 := if o % 16 = 0 then w.field 56 0 (old 0) else old 0
    let v1 := if o % 16 = 8 then fields [(61, w.field 63 61 (old 1 / 2 ^ 61)), (0, w.field 19 0 (old 1 % 2 ^ 20))] else old 1
    { s with hl := { s.hl with watches := kset s.hl.watches n [BitVec.ofNat 64 v0, BitVec.ofNat 64 v1] } }
  else if o = 0x2000 then { s with hl := { s.hl with mlogVec := w.field 15 8 s.hl.mlogVec, mlogOvf := w.w1cKeep s .monOvf 7 s.hl.mlogOvf } }
  else if o = 0x2018 then (if w.half 0 then s.start .monElogPop else s)
  else s

/-- The FERP_ block. -/
def State.writeFerp (s : State) (o : Nat) (w : CellWrite) : State :=
  if o = 0x008 then (if w.full then s.start (.arbRaise (BitVec.ofNat 64 w.v)) else s)
  else if o = 0x010 then { s with bt := { s.bt with attBuf := BitVec.ofNat 64 (w.field 51 8 (s.bt.attBuf.toNat / 256) * 256) } }
  else if o = 0x018 then (if w.full then s.start (.attestationStart (BitVec.ofNat 64 w.v)) else s)
  else if o = 0x020 then { s with bt := { s.bt with attErr := w.w1c 1 s.bt.attErr } }
  else if o = 0x100 then { s with hl := { s.hl with lifeIdx := w.field 15 0 s.hl.lifeIdx } }
  else s

/-- A write of the register region: plain fields change, and a write that is a command starts its step (00 R4; 01 R19,
R428).  Registers that HARV_ and the rest of the maps mark RO keep their values. -/
def State.regWrite (s : State) (o size v : Nat) : State :=
  if !regServed o size then s
  else
    let sh := 8 * (o % 8)
    let w : CellWrite := { v := (v % 2 ^ (8 * size)) <<< sh, mask := (2 ^ (8 * size) - 1) <<< sh }
    let c := o / 8 * 8
    let q := c % 0x10000
    match c / 0x10000 with
    | 0 => s.writeDie q w
    | 2 => s.writeLcore q w
    | 3 => s.writeSlice q w
    | 4 => s.writeQos q w
    | 5 => s.writeBte q w
    | 6 => s.writeEcho q w
    | 7 => s.writeZone q w
    | 8 => s.writeValve q w
    | 9 => s.writePair q w
    | 10 => s.writeRegion q w
    | 11 => s.writeLink q w
    | 12 => s.writeMon q w
    | 13 => s.writeFerp q w
    | _ => s

/-- A write to a register of the register region (01 R428). -/
def execRegisterWrite (offset size : Nat) (v : Word) (s : State) : Host.Outcome State Fault Refusal :=
  .next (s.regWrite offset size v.toNat)

end Sys2Proof.Machine
end

