-- ==== Sys2Proof/Machine/Memory.lean ====
section
/-!
DEFINITION. Meanings of the memory instructions of pages 0 and 1, and of TLBI (06 R135 to R139; 09 R181 to R194;
08 R172).
-/

namespace Sys2Proof.Machine

/-- Width in bytes of WD, and whether it sign-extends (09 R188). -/
def wdBytes (wd : Nat) : Nat :=
  match wd % 4 with
  | 0 => 8
  | 1 => 4
  | 2 => 2
  | _ => 1

/-- Sign extension of WD. -/
def wdSigned (wd : Nat) : Option Nat := if 4 < wd then some (8 * wdBytes wd) else none

/-- The one lane of a scalar access. -/
def scalarLane (ea w : Nat) : Lane := { lane := 0, va := ea, len := w, bit := 0, bits := 8 * w }

/-- Effective address of the mem form (09 R189). -/
def effAddr (x : Nat) (imm : Int) : Nat := wrapNat (x + imm) 64

/-- Access kind of LD and ST (09 R186, R188). -/
def ldKind (m : Nat) : Kind :=
  { ordered := bitsOf 5 4 m != 0, acquire := bitsOf 5 4 m == 2, byp := m.testBit 3, fab := m.testBit 6 }

/-- LD (09 R189). -/
def ldBody : Body := fun sid c x s =>
  let m := c.mod.toNat
  let w := wdBytes (bitsOf 2 0 m)
  let d := x.reg .scalar c.a.toNat
  let a := x.reg .scalar c.b.toNat
  match s.memHold sid x true with
  | .error st => (s, .error st)
  | .ok _ =>
    match x.checkUses { all := [d, a], src := [a], dst := [d] } with
    | .error st => (s, .error st)
    | .ok _ =>
      let v := x.readUe a 64
      match s.access sid x .load w [scalarLane (effAddr v.1 c.imm) w] with
      | (s, .error st) => (s, .error st)
      | (s, .ok ls) =>
        let r := s.sendLoad sid x (ldKind m) false d (ones 64) (wdSigned (bitsOf 2 0 m)) ls
        (r.1, .ok (.set (r.2.leaveMem c v.2)))

/-- ST (09 R189). -/
def stBody : Body := fun sid c x s =>
  let m := c.mod.toNat
  let w := wdBytes (bitsOf 2 0 m)
  let y := x.reg .scalar c.a.toNat
  let a := x.reg .scalar c.b.toNat
  match s.memHold sid x false with
  | .error st => (s, .error st)
  | .ok _ =>
    match x.checkUses { all := [y, a], src := [y, a] } with
    | .error st => (s, .error st)
    | .ok _ =>
      let v := x.readUe a 64
      let z := x.readUe y 64
      match s.access sid x .store w [scalarLane (effAddr v.1 c.imm) w] with
      | (s, .error st) => (s, .error st)
      | (s, .ok ls) =>
        let k : Kind := { ordered := bitsOf 5 4 m != 0, release := bitsOf 5 4 m == 2, fab := m.testBit 6 }
        (s.sendStore sid x k false z.1 ls, .ok (.set (x.leaveMem c (v.2 ++ z.2))))

/-! ### Local memory (09 R181 to R183, R190; 06 R137) -/

/-- The limits of local accesses of a core: k.xbound to LTOP − 1; the lowest active byte outside them. -/
def CoreSt.localOut (k : CoreSt) (ls : List Lane) : Option Nat :=
  let out := ls.filterMap (fun l =>
    if l.va < k.xbound then some l.va else if k.ltop < l.va + l.len then some (max l.va k.ltop) else none)
  out.foldl (fun m v => match m with | none => some v | some u => some (min u v)) none

/-- Checks of a local access: ALIGN for the lowest misaligned lane, then PROT. -/
def State.localCheck (s : State) (core align : Nat) (ls : List Lane) : Except Stop Unit :=
  match ls.find? (fun l => l.va % align != 0) with
  | some l => .error (.trap .align (BitVec.ofNat 64 l.va))
  | none =>
    match (s.core core).localOut ls with
    | some v => .error (.trap .prot (BitVec.ofNat 64 v))
    | none => .ok ()

/-- A local lane read: its bits, or +0 and an event for an uncorrectable byte (02 R45; 09 R190 item 5). -/
def CoreSt.localRead (k : CoreSt) (l : Lane) : Nat × List UeEvent :=
  if marked k.ueLoc l.va l.len then (0, [{ where' := l.va / 32, src := 2, row := 0, col := l.lane, kind := 1 }])
  else ((k.loc.readN l.va l.len >>> (if l.high then 4 else 0)) % 2 ^ l.bits, [])

/-- Lanes of local memory read into a register's bits. -/
def CoreSt.localLoad (k : CoreSt) (ls : List Lane) : Nat × List UeEvent :=
  ls.foldl (fun z l => let r := k.localRead l; (z.1 ||| (r.1 <<< l.bit), z.2 ++ r.2)) (0, [])

/-- Bytes of a lane written over the old ones: a nibble keeps the other nibble. -/
def laneBytes (old : Nat) (l : Lane) (data : Nat) : List Byte :=
  let v := (data >>> l.bit) % 2 ^ l.bits
  bytesOf l.len (if l.bits = 4 then (if l.high then setBits 7 4 old v else setBits 3 0 old v) else v)

/-- Lanes written to local memory, in order. -/
def State.localStore (s : State) (core : Nat) (ls : List Lane) (data : Nat) : State :=
  ls.foldl (fun (s : State) l => s.locWrite core l.va (laneBytes ((s.core core).loc.readN l.va l.len) l data)) s

/-- LDL (09 R190). -/
def ldlBody : Body := fun sid c x s =>
  let wd := bitsOf 2 0 c.mod.toNat
  let w := wdBytes wd
  let d := x.reg .scalar c.a.toNat
  let a := x.reg .scalar c.b.toNat
  match s.memHold sid x false with
  | .error st => (s, .error st)
  | .ok _ =>
    match x.checkUses { all := [d, a], src := [a], dst := [d] } with
    | .error st => (s, .error st)
    | .ok _ =>
      let v := x.readUe a 64
      let ls := [scalarLane (effAddr v.1 c.imm) w]
      match s.localCheck (sid / 16) w ls with
      | .error st => (s, .error st)
      | .ok _ =>
        let r := (s.core (sid / 16)).localLoad ls
        let z := match wdSigned wd with | some n => wrapNat (sextNat r.1 n) 64 | none => r.1
        (s, .ok (.go { writes := scalarResult x c.a.toNat z, ue := v.2 ++ r.2 }))

/-- STL (09 R190). -/
def stlBody : Body := fun sid c x s =>
  let w := wdBytes (bitsOf 2 0 c.mod.toNat)
  let y := x.reg .scalar c.a.toNat
  let a := x.reg .scalar c.b.toNat
  match s.memHold sid x false with
  | .error st => (s, .error st)
  | .ok _ =>
    match x.checkUses { all := [y, a], src := [y, a] } with
    | .error st => (s, .error st)
    | .ok _ =>
      let v := x.readUe a 64
      let z := x.readUe y 64
      let ls := [scalarLane (effAddr v.1 c.imm) w]
      match s.localCheck (sid / 16) w ls with
      | .error st => (s, .error st)
      | .ok _ => (s.localStore (sid / 16) ls z.1, .ok (.go { ue := v.2 ++ z.2 }))

/-! ### Atomics (09 R191, R192) -/

/-- The operation of AMO's code. -/
def amoOpOf (code : Nat) : AmoOp :=
  match code with
  | 0 => .add | 1 => .and | 2 => .or | 3 => .xor | 4 => .min | 5 => .max | 6 => .minn | 7 => .maxn | _ => .swap

/-- An atomic request of a slot; `expected` is read for CAS. -/
def atomicBody (cas : Bool) : Body := fun sid c x s =>
  let m := c.mod.toNat
  let w := if m.testBit 4 then 4 else 8
  let d := x.reg .scalar c.a.toNat
  let a := x.reg .scalar c.b.toNat
  let b := x.reg .scalar c.c.toNat
  match s.memHold sid x true with
  | .error st => (s, .error st)
  | .ok _ =>
    match x.checkUses { all := [d, a, b], src := [a, b] ++ (if cas then [d] else []), dst := [d] } with
    | .error st => (s, .error st)
    | .ok _ =>
      let v := x.readUe a 64
      let y := x.readUe b 64
      let e := if cas then x.readUe d 64 else (0, [])
      match s.access sid x .atomic w [scalarLane (effAddr v.1 c.imm) w] with
      | (s, .error st) => (s, .error st)
      | (s, .ok ls) =>
        let q := ls.headD { l := { lane := 0, va := 0, len := 0, bit := 0, bits := 0 }, pa := 0, leaf := 0 }
        if leafE q.leaf then (s, .error (.trap .prot (BitVec.ofNat 64 q.l.va)))
        else
          let ord := bitsOf 6 5 m
          let k : Kind := { ordered := true, acquire := ord % 2 == 1, release := decide (2 ≤ ord), fab := true }
          let s := s.dropStored (sid / 16) (s.lineBytes x.ctx ls)
          let s := if k.acquire then s.dropWritable (sid / 16) else s
          let (d0, s) := s.newId
          let dep : Dep := { sid := sid, dst := d.loc, len := 8, mask := ones 64, outstanding := 1, isLoad := true, idem := false, acq := k.acquire }
          let s := { s with deps := kset s.deps d0 dep }
          let op : AmoOp := if cas then .cas (e.1 % 2 ^ (8 * w)) else amoOpOf (bitsOf 3 0 m)
          let msg := { groupMsg sid x k [q] (some d0) (.amo op w (y.1 % 2 ^ (8 * w))) true with isLoad := true }
          let s := (s.request sid msg k.release w).2
          let x := { (x.markEmpty d.loc 8) with acqHold := if k.acquire then x.acqHold ++ [d0] else x.acqHold }
          (s, .ok (.set (x.leaveMem c (v.2 ++ y.2 ++ e.2))))

/-- What a fence still waits for: scope .fab for fabric scope, any other for die scope (09 R193). -/
def State.fenceWaits (s : State) (sid kind scope : Nat) : Bool :=
  s.deps.any (fun (p : Nat × Dep) => p.2.sid == sid && p.2.isLoad) ||
    (kind != 1 && s.msgs.any (fun (p : Nat × Msg) => p.2.sid == some sid && p.2.isStore && !(scope != 4 && p.2.dieDone)))

/-- FENCE (09 R193). -/
def fenceBody : Body := fun sid c x s =>
  let m := c.mod.toNat
  let kind := bitsOf 4 3 m
  match s.memHold sid x false with
  | .error st => (s, .error st)
  | .ok _ =>
    if bitsOf 2 0 m = 0 then (s, .ok (.go {}))
    else
      let s := if kind != 2 then s.dropWritable (sid / 16) else s
      if s.fenceWaits sid kind (bitsOf 2 0 m) then (s, .error (.hold .fence)) else (s, .ok (.go {}))

/-! ### Vector memory (06 R135 to R139) -/

/-- Active lanes of an access of `n` lanes of width `w`, with the address of each. -/
def vecLanes (n w mask : Nat) (ea : Nat → Nat) : List Lane :=
  ((List.range n).filter (fun i => mask.testBit i)).map (fun i =>
    { lane := i, va := ea i, len := ceilDiv w 8, bit := i * w, bits := w, high := w == 4 && i % 2 == 1 })

/-- Events of the further operand of a vector access: of an index vector, those that active lanes read. -/
def laneUe (extra : Option Reg) (m : Nat) (es : List UeEvent) : List UeEvent :=
  match extra with
  | some b => if b.size = 8 then es else activeEvents m es
  | none => []

/-- A vector load: lane addresses from the base and what the further operand gives. -/
def vecLoad (n w : Nat) (extra : Option Reg) (ea : Nat → Nat → Nat → Nat) : Body := fun sid c x s =>
  let d := x.reg .vector c.a.toNat
  let a := x.reg .scalar c.b.toNat
  let bs := match extra with | some b => [b] | none => []
  match s.memHold sid x true with
  | .error st => (s, .error st)
  | .ok _ =>
    match x.checkUses { all := [d, a] ++ bs, src := [a] ++ bs ++ x.maskReg c, dst := [d] } with
    | .error st => (s, .error st)
    | .ok _ =>
      let v := x.readUe a 64
      let b := match extra with | some b => x.readUe b (if b.size = 8 then 64 else 32) | none => (0, [])
      let m := x.lmaskBits c
      match s.access sid x .load (ceilDiv w 8) (vecLanes n w m (ea v.1 b.1)) with
      | (s, .error st) => (s, .error st)
      | (s, .ok ls) =>
        let r := s.sendLoad sid x {} true d (laneBits n w m.testBit) none ls
        (r.1, .ok (.set (r.2.leaveMem c (v.2 ++ laneUe extra m b.2 ++ x.lmaskUe c n))))

/-- A vector store. -/
def vecStore (n w : Nat) (extra : Option Reg) (ea : Nat → Nat → Nat → Nat) : Body := fun sid c x s =>
  let y := x.reg .vector c.a.toNat
  let a := x.reg .scalar c.b.toNat
  let bs := match extra with | some b => [b] | none => []
  match s.memHold sid x false with
  | .error st => (s, .error st)
  | .ok _ =>
    match x.checkUses { all := [y, a] ++ bs, src := [y, a] ++ bs ++ x.maskReg c } with
    | .error st => (s, .error st)
    | .ok _ =>
      let v := x.readUe a 64
      let b := match extra with | some b => x.readUe b (if b.size = 8 then 64 else 32) | none => (0, [])
      let m := x.lmaskBits c
      let z := x.readUe y w
      match s.access sid x .store (ceilDiv w 8) (vecLanes n w m (ea v.1 b.1)) with
      | (s, .error st) => (s, .error st)
      | (s, .ok ls) => (s.sendStore sid x {} true z.1 ls, .ok (.set (x.leaveMem c (v.2 ++ laneUe extra m b.2 ++ activeEvents m z.2 ++ x.lmaskUe c n))))

/-- Element width of a page-1 memory instruction. -/
def memWidth (c : Chain) : Nat := (chainTy c).width

/-- Addresses of VLD and VST (06 R136). -/
def contigEa (w : Nat) (imm : Int) (a _b i : Nat) : Nat := wrapNat (a + imm + (i * w / 8 : Nat)) 64

/-- Addresses of VGATH and VSCAT (06 R138). -/
def indexEa (w : Nat) (imm : Int) (a b i : Nat) : Nat :=
  wrapNat (a + imm + sextNat (elem b i 32) 32 * (ceilDiv w 8 : Nat)) 64

/-- Addresses of VLDS and VSTS (06 R139). -/
def strideEa (imm : Int) (a b i : Nat) : Nat := wrapNat (a + imm + i * s64 b) 64

def vldBody : Body := fun sid c x s => vecLoad (4096 / memWidth c) (memWidth c) none (contigEa (memWidth c) c.imm) sid c x s
def vstBody : Body := fun sid c x s => vecStore (4096 / memWidth c) (memWidth c) none (contigEa (memWidth c) c.imm) sid c x s
def vgathBody : Body := fun sid c x s =>
  vecLoad (4096 / memWidth c) (memWidth c) (some (x.reg .vector c.c.toNat)) (indexEa (memWidth c) c.imm) sid c x s
def vscatBody : Body := fun sid c x s =>
  vecStore (4096 / memWidth c) (memWidth c) (some (x.reg .vector c.c.toNat)) (indexEa (memWidth c) c.imm) sid c x s
def vldsBody : Body := fun sid c x s =>
  vecLoad (4096 / memWidth c) (memWidth c) (some (x.reg .scalar c.c.toNat)) (strideEa c.imm) sid c x s
def vstsBody : Body := fun sid c x s =>
  vecStore (4096 / memWidth c) (memWidth c) (some (x.reg .scalar c.c.toNat)) (strideEa c.imm) sid c x s

/-- VLDL (06 R137). -/
def vldlBody : Body := fun sid c x s =>
  let w := memWidth c
  let d := x.reg .vector c.a.toNat
  let a := x.reg .scalar c.b.toNat
  match s.memHold sid x false with
  | .error st => (s, .error st)
  | .ok _ =>
    match x.checkUses { all := [d, a], src := a :: x.maskReg c, dst := [d] } with
    | .error st => (s, .error st)
    | .ok _ =>
      let v := x.readUe a 64
      let m := x.lmaskBits c
      let ls := vecLanes (4096 / w) w m (contigEa w c.imm v.1 0)
      match s.localCheck (sid / 16) (ceilDiv w 8) ls with
      | .error st => (s, .error st)
      | .ok _ =>
        let r := (s.core (sid / 16)).localLoad ls
        (s, .ok (.go { writes := vectorResult x c.a.toNat r.1 (laneBits (4096 / w) w m.testBit), ue := v.2 ++ r.2 ++ x.lmaskUe c (4096 / w) }))

/-- VSTL (06 R137). -/
def vstlBody : Body := fun sid c x s =>
  let w := memWidth c
  let y := x.reg .vector c.a.toNat
  let a := x.reg .scalar c.b.toNat
  match s.memHold sid x false with
  | .error st => (s, .error st)
  | .ok _ =>
    match x.checkUses { all := [y, a], src := [y, a] ++ x.maskReg c } with
    | .error st => (s, .error st)
    | .ok _ =>
      let v := x.readUe a 64
      let z := x.readUe y w
      let m := x.lmaskBits c
      let ls := vecLanes (4096 / w) w m (contigEa w c.imm v.1 0)
      match s.localCheck (sid / 16) (ceilDiv w 8) ls with
      | .error st => (s, .error st)
      | .ok _ => (s.localStore (sid / 16) ls z.1, .ok (.go { ue := v.2 ++ activeEvents m z.2 ++ x.lmaskUe c (4096 / w) }))

/-! ### TLBI (08 R172) -/

/-- TLBI: a request on whose answer the slot is STALLED; it waits for the slot's earlier stores. -/
def tlbiBody : Body := fun sid c x s =>
  let m := c.mod.toNat
  let scope := bitsOf 1 0 m
  let a := x.reg .scalar c.a.toNat
  let b := x.reg .scalar c.b.toNat
  let rs := (if scope = 0 then [a] else []) ++ (if scope = 2 then [] else [b])
  match s.memHold sid x false with
  | .error st => (s, .error st)
  | .ok _ =>
    match x.checkUses { all := rs, src := rs } with
    | .error st => (s, .error st)
    | .ok _ =>
      let v := if scope = 0 then x.readUe a 64 else (0, [])
      let q := if scope = 2 then (0, []) else x.readUe b 64
      let stores := (s.msgs.filter (fun (p : Nat × Msg) => p.2.sid == some sid && p.2.isStore)).map (fun p => p.1)
      let (r, s) := s.newId
      let msg : Msg := { sid := some sid, ctx := q.1 % 16, user := false,
                         op := .tlbi (scope + (if m.testBit 2 then 4 else 0)) (BitVec.ofNat 64 v.1) (q.1 % 16),
                         pa := 0, after := stores, dep := none, stalls := true }
      (s.post r msg, .ok (.answer r { ue := v.2 ++ q.2 }))

/-! ### The meanings -/

/-- LD (09 R189). -/
def execLd (c : Chain) (s : State) : Host.Outcome State Fault Refusal := .next (s.issue opLd c ldBody)

/-- ST (09 R189). -/
def execSt (c : Chain) (s : State) : Host.Outcome State Fault Refusal := .next (s.issue opSt c stBody)

/-- LDL (09 R190). -/
def execLdl (c : Chain) (s : State) : Host.Outcome State Fault Refusal := .next (s.issue opLdl c ldlBody)

/-- STL (09 R190). -/
def execStl (c : Chain) (s : State) : Host.Outcome State Fault Refusal := .next (s.issue opStl c stlBody)

/-- AMO (09 R192). -/
def execAmo (c : Chain) (s : State) : Host.Outcome State Fault Refusal := .next (s.issue opAmo c (atomicBody false))

/-- CAS (09 R192). -/
def execCas (c : Chain) (s : State) : Host.Outcome State Fault Refusal := .next (s.issue opCas c (atomicBody true))

/-- FENCE (09 R193). -/
def execFence (c : Chain) (s : State) : Host.Outcome State Fault Refusal := .next (s.issue opFence c fenceBody)

/-- VLD (06 R136). -/
def execVld (c : Chain) (s : State) : Host.Outcome State Fault Refusal := .next (s.issue opVld c vldBody)

/-- VST (06 R136). -/
def execVst (c : Chain) (s : State) : Host.Outcome State Fault Refusal := .next (s.issue opVst c vstBody)

/-- VLDL (06 R137). -/
def execVldl (c : Chain) (s : State) : Host.Outcome State Fault Refusal := .next (s.issue opVldl c vldlBody)

/-- VSTL (06 R137). -/
def execVstl (c : Chain) (s : State) : Host.Outcome State Fault Refusal := .next (s.issue opVstl c vstlBody)

/-- VGATH (06 R138). -/
def execVgath (c : Chain) (s : State) : Host.Outcome State Fault Refusal := .next (s.issue opVgath c vgathBody)

/-- VSCAT (06 R138). -/
def execVscat (c : Chain) (s : State) : Host.Outcome State Fault Refusal := .next (s.issue opVscat c vscatBody)

/-- VLDS (06 R139). -/
def execVlds (c : Chain) (s : State) : Host.Outcome State Fault Refusal := .next (s.issue opVlds c vldsBody)

/-- VSTS (06 R139). -/
def execVsts (c : Chain) (s : State) : Host.Outcome State Fault Refusal := .next (s.issue opVsts c vstsBody)

/-- TLBI (08 R172). -/
def execTlbi (c : Chain) (s : State) : Host.Outcome State Fault Refusal := .next (s.issue opTlbi c tlbiBody)

end Sys2Proof.Machine
end

