-- ==== Sys2Proof/Machine/Fabric.lean ====
section
/-!
DEFINITION. Meanings of the fabric instructions RLD, RST, RAMO, MCST and GETT (19 R390 to R395).
-/

namespace Sys2Proof.Machine

/-- Bank offset of a remote access (19 R391). -/
def remoteOff (x : Nat) (imm : Int) : Nat := wrapNat ((bitsOf 16 0 x : Nat) + imm) 64

/-- Home address by which the agent of a remote address is found. -/
def remoteAgentPa (x : Nat) : Nat := bitsOf 34 25 x * 2 ^ 42

/-- RLD and RAMO (19 R392): a request to a core's active bank. -/
def remoteRead (amo : Bool) : Body := fun sid c x s =>
  let m := c.mod.toNat
  let w := if amo then (if m.testBit 4 then 4 else 8) else wdBytes (bitsOf 2 0 m)
  let d := x.reg .scalar c.a.toNat
  let a := x.reg .scalar c.b.toNat
  let bs := if amo then [x.reg .scalar c.c.toNat] else []
  match s.memHold sid x true with
  | .error st => (s, .error st)
  | .ok _ =>
    match x.checkUses { all := [d, a] ++ bs, src := [a] ++ bs, dst := [d] } with
    | .error st => (s, .error st)
    | .ok _ =>
      let v := x.readUe a 64
      let y := if amo then x.readUe (x.reg .scalar c.c.toNat) 64 else (0, [])
      let off := remoteOff v.1 c.imm
      if off % w ≠ 0 then (s, .error (.trap .align (BitVec.ofNat 64 off)))
      else
        let ord := if amo then bitsOf 6 5 m else 0
        let acq := ord % 2 == 1
        let s := if acq then s.dropWritable (sid / 16) else s
        let (d0, s) := s.newId
        let msg : Msg :=
          { sid := some sid, ctx := x.ctx, user := !x.sup
            op := .remote (if amo then 2 else 0) (BitVec.ofNat 64 v.1) off w (amoOpOf (bitsOf 3 0 m)) (y.1 % 2 ^ (8 * w))
            pa := remoteAgentPa v.1, after := [], dep := some d0, ordered := amo, isStore := amo, isLoad := true, fab := amo
            epc := x.pc, nackVal := BitVec.ofNat 64 v.1 }
        let dep : Dep := { sid := sid, dst := d.loc, len := 8, mask := ones 64, outstanding := 1, isLoad := true, idem := !amo, acq := acq,
                           sx := (if amo then none else wdSigned (bitsOf 2 0 m)), sent := if amo then [] else [msg] }
        let s := { s with deps := kset s.deps d0 dep }
        let s := (s.request sid msg (decide (2 ≤ ord)) w).2
        let x := { (x.markEmpty d.loc 8) with acqHold := if acq then x.acqHold ++ [d0] else x.acqHold }
        (s, .ok (.set (x.leaveMem c (v.2 ++ y.2))))

/-- RST (19 R392): a request to a core's shadow bank. -/
def rstBody : Body := fun sid c x s =>
  let m := c.mod.toNat
  let w := wdBytes (bitsOf 2 0 m)
  let y := x.reg .scalar c.a.toNat
  let a := x.reg .scalar c.b.toNat
  match s.memHold sid x false with
  | .error st => (s, .error st)
  | .ok _ =>
    match x.checkUses { all := [y, a], src := [y, a] } with
    | .error st => (s, .error st)
    | .ok _ =>
      let v := x.readUe a 64
      let z := x.readUe y 64
      let off := remoteOff v.1 c.imm
      if off % w ≠ 0 then (s, .error (.trap .align (BitVec.ofNat 64 off)))
      else
        let rel := m.testBit 4
        let msg : Msg :=
          { sid := some sid, ctx := x.ctx, user := !x.sup
            op := .remote 1 (BitVec.ofNat 64 v.1) off w .swap (z.1 % 2 ^ (8 * w))
            pa := remoteAgentPa v.1, after := [], dep := none, ordered := rel, isStore := true, fab := rel, epc := x.pc
            nackVal := BitVec.ofNat 64 v.1 }
        ((s.request sid msg rel w).2, .ok (.set (x.leaveMem c (v.2 ++ z.2))))

/-- Agents of an MCST list (19 R393). -/
def mcstAgents (l : Nat) : List Nat := (List.range (min (bitsOf 62 60 l) 6)).map (fun j => bitsOf (10 * j + 9) (10 * j) l)

/-- MCST (19 R393). -/
def mcstBody : Body := fun sid c x s =>
  let v := x.reg .vector c.a.toNat
  let a := x.reg .scalar c.b.toNat
  let b := x.reg .scalar c.c.toNat
  match s.memHold sid x false with
  | .error st => (s, .error st)
  | .ok _ =>
    match x.checkUses { all := [v, a, b], src := [v, a, b] } with
    | .error st => (s, .error st)
    | .ok _ =>
      let z := x.readUe v 8
      let p := x.readUe a 64
      let l := x.readUe b 64
      match s.access sid x .store 512 [{ lane := 0, va := p.1, len := 512, bit := 0, bits := 4096 }] with
      | (s, .error st) => (s, .error st)
      | (s, .ok ls) =>
        let q := ls.headD { l := { lane := 0, va := 0, len := 0, bit := 0, bits := 0 }, pa := 0, leaf := 0 }
        if leafE q.leaf then (s, .error (.trap .prot (BitVec.ofNat 64 q.l.va)))
        else
          let agents := mcstAgents l.1
          let s := s.dropStored (sid / 16) ((q.pa, 512) :: agents.map (fun a => (a * 2 ^ 42 + q.pa % 2 ^ 42, 512)))
          let s := if agents = [] then s else
            let msg : Msg :=
              { sid := some sid, ctx := x.ctx, user := !x.sup, op := .mcst (q.pa % 2 ^ 42) z.1 agents
                pa := agents.headD 0 * 2 ^ 42, after := [], dep := none, isStore := true, fab := true, epc := x.pc, va := q.l.va, page := leafPage q.leaf q.l.va }
            (s.request sid msg false 512).2
          (s, .ok (.set (x.leaveMem c (z.2 ++ p.2 ++ l.2))))

/-- GETT (19 R394). -/
def gettBody : Body := fun sid c x s =>
  let ord := c.mod.toNat.testBit 0
  let d := x.reg .scalar c.a.toNat
  let a := x.reg .scalar c.b.toNat
  match s.memHold sid x true with
  | .error st => (s, .error st)
  | .ok _ =>
    match x.checkUses { all := [d, a], src := [a], dst := [d] } with
    | .error st => (s, .error st)
    | .ok _ =>
      if ord && s.fenceWaits sid 2 4 then (s, .error (.hold .fence))
      else
        let v := x.readUe a 64
        let rem := v.1.testBit 16
        let (d0, s) := s.newId
        let msg : Msg := { sid := some sid, ctx := x.ctx, user := !x.sup, op := .gett (bitsOf 9 0 v.1), pa := bitsOf 9 0 v.1 * 2 ^ 42,
                           after := [], dep := some d0, epc := x.pc, nackVal := BitVec.ofNat 64 v.1 }
        let dep : Dep := { sid := sid, dst := d.loc, len := 8, mask := ones 64, value := if rem then 0 else s.now,
                           outstanding := if rem then 1 else 0, idem := false, acq := ord }
        let s := { s with deps := kset s.deps d0 dep }
        let s := if rem then (s.request sid msg false 8).2 else s
        let x := { (x.markEmpty d.loc 8) with acqHold := if ord then x.acqHold ++ [d0] else x.acqHold }
        (s, .ok (.set (x.leaveMem c v.2)))

/-- RLD (19 R392). -/
def execRld (c : Chain) (s : State) : Host.Outcome State Fault Refusal := .next (s.issue opRld c (remoteRead false))

/-- RST (19 R392). -/
def execRst (c : Chain) (s : State) : Host.Outcome State Fault Refusal := .next (s.issue opRst c rstBody)

/-- RAMO (19 R392). -/
def execRamo (c : Chain) (s : State) : Host.Outcome State Fault Refusal := .next (s.issue opRamo c (remoteRead true))

/-- MCST (19 R393). -/
def execMcst (c : Chain) (s : State) : Host.Outcome State Fault Refusal := .next (s.issue opMcst c mcstBody)

/-- GETT (19 R394). -/
def execGett (c : Chain) (s : State) : Host.Outcome State Fault Refusal := .next (s.issue opGett c gettBody)

end Sys2Proof.Machine
end

