-- ==== Sys2Proof/Machine/Versions.lean ====
section
/-!
DEFINITION. Meanings of the version instructions and of the version steps at the home (10 R195 to R220).
-/

namespace Sys2Proof.Machine

/-! ### What a version request does at its home (10 R204) -/

/-- VOPEN: 0 when it is acknowledged, 1 when the version exists; none while there is no room (10 R202, R204, R207). -/
def State.vopenAt (s : State) (ctx : Nat) (h desc cnt : Word) (acc : Bool) (op : Nat) (replay : Bool) : Nat × State :=
  let v := s.versionOrNew ctx h
  if v.state ≠ .absent then (if replay then 0 else 1, s.unholdFull ctx h)
  else
    let g := bitsOf 5 0 desc.toNat + 1
    let slice := slotSlice v.slot
    match s.makeRoom slice g (s.entryNeed ctx h) with
    | none => (2, s.holdFull ctx h)
    | some s =>
      let s := s.unholdFull ctx h
      let n := bitsOf 11 0 cnt.toNat
      (0, s.setVersion { v with
        state := .vopen, sealed := false, acc := acc, manual := n == 0, rpl := replay, poisonDead := false, count := n
        ty := bitsOf 9 6 desc.toNat, rows := bitsOf 21 10 desc.toNat + 1, cols := bitsOf 33 22 desc.toNat + 1, g := g
        op := op, n := bitsOf 25 16 cnt.toNat + 1, arrived := [], windows := [], aflags := 0, spill := s.bornSpilled slice g, data := 0 })

/-- The version takes no more stores: COMPLETE, DEAD, or sealed POISONED. -/
def Version.shut (v : Version) : Bool := v.state == .complete || v.state == .dead || (v.state == .poisoned && v.sealed)

/-- STV: the reason of a late fault, or 0 (10 R204, R208). -/
def State.vstoreAt (s : State) (ctx : Nat) (h : Word) (off size data : Nat) (replay : Bool) : Nat × State :=
  match s.version ctx h with
  | none => (0x02, s)
  | some v =>
    if v.state = .absent then (0x02, s)
    else if v.shut then (if replay then 0 else 0x03, s)
    else if v.state = .poisoned then (0, s.setVersion { v with rpl := v.rpl || replay })
    else if v.acc then (0x04, s)
    else if 4096 * v.g < off + size then (0x08, s)
    else (0, s.setVersion { v with data := setBits (8 * (off + size) - 1) (8 * off) v.data data, rpl := v.rpl || replay })

/-- VSEAL (10 R204, R209); an engine's seal may be POISONED and sets AFLAGS (13 R267, R276). -/
def State.vsealAt (s : State) (ctx : Nat) (h : Word) (replay poison : Bool) (fl : Nat) : Nat × State :=
  match s.version ctx h with
  | none => (0x02, s)
  | some v =>
    if v.state = .absent then (0x02, s)
    else if v.shut then (if replay then 0 else 0x03, s)
    else if v.acc && v.state != .poisoned then (0x04, s)
    else (0, s.sealVersion { v with rpl := v.rpl || replay, state := if poison then .poisoned else v.state, aflags := v.aflags ||| BitVec.ofNat 6 fl })

/-- One element of a combination (10 R218). -/
def combineElem (op old new : Nat) : Nat × BitVec 6 :=
  match op with
  | 0 => addLane .f32 .rne old new 0
  | 1 => (wrapNat (old + new : Nat) 32, 0)
  | 2 => minmaxLane false .f32 .rne old new 0
  | 3 => minmaxLane true .f32 .rne old new 0
  | 4 => minmaxLane false .i32 .rne old new 0
  | 5 => minmaxLane true .i32 .rne old new 0
  | _ => (old ^^^ new, 0)

/-- A window combined with a later contribution: 128 elements of 32 bits. -/
def combineWindow (op old new : Nat) : Nat × BitVec 6 := laneMap 128 32 (ones 128) (fun i => combineElem op (elem old i 32) (elem new i 32))

/-- A contribution with a new index counted and combined (10 R218). -/
def Version.contribute (v : Version) (j w data : Nat) (replay : Bool) : Version :=
  let v1 := { v with arrived := v.arrived ++ [j], rpl := v.rpl || replay }
  if v.state = .poisoned then v1
  else
    let lo := 4096 * w
    let old := bitsOf (lo + 4095) lo v.data
    let z := if v.windows.contains w then combineWindow v.op old data else (data, 0)
    { v1 with data := setBits (lo + 4095) lo v.data z.1, aflags := v.aflags ||| z.2
              windows := if v.windows.contains w then v.windows else v.windows ++ [w] }

/-- VACC (10 R204, R218). -/
def State.vaccAt (s : State) (ctx : Nat) (h : Word) (j w data : Nat) (replay : Bool) : Nat × State :=
  match s.version ctx h with
  | none => (0x02, s)
  | some v =>
    if v.state = .absent then (0x02, s)
    else if v.shut then (if replay then 0 else 0x03, s)
    -- a POISONED version only counts new contributions
    else if v.state = .poisoned ∧ (v.acc = false ∨ v.arrived.contains j ∨ v.n ≤ j) then (0, s)
    else if !v.acc then (0x04, s)
    else if v.arrived.contains j && replay then (0, s)
    else if v.arrived.contains j || decide (v.n ≤ j) then (0x05, s)
    else if v.state ≠ .poisoned ∧ 4096 * v.g < 512 * (w + 1) then (0x08, s)
    else
      let v' := v.contribute j w data replay
      if v'.arrived.length = v'.n then (0, (s.setVersion v').sealVersion v') else (0, s.setVersion v')

/-- VREF (10 R204, R216). -/
def State.vrefAt (s : State) (ctx : Nat) (h : Word) (n : Nat) (replay : Bool) : Nat × State :=
  match s.version ctx h with
  | none => (if replay || n == 0 then 0 else 0x02, s)
  | some v =>
    if replay || n == 0 then (0, s)
    else if v.state = .absent then (0x02, s)
    else if v.state = .dead then (0x07, s)
    else if v.manual then (0, s)
    else if 4095 < v.count + n then (0x06, s)
    else (0, s.setVersion { v with count := v.count + n })

/-- VREL (10 R204, R216). -/
def State.vrelAt (s : State) (ctx : Nat) (h : Word) (n : Nat) (replay : Bool) : Nat × State :=
  match s.version ctx h with
  | none => (if replay then 0 else 0x02, s)
  | some v =>
    if replay then (0, s)
    else if v.state = .absent then (0x02, s)
    else if v.state = .dead then (0, s)
    else if v.manual then (0, if v.shut then s.reclaimStart v else s)
    else (0, s.settle { v with count := v.count - n })

/-- Status word of a version (10 R215). -/
def Version.status (v : Version) : Nat :=
  if v.state = .absent then 0
  else
    v.aflags.toNat % 32 * 2 ^ 44 + v.op * 2 ^ 41 + v.arrived.length * 2 ^ 30 + v.count * 2 ^ 18 + (v.g - 1) * 2 ^ 12 +
      v.ty * 2 ^ 8 + (decide (v.spill ≠ 0)).toNat * 2 ^ 7 + v.rpl.toNat * 2 ^ 6 + v.manual.toNat * 2 ^ 5 + v.acc.toNat * 2 ^ 4 +
      v.sealed.toNat * 2 ^ 3 + v.state.num

/-- VPROBE (10 R213 item 4, R215). -/
def State.probeAt (s : State) (ctx : Nat) (h : Word) : Nat :=
  match s.version ctx h with
  | some v => v.status
  | none => 0

/-- VNAME (10 R198). -/
def State.vnameAt (s : State) (ctx n r : Nat) : Nat × State :=
  let key := ctx * 16 + r
  let k := kgetD s.vs.names key 0
  if 0x0FFFFFFF < k + n then (0xFFFFFFFF, s)
  else (r * 2 ^ 28 + k, { s with vs := { s.vs with names := kset s.vs.names key (k + n) } })

/-- The decrement of a consuming load forwarded by another die's proxy (10 R212 item 3, R216 item 1). -/
def State.vconsumeAt (s : State) (ctx : Nat) (h : Word) : State :=
  match s.version ctx h with
  | some v =>
    if v.state = .absent ∨ v.state = .dead then s
    else s.settle (v.consume { off := 0, size := 512, cons := true, pt := false, replay := false })
  | none => s

/-! ### The instructions -/

/-- Home of a version as an address by which order among a slot's requests is kept. -/
def State.namePa (s : State) (ctx : Nat) (h : Word) : Nat :=
  match s.nameHome ctx h with
  | .own => s.ownAgent * 2 ^ 42
  | .agent a => a * 2 ^ 42
  | .gone => s.ownAgent * 2 ^ 42

/-- A version request of a slot. -/
def State.versionMsg (s : State) (sid : Nat) (x : Slot) (h : Word) (op : MsgOp) : Msg :=
  { sid := some sid, ctx := x.ctx, user := !x.sup, op := op, pa := s.namePa x.ctx h, after := [], dep := none, epc := x.pc, nackVal := h,
    replay := x.replay }

/-- VOPEN (10 R207). -/
def vopenBody : Body := fun sid c x s =>
  let m := c.mod.toNat
  let a := x.reg .scalar c.a.toNat
  let b := x.reg .scalar c.b.toNat
  let n := x.reg .scalar c.c.toNat
  match s.memHold sid x false with
  | .error st => (s, .error st)
  | .ok _ =>
    match x.checkUses { all := [a, b, n], src := [a, b, n] } with
    | .error st => (s, .error st)
    | .ok _ =>
      let h := x.readUe a 64
      let d := x.readUe b 64
      let k := x.readUe n 64
      let hw := BitVec.ofNat 64 h.1
      if hName hw = 0xFFFFFFFF then (s, .error (.trap .versionExists (versionTval hw 0x01)))
      else
        let msg := { s.versionMsg sid x hw (.vopen hw (BitVec.ofNat 64 d.1) (BitVec.ofNat 64 k.1) (m.testBit 0) (bitsOf 3 1 m) x.replay) with stalls := true }
        let r := s.request sid msg false 32
        (r.2, .ok (.answer r.1 { ue := h.2 ++ d.2 ++ k.2 }))

/-- STV (10 R208). -/
def stvBody : Body := fun sid c x s =>
  let t := c.mod.toNat.testBit 0
  let v := x.reg (if t then .tile else .vector) c.a.toNat
  let a := x.reg .scalar c.b.toNat
  let b := x.reg .scalar c.c.toNat
  match s.memHold sid x false with
  | .error st => (s, .error st)
  | .ok _ =>
    match x.checkUses { all := [v, a, b], src := [v, a, b] } with
    | .error st => (s, .error st)
    | .ok _ =>
      let z := x.readUe v 8
      let h := x.readUe a 64
      let o := x.readUe b 64
      if o.1 % v.size ≠ 0 then (s, .error (.trap .align (BitVec.ofNat 64 o.1)))
      else
        let hw := BitVec.ofNat 64 h.1
        let msg := { s.versionMsg sid x hw (.vstore hw o.1 v.size z.1 x.replay) with isStore := true }
        ((s.request sid msg false v.size).2, .ok (.set (x.leaveMem c (z.2 ++ h.2 ++ o.2))))

/-- VSEAL (10 R209): a release at fabric scope. -/
def vsealBody : Body := fun sid c x s =>
  let a := x.reg .scalar c.a.toNat
  match s.memHold sid x false with
  | .error st => (s, .error st)
  | .ok _ =>
    match x.checkUses { all := [a], src := [a] } with
    | .error st => (s, .error st)
    | .ok _ =>
      let h := x.readUe a 64
      let hw := BitVec.ofNat 64 h.1
      let msg := { s.versionMsg sid x hw (.vseal hw x.replay false 0) with isStore := true, fab := true }
      ((s.request sid msg true 32).2, .ok (.set (x.leaveMem c h.2)))

/-- VACC (10 R218): a release at fabric scope. -/
def vaccBody : Body := fun sid c x s =>
  let v := x.reg .vector c.a.toNat
  let a := x.reg .scalar c.b.toNat
  let b := x.reg .scalar c.c.toNat
  match s.memHold sid x false with
  | .error st => (s, .error st)
  | .ok _ =>
    match x.checkUses { all := [v, a, b], src := [v, a, b] } with
    | .error st => (s, .error st)
    | .ok _ =>
      let z := x.readUe v 32
      let h := x.readUe a 64
      let q := x.readUe b 64
      let hw := BitVec.ofNat 64 h.1
      let msg := { s.versionMsg sid x hw (.vacc hw (bitsOf 9 0 q.1) (bitsOf 24 16 q.1) z.1 x.replay) with isStore := true, fab := true }
      ((s.request sid msg true 512).2, .ok (.set (x.leaveMem c (z.2 ++ h.2 ++ q.2))))

/-- The deposit and request of a version load or probe. -/
def State.sendVLoad (s : State) (sid : Nat) (x : Slot) (c : Chain) (d : Reg) (h : Word) (op again : MsgOp) (ue : List UeEvent) :
    State × Except Stop After :=
  let (d0, s) := s.newId
  let msg := { s.versionMsg sid x h op with dep := some d0, isLoad := true }
  let dep : Dep := { sid := sid, dst := d.loc, len := d.size, mask := ones (8 * d.size), isLoad := true, sent := [{ msg with op := again }] }
  let s := { s with deps := kset s.deps d0 dep }
  ((s.request sid msg false d.size).2, .ok (.set ((x.markEmpty d.loc d.size).leaveMem c ue)))

/-- LDV (10 R213 item 1). -/
def ldvBody : Body := fun sid c x s =>
  let m := c.mod.toNat
  let d := x.reg (if m.testBit 0 then .tile else .vector) c.a.toNat
  let a := x.reg .scalar c.b.toNat
  let b := x.reg .scalar c.c.toNat
  match s.memHold sid x true with
  | .error st => (s, .error st)
  | .ok _ =>
    match x.checkUses { all := [d, a, b], src := [a, b], dst := [d] } with
    | .error st => (s, .error st)
    | .ok _ =>
      let h := x.readUe a 64
      let o := x.readUe b 64
      if o.1 % d.size ≠ 0 then (s, .error (.trap .align (BitVec.ofNat 64 o.1)))
      else
        let hw := BitVec.ofNat 64 h.1
        let l : VLoad := { off := o.1, size := d.size, cons := m.testBit 1, pt := m.testBit 2, replay := x.replay }
        s.sendVLoad sid x c d hw (.vload hw l 0) (.vload hw { l with cons := false } 0) (h.2 ++ o.2)

/-- LDVL (10 R213 item 2). -/
def ldvlBody : Body := fun sid c x s =>
  let m := c.mod.toNat
  let d := x.reg .scalar c.a.toNat
  let a := x.reg .scalar c.b.toNat
  let b := x.reg .scalar c.c.toNat
  match s.memHold sid x true with
  | .error st => (s, .error st)
  | .ok _ =>
    match x.checkUses { all := [d, a, b], src := [a, b], dst := [d] } with
    | .error st => (s, .error st)
    | .ok _ =>
      let h := x.readUe a 64
      let o := x.readUe b 64
      if o.1 % 512 ≠ 0 then (s, .error (.trap .align (BitVec.ofNat 64 o.1)))
      else
        let hw := BitVec.ofNat 64 h.1
        let l : VLoad := { off := o.1, size := 0, cons := m.testBit 1, pt := m.testBit 2, replay := x.replay }
        s.sendVLoad sid x c d hw (.vload hw l o.1) (.vload hw { l with cons := false } o.1) (h.2 ++ o.2)

/-- VPROBE (10 R213 item 4). -/
def vprobeBody : Body := fun sid c x s =>
  let d := x.reg .scalar c.a.toNat
  let a := x.reg .scalar c.b.toNat
  match s.memHold sid x true with
  | .error st => (s, .error st)
  | .ok _ =>
    match x.checkUses { all := [d, a], src := [a], dst := [d] } with
    | .error st => (s, .error st)
    | .ok _ =>
      let h := x.readUe a 64
      let hw := BitVec.ofNat 64 h.1
      s.sendVLoad sid x c d hw (.vprobe hw) (.vprobe hw) h.2

/-- VREF and VREL (10 R216): strong-relaxed accesses to the entry. -/
def countBody (op : Word → Nat → Bool → MsgOp) : Body := fun sid c x s =>
  let a := x.reg .scalar c.a.toNat
  let b := x.reg .scalar c.b.toNat
  match s.memHold sid x false with
  | .error st => (s, .error st)
  | .ok _ =>
    match x.checkUses { all := [a, b], src := [a, b] } with
    | .error st => (s, .error st)
    | .ok _ =>
      let h := x.readUe a 64
      let n := x.readUe b 64
      let hw := BitVec.ofNat 64 h.1
      let msg := { s.versionMsg sid x hw (op hw (n.1 % 4096) x.replay) with isStore := true, ordered := true }
      ((s.request sid msg false 32).2, .ok (.set (x.leaveMem c (h.2 ++ n.2))))

/-- VNAME (10 R198). -/
def vnameBody : Body := fun sid c x s =>
  let d := x.reg .scalar c.a.toNat
  let a := x.reg .scalar c.b.toNat
  match s.memHold sid x true with
  | .error st => (s, .error st)
  | .ok _ =>
    match x.checkUses { all := [d, a], src := [a], dst := [d] } with
    | .error st => (s, .error st)
    | .ok _ =>
      let v := x.readUe a 64
      let r := bitsOf 19 16 v.1
      let (d0, s) := s.newId
      let msg := { s.versionMsg sid x (BitVec.ofNat 64 (r * 2 ^ 28)) (.vname (bitsOf 11 0 v.1 + 1) r) with dep := some d0, nackVal := BitVec.ofNat 64 v.1 }
      let dep : Dep := { sid := sid, dst := d.loc, len := 8, mask := ones 64, idem := false }
      let s := { s with deps := kset s.deps d0 dep }
      ((s.request sid msg false 32).2, .ok (.set ((x.markEmpty d.loc 8).leaveMem c v.2)))

/-! ### The steps at the home -/

/-- A message that may be performed now: past its core's port, not sent to another agent, not answered, and every request it
follows is done. -/
def State.ready (s : State) (rid : Nat) : Option Msg :=
  match kget s.msgs rid with
  | some m => if m.sent || m.answer.isSome || m.port.isSome || !s.mayGo m then none else some m
  | none => none

/-- Where a version request is performed. -/
def State.versionHome (s : State) (m : Msg) (h : Word) : Home := s.nameHome m.ctx h

/-- The answer to a version request at its home: done, or a late fault with the reason (10 R204, R214). -/
def State.versionDone (s : State) (rid : Nat) (m : Msg) (h : Word) (reason : Nat) : State :=
  if reason = 0 then s.ackMsg rid m 0 else s.failMsg rid m (versionFault h reason)

/-- Operation byte of a version request to another agent; flags of VOPEN and REPLAY above it (19 R381 item 2). -/
def versionPacket (typ op : Nat) (h : Word) (a2 a3 : Nat) (replay : Bool) : Packet :=
  { typ := typ, vc := 0, space := 1, addr := h, op := op + (if replay then 2 ^ 16 else 0), arg1 := BitVec.ofNat 64 a2,
    arg2 := BitVec.ofNat 64 (a3 % 2 ^ 56) }

/-- A version request performed at home by `f`, sent to another agent as `p`, or refused. -/
def State.versionStep (s : State) (rid : Nat) (m : Msg) (h : Word) (f : State → Nat × State) (p : Packet) : State :=
  match s.versionHome m h with
  | .own => let r := f s; r.2.versionDone rid m h r.1
  | .agent a => s.sendMsg rid m a p
  | .gone => s.nackMsg rid m

/-- VOPEN reaches the home (10 R204). -/
def execVersionOpenAtHome (rid : Nat) (s : State) : Host.Outcome State Fault Refusal :=
  match s.ready rid with
  | some m =>
    match m.op with
    | .vopen h desc cnt acc op replay =>
      match s.versionHome m h with
      | .own =>
        let r := s.vopenAt m.ctx h desc cnt acc op replay
        .next (if r.1 = 2 then r.2 else r.2.ackMsg rid m r.1)
      | .agent a => .next (s.sendMsg rid m a (versionPacket 0x03 (1 + (if acc then 2 ^ 8 else 0) + op * 2 ^ 9) h desc.toNat cnt.toNat replay))
      | .gone => .next (s.nackMsg rid m)
    | _ => .next s
  | none => .next s

/-- STV reaches the home (10 R204, R208). -/
def execVersionStoreAtHome (rid : Nat) (s : State) : Host.Outcome State Fault Refusal :=
  match s.ready rid with
  | some m =>
    match m.op with
    | .vstore h off size data replay =>
      .next (s.versionStep rid m h (fun s => s.vstoreAt m.ctx h off size data replay)
        { versionPacket 0x02 2 h off 0 replay with data := bytesOf size data })
    | _ => .next s
  | none => .next s

/-- VSEAL reaches the home (10 R204, R209). -/
def execVersionSealAtHome (rid : Nat) (s : State) : Host.Outcome State Fault Refusal :=
  match s.ready rid with
  | some m =>
    match m.op with
    | .vseal h replay poison fl =>
      .next (s.versionStep rid m h (fun s => s.vsealAt m.ctx h replay poison fl)
        { versionPacket 0x03 3 h (fl + if poison then 2 ^ 8 else 0) 0 replay with rel := true })
    | _ => .next s
  | none => .next s

/-- VACC reaches the home (10 R204, R218). -/
def execVersionContribution (rid : Nat) (s : State) : Host.Outcome State Fault Refusal :=
  match s.ready rid with
  | some m =>
    match m.op with
    | .vacc h j w data replay =>
      .next (s.versionStep rid m h (fun s => s.vaccAt m.ctx h j w data replay)
        { versionPacket 0x02 4 h (j + w * 2 ^ 16) 0 replay with data := bytesOf 512 data, rel := true })
    | _ => .next s
  | none => .next s

/-- A version load reaches the home, or its die's proxy (10 R204, R211, R212).  A pool entry's and a launch's waiter
travel in the same way (12 R243, 16 R319). -/
def execVersionLoadAtHome (rid : Nat) (s : State) : Host.Outcome State Fault Refusal :=
  match s.ready rid with
  | some m =>
    match m.op with
    | .vload h l _ =>
      match s.versionHome m h with
      | .gone => .next (s.nackMsg rid m)
      | _ =>
        match m.dep with
        | some d =>
          if s.loadRoom m.ctx h then .next (((s.unholdFull m.ctx h).unpost rid).registerWaiter m.ctx h { who := .dep d, load := l })
          else .next (s.holdFull m.ctx h)
        | none => .next (s.unpost rid)
    | .vwait h w =>
      if s.loadRoom m.ctx h then .next (((s.unholdFull m.ctx h).unpost rid).registerWaiter m.ctx h (plainWait w))
      else .next (s.holdFull m.ctx h)
    | _ => .next s
  | none => .next s

/-- VPROBE reaches the home (10 R213 item 4, R215). -/
def execVersionProbeAtHome (rid : Nat) (s : State) : Host.Outcome State Fault Refusal :=
  match s.ready rid with
  | some m =>
    match m.op with
    | .vprobe h =>
      match s.versionHome m h with
      | .own => .next (s.answerMsg rid m (s.probeAt m.ctx h) [])
      | .agent a => .next (s.sendMsg rid m a { versionPacket 0x01 9 h 0 0 false with lsz := 3 })
      | .gone => .next (s.nackMsg rid m)
    | _ => .next s
  | none => .next s

/-- VREF or VREL reaches the home (10 R204, R216). -/
def execVersionCountChange (rid : Nat) (s : State) : Host.Outcome State Fault Refusal :=
  match s.ready rid with
  | some m =>
    match m.op with
    | .vref h n replay => .next (s.versionStep rid m h (fun s => s.vrefAt m.ctx h n replay) (versionPacket 0x03 5 h n 0 replay))
    | .vrel h n replay => .next (s.versionStep rid m h (fun s => s.vrelAt m.ctx h n replay) (versionPacket 0x03 6 h n 0 replay))
    | .vconsume h => .next (s.versionStep rid m h (fun s => (0, s.vconsumeAt m.ctx h)) (versionPacket 0x03 11 h 0 0 false))
    | _ => .next s
  | none => .next s

/-- Reclaim ends (10 R217 steps 3 and 4). -/
def execVersionReclaimEnd (ctx : Nat) (h : Word) (s : State) : Host.Outcome State Fault Refusal :=
  match s.version ctx h with
  | some v => if v.state = .dead ∧ s.reclaimDone ctx h then .next (s.freeVersion v) else .next s
  | none => .next s

/-- VNAME reaches the home die of its range (10 R198). -/
def execNameAllocation (rid : Nat) (s : State) : Host.Outcome State Fault Refusal :=
  match s.ready rid with
  | some m =>
    match m.op with
    | .vname n r =>
      match s.rangeHome m.ctx r with
      | .own => let v := s.vnameAt m.ctx n r; .next (v.2.answerMsg rid m v.1 [])
      | .agent a => .next (s.sendMsg rid m a (versionPacket 0x03 10 (BitVec.ofNat 64 (r * 2 ^ 28)) (n - 1 + r * 2 ^ 16) 0 false))
      | .gone => .next (s.nackMsg rid m)
    | _ => .next s
  | none => .next s

/-- A running matrix task that pins the bad line of an input zeroes its elements in what is still to be folded (13 R266, R270 item 7). -/
def State.pinBad (s : State) (ctx : Nat) (h : Word) (offset : Nat) : State :=
  { s with cores := kmap s.cores (fun _ (k : CoreSt) =>
      match k.matrix with
      | some m =>
        if m.state = .run ∧ m.ctx = ctx then
          let ks := (List.range 4).filter (fun i => (kget m.data i).isSome && recIn m.record i == h)
          let line := offset / 32 * 32
          { k with matrix := some { m with bad := m.bad ++ ks.flatMap (fun i => (List.range 32).map (fun j => (i, line + j, m.folded))) } }
        else k
      | none => k) }

/-- An uncorrectable error in a version's stored granules poisons it (10 R204, R219; 21 R418 KIND 2). -/
def execVersionPoison (ctx : Nat) (h : Word) (offset : Nat) (s : State) : Host.Outcome State Fault Refusal :=
  match s.version ctx h with
  | some v =>
    if v.state = .absent ∨ v.bad ∨ 4096 * v.g ≤ offset then .next s
    else
      let s := s.setVersion (if v.state = .dead then { v with poisonDead := true } else { v with state := .poisoned, sealed := v.state == .complete })
      .next ((s.pinBad ctx h offset).monLog h (slotSlice v.slot) (offset / 32) ctx 2)
  | none => .next s

/-! ### The meanings of the instructions -/

/-- VOPEN (10 R207). -/
def execVopen (c : Chain) (s : State) : Host.Outcome State Fault Refusal := .next (s.issue opVopen c vopenBody)

/-- STV (10 R208). -/
def execStv (c : Chain) (s : State) : Host.Outcome State Fault Refusal := .next (s.issue opStv c stvBody)

/-- VSEAL (10 R209). -/
def execVseal (c : Chain) (s : State) : Host.Outcome State Fault Refusal := .next (s.issue opVseal c vsealBody)

/-- VACC (10 R218). -/
def execVacc (c : Chain) (s : State) : Host.Outcome State Fault Refusal := .next (s.issue opVacc c vaccBody)

/-- LDV (10 R213). -/
def execLdv (c : Chain) (s : State) : Host.Outcome State Fault Refusal := .next (s.issue opLdv c ldvBody)

/-- LDVL (10 R213). -/
def execLdvl (c : Chain) (s : State) : Host.Outcome State Fault Refusal := .next (s.issue opLdvl c ldvlBody)

/-- VPROBE (10 R213). -/
def execVprobe (c : Chain) (s : State) : Host.Outcome State Fault Refusal := .next (s.issue opVprobe c vprobeBody)

/-- VREF (10 R216). -/
def execVref (c : Chain) (s : State) : Host.Outcome State Fault Refusal := .next (s.issue opVref c (countBody .vref))

/-- VREL (10 R216). -/
def execVrel (c : Chain) (s : State) : Host.Outcome State Fault Refusal := .next (s.issue opVrel c (countBody .vrel))

/-- VNAME (10 R198). -/
def execVname (c : Chain) (s : State) : Host.Outcome State Fault Refusal := .next (s.issue opVname c vnameBody)

end Sys2Proof.Machine
end

