-- ==== Sys2Proof/Machine/EngineOps.lean ====
section
/-!
DEFINITION. What the engines and the die's other units do with memory and versions: translation and holds, reads and
writes through a context's pages, creation and poisoning of an output version, engine FIFOs and channel queues
(08 R170; 13 R272 to R281).
-/

namespace Sys2Proof.Machine

/-! ### Memory as a unit other than a slot reaches it (08 R170 items 5 and 6) -/

/-- Numbers by which deposits of the die's own units are named (see `savedBase`). -/
def engineSid (n : Nat) : Nat := 2304 + n

/-- What a unit's access gives. -/
inductive Got (α : Type) where
  | ok (v : α)
  | prot
  | nack
  /-- Held by a fault record, or the answer of another agent is awaited. -/
  | wait
  deriving DecidableEq, Repr

/-- A fault holds a unit's request: a record for it enters the fault queue (08 R170 item 5).  Numbers from 0x7000 on name
reads that fail instead, which leave no record (16 R315 item 5). -/
def State.hold (s : State) (src ctx va code kind : Nat) : State :=
  let r : FqRec := { va := BitVec.ofNat 64 va, src := src, ctx := ctx, code := code, kind := kind }
  let s := { s with pg := { s.pg with fqHeld := s.pg.fqHeld ++ [r] } }
  if 0x7000 ≤ src then s else s.faultRecord r false

/-- A request of a unit is held by a record. -/
def State.isHeld (s : State) (src ctx va : Nat) : Bool :=
  s.pg.fqHeld.any (fun r => r.src == src && r.ctx == ctx && r.va.toNat / 4096 == va / 4096)

/-- HBM4 of this die, or an agent that is up, serves an address; the register region and the local memory windows of dies are not
reached by engines (01 R17). -/
def State.served (s : State) (pa n : Nat) : Bool :=
  if s.isOwn (pa / 2 ^ 42) then decide (pa % 2 ^ 42 + n ≤ s.memBytes)
  else s.agentUp (pa / 2 ^ 42) && !(s.isCompute (pa / 2 ^ 42) && (inRegs (pa % 2 ^ 42) || inLocWin (pa % 2 ^ 42)))

/-- A walk for a unit, unless one of its own is in flight. -/
def State.engWalk (s : State) (src ctx va kind : Nat) : State :=
  if s.pg.walks.any (fun (w : Nat × Walk) => w.2.who.any (fun q => match q with | .engine i _ _ => i == src | .slot .. => false) &&
      w.2.ctx == ctx && w.2.vpn == va / 4096 && !w.2.stale) then s
  else (s.startWalk (.engine src va kind) ctx va).2

/-- The page of an address for a unit's request: walked for it before, from the last-level TLB, or by a walk, whose entries the
last-level TLB and the walk cache keep. -/
def State.unitPage (s : State) (src ctx va : Nat) : WalkRes × State :=
  match s.pg.unitTlb.find? (fun p => p.1 == src && p.2.covers ctx va) with
  | some p => (.leaf p.2.leaf, s)
  | none =>
    match s.unitLeaf ctx va with
    | .leaf l =>
      if (s.tlbFind (s.unitTlbs va) ctx va).isSome then (.leaf l, s)
      else (.leaf l, (s.cacheWalk [] ctx va).tlbFill (tlbEntry ctx va l) (s.tlbSlice va))
    | r => (r, s)

/-- A unit's translation of `n` bytes with the leaf's checks; `protHolds` for the requesters that a failure of R166 holds with
CODE 4 (08 R170 item 6). -/
def State.engLocate (s : State) (src ctx va n : Nat) (a : Access) (kind : Nat) (protHolds : Bool) : Got (Nat × Word) × State :=
  if s.isHeld src ctx va then (.wait, s)
  else
    match s.unitPage src ctx va with
    | (.fault c, s) => (.wait, s.hold src ctx va c kind)
    | (.ask _, s) => (.wait, s.engWalk src ctx va kind)
    | (.held, s) => (.wait, s)
    | (.leaf l, s) =>
      let pa := leafPa l va
      match s.checkLeaf l false false a pa with
      | .prot => if protHolds then (.wait, s.hold src ctx va 4 kind) else (.prot, s)
      | .fault c => (.wait, s.hold src ctx va c kind)
      | .ok => if leafE l || !s.served pa n then (.nack, s) else (.ok (pa, l), s)

/-- Bytes of HBM4 as they are read, an uncorrectable one as 0, and the places of these among them (02 R45). -/
def State.memBytesUe (s : State) (off n : Nat) : List Byte × List Nat :=
  if s.ueMem = [] then (bytesOf n (s.mem.readN off n), [])
  else ((List.range n).map (fun i => if s.ueMem.contains (off + i) then 0 else s.mem.read (off + i)),
    (List.range n).filter (fun i => s.ueMem.contains (off + i)))

/-- A request of the die's own units with a deposit that collects its answer. -/
def State.collect (s : State) (m : Msg) : Nat × State :=
  let (d, s) := s.newId
  let (r, s) := s.newId
  (d, ({ s with deps := kset s.deps d { sid := engineSid 144, dst := .lat, len := 0, mask := 0 } }).post r { m with dep := some d })

/-- A unit's write has been answered. -/
def State.settled (s : State) (d : Nat) : Bool := match kget s.deps d with | some x => x.outstanding == 0 | none => true

/-- A unit's write was answered with a negative acknowledgement. -/
def State.refused' (s : State) (d : Nat) : Bool := match kget s.deps d with | some x => x.nack.isSome | none => false

/-- Collected answers are forgotten. -/
def State.forget (s : State) (ds : List Nat) : State :=
  { s with deps := s.deps.filter (fun (p : Nat × Dep) => !ds.contains p.1) }

/-- Bytes of a line read by a unit at a located address, and the places of those that are uncorrectable (08 R165, R168). -/
def State.engFetch (s : State) (src ctx va pa n : Nat) (l : Word) : Got (List Byte × List Nat) × State :=
  let pa := s.readPa ctx pa l
  if s.local' pa then
    if s.lineHeld pa then (.wait, s)
    else if leafState l = 3 then (.ok (List.replicate n 0, List.range n), s)
    else (.ok (s.memBytesUe (pa % 2 ^ 42) n), s)
  else
    match s.pg.engReads.find? (fun r => r.1 == src && r.2.1 == pa) with
    | some (_, _, d) =>
      match kget s.deps d with
      | some dep =>
        if dep.outstanding ≠ 0 then (.wait, s)
        else if dep.nack.isSome then (.nack, s)
        else if leafState l = 3 then (.ok (List.replicate n 0, List.range n), s)
        else (.ok (bytesOf n dep.value, []), s)
      | none => (.nack, s)
    | none =>
      let piece : Piece := { pa := pa, bit := 0, bits := 8 * n, high := false, lane := 0, va := 0, poison := false }
      let r := s.collect { sid := none, ctx := ctx, user := false, op := .load [piece] none, pa := pa, after := [], dep := none, isLoad := true,
                               va := va, page := leafPage l va }
      (.wait, { r.2 with pg := { r.2.pg with engReads := r.2.pg.engReads ++ [(src, pa, r.1)] } })

/-- Pieces of a byte range that lie in one 256-byte line each: address and length. -/
def lineParts (va n : Nat) : List (Nat × Nat) :=
  if n = 0 then []
  else (List.range ((va + n - 1) / 256 + 1 - va / 256)).map (fun i =>
    let lo := max va ((va / 256 + i) * 256)
    (lo, min (va + n) ((va / 256 + i + 1) * 256) - lo))

/-- The list of the units' reads at other agents changed. -/
def State.modReads (s : State) (f : List (Nat × Nat × Nat) → List (Nat × Nat × Nat)) : State :=
  { s with pg := { s.pg with engReads := f s.pg.engReads } }

/-- A unit's request has been made: the pages walked for it are kept no longer. -/
def State.dropPages (s : State) (src : Nat) : State :=
  { s with pg := { s.pg with unitTlb := s.pg.unitTlb.filter (fun p => p.1 != src) } }

/-- Reads of a unit at other agents are forgotten: those at given addresses, or all of them. -/
def State.dropReads (s : State) (src : Nat) (pas : Option (List Nat)) : State :=
  let out := fun (r : Nat × Nat × Nat) => r.1 == src && (match pas with | some l => l.contains r.2.1 | none => true)
  ((s.forget ((s.pg.engReads.filter out).map (fun r => r.2.2))).modReads (fun l => l.filter (fun r => !out r))).dropPages src

/-- Lines of a unit's read: bytes, the places of those that are uncorrectable, and the lines' addresses. -/
def State.engLines (s : State) (src ctx kind : Nat) (a : Access) (protHolds : Bool) (ps : List (Nat × Nat)) :
    Got (List Byte × List Nat × List Nat) × State :=
  ps.foldl (fun (acc : Got (List Byte × List Nat × List Nat) × State) p =>
    match acc with
    | (.ok (bs, u, as), s) =>
      match s.engLocate src ctx p.1 p.2 a kind protHolds with
      | (.ok (pa, l), s) =>
        match s.engFetch src ctx p.1 pa p.2 l with
        | (.ok (cs, v), s) => (.ok (bs ++ cs, u ++ v.map (fun i => bs.length + i), as ++ [pa]), s)
        | (.wait, s) => (.wait, s)
        | (.prot, s) => (.prot, s)
        | (.nack, s) => (.nack, s)
      | (.wait, s) => (.wait, s)
      | (.prot, s) => (.prot, s)
      | (.nack, s) => (.nack, s)
    | (g, s) => (g, s)) (.ok ([], [], []), s)

/-- Bytes read by a unit through a context's pages; what other agents have sent is kept until all of them are there. -/
def State.engRead (s : State) (src ctx va n kind : Nat) (fetch protHolds : Bool) : Got (List Byte × List Nat) × State :=
  match s.engLines src ctx kind (if fetch then .fetch else .load) protHolds (lineParts va n) with
  | (.ok (bs, u, as), s) => (.ok (bs, u), s.dropReads src (some as))
  | (.wait, s) => (.wait, s)
  | (.prot, s) => (.prot, s.dropReads src none)
  | (.nack, s) => (.nack, s.dropReads src none)

/-- Bytes written at a located address: at once on this die, else by a store that another agent performs, or that the
replicas of the page wait for. -/
def State.engPut (s : State) (ctx va pa : Nat) (l : Word) (bs : List Byte) : Option Nat × State :=
  if s.local' pa && leafState l != 1 then (none, s.memWrite (pa % 2 ^ 42) bs)
  else
    let piece : Piece := { pa := pa, bit := 0, bits := 8 * bs.length, high := false, lane := 0, va := 0, poison := false }
    let r := s.collect { sid := none, ctx := ctx, user := false, op := .store [piece] (ofBytes bs), pa := pa, after := [], dep := none,
                         isStore := true, prop := leafProp l && leafState l == 1, replicated := leafState l == 1,
                               va := va, page := leafPage l va }
    (some r.1, r.2)

/-- Bytes written by a unit, line by line: how many before an obstacle, the obstacle, and the stores still on their
way. -/
def State.engWrite (s : State) (src ctx va : Nat) (bs : List Byte) (kind : Nat) (protHolds : Bool) : Nat × Got Unit × List Nat × State :=
  let r : Nat × Got Unit × List Nat × State := (lineParts va bs.length).foldl (fun (acc : Nat × Got Unit × List Nat × State) p =>
    match acc with
    | (k, .ok _, ws, s) =>
      match s.engLocate src ctx p.1 p.2 .bteWrite kind protHolds with
      | (.ok (pa, l), s) =>
        let r := s.engPut ctx p.1 pa l ((bs.drop k).take p.2)
        (k + p.2, .ok (), ws ++ r.1.toList, r.2)
      | (.wait, s) => (k, .wait, ws, s)
      | (.prot, s) => (k, .prot, ws, s)
      | (.nack, s) => (k, .nack, ws, s)
    | acc => acc) (0, .ok (), [], s)
  (r.1, r.2.1, r.2.2.1, if r.2.1 = .wait then r.2.2.2 else r.2.2.2.dropPages src)

/-- Every line of a byte range may be written by a unit. -/
def State.engWritable (s : State) (src ctx va n kind : Nat) (protHolds : Bool) : Got Unit × State :=
  (lineParts va n).foldl (fun (acc : Got Unit × State) p =>
    match acc with
    | (.ok _, s) =>
      match s.engLocate src ctx p.1 p.2 .bteWrite kind protHolds with
      | (.ok _, s) => (.ok (), s)
      | (.wait, s) => (.wait, s)
      | (.prot, s) => (.prot, s)
      | (.nack, s) => (.nack, s)
    | acc => acc) (.ok (), s)

/-! ### An engine's output version (13 R267, R269, R274, R276) -/

/-- A version request of the die's own units to another die. -/
def State.unitMsg (s : State) (ctx : Nat) (h : Word) (op : MsgOp) (after : List Nat) (stalls : Bool) : Nat × State :=
  let (r, s) := s.newId
  (r, s.post r { sid := none, ctx := ctx, user := false, op := op, pa := s.namePa ctx h, after := after, dep := none, isStore := true,
                 stalls := stalls, nackVal := h })

/-- A store of the die's own units into a version of another die, whose answer is collected. -/
def State.unitStore (s : State) (ctx : Nat) (h : Word) (op : MsgOp) : Nat × State :=
  s.collect { sid := none, ctx := ctx, user := false, op := op, pa := s.namePa ctx h, after := [], dep := none, isStore := true, nackVal := h }

/-- Creation of an output version: 0 done, 1 it exists, 255 no home answers; none while it waits. -/
def State.outOpen (s : State) (ctx : Nat) (h desc cnt : Word) (replay : Bool) (await : Option Nat) : Option Nat × Option Nat × State :=
  match await with
  | some r =>
    match (kget s.msgs r).bind Msg.answer with
    | some a => (some a, none, s.unpost r)
    | none => (none, some r, s)
  | none =>
    match s.nameHome ctx h with
    | .own =>
      let r := s.vopenAt ctx h desc cnt false 0 replay
      (if r.1 = 2 then none else some r.1, none, r.2)
    | .agent _ => let r := s.unitMsg ctx h (.vopen h desc cnt false 0 replay) [] true; (none, some r.1, r.2)
    | .gone => (some 255, none, s)

/-- The seal of an output version, after the writes `after`. -/
def State.outSeal (s : State) (ctx : Nat) (h : Word) (replay poison : Bool) (fl : Nat) (after : List Nat) : State :=
  match s.nameHome ctx h with
  | .own => (s.vsealAt ctx h replay poison fl).2
  | .agent _ => (s.unitMsg ctx h (.vseal h replay poison fl) after false).2
  | .gone => s

/-- A failed work's output version sealed POISONED: one that is ABSENT is created first; one that the work itself
created is sealed; one that exists is left as it stands, but in replay an OPEN one is sealed (13 R269, R276).  The
answer says whether this is done, and whether the version existed. -/
def State.outPoison (s : State) (ctx : Nat) (h desc cnt : Word) (replay mine : Bool) (await : Option Nat) : Bool × Bool × Option Nat × State :=
  if mine then (true, false, none, s.outSeal ctx h replay true 0 [])
  else
    match s.outOpen ctx h desc cnt false await with
    | (some 0, _, s) => (true, false, none, s.outSeal ctx h replay true 0 [])
    | (some 1, _, s) => (true, true, none, if replay then s.outSeal ctx h true true 0 [] else s)
    | (some _, _, s) => (true, false, none, s)
    | (none, a, s) => (false, false, a, s)

/-- A record enters the engine log (13 R277). -/
def State.engLog (s : State) (src : Nat) (handle : Word) (ctx code : Nat) (uefl : Nat) (flags : BitVec 6) (xy : Nat) : State :=
  let s := if uefl.testBit 0 && !uefl.testBit 2 then s.lived 129 1 else s
  if s.en.elog.length < 64 then
    let r : ELog := { w0 := BitVec.ofNat 64 (src * 2 ^ 48 + handle.toNat % 2 ^ 40)
                      w1 := BitVec.ofNat 64 (ctx * 2 ^ 28 + code * 2 ^ 24 + uefl * 2 ^ 16 + flags.toNat % 32)
                      w2 := BitVec.ofNat 64 xy }
    let t := { s with en := { s.en with elog := s.en.elog ++ [r] } }
    if s.en.elog.isEmpty then t.irq s.en.elogVec else t
  else { s with en := { s.en with elogOvf := true } }

/-- k.uexy of an event (02 R48). -/
def UeEvent.xy (e : UeEvent) : Nat := e.where' % 2 ^ 32 * 2 ^ 32 + e.src * 2 ^ 24 + e.row * 2 ^ 12 + e.col

/-- UEFL and XY of a task's events (02 R47, R48). -/
def UeRec.uefl (r : UeRec) : Nat := r.kinds.toNat % 8 + if r.more then 8 else 0
def UeRec.xy (r : UeRec) : Nat := (r.first.map UeEvent.xy).getD 0

/-! ### Engine FIFOs (13 R280) -/

/-- A FIFO. -/
def State.fifo (s : State) (f : Nat) : EFifo := kgetD s.en.fifos f {}

/-- A FIFO written. -/
def State.setFifo (s : State) (f : Nat) (q : EFifo) : State := { s with en := { s.en with fifos := kset s.en.fifos f q } }

/-- First offsets of the engine FIFO apertures, of the BTE and task-pool apertures, of the register region and of the local
memory window (01 R17). -/
def apFifo : Nat := 0x20002000000
def apBte : Nat := 0x20001000000
def apTask : Nat := 0x20000000000
def apRegs : Nat := 0x20004000000
def apLocal : Nat := 0x20008000000

/-- A waiting request joins a list once. -/
def joinList (l : List HomeReq) (r : HomeReq) : List HomeReq := if l.contains r then l else l ++ [r]

/-- The oldest pop that waits at a FIFO is served, or refused after a change of the FIFO's configuration; none while it waits. -/
def State.fifoPopStep (s : State) (f : Nat) : Option State :=
  let q := s.fifo f
  match q.pops with
  | [] => none
  | r :: rest =>
    let t := s.setFifo f { q with pops := rest }
    match s.portReq r, q.items with
    | none, _ => some t
    | some (ctx, _), items =>
      if !q.en || q.ctx != ctx then some (t.portAnswer r false .nack)
      else
        match items with
        | v :: vs => some ((s.setFifo f { q with pops := rest, items := vs }).portAnswer r false (.done v.toNat))
        | [] => none

/-- The oldest push that waits at a FIFO enters it, or the oldest pop is served; none while all wait (11 R232 item 2). -/
def State.fifoStep (s : State) (f : Nat) : Option State :=
  let q := s.fifo f
  match q.pushes with
  | [] => s.fifoPopStep f
  | r :: rest =>
    let t := s.setFifo f { q with pushes := rest }
    match s.portReq r with
    | none => some t
    | some (ctx, v) =>
      if !q.en || q.ctx != ctx then some (t.portAnswer r true .nack)
      else if q.items.length < 64 then some ((s.setFifo f { q with pushes := rest, items := q.items ++ [v] }).portAnswer r true (.done 0))
      else s.fifoPopStep f

/-- Steps of a FIFO, at most `fuel`. -/
def State.fifoSteps (s : State) (f : Nat) : Nat → State
  | 0 => s
  | fuel + 1 =>
    match s.fifoStep f with
    | some t => State.fifoSteps t f fuel
    | none => s

/-- What waits at a FIFO is served as far as it can be. -/
def State.serveFifo (s : State) (f : Nat) : State := s.fifoSteps f ((s.fifo f).pushes.length + (s.fifo f).pops.length)

/-- A push arrives at a FIFO (13 R280). -/
def State.fifoPush (s : State) (ctx f port : Nat) (r : HomeReq) : State :=
  let q := s.fifo f
  if !q.en || q.ctx != ctx || port != 0 then s.portAnswer r true .nack
  else (s.setFifo f { q with pushes := joinList q.pushes r }).serveFifo f

/-- A load of a FIFO: the oldest element, or 0 at once; or the count. -/
def State.fifoLoad (s : State) (ctx f port : Nat) : PortRes × State :=
  let q := s.fifo f
  if !q.en || q.ctx != ctx then (.nack, s)
  else if port = 8 then
    match q.items with
    | v :: rest => (.done v.toNat, (s.setFifo f { q with items := rest }).serveFifo f)
    | [] => (.done 0, s)
  else if port = 0x10 then (.done q.items.length, s)
  else (.nack, s)

/-- A POPE arrives at a FIFO (13 R281). -/
def State.fifoPope (s : State) (ctx f port : Nat) (nw : Bool) (r : HomeReq) : State :=
  let q := s.fifo f
  if !q.en || q.ctx != ctx || port != 8 then s.portAnswer r false .nack
  else if nw then
    let z := s.fifoLoad ctx f port
    z.2.portAnswer r false z.1
  else (s.setFifo f { q with pops := joinList q.pops r }).serveFifo f

/-! ### Channel queues (13 R272, R279) -/

/-- A push in a channel's queue. -/
def Channel.queued (c : Channel) (p : ChPush) : Channel := { c with queue := c.queue ++ [p], state := if c.state = .idle then .ready else c.state }

/-- The push that a stored value stands for. -/
def pushOf (ctx v : Nat) (task : Option Nat) (replay : Bool) : ChPush :=
  { arg := v / 2 ^ 16 % 2 ^ 48, template := v % 2 ^ 16, ctx := ctx, task := task, replay := replay }

/-- The oldest push that waits at a channel joins its queue; none while it waits. -/
def State.channelStep (s : State) (n : Nat) : Option State :=
  let c := s.channel n
  match c.pending with
  | [] => none
  | r :: rest =>
    let t := s.setChannel n { c with pending := rest }
    match s.portReq r with
    | none => some t
    | some (ctx, v) =>
      if !c.en then some (t.portAnswer r true .nack)
      else if c.queue.length < 16 then
        some ((s.setChannel n ({ c with pending := rest }.queued (pushOf ctx v.toNat none false))).portAnswer r true (.done 0))
      else none

/-- Steps of a channel's queue, at most `fuel`. -/
def State.channelSteps (s : State) (n : Nat) : Nat → State
  | 0 => s
  | fuel + 1 =>
    match s.channelStep n with
    | some t => State.channelSteps t n fuel
    | none => s

/-- What waits at a channel joins its queue as far as there is room. -/
def State.serveChannel (s : State) (n : Nat) : State := s.channelSteps n (s.channel n).pending.length

/-- A push arrives at a channel (13 R272, R279). -/
def State.chanPush (s : State) (n port : Nat) (r : HomeReq) : State :=
  let c := s.channel n
  if !c.en || port != 0 then s.portAnswer r true .nack
  else (s.setChannel n { c with pending := joinList c.pending r }).serveChannel n

/-- A push of another agent that waits at a port leaves it, and its sender is told; one that has been accepted is answered
already (13 R281; log 41). -/
def State.unpark (s : State) (p : Packet) : State :=
  let hit := fun (q : HomeReq) => match q with | .packet r => r.src == p.src && r.tag == p.tag && r.addr == p.addr | .own _ => false
  let found := s.en.fifos.any (fun (q : Nat × EFifo) => q.2.pushes.any hit) || s.en.channels.any (fun (q : Nat × Channel) => q.2.pending.any hit)
  let t := { s with en := { s.en with
    fifos := kmap s.en.fifos (fun _ (q : EFifo) => { q with pushes := q.pushes.filter (fun r => !hit r) })
    channels := kmap s.en.channels (fun _ (c : Channel) => { c with pending := c.pending.filter (fun r => !hit r) }) } }
  if found then t.respond p { typ := 0x02, op := ackBack } else s

/-- What waits at ports is looked at again: their configuration or their room may have changed. -/
def State.servePorts (s : State) : State :=
  let fs : List Nat := (s.en.fifos.filter (fun (p : Nat × EFifo) => !p.2.pushes.isEmpty || !p.2.pops.isEmpty)).map (fun p => p.1)
  let cs : List Nat := (s.en.channels.filter (fun (p : Nat × Channel) => !p.2.pending.isEmpty)).map (fun p => p.1)
  cs.foldl (fun (s : State) n => s.serveChannel n) (fs.foldl (fun (s : State) f => s.serveFifo f) s)

/-- A load of a channel's aperture (13 R279). -/
def State.chanGet (s : State) (n port : Nat) : PortRes :=
  let c := s.channel n
  if port = 8 then .done c.wptr.toNat
  else if port = 0x10 then .done c.doneCnt.toNat
  else if port = 0x18 then .done c.stat
  else .nack

/-- Bytes of the record window of the task-pool aperture as a context reads them; the host names none (12 R242). -/
def State.recordBytes (s : State) (ctx : Option Nat) (o n : Nat) : Nat :=
  match s.entry (o / 64) with
  | some e =>
    if (match ctx with | some c => c == e.ctx | none => true) then (e.record >>> (8 * (o % 64))) % 2 ^ (8 * n) else 0
  | none => 0

/-- An 8-byte load of an aperture, which waits nowhere; the host names no context at the record window (12 R242, 13 R279,
R280). -/
def State.portLoad (s : State) (ctx : Nat) (host : Bool) (off : Nat) : PortRes × State :=
  if apFifo ≤ off then s.fifoLoad ctx ((off - apFifo) / 0x10000) (off % 0x10000)
  else if apBte ≤ off then (s.chanGet ((off - apBte) / 0x1000) (off % 0x1000), s)
  else if off - apTask < 0x400000 then (.done (s.recordBytes (if host then none else some ctx) (off - apTask) 8), s)
  else (.nack, s)

/-- A POPE at an aperture of this die. -/
def State.portPope (s : State) (ctx off : Nat) (nw : Bool) (r : HomeReq) : State :=
  if apFifo ≤ off then s.fifoPope ctx ((off - apFifo) / 0x10000) (off % 0x10000) nw r else s.portAnswer r false .nack

/-- An 8-byte store at an aperture of this die: a push; the record window drops stores, and a post port drops them with BAD
set (12 R242, R250; 13 R279, R280). -/
def State.portStore (s : State) (ctx off : Nat) (r : HomeReq) : State :=
  if apFifo ≤ off then s.fifoPush ctx ((off - apFifo) / 0x10000) (off % 0x10000) r
  else if apBte ≤ off then s.chanPush ((off - apBte) / 0x1000) (off % 0x1000) r
  else if off - apTask < 0x400000 then s.portAnswer r true (.done 0)
  else if off - apTask < 0x400400 then (s.dropPost false).portAnswer r true (.done 0)
  else s.portAnswer r true .nack

end Sys2Proof.Machine
end

