-- ==== Sys2Proof/Machine/Engine.lean ====
section
/-!
DEFINITION. Meanings of PUSHE and POPE, and of the steps of the engine FIFOs and the block-transfer channels
(13 R271 to R282).
-/

namespace Sys2Proof.Machine

/-! ### PUSHE and POPE (13 R281) -/

/-- PUSHE (13 R281). -/
def pusheBody : Body := fun sid c x s =>
  let a := x.reg .scalar c.a.toNat
  let e := x.reg .scalar c.b.toNat
  match s.memHold sid x false with
  | .error st => (s, .error st)
  | .ok _ =>
    match x.checkUses { all := [a, e], src := [a, e] } with
    | .error st => (s, .error st)
    | .ok _ =>
      let v := x.readUe a 64
      let y := x.readUe e 64
      match s.access sid x .store 8 [scalarLane v.1 8] with
      | (s, .error st) => (s, .error st)
      | (s, .ok ls) =>
        let q := ls.headD { l := scalarLane 0 8, pa := 0, leaf := 0 }
        if !leafE q.leaf then (s, .error (.trap .prot (BitVec.ofNat 64 q.l.va)))
        else
          let m := { groupMsg sid x { fab := true } [q] none (.push q.pa (BitVec.ofNat 64 y.1)) true with stalls := true }
          let r := s.request sid m true 32
          (r.2, .ok (.answer r.1 { ue := v.2 ++ y.2 }))

/-- PUSHE (13 R281). -/
def execPushe (c : Chain) (s : State) : Host.Outcome State Fault Refusal := .next (s.issue opPushe c pusheBody)

/-- POPE (13 R281): its deposit is an acquire of the element (11 R232 item 3). -/
def popeBody : Body := fun sid c x s =>
  let d := x.reg .scalar c.a.toNat
  let a := x.reg .scalar c.b.toNat
  match s.memHold sid x true with
  | .error st => (s, .error st)
  | .ok _ =>
    match x.checkUses { all := [d, a], src := [a], dst := [d] } with
    | .error st => (s, .error st)
    | .ok _ =>
      let v := x.readUe a 64
      match s.access sid x .load 8 [scalarLane v.1 8] with
      | (s, .error st) => (s, .error st)
      | (s, .ok ls) =>
        let q := ls.headD { l := scalarLane 0 8, pa := 0, leaf := 0 }
        if !leafE q.leaf then (s, .error (.trap .prot (BitVec.ofNat 64 q.l.va)))
        else
          let (d0, s) := s.newDep { scalarDep sid d 1 0 with isLoad := true, acq := true }
          let m := groupMsg sid x {} [q] (some d0) (.pop q.pa (c.mod.toNat.testBit 0) true) false
          ((s.request sid m false 32).2, .ok (.set ((x.markEmpty d.loc 8).leaveMem c v.2)))

/-- POPE (13 R281). -/
def execPope (c : Chain) (s : State) : Host.Outcome State Fault Refusal := .next (s.issue opPope c popeBody)

/-! ### Ports -/

/-- An own request at an aperture of another agent is sent there; `none` when the aperture is this die's. -/
def State.portAway (s : State) (rid : Nat) (m : Msg) (pa : Nat) (p : Packet) : Option State :=
  match s.homeOf (pa / 2 ^ 42) with
  | .own => none
  | .agent a => some (s.sendMsg rid m a { p with addr := BitVec.ofNat 64 pa, lsz := 3 })
  | .gone => some (s.nackMsg rid m)

/-- A store or PUSHE reaches a FIFO (13 R280). -/
def execFifoPush (rid : Nat) (s : State) : Host.Outcome State Fault Refusal :=
  match s.ready rid with
  | some m =>
    match m.op with
    | .push pa _ => if s.local' pa && decide (apFifo ≤ pa % 2 ^ 42) then .next (s.portStore m.ctx (pa % 2 ^ 42) (.own rid)) else .next s
    | _ => .next s
  | none => .next s

/-- A load or POPE reaches a FIFO (13 R280, R281). -/
def execFifoPop (rid : Nat) (s : State) : Host.Outcome State Fault Refusal :=
  match s.ready rid with
  | some m =>
    match m.op with
    | .pop pa nw pope =>
      let off := pa % 2 ^ 42
      if s.local' pa && decide (apFifo ≤ off) then
        if pope then .next (s.portPope m.ctx off nw (.own rid))
        else
          let r := s.portLoad m.ctx false off
          .next (r.2.portAnswer (.own rid) false r.1)
      else .next s
    | _ => .next s
  | none => .next s

/-- A store or PUSHE reaches a channel's push port (13 R272, R279). -/
def execChannelPush (rid : Nat) (s : State) : Host.Outcome State Fault Refusal :=
  match s.ready rid with
  | some m =>
    match m.op with
    | .push pa _ =>
      if s.local' pa && decide (apBte ≤ pa % 2 ^ 42) && decide (pa % 2 ^ 42 < apFifo) then .next (s.portStore m.ctx (pa % 2 ^ 42) (.own rid))
      else .next s
    | _ => .next s
  | none => .next s

/-- A write of BTE_FIFOCFGf (13 R280). -/
def execFifoConfigWrite (f : Nat) (v : Word) (s : State) : Host.Outcome State Fault Refusal :=
  let q := s.fifo f
  let en := v.toNat.testBit 63
  .next ((s.setFifo f { q with en := en, ctx := v.toNat % 16, items := if en then q.items else [] }).serveFifo f)

/-! ### Channel control (13 R272) -/

/-- EN := 1. -/
def execBteChannelEnable (ch : Nat) (s : State) : Host.Outcome State Fault Refusal :=
  let c := s.channel ch
  if c.en then .next s else .next (s.setChannel ch { c with en := true, state := .idle })

/-- EN := 0. -/
def execBteChannelDisable (ch : Nat) (s : State) : Host.Outcome State Fault Refusal :=
  if (s.channel ch).en then
    let t := s.stopChannel ch
    .next (t.setChannel ch { t.channel ch with en := false })
  else .next s

/-- FLUSH: the queue is emptied, and the tasks in it retire; the push that a BUSY channel starts next is not queued any more. -/
def execFlush (ch : Nat) (s : State) : Host.Outcome State Fault Refusal :=
  let c := s.channel ch
  if !c.en then .next s
  else
    let keep := if c.state = .ready then 1 else 0
    let t := s.setChannel ch { c with queue := c.queue.take keep, state := if c.state = .error then .idle else c.state }
    let t := (c.queue.drop keep).foldl (fun (s : State) (p : ChPush) => match p.task with | some i => s.retire i | none => s) t
    .next (t.serveChannel ch)

/-- RESUME. -/
def execResume (ch : Nat) (s : State) : Host.Outcome State Fault Refusal :=
  let c := s.channel ch
  if c.en ∧ c.state = .error then .next (s.setChannel ch { c with state := if c.queue = [] then .idle else .ready }) else .next s

/-- A write of BTE_ELOGPOP (13 R277). -/
def execElogPop (s : State) : Host.Outcome State Fault Refusal := .next { s with en := { s.en with elog := s.en.elog.drop 1 } }

/-- A READY KIND 3 record is pushed to its channel (13 R278). -/
def execCopyTaskDispatch (entry : Nat) (s : State) : Host.Outcome State Fault Refusal :=
  match s.mayDispatch entry with
  | some e =>
    if recKind e.record = 3 then
      let v := recParam e.record / 2 ^ 16 * 2 ^ 16 + bitsOf 95 80 e.record
      let n := bitsOf 69 64 e.record
      .next ((s.setChannel n ((s.channel n).queued (pushOf e.ctx v (some entry) e.replay))).deal entry e)
    else .next s
  | none => .next s

/-! ### Templates and geometry (13 R273, R274) -/

/-- Fields of a template. -/
def tmW (t k : Nat) : Nat := recWord t k
def tmX (t : Nat) : Nat := bitsOf 15 0 (tmW t 2) + 1
def tmY (t : Nat) : Nat := bitsOf 31 16 (tmW t 2) + 1
def tmZ (t : Nat) : Nat := bitsOf 47 32 (tmW t 2) + 1
def tmTab (t : Nat) : Nat := bitsOf 56 0 (tmW t 5)
def tmBts (t : Nat) : Bool := (tmW t 6).testBit 0
def tmAu (t : Nat) : Nat := bitsOf 2 1 (tmW t 6)
def tmAct (t : Nat) : Nat := bitsOf 4 3 (tmW t 6)
def tmG (t : Nat) : Nat := bitsOf 25 20 (tmW t 6) + 1

/-- Descriptor and count of the version that a template creates (10 R207): a plain version of G granules. -/
def tmDesc (t : Nat) : Word := BitVec.ofNat 64 (bitsOf 25 20 (tmW t 6))
def tmCnt (t : Nat) : Word := BitVec.ofNat 64 (bitsOf 19 8 (tmW t 6))

/-- OUT of the task of a copy, 0 for a pushed copy. -/
def State.copyOut (s : State) (p : ChPush) : Word :=
  match p.task.bind s.entry with
  | some e => recOut e.record
  | none => 0

/-- A template breaks 13 R273 or R278. -/
def tmBad (t arg : Nat) (out : Word) : Bool :=
  bitsOf 63 48 (tmW t 2) != 0 || bitsOf 63 26 (tmW t 6) != 0 || bitsOf 7 5 (tmW t 6) != 0 || (tmAu t == 0 && arg != 0) ||
    tmAct t == 3 || (out != 0 && tmAct t != 1)

/-- The version that a copy creates. -/
def copyHandle (t : Nat) (out : Word) : Word := if out = 0 then BitVec.ofNat 64 (tmW t 1) else out

/-- Number of a channel as a source of fault records (08 R171). -/
def chSrc (n : Nat) : Nat := 0x1000 + n

/-- The base of plane z on one side of a copy: from the block table, or by strides (13 R274). -/
def State.planeBase (s : State) (n ctx t arg z : Nat) (dst : Bool) : Got Nat × State :=
  let first := if tmAu t = 3 then arg else 0
  let add := if tmAu t = (if dst then 2 else 1) then arg else 0
  if tmTab t != 0 && tmBts t == dst then
    match s.engRead (chSrc n) ctx ((tmTab t + 8 * (first + z)) % 2 ^ 64) 8 0 false false with
    | (.ok (bs, _), s) => (.ok ((ofBytes bs + (if dst then 0 else bitsOf 56 0 (tmW t 0)) + add) % 2 ^ 64), s)
    | (.wait, s) => (.wait, s)
    | (.prot, s) => (.prot, s)
    | (.nack, s) => (.nack, s)
  else
    let base := if dst then (if tmAct t = 1 then 0 else tmW t 1) else bitsOf 56 0 (tmW t 0)
    let stride := if dst then sextNat (bitsOf 63 32 (tmW t 4)) 32 else sextNat (bitsOf 63 32 (tmW t 3)) 32
    (.ok (wrapNat ((base : Int) + z * stride + add) 64), s)

/-- The copy of a channel meets an error, or waits. -/
def State.copyStop (s : State) (n code : Nat) : State := s.setChannel n { s.channel n with fail := code }

/-- A copy that waits is HELD while a fault record holds it (13 R272). -/
def State.copyWait (s : State) (n : Nat) : State :=
  let c := s.channel n
  s.setChannel n { c with state := if s.pg.fqHeld.any (fun r => r.src == chSrc n) then .held else .running }

/-- What an obstacle makes of a copy. -/
def State.copyGot {α : Type} (s : State) (n : Nat) (g : Got α) : State :=
  match g with
  | .ok _ => s
  | .prot => s.copyStop n 3
  | .nack => s.copyStop n 4
  | .wait => s.copyWait n

/-- The start of a copy: its template is read and checked, its version created (13 R273 to R275). -/
def State.copyBegin (s : State) (n : Nat) : State :=
  let c := s.channel n
  match c.cur with
  | none => s
  | some p =>
    if c.fail ≠ 0 then s
    else
      let s := match c.tmpl with
        | some _ => s
        | none =>
          if p.ctx ≠ c.ctx then s.copyStop n 7
          else if c.tcount ≤ p.template then s.copyStop n 1
          else
            match s.engRead (chSrc n) c.ctx (c.tbase.toNat + 64 * p.template) 64 0 false false with
            | (.ok (bs, _), s) =>
              let t := ofBytes bs
              let s := s.setChannel n { s.channel n with tmpl := some t, state := .running }
              if tmBad t p.arg (s.copyOut p) then s.copyStop n 2 else s
            | (g, s) => s.copyGot n g
      let c := s.channel n
      match c.tmpl with
      | none => s
      | some t =>
        if c.fail ≠ 0 || c.opened || tmAct t != 1 then s
        else
          match s.outOpen c.ctx (copyHandle t (s.copyOut p)) (tmDesc t) (tmCnt t) p.replay c.await with
          | (some 0, _, s) => s.setChannel n { s.channel n with opened := true, await := none }
          | (some 1, _, s) => (s.setChannel n { s.channel n with await := none }).copyStop n 6
          | (some _, _, s) => (s.setChannel n { s.channel n with await := none }).copyStop n 4
          | (none, a, s) => s.setChannel n { s.channel n with await := a }

/-- A queued push reaches the head of its channel, and its template is read (13 R272, R273). -/
def execCopyStart (ch : Nat) (s : State) : Host.Outcome State Fault Refusal :=
  let c := s.channel ch
  match c.state, c.queue with
  | .ready, p :: rest =>
    let s := s.setChannel ch { c with state := .running, cur := some p, queue := rest, tmpl := none, moved := 0, row := [], rowAt := 0,
                                      under := 0, ue := {}, fail := 0, writes := [], await := none, opened := false }
    .next ((s.serveChannel ch).copyBegin ch)
  | .running, _ => .next (s.copyBegin ch)
  | _, _ => .next s

/-! ### The rows of a copy (13 R274) -/

/-- Bytes delivered: the write pointer moves with them. -/
def State.delivered (s : State) (n k : Nat) : State :=
  let c := s.channel n
  s.setChannel n { c with moved := c.moved + k, wptr := c.wptr + BitVec.ofNat 64 k, under := 0, writes := [], state := .running }

/-- The first `k` bytes of the row are written: at once, or by a request on its way. -/
def State.sentOff (s : State) (n k : Nat) (w : Option Nat) : State :=
  let c := s.channel n
  let s := s.setChannel n { c with row := c.row.drop k, rowAt := c.rowAt + k, under := k, writes := w.toList, state := .running }
  match w with
  | some _ => s
  | none => s.delivered n k

/-- The next bytes of a row go to the version that the copy creates (13 R274 item 8, R275 code 5). -/
def State.copyToVersion (s : State) (n ctx : Nat) (h : Word) (g : Nat) (replay : Bool) : State :=
  let c := s.channel n
  let k := min (256 - c.rowAt % 256) (min c.row.length (4096 * g - c.rowAt))
  let v := ofBytes (c.row.take k)
  if k = 0 then s.copyStop n 5
  else
    match s.nameHome ctx h with
    | .own => (s.vstoreAt ctx h c.rowAt k v replay).2.sentOff n k none
    | .agent _ =>
      let r := s.unitStore ctx h (.vstore h c.rowAt k v replay)
      r.2.sentOff n k (some r.1)
    | .gone => s.copyStop n 4

/-- The next bytes of a row go to memory. -/
def State.copyToMemory (s : State) (n ctx : Nat) : State :=
  let c := s.channel n
  let k := min (256 - c.rowAt % 256) c.row.length
  match s.engLocate (chSrc n) ctx c.rowAt k .bteWrite 1 false with
  | (.ok (pa, l), s) =>
    let r := s.engPut ctx c.rowAt pa l (c.row.take k)
    r.2.sentOff n k r.1
  | (g, s) => s.copyGot n g

/-- The next row is read whole, and its uncorrectable bytes are noted (13 R274 items 2 and 7; log 64). -/
def State.copyRow (s : State) (n : Nat) (p : ChPush) (t : Nat) : State :=
  let c := s.channel n
  let k := c.moved / tmX t
  let z := k / tmY t
  let y := k % tmY t
  match s.planeBase n c.ctx t p.arg z false with
  | (.ok sb, s) =>
    match s.planeBase n c.ctx t p.arg z true with
    | (.ok db, s) =>
      let src := wrapNat ((sb : Int) + y * sextNat (bitsOf 31 0 (tmW t 3)) 32) 64
      let dst := wrapNat ((db : Int) + y * sextNat (bitsOf 31 0 (tmW t 4)) 32) 64
      let s := if k = 0 then s.setChannel n { s.channel n with wptr := BitVec.ofNat 64 db } else s
      match s.engRead (chSrc n) c.ctx src (tmX t) 0 false false with
      | (.ok (bs, bad), s) =>
        let c := s.channel n
        let es : List UeEvent := bad.map (fun i => { where' := (src + i) % 2 ^ 64 / 32, src := 3, row := 0, col := 0, kind := 1 })
        s.setChannel n { c with row := bs, rowAt := dst, ue := c.ue.add es, state := .running }
      | (g, s) => s.copyGot n g
    | (g, s) => s.copyGot n g
  | (g, s) => s.copyGot n g

/-- The copy moves on by one read of a row or one write of a part of it, or waits, fails or ends: bytes are delivered in
delivery order, and a write that is refused stops the copy at its first byte (13 R274 items 3 and 4, R275). -/
def State.copyMove (s : State) (n : Nat) (p : ChPush) (t : Nat) : State :=
  let c := s.channel n
  if c.writes != [] then
    if !c.writes.all s.settled then s
    else if c.writes.any s.refused' then (s.forget c.writes).copyStop n 4
    else (s.forget c.writes).delivered n c.under
  else if c.row = [] then s.copyRow n p t
  else if tmAct t = 1 then s.copyToVersion n c.ctx (copyHandle t (s.copyOut p)) (tmG t) p.replay
  else s.copyToMemory n c.ctx

/-- Moves one after the other until the last byte is delivered or one brings nothing more, at most `fuel`. -/
def State.copyMoves (s : State) (n : Nat) (p : ChPush) (t : Nat) : Nat → State
  | 0 => s
  | fuel + 1 =>
    let c := s.channel n
    if c.fail ≠ 0 || (c.moved == tmX t * tmY t * tmZ t) then s
    else
      let s' := s.copyMove n p t
      let c' := s'.channel n
      if c'.moved = c.moved ∧ c'.row.length = c.row.length then s' else State.copyMoves s' n p t fuel

/-- The copy has ended: DONE counts it, its task retires, the next queued push starts (13 R272, R278). -/
def State.copyEnd (s : State) (n : Nat) (p : ChPush) (st : ChState) : State :=
  let c := s.channel n
  let s := s.setChannel n { c with cur := none, tmpl := none, moved := 0, row := [], rowAt := 0, under := 0, doneCnt := c.doneCnt + 1, writes := [], await := none,
                                   opened := false, fail := 0, ue := {}, state := st }
  match p.task with
  | some i => s.retire i
  | none => s

/-- Handle of the task of a copy, 0 for a pushed one. -/
def State.copyTask (s : State) (p : ChPush) : Word := match p.task with | some i => s.taskHandle i | none => 0

/-- The copy moves on; when its last byte is delivered and performed, its completion action is taken (13 R272, R274,
R276). -/
def execCopyComplete (ch : Nat) (s : State) : Host.Outcome State Fault Refusal :=
  let s := s.copyBegin ch
  let c := s.channel ch
  match c.cur, c.tmpl with
  | some p, some t =>
    if c.fail ≠ 0 || !(c.state == .running) || (tmAct t == 1 && !c.opened) then .next s
    else
      let total := tmX t * tmY t * tmZ t
      let s := s.copyMoves ch p t (3 * (total - c.moved) + 3)
      let c := s.channel ch
      if c.fail ≠ 0 || c.moved != total then .next s
      else
        let s := if c.ue.first.isSome then s.engLog (chSrc ch) (s.copyTask p) c.ctx 0 c.ue.uefl 0 c.ue.xy else s
        let s := if tmAct t = 1 then s.outSeal c.ctx (copyHandle t (s.copyOut p)) p.replay false 0 []
          else if tmAct t = 2 then s.decrement (BitVec.ofNat 64 (tmW t 7)) else s
        .next (s.copyEnd ch p (if c.queue = [] then .idle else .ready))
  | _, _ => .next s

/-- The copy fails: its version is sealed POISONED where 13 R276 says so, and the channel enters ERROR (13 R272). -/
def execCopyFail (ch : Nat) (s : State) : Host.Outcome State Fault Refusal :=
  let c := s.channel ch
  match c.cur with
  | none => .next s
  | some p =>
    if c.fail = 0 then .next s
    else
      let out := s.copyOut p
      let acts := match c.tmpl with | some t => tmAct t == 1 | none => false
      let t := c.tmpl.getD 0
      let r : Bool × Bool × Option Nat × State :=
        if c.fail = 6 then (true, false, none, s)
        else if acts && decide (2 ≤ c.fail) && decide (c.fail ≤ 5) then
          s.outPoison c.ctx (copyHandle t out) (tmDesc t) (tmCnt t) p.replay c.opened c.await
        else if out ≠ 0 then s.outPoison p.ctx out 0 0 p.replay false c.await
        else (true, false, none, s)
      match r with
      | (false, _, a, s) => .next (s.setChannel ch { s.channel ch with await := a })
      | (true, _, _, s) =>
        let s := s.engLog (chSrc ch) (s.copyTask p) c.ctx c.fail c.ue.uefl 0 c.ue.xy
        let s := ((s.forget c.writes).dropEngine (chSrc ch)).copyEnd ch p .error
        .next (s.setChannel ch { s.channel ch with err := c.fail, arg := p.arg })

end Sys2Proof.Machine
end

