-- ==== Sys2Proof/Machine/Matrix.lean ====
section
/-!
DEFINITION. Meanings of the steps of matrix tasks (13 R259 to R270).
-/

namespace Sys2Proof.Machine

/-! ### Fields of a matrix task (13 R259 to R263) -/

/-- Operation word and format word. -/
def mxOp (r : Nat) : Nat := bitsOf 95 64 r
def mxFmt (r : Nat) : Nat := bitsOf 15 0 (recParam r)
def mxM (r : Nat) : Nat := 64 * 2 ^ bitsOf 1 0 (mxOp r)
def mxN (r : Nat) : Nat := 128 * 2 ^ bitsOf 2 2 (mxOp r)
def mxK (r : Nat) : Nat := 64 * (bitsOf 8 3 (mxOp r) + 1)
def mxCin (r : Nat) : Bool := (mxOp r).testBit 9
def mxCons (r : Nat) : Bool := (mxOp r).testBit 10
def mxCnt (r : Nat) : Nat := bitsOf 22 11 (mxOp r)
def mxTa (r : Nat) : Ty := Ty.ofCode (bitsOf 3 0 (mxFmt r))
def mxTb (r : Nat) : Ty := Ty.ofCode (bitsOf 7 4 (mxFmt r))
def mxOt (r : Nat) : Nat := bitsOf 11 10 (mxFmt r)
def mxOrm (r : Nat) : RMode := RMode.ofCode (bitsOf 13 12 (mxFmt r))
def mxBand (r : Nat) (b : Bool) : Nat := if b then bitsOf 31 24 (recParam r) else bitsOf 23 16 (recParam r)
def mxSc (r : Nat) (b : Bool) : Nat := if b then bitsOf 63 48 (recParam r) else bitsOf 47 32 (recParam r)

/-- Block and band scales apply to operand A or B (13 R260, 02 R38). -/
def mxBlock (r : Nat) (b : Bool) : Bool := (if b then mxTb r else mxTa r) == .f4
def mxBanded (r : Nat) (b : Bool) : Bool := mxBlock r b || (mxFmt r).testBit (if b then 9 else 8)
def mxScaled (r : Nat) : Bool := mxBanded r false || mxBanded r true

/-- The operands are integers. -/
def mxInt (r : Nat) : Bool := (mxTa r).isInt

/-- A pair of operand types that 13 R260 accepts. -/
def pairOk (a b : Ty) : Bool :=
  (a == .f4 && b == .f4) || (a.isF8 && b.isF8) || ((a == .i8 || a == .n8) && (b == .i8 || b == .n8)) || (a == .bf16 && b == .bf16) ||
    (a == .f16 && b == .f16)

/-- Width of an output element and the output type (13 R264 item 5). -/
def mxOw (r : Nat) : Nat := if mxOt r = 0 then 32 else 16
def mxOty (r : Nat) : Nat := if mxOt r = 0 then (if mxInt r then 0 else 8) else if mxOt r = 1 then 9 else 10

/-- Granules of the output version. -/
def mxG (r : Nat) : Nat := min 64 (ceilDiv (mxM r * mxN r * mxOw r) 32768)

/-- Descriptor and count of the output version (10 R207, 13 R264). -/
def mxDesc (r : Nat) : Word :=
  BitVec.ofNat 64 (mxG r - 1 + mxOty r * 2 ^ 6 + (mxM r - 1) % 4096 * 2 ^ 10 + (mxN r - 1) % 4096 * 2 ^ 22)
def mxCount (r : Nat) : Word := BitVec.ofNat 64 (mxCnt r)

/-- First failure that the record alone shows (13 R269 codes 1 to 3). -/
def mxStatic (r : Nat) : Nat :=
  let f := mxFmt r
  if bitsOf 31 23 (mxOp r) != 0 || bitsOf 1 0 (mxOp r) == 3 then 1
  else if bitsOf 15 14 f != 0 || mxOt r == 3 || !pairOk (mxTa r) (mxTb r) || (f.testBit 8 && !(mxTa r).isF8) ||
      (f.testBit 9 && !(mxTb r).isF8) || (mxOt r != 0 && mxInt r) then 2
  else if recNin r < 2 || (mxCin r && recNin r < 3) || (mxScaled r && recNin r != 4) || recOut r == 0 then 3
  else 0

/-- Inputs that a task reads (13 R263). -/
def mxInputs (r : Nat) : List Nat := [0, 1] ++ (if mxCin r then [2] else []) ++ (if mxScaled r then [3] else [])

/-- Bytes of the operand region of A or B, and its first byte in the version (13 R264). -/
def mxRows (r : Nat) (b : Bool) : Nat := if b then mxN r else mxM r
def mxWidth (r : Nat) (b : Bool) : Nat := (if b then mxTb r else mxTa r).width
def mxStart (r : Nat) (b : Bool) : Nat := 64 * mxBand r b * mxK r * mxWidth r b / 8
def mxBytes (r : Nat) (b : Bool) : Nat := mxRows r b * mxK r * mxWidth r b / 8

/-- Bytes that input `k` must have (13 R264, R265). -/
def mxNeed (r k : Nat) : Nat :=
  match k with
  | 0 => mxStart r false + mxBytes r false
  | 1 => mxStart r true + mxBytes r true
  | 2 => 4 * mxM r * mxN r
  | _ =>
    let rows := fun (b : Bool) => if mxBanded r b then 512 * (mxSc r b + ceilDiv (mxBytes r b) 512) else 0
    max (rows false) (rows true)

/-! ### Inputs -/

/-- What the tile fetch unit finds of an input. -/
inductive MxIn where
  | data (g d : Nat)
  | poison (g : Nat)
  | gone
  | nack
  | wait
  deriving DecidableEq, Repr

/-- A core's matrix task written. -/
def State.setMatrix (s : State) (c : Nat) (m : MxTask) : State := s.modCore c (fun k => { k with matrix := some m })

/-- Input `k` of a core's task, at its home or in the proxy's copy; the status of a version that the proxy does not hold
is asked for, and its data are subscribed to (10 R212, 13 R269, R270). -/
def State.mxInput (s : State) (c : Nat) (m : MxTask) (k : Nat) : MxIn × State :=
  let h := recIn m.record k
  match s.nameHome m.ctx h with
  | .gone => (.nack, s)
  | .own =>
    match s.version m.ctx h with
    | none => (.gone, s)
    | some v =>
      if v.state = .absent ∨ v.state = .dead then (.gone, s)
      else if v.state = .complete then (.data v.g v.data, s)
      else if v.state = .poisoned ∧ v.sealed then (.poison v.g, s)
      else (.wait, s)
  | .agent _ =>
    match s.proxy m.ctx h with
    | some p => if p.present then (if p.poisoned then .poison p.g else .data p.g p.data, s) else (.wait, s)
    | none =>
      match kget m.reads k with
      | none =>
        let (d, s) := s.newDep { sid := engineSid c, dst := .lat, len := 0, mask := 0 }
        let (r, s) := s.newId
        let msg : Msg := { sid := none, ctx := m.ctx, user := false, op := .vprobe h, pa := s.namePa m.ctx h, after := [], dep := some d, nackVal := h }
        (.wait, (s.post r msg).setMatrix c { m with reads := kset m.reads k d })
      | some d =>
        match kget s.deps d with
        | none => (.nack, s)
        | some dep =>
          if dep.outstanding ≠ 0 then (.wait, s)
          else
            let s := ({ s with deps := kdel s.deps d }).setMatrix c { m with reads := kdel m.reads k }
            let st := dep.value % 8
            if dep.nack.isSome then (.nack, s)
            else if st = 2 ∨ (st = 3 ∧ dep.value.testBit 3) then
              (.wait, s.seekWaiter m.ctx h (.entry m.entry (s.pgen m.entry)))
            else if st = 0 ∨ st = 4 then (.gone, s)
            else (.wait, s)

/-- The inputs of a task, each as found. -/
def State.mxFind (s : State) (c : Nat) (m : MxTask) : List (Nat × MxIn) × State :=
  (mxInputs m.record).foldl (fun (acc : List (Nat × MxIn) × State) k =>
    let now := ((acc.2.core c).matrix).getD m
    let r := acc.2.mxInput c now k
    (acc.1 ++ [(k, r.1)], r.2)) ([], s)

/-- First failure among the inputs found, 0 for none (13 R269 codes 4 to 6 and 8). -/
def mxInputCode (r : Nat) (found : List (Nat × MxIn)) : Nat :=
  let small := found.any (fun p => match p.2 with | .data g _ => decide (4096 * g < mxNeed r p.1) | .poison g => decide (4096 * g < mxNeed r p.1) | _ => false)
  if small then 4
  else if found.any (fun p => p.2 == .gone) then 5
  else if found.any (fun p => match p.2 with | .poison _ => true | _ => false) then 6
  else if found.any (fun p => p.2 == .nack) then 8
  else 0

/-! ### The course of a task (13 R267, R269) -/

/-- A record is logged for a task with a failure or with a zeroed element (13 R277). -/
def State.mxLog (s : State) (c : Nat) (m : MxTask) : State :=
  if m.code ≠ 0 || m.ue.first.isSome then s.engLog (0x2000 + c) m.handle m.ctx m.code m.ue.uefl m.flags m.ue.xy else s

/-- The task has ended: a record is logged, its entry retires, and the task behind it comes next. -/
def State.mxEnd (s : State) (c : Nat) (m : MxTask) : State :=
  ((s.mxLog c m).retire m.entry).modCore c (fun k => { k with matrix := k.nextMatrix, nextMatrix := none })

/-- A failed task's output version is sealed POISONED.  One that exists makes the failure EXISTS where that is the first in the
order of 13 R269: before the NACK of an input, outside replay. -/
def State.mxPoison (s : State) (c : Nat) (m : MxTask) : State :=
  match s.outPoison m.ctx (recOut m.record) (mxDesc m.record) (mxCount m.record) m.replay false m.await with
  | (true, existed, _, s) => s.mxEnd c (if existed && m.code == 8 && !m.replay then { m with code := 7 } else m)
  | (false, _, a, s) => s.setMatrix c { m with await := a }

/-- A task fails with a code. -/
def State.mxFail (s : State) (c : Nat) (m : MxTask) (code : Nat) : State :=
  let m := { m with code := code, state := .poisoning, await := none }
  if code = 7 || recOut m.record == 0 then s.mxEnd c m else s.mxPoison c m

/-- CHECK of a core's task, as far as it can go now (13 R269). -/
def State.mxCheck (s : State) (c : Nat) : State :=
  match (s.core c).matrix with
  | none => s
  | some m =>
    match m.state with
    | .check =>
      let code := mxStatic m.record
      if code ≠ 0 then s.mxFail c m code
      else
        let (found, s) := s.mxFind c m
        let m := ((s.core c).matrix).getD m
        if found.any (fun p => p.2 == .wait) then s
        else
          let code := mxInputCode m.record found
          if code ≠ 0 then s.mxFail c m code
          else
            let data := found.foldl (fun (d : KMap Nat) p => match p.2 with | .data _ v => kset d p.1 v | _ => d) []
            match s.outOpen m.ctx (recOut m.record) (mxDesc m.record) (mxCount m.record) m.replay none with
            | (some 0, _, s) => s.setMatrix c { m with state := .run, data := data }
            | (some 1, _, s) => s.mxFail c m 7
            | (some _, _, s) => s.mxFail c m 8
            | (none, some a, s) => s.setMatrix c { m with state := .opening, data := data, await := some a }
            | (none, none, s) => s
    | .opening =>
      match s.outOpen m.ctx (recOut m.record) (mxDesc m.record) (mxCount m.record) m.replay m.await with
      | (some 0, _, s) => s.setMatrix c { m with state := .run, await := none }
      | (some 1, _, s) => s.mxFail c m 7
      | (some _, _, s) => s.mxFail c m 8
      | (none, _, _) => s
    | .poisoning => s.mxPoison c m
    | _ => s

/-- A READY matrix task is given to an engine with room and checked (13 R268, R269). -/
def execMatrixDispatch (entry core : Nat) (s : State) : Host.Outcome State Fault Refusal :=
  match s.mayDispatch entry with
  | some e =>
    if recKind e.record = 2 ∧ (s.engines e.ctx (recTherm e.record)).contains core then
      let t : MxTask := { entry := entry, handle := s.taskHandle entry, ctx := e.ctx, record := e.record, state := .check, replay := e.replay }
      let s := s.deal entry e
      if (s.core core).matrix.isNone then .next ((s.setMatrix core t).mxCheck core)
      else .next (s.modCore core (fun k => { k with nextMatrix := some t }))
    else .next s
  | none => .next s

/-! ### The product (13 R264 to R266, 02 R38 to R46) -/

/-- A byte of an input is uncorrectable for what is folded with K-block `kb` or later (13 R270 item 7). -/
def MxTask.badAt (m : MxTask) (input byte kb : Nat) : Bool := m.bad.any (fun q => q.1 == input && q.2.1 == byte && decide (q.2.2 ≤ kb))

/-- Elements of operand A or B in a 512-byte window. -/
def mxPer (r : Nat) (b : Bool) : Nat := 4096 / mxWidth r b

/-- The band scale of a row of A or B is corrupted: a byte of it in the scale row of a window of the 64-row band (02 R46). -/
def MxTask.bandBad (m : MxTask) (b : Bool) (row kb : Nat) : Bool :=
  let n := 64 * mxK m.record / mxPer m.record b
  m.bad.any (fun q =>
    let win := q.2.1 / 512 - mxSc m.record b
    q.1 == 3 && decide (q.2.2 ≤ kb) && decide (512 * mxSc m.record b ≤ q.2.1) && decide (128 ≤ q.2.1 % 512) && decide (q.2.1 % 512 < 130) &&
      win / n == row / 64)

/-- The scale row of a data window of A or B as K-block `kb` uses it (13 R265), with its uncorrectable parts. -/
def MxTask.scaleOf (m : MxTask) (b : Bool) (row win kb : Nat) : ScaleRow :=
  let base := 512 * (mxSc m.record b + win)
  let w := (kgetD m.data 3 0 >>> (8 * base)) % 2 ^ 4096
  { row := w, band := fdec .bf16 (elem w 64 16), bandBad := m.bad != [] && m.bandBad b row kb
    badBlocks := if m.bad = [] then [] else (List.range 128).filter (fun i => m.badAt 3 (base + i) kb) }

/-- Element (row, k) of A, or (k, row) of B: its code and whether its byte is uncorrectable. -/
def MxTask.code' (m : MxTask) (b : Bool) (row k : Nat) : Nat × Bool :=
  let w := mxWidth m.record b
  let i := (64 * mxBand m.record b + row) * mxK m.record + k
  let input := if b then 1 else 0
  (elem (kgetD m.data input 0) i w, m.badAt input (i * w / 8) (k / 64))

/-- An element's value with its scales, whether an invalid product arose, whether it is a NaN that is not an event's
zero, and the source of its event, 0 for none. -/
def MxTask.value (m : MxTask) (b : Bool) (row k : Nat) : FVal × Bool × Bool × Nat :=
  let r := m.record
  let t := if b then mxTb r else mxTa r
  let per := mxPer r b
  let i := row * mxK r + k
  let sc := m.scaleOf b row (i / per) (k / 64)
  let (code, bad) := m.code' b row k
  let blk := mxBlock r b
  let bnd := mxBanded r b
  let e := i % per
  if bad then (.fin false 0 0, false, false, if b then 6 else 5)
  else if bnd && sc.bandBad then (.fin false 0 0, false, false, 9)
  else if blk && sc.badBlocks.contains (e / 8) then (.fin false 0 0, false, false, 8)
  else
    let v := scaledVal t sc blk bnd e code
    (v.1, v.2, fdec t code == .nan || (bnd && sc.band == .nan), 0)

/-- The accumulator of element (i, j) after K-block `kb` (13 R266, 02 R43). -/
def MxTask.fold1 (m : MxTask) (i j kb acc : Nat) : Nat × BitVec 6 :=
  let ks := (List.range 64).map (fun q => 64 * kb + q)
  if mxInt m.record then
    let val := fun (b : Bool) (row k : Nat) => let c := m.code' b row k; if c.2 then 0 else intOf (if b then mxTb m.record else mxTa m.record) c.1
    (wrapNat (ks.foldl (fun (z : Int) k => z + val false i k * val true j k) (acc : Int)) 32, 0)
  else
    let vs := ks.map (fun k => (m.value false i k, m.value true j k))
    let terms := vs.map (fun v => let p := v.1.1.mul v.2.1; (p.1, p.2 || v.1.2.1 || v.2.2.1))
    let nan := fdec .f32 acc == .nan || vs.any (fun v => v.1.2.2.1 || v.2.2.2.1)
    let z := exactSum .rne (fdec .f32 acc) terms
    roundVal .f32 .rne z.1 (z.2 && !nan)

/-- The bytes of element `e` of Cin hold an uncorrectable one. -/
def MxTask.cinBad (m : MxTask) (e : Nat) : Bool := (List.range 4).any (fun b => m.badAt 2 (4 * e + b) 0)

/-- The accumulator that element (i, j) starts from. -/
def MxTask.start (m : MxTask) (i j : Nat) : Nat :=
  let e := i * mxN m.record + j
  if mxCin m.record then (if m.cinBad e then 0 else elem (kgetD m.data 2 0) e 32) else 0

/-- The accumulator of element (i, j) after the K-blocks that are folded, with its flags (13 R266). -/
def MxTask.acc (m : MxTask) (i j : Nat) : Nat × BitVec 6 :=
  (List.range m.folded).foldl (fun (a : Nat × BitVec 6) kb =>
    let r := m.fold1 i j kb a.1
    (r.1, a.2 ||| r.2)) (m.start i j, 0)

/-- Element (i, j) of the output, with its flags (13 R266). -/
def MxTask.cell (m : MxTask) (i j : Nat) : Nat × BitVec 6 :=
  let z := m.acc i j
  if mxOt m.record = 0 then z
  else
    let r := roundVal (if mxOt m.record = 1 then .bf16 else .f16) (mxOrm m.record) (fdec .f32 z.1)
    (r.1, z.2 ||| r.2)

/-- The output as bytes of its version, with the task's flags. -/
def MxTask.output (m : MxTask) : Nat × BitVec 6 :=
  let n := mxN m.record
  (List.range (mxM m.record * n)).foldl (fun (a : Nat × BitVec 6) e =>
    let r := m.cell (e / n) (e % n)
    (a.1 + r.1 * 2 ^ (mxOw m.record * e), a.2 ||| r.2)) (0, 0)

/-- The flags of the K-blocks that are folded. -/
def MxTask.accFlags (m : MxTask) : BitVec 6 :=
  let n := mxN m.record
  (List.range (mxM m.record * n)).foldl (fun (f : BitVec 6) e => f ||| (m.acc (e / n) (e % n)).2) 0

/-- Events of a task, one for each element of its folded K-blocks that was zeroed (13 R266).  ROW and COL count from the task's
operand region (log 64). -/
def MxTask.events (m : MxTask) : List UeEvent :=
  if m.bad = [] then []
  else
    let r := m.record
    let side : Bool → List UeEvent := fun b => (List.range (mxRows r b)).flatMap (fun row => (List.range (64 * m.folded)).filterMap (fun k =>
      let src := if mxInt r then (if (m.code' b row k).2 then (if b then 6 else 5) else 0) else (m.value b row k).2.2.2
      let kind : BitVec 4 := if src = 8 ∨ src = 9 then 3 else 1
      if src = 0 then none
      else
        let h := recIn r (if src = 8 ∨ src = 9 then 3 else if b then 1 else 0)
        some { where' := hName h, src := src, row := if b then k else row, col := if b then row else k, kind := kind }))
    let cin : List UeEvent := if mxCin r then (List.range (mxM r * mxN r)).filterMap (fun e =>
      if m.cinBad e then some { where' := hName (recIn r 2), src := 7, row := e / mxN r, col := e % mxN r, kind := 1 } else none) else []
    side false ++ side true ++ cin

/-- The tile fetch unit goes on with CHECK, or brings in the next K-block (13 R269, R270). -/
def execTileFetch (core : Nat) (s : State) : Host.Outcome State Fault Refusal :=
  match (s.core core).matrix with
  | none => .next s
  | some m =>
    if m.state = .run then
      if m.fetched < mxK m.record / 64 then
        .next (s.setMatrix core { m with fetched := m.fetched + 1, folded := max m.folded (m.fetched + 1 - 3) })
      else .next s
    else .next (s.mxCheck core)

/-- The output written at its home: at once on this die, else by requests. -/
def State.mxWrite (s : State) (m : MxTask) (v bytes : Nat) : List Nat × State :=
  let h := recOut m.record
  match s.nameHome m.ctx h with
  | .own => ([], (s.vstoreAt m.ctx h 0 bytes v m.replay).2)
  | .agent _ =>
    (List.range (ceilDiv bytes 512)).foldl (fun (acc : List Nat × State) k =>
      let r := acc.2.unitStore m.ctx h (.vstore h (512 * k) 512 (bitsOf (4096 * k + 4095) (4096 * k) v) m.replay)
      (acc.1 ++ [r.1], r.2)) ([], s)
  | .gone => ([], s)

/-- The last K-block is folded and the output rows are written (13 R266, R267). -/
def execMatrixFoldEnd (core : Nat) (s : State) : Host.Outcome State Fault Refusal :=
  match (s.core core).matrix with
  | some m =>
    if m.state = .run ∧ m.fetched = mxK m.record / 64 then
      let m := { m with folded := m.fetched }
      let z := m.output
      let r := s.mxWrite m z.1 (mxM m.record * mxN m.record * mxOw m.record / 8)
      .next (r.2.setMatrix core { m with state := .sealing, flags := z.2, writes := r.1, data := [], bad := [], ue := m.ue.add m.events })
    else .next s
  | none => .next s

/-- A consuming decrement of an input (10 R216; 13 R267). -/
def State.mxConsume (s : State) (ctx : Nat) (h : Word) : State :=
  match s.nameHome ctx h with
  | .own => s.vconsumeAt ctx h
  | .agent a => s.sendDecrement ctx h a
  | .gone => s

/-- Once the output is performed, OUT is sealed and the CONS decrements are made (13 R267). -/
def execMatrixSeal (core : Nat) (s : State) : Host.Outcome State Fault Refusal :=
  match (s.core core).matrix with
  | some m =>
    if m.state = .sealing && m.writes.all s.settled then
      let s := s.forget m.writes
      let s := s.outSeal m.ctx (recOut m.record) m.replay false (m.flags.toNat % 32) []
      let s := if mxCons m.record && !m.replay then
          (mxInputs m.record).foldl (fun (s : State) k => s.mxConsume m.ctx (recIn m.record k)) s
        else s
      .next (s.mxEnd core m)
    else .next s
  | none => .next s

/-- A matrix task of a FAULTED context has stopped at a K-block boundary; it is logged when an element was zeroed (13 R267). -/
def execMatrixStop (core : Nat) (s : State) : Host.Outcome State Fault Refusal :=
  match (s.core core).matrix with
  | some m =>
    if m.state = .stopped then
      let m := if m.bad = [] then m else { m with ue := m.ue.add m.events, flags := m.accFlags }
      .next ((s.mxLog core m).modCore core (fun k => { k with matrix := k.nextMatrix, nextMatrix := none }))
    else .next s
  | none => .next s

end Sys2Proof.Machine
end

