-- ==== Sys2Proof/Machine/HomeOps.lean ====
section
/-!
DEFINITION. What a request does at its home on this die: loads, stores and atomics of memory and of the register region,
the exchange banks, TLBI, chains; and the forms in which requests travel to other agents
(01 R18, R19, R428; 08 R165 to R172; 09 R192; 19 R379 to R385, R391 to R393).
-/

namespace Sys2Proof.Machine

/-! ### Forms of packets (19 R379 to R381) -/

/-- Where a request for pieces starts and the exponent of its size: one aligned piece travels alone, several as their
256-byte line; a load of HBM4 memory that fills the L1 takes its 32-byte line. -/
def pieceForm (ps : List Piece) (fill : Bool) : Nat × Nat :=
  match ps with
  | [] => (0, 3)
  | p :: rest =>
    let n := p.bits / 8
    if rest = [] ∧ fill ∧ p.pa % 2 ^ 42 < 2 ^ 40 then (p.pa / 32 * 32, 5)
    else if rest = [] ∧ p.bits % 8 = 0 ∧ n = 2 ^ n.log2 ∧ p.pa % n = 0 then (p.pa, n.log2)
    else (p.pa / 256 * 256, 8)

/-- A byte range's bytes with pieces of data laid over zeros, and the enables of each nibble. -/
def layPieces (base : Nat) (ps : List Piece) (data : Nat) : Nat × Nat :=
  ps.foldl (fun (acc : Nat × Nat) (p : Piece) =>
    let lo := 8 * (p.pa - base) + (if p.high then 4 else 0)
    (setBits (lo + p.bits - 1) lo acc.1 (p.of data), acc.2 ||| ((2 ^ (p.bits / 4) - 1) <<< (lo / 4)))) (0, 0)

/-- Byte enables of nibble enables in which no byte is half enabled. -/
def byteEnables (nib n : Nat) : Nat := (List.range n).foldl (fun e i => if nib.testBit (2 * i) then e + 2 ^ i else e) 0

/-- The WRITE of pieces at an agent (19 R380). -/
def writePacket (agent : Nat) (ps : List Piece) (data : Nat) (rel : Bool) : Packet :=
  let f := pieceForm ps false
  let z := layPieces f.1 ps data
  let nibbles := ps.any (fun (p : Piece) => p.bits == 4)
  { typ := 0x02, addr := BitVec.ofNat 64 (agent * 2 ^ 42 + f.1 % 2 ^ 42), lsz := f.2, rel := rel, nibbles := nibbles
    enables := if nibbles then z.2 else byteEnables z.2 (2 ^ f.2)
    data := bytesOf (2 ^ f.2) z.1 }

/-- Bytes over which the enabled parts of a WRITE are laid. -/
def overlay (old : List Byte) (p : Packet) : List Byte :=
  (List.range old.length).map (fun i =>
    let o := (old[i]?.getD 0).toNat
    let d := (p.data[i]?.getD 0).toNat
    if p.nibbles then
      BitVec.ofNat 8 ((if p.enables.testBit (2 * i) then d % 16 else o % 16) + 16 * (if p.enables.testBit (2 * i + 1) then d / 16 else o / 16))
    else if p.enables.testBit i then BitVec.ofNat 8 d else BitVec.ofNat 8 o)

/-! ### Memory and the register region -/

/-- A read of a piece on this die: its bits with the event of an uncorrectable or poisoned element, or a negative
acknowledgement (01 R18, R428; 08 R165; 09 R189; 12 R242). -/
def State.pieceRead (s : State) (ctx : Nat) (p : Piece) : Option (Nat × List UeEvent) :=
  let off := p.pa % 2 ^ 42
  let n := (p.bits + 7) / 8
  let zero : Nat × List UeEvent := (0, [{ where' := bitsOf 36 5 p.va, src := 3, row := 0, col := p.lane, kind := 1 }])
  let cut := fun (v : Nat) => (v >>> (if p.high then 4 else 0)) % 2 ^ p.bits
  if off + n ≤ s.memBytes then
    if p.poison || marked s.ueMem off n then some zero else some (cut (s.mem.readN off n), [])
  else if inRegs off then
    (if regServed (off - apRegs) n && p.bits != 4 then some (if p.poison then zero else (s.regRead (off - apRegs) n, [])) else none)
  else if apTask ≤ off ∧ off < apTask + 0x400000 then some (cut (s.recordBytes (some ctx) (off - apTask) n), [])
  else none

/-- A write of the register region by a slot or another die: the step it starts; a launch is posted in the name of the
writer's context (16 R315). -/
def State.startRegWrite (s : State) (ctx off n v : Nat) : State :=
  if off - apRegs = 0x300 ∧ n = 8 then s.putPost (BitVec.ofNat 64 v) ctx
  else s.start (.registerWrite (off - apRegs) n (BitVec.ofNat 64 v))

/-- A piece can be written on this die, or its write is dropped there. -/
def State.pieceServed (s : State) (p : Piece) : Bool :=
  let off := p.pa % 2 ^ 42
  let n := (p.bits + 7) / 8
  decide (off + n ≤ s.memBytes) || (inRegs off && regServed (off - apRegs) n && p.bits != 4) ||
    (decide (apTask ≤ off) && decide (off < apTask + 0x400400))

/-- A piece written on this die. -/
def State.pieceWrite (s : State) (ctx : Nat) (p : Piece) (data : Nat) : State :=
  let off := p.pa % 2 ^ 42
  let n := (p.bits + 7) / 8
  let v := p.of data
  if off + n ≤ s.memBytes then
    let old := s.mem.readN off n
    s.memWrite off (bytesOf n (if p.bits = 4 then (if p.high then setBits 7 4 old v else setBits 3 0 old v) else v))
  else if inRegs off then s.startRegWrite ctx off n v
  else if apTask + 0x400000 ≤ off then s.dropPost false
  else s

/-- The L1 line that a load fills, when its core still wants it (09 R174, R175). -/
def State.fillL1 (s : State) (m : Msg) (pa : Nat) (w : Bool) (bytes : List Byte) : State :=
  match m.sid with
  | some sid =>
    if sid < 2304 ∧ m.noFill = false then
      s.modCore (sid / 16) (fun k => k.l1Fill { line := pa / 32, ctx := m.ctx, w := w, bytes := bytes, page := m.page })
    else s
  | none => s

/-- A load of pieces performed on this die. -/
def State.loadHere (s : State) (rid : Nat) (m : Msg) (ps : List Piece) (fill : Option Bool) : State :=
  if ps.any (fun (p : Piece) => s.lineHeld p.pa) then s
  else
    let rs : List (Piece × Option (Nat × List UeEvent)) := ps.map (fun (p : Piece) => (p, s.pieceRead m.ctx p))
    if rs.any (fun (r : Piece × Option (Nat × List UeEvent)) => r.2.isNone) then s.nackMsg rid m
    else
      let v := rs.foldl (fun (a : Nat × List UeEvent) (r : Piece × Option (Nat × List UeEvent)) =>
        match r.2 with
        | some (x, ue) => (a.1 ||| (x <<< r.1.bit), a.2 ++ ue)
        | none => a) (0, [])
      let s := match fill with
        | some w =>
          (distinct (ps.map (fun (p : Piece) => p.pa / 32))).foldl (fun (s : State) n =>
            let off := n * 32 % 2 ^ 42
            if off + 32 ≤ s.memBytes ∧ !marked s.ueMem off 32 then s.fillL1 m (n * 32) w (bytesOf 32 (s.mem.readN off 32)) else s) s
        | none => s
      s.answerMsg rid m (s.overHeld m ps v.1) v.2

/-- Dies of a context's replica set other than this one that are up (08 R168). -/
def State.replicaDies (s : State) (ctx : Nat) : List Nat :=
  let c := s.ctx ctx
  (List.range 8).filterMap (fun i =>
    match (c.dies[i]?).join with
    | some a => if c.rep.testBit i && !s.isOwn a && s.agentUp a then some a else none
    | none => none)

/-- A message's pieces written at the first of its replicas still to be written (08 R168 item 2). -/
def State.sendReplica (s : State) (rid : Nat) (m : Msg) : State :=
  match m.dsts, m.op with
  | a :: _, .store ps data => s.sendPacket a rid m.ctx { writePacket a ps data false with prop := !m.held.isEmpty }
  | a :: _, .relay _ w _ =>
    s.sendPacket a rid m.ctx { w with addr := BitVec.ofNat 64 (a * 2 ^ 42 + w.addr.toNat % 2 ^ 42), prop := !m.held.isEmpty }
  | _, _ => s

/-- The last replica is written: the replicas serve reads of the lines again (08 R168 item 4).  A WRITE that enables
nothing says so (log 41). -/
def State.freeReplicas (s : State) (rid : Nat) (m : Msg) : State :=
  let lines := match m.op with | .store [] _ => [] | _ => m.held
  lines.foldl (fun (s : State) n =>
    (s.replicaDies m.ctx).foldl (fun (s : State) a =>
      s.sendPacket a rid m.ctx { typ := 0x02, addr := BitVec.ofNat 64 (a * 2 ^ 42 + n * 256 % 2 ^ 42), lsz := 8, prop := true }) s) s

/-- This die's replica of a line is written before others of the page: its reads wait (08 R168 item 4). -/
def State.holdLine (s : State) (p : Packet) : State :=
  let (r, s) := s.newId
  s.post r { sid := none, ctx := p.ctx, user := false, op := .store [] 0, pa := p.addr.toNat, after := [], dep := none, sent := true
             dsts := [p.src], held := [p.addr.toNat / 256] }

/-- Reads of the line wait no more for the oldest of its writes. -/
def State.freeLine (s : State) (p : Packet) : State :=
  match s.msgs.find? (fun (q : Nat × Msg) =>
      match q.2.op with | .store [] _ => q.2.held == [p.addr.toNat / 256] && q.2.dsts == [p.src] | _ => false) with
  | some q => s.unpost q.1
  | none => s

/-- A store or atomic of another die to a REPLICATED page has been performed here: the replicas are written, then it is
answered (08 R168 items 2 and 3). -/
def State.relay (s : State) (p w response : Packet) : State :=
  let dies := if p.repl then s.replicaDies p.ctx else []
  if dies = [] then s.respond p response
  else
    let (r, s) := s.newId
    let m : Msg := { sid := none, ctx := p.ctx, user := false, op := .relay p w response, pa := p.addr.toNat, after := [], dep := none
                     sent := true, dsts := dies, held := if p.prop then [p.addr.toNat / 256] else [] }
    (s.post r m).sendReplica r m

/-- The store of a replicated page goes on to the replicas, with reads of its lines held where PROP is 1 (08 R168). -/
def State.replicate (s : State) (rid : Nat) (m : Msg) (ps : List Piece) : State :=
  let dies := if m.replicated then s.replicaDies m.ctx else []
  if dies = [] then s.ackMsg rid m 0
  else
    let m := { m with sent := true, dsts := dies, dieDone := true
                      held := if m.prop then distinct (ps.map (fun (p : Piece) => p.pa / 256)) else [] }
    (s.post rid m).sendReplica rid m

/-- A store of pieces performed on this die; steps that it starts in the register region follow in lane order. -/
def State.storeHere (s : State) (rid : Nat) (m : Msg) (ps : List Piece) (data : Nat) : State :=
  if !ps.all (fun (p : Piece) => s.pieceServed p) then s.nackMsg rid m
  else
    let s := ps.reverse.foldl (fun (s : State) (p : Piece) => if inRegs (p.pa % 2 ^ 42) then s.pieceWrite m.ctx p data else s) s
    let s := ps.foldl (fun (s : State) (p : Piece) => if inRegs (p.pa % 2 ^ 42) then s else s.pieceWrite m.ctx p data) s
    s.replicate rid m ps

/-- The value an atomic writes, if it writes (09 R192). -/
def amoNew (op : AmoOp) (w old y : Nat) : Option Nat :=
  let b := 8 * w
  match op with
  | .add => some ((old + y) % 2 ^ b)
  | .and => some (old &&& y)
  | .or => some (old ||| y)
  | .xor => some (old ^^^ y)
  | .min => some (if sextNat y b < sextNat old b then y else old)
  | .max => some (if sextNat old b < sextNat y b then y else old)
  | .minn => some (min old y)
  | .maxn => some (max old y)
  | .swap => some y
  | .cas e => if old = e then some y else none

/-- The value an atomic leaves at a location, if it writes: an uncorrectable one is always written (09 R192). -/
def amoLeaves (op : AmoOp) (w old y : Nat) (bad : Bool) : Option Nat := (amoNew op w old y).orElse (fun _ => if bad then some old else none)

/-- An atomic's location in memory of this die is uncorrectable. -/
def State.amoBad (s : State) (off w : Nat) : Bool := decide (off + w ≤ s.memBytes) && marked s.ueMem off w

/-- An atomic on memory or a register of this die: the old value with its event, and the die after it; none where no
block serves it. -/
def State.amoAt (s : State) (ctx off va : Nat) (op : AmoOp) (w y : Nat) : Option (Nat × List UeEvent × State) :=
  if off + w ≤ s.memBytes then
    let bad := marked s.ueMem off w
    let old := if bad then 0 else s.mem.readN off w
    let ue : List UeEvent := if bad then [{ where' := bitsOf 36 5 va, src := 3, row := 0, col := 0, kind := 1 }] else []
    some (old, ue, match amoLeaves op w old y bad with | some v => s.memWrite off (bytesOf w v) | none => s)
  else if inRegs off ∧ regServed (off - apRegs) w then
    let old := s.regRead (off - apRegs) w
    some (old, [], match amoNew op w old y with | some v => s.startRegWrite ctx off w v | none => s)
  else none

/-- An atomic performed on this die (09 R192); on a REPLICATED page its new value goes to the replicas (08 R168). -/
def State.amoHere (s : State) (rid : Nat) (m : Msg) (op : AmoOp) (w y : Nat) : State :=
  if s.lineHeld m.pa then s
  else
    let bad := s.amoBad (m.pa % 2 ^ 42) w
    match s.amoAt m.ctx (m.pa % 2 ^ 42) m.va op w y with
    | none => s.nackMsg rid m
    | some (old, ue, s) =>
      let s := match m.dep with
        | some d => s.modDep d (fun x => x.answer old ue)
        | none => s
      let m := { m with dep := none }
      match amoLeaves op w old y bad with
      | some v =>
        let ps : List Piece := [{ pa := m.pa, bit := 0, bits := 8 * w, high := false, lane := 0, va := 0, poison := false }]
        (s.post rid { m with op := .store ps v }).replicate rid { m with op := .store ps v } ps
      | none => s.unpost rid

/-- Operation code of an atomic in a packet (19 R381 item 1, 09 R191). -/
def AmoOp.code : AmoOp → Nat
  | .add => 0 | .and => 1 | .or => 2 | .xor => 3 | .min => 4 | .max => 5 | .minn => 6 | .maxn => 7 | .swap => 8 | .cas _ => 9

/-- The operation of a packet. -/
def amoOfPacket (p : Packet) : AmoOp := if p.op % 256 = 9 then .cas p.arg2.toNat else amoOpOf (p.op % 256)

/-- Second argument beat of an atomic: what CAS expects. -/
def AmoOp.second : AmoOp → Nat
  | .cas e => e
  | _ => 0

/-! ### The local memory window (01 R17, R20) -/

/-- A slot runs on a core: on its place, or as the checker of its pair, which runs the leader's slots (21 R406). -/
def Slot.runsOn (x : Slot) (sid core : Nat) : Bool := sid / 16 == core || (x.pairMode && sid / 32 == core / 2)

/-- A slot is resident on a core. -/
def State.occupied (s : State) (core : Nat) : Bool := s.slots.any (fun (p : Nat × Slot) => p.2.runsOn p.1 core)

/-- The core whose copy of an offset is the current one: the scratchpad and banks of a checker are kept with its leader (21 R406). -/
def State.holder (s : State) (core a : Nat) : Nat :=
  let k := s.core (core / 2 * 2)
  if decide (k.xbound ≤ a) && decide (a < k.ltop + 4096 * k.shad) && s.slots.any (fun (p : Nat × Slot) => p.2.pairMode && p.1 / 32 == core / 2) then core / 2 * 2
  else core

/-- Bytes of the local memory window: core and offset of each; no answer from a fused core (log 47). -/
def State.hostLocalRead (s : State) (o size : Nat) : Option (List Byte) :=
  if (List.range size).any (fun i => s.fused ((o + i) / 0x100000)) then none
  else some ((List.range size).map (fun i =>
    let a := (o + i) % 0x100000
    (s.core (s.holder ((o + i) / 0x100000) a)).loc.read a))

/-- Bytes of a core's local memory that are in the range of a SEALED kernel loaded there (14 R290 item 1). -/
def State.sealedAt (s : State) (core a n : Nat) : Bool :=
  s.kn.kernels.any (fun k => k.state == .sealed && k.holdsCore core && decide (a < k.range.2) && decide (k.range.1 < a + n))

/-- A host write within one core's part of the local memory window: applied, or ignored and logged; the record has SRC 0 and
CTX 0, the host having neither (01 R20; 14 R290; 21 R418; log 47). -/
def State.hostLocalWrite (s : State) (o : Nat) (data : List Byte) : State :=
  let core := o / 0x100000
  if s.occupied core || s.sealedAt core (o % 0x100000) data.length then s.monLog (BitVec.ofNat 64 (s.ownAgent * 2 ^ 42 + apLocal + o)) 0 0 0 1
  else s.locWrite core (o % 0x100000) data

/-! ### Exchange banks (19 R391, R392) -/

/-- A core accepts an access of `w` bytes at a bank offset for a context. -/
def State.bankOk (s : State) (ctx core off w : Nat) : Bool :=
  s.coreUp core && s.slots.any (fun (p : Nat × Slot) => p.1 / 16 == core && p.2.ctx == ctx) && decide (0 < (s.core core).shad) &&
    decide (off + w ≤ 4096 * (s.core core).shad)

/-- Local offset of a bank's byte: the active bank lies below LTOP, the shadow bank from it on (09 R181). -/
def CoreSt.bankAt (k : CoreSt) (shadow : Bool) (off : Nat) : Nat := (if shadow then k.ltop else k.ltop - 4096 * k.shad) + off

/-- An access to a bank of a core of this die: RLD, RST or RAMO; the value read with its event. -/
def State.bankDo (s : State) (core kind off w : Nat) (op : AmoOp) (y : Nat) : Nat × List UeEvent × State :=
  let k := s.core core
  let a := k.bankAt (kind == 1) off
  let bad := marked k.ueLoc a w
  let old := if bad then 0 else k.loc.readN a w
  let ue : List UeEvent := if bad then [{ where' := bitsOf 36 5 a, src := 2, row := 0, col := 0, kind := 1 }] else []
  if kind = 0 then (old, ue, s)
  else if kind = 1 then (0, [], s.locWrite core a (bytesOf w y))
  else (old, ue, match amoLeaves op w old y bad with | some v => s.locWrite core a (bytesOf w v) | none => s)

/-- RLD, RST or RAMO of a slot (19 R391, R392). -/
def State.remoteHome (s : State) (rid : Nat) (m : Msg) (kind : Nat) (x : Word) (off w : Nat) (op : AmoOp) (data : Nat) : State :=
  let agent := bitsOf 34 25 x.toNat
  let core := bitsOf 24 17 x.toNat
  match s.homeOf agent with
  | .own =>
    if !s.bankOk m.ctx core off w then s.nackMsg rid m
    else
      let r := s.bankDo core kind off w op data
      if kind = 1 then r.2.2.ackMsg rid m 0 else r.2.2.answerMsg rid m r.1 r.2.1
  | .agent a =>
    if !s.isCompute a || decide (2 ^ 17 ≤ off) then s.nackMsg rid m
    else
      let addr := BitVec.ofNat 64 (a * 2 ^ 25 + core * 2 ^ 17 + off)
      let p : Packet := { typ := kind + 1, space := 2, addr := addr, lsz := w.log2 }
      if kind = 0 then s.sendMsg rid m a p
      else if kind = 1 then s.sendMsg rid m a { p with data := bytesOf w data, enables := 2 ^ w - 1, rel := m.rel }
      else s.sendMsg rid m a { p with op := op.code, arg1 := BitVec.ofNat 64 data }
  | .gone => s.nackMsg rid m

/-! ### TLBI (08 R172) -/

/-- An entry that a TLBI drops: scope 0 one address, 1 a context, 2 all. -/
def TlbEntry.dropped (e : TlbEntry) (scope va ctx : Nat) : Bool :=
  scope == 2 || (e.ctx == ctx && (scope == 1 || e.covers ctx va))

/-- A table entry that a TLBI drops from the walk cache. -/
def WEntry.dropped (q : WEntry) (scope va ctx : Nat) : Bool :=
  scope == 2 || (q.ctx == ctx && (scope == 1 || q.at' == va >>> (12 + 9 * q.level)))

/-- A page of a context, given by its first page number of 4 KiB and how many, is one that a TLBI names; (0, 0) stands for no
page. -/
def pageHit (scope va ctx pctx : Nat) (p : Nat × Nat) : Bool :=
  p.2 != 0 && (scope == 2 || (pctx == ctx && (scope == 1 || (decide (p.1 ≤ va / 4096) && decide (va / 4096 < p.1 + p.2)))))

/-- Cached translations dropped and the results of walks in flight marked to be discarded. -/
def State.tlbDrop (s : State) (scope va ctx : Nat) (lines : Bool) : State :=
  let s := { s with
    pg := { s.pg with
      tlb := kmap s.pg.tlb (fun _ l => l.filter (fun e => !e.dropped scope va ctx))
      unitTlb := s.pg.unitTlb.filter (fun p => !p.2.dropped scope va ctx)
      wcache := s.pg.wcache.filter (fun q => !q.dropped scope va ctx)
      walks := kmap s.pg.walks (fun _ w => if scope = 2 ∨ w.ctx = ctx then { w with stale := true } else w) }
    slots := kmap s.slots (fun _ x => if scope = 2 ∨ x.ctx = ctx then { x with xlat := [] } else x) }
  if !lines then s
  else
    -- lines that were cached under the dropped leaves leave the L1s, and those on their way are not installed (11 R234 item 5)
    { s with
      cores := kmap s.cores (fun _ k => { k with l1 := k.l1.filter (fun q => q.ver.isSome || !pageHit scope va ctx q.ctx q.page) })
      msgs := kmap s.msgs (fun _ m => if m.isLoad && pageHit scope va ctx m.ctx m.page then { m with noFill := true } else m) }

/-- Accesses on their way that a dropped entry translated. -/
def State.tlbUsers (s : State) (scope va ctx : Nat) : List Nat :=
  (s.msgs.filter (fun (p : Nat × Msg) => pageHit scope va ctx p.2.ctx p.2.page)).map (fun p => p.1)

/-- Other dies of a context's namespace map that are up. -/
def State.mapDies (s : State) (ctx : Nat) : List Nat :=
  distinct ((s.ctx ctx).nsmap.filterMap (fun a => match a with | some n => if !s.isOwn n && s.agentUp n then some n else none | none => none))

/-- TLBI at work: scope bits [1:0], WIDE in bit 2; bit 3 says that this die has dropped its entries. -/
def State.tlbiHome (s : State) (rid : Nat) (m : Msg) (k : Nat) (va : Word) (ctx : Nat) : State :=
  let scope := k % 4
  let wide := k.testBit 2
  if !k.testBit 3 then
    let users := s.tlbUsers scope va.toNat ctx
    (s.tlbDrop scope va.toNat ctx wide).modMsg rid (fun x => { x with op := .tlbi (k + 8) va ctx, after := users })
  else
    let dies := if wide then s.mapDies ctx else []
    if dies = [] then s.ackMsg rid m 0
    else
      let s := dies.foldl (fun (s : State) a => s.sendPacket a rid ctx { typ := 0x03, space := 3, addr := 1, op := scope, arg1 := va }) s
      s.modMsg rid (fun x => { x with sent := true, dsts := dies })

/-! ### Chains (19 R385, R393) -/

/-- The answer to a chain: to the slot's own MCST, or to the agent that sent it. -/
def State.chainAnswer (s : State) (tag src ctx mask : Nat) : State :=
  if s.isOwn src then
    match kget s.msgs tag with
    | none => s
    | some m =>
      match m.op with
      | .mcst off _ agents =>
        if mask = 0 then s.ackMsg tag m 0
        else
          let j := ((List.range 6).find? (fun i => mask.testBit i)).getD 0
          s.nackMsg tag { m with nackVal := BitVec.ofNat 64 ((agents[j]?.getD 0) * 2 ^ 42 + off) }
      | _ => s
  else s.out (.packet { typ := 0x0D, rsp := true, vc := 2, dst := src, src := s.ownAgent, tag := tag, ctx := ctx, op := mask })

/-- The block is written on this die, or its position marked in the mask (01 R18, 18 R350). -/
def State.chainWrite (s : State) (ctx off : Nat) (data : List Byte) (pos mask : Nat) : Nat × State :=
  if (s.ctx ctx).state.admitted' && decide (off + 512 ≤ s.memBytes) then (mask, s.memWrite off data) else (mask ||| 2 ^ pos, s)

/-- A chain goes on from this die: agents still to be written, position of the first, failed positions. -/
def State.chainOn (s : State) (tag src ctx off : Nat) (data : List Byte) : List Nat → Nat → Nat → State
  | [], _, mask => s.chainAnswer tag src ctx mask
  | a :: rest, pos, mask =>
    if s.isOwn a then
      let r := s.chainWrite ctx off data pos mask
      State.chainOn r.2 tag src ctx off data rest (pos + 1) r.1
    else if s.agentUp a then
      s.out (.packet { typ := 0x0D, vc := 2, dst := a, src := src, tag := tag, ctx := ctx, addr := BitVec.ofNat 64 off, data := data,
                       agents := rest, pos := pos, op := mask })
    else State.chainOn s tag src ctx off data rest (pos + 1) (mask ||| 2 ^ pos)

/-- A request of a context that is not admitted is answered with NACK CTX (18 R350). -/
def State.admits (s : State) (ctx : Nat) : Bool := (s.ctx ctx).state.admitted'

end Sys2Proof.Machine
end

