-- ==== Sys2Proof/Machine/Home.lean ====
section
/-!
DEFINITION. Meanings of the steps in which requests are performed at their home, answered, refused and sent again, and
of the packets that bring requests and answers of other dies (04 R88; 08 R168, R172; 10 R212, R217; 19 R375, R379 to R385,
R391 to R393).
-/

namespace Sys2Proof.Machine

/-! ### A slot's or unit's own request (HOME_ACCESS) -/

/-- A spill-heap image enters an inbox that has room; the spill thread goes on (12 R258 item 6). -/
def State.heapTake (s : State) (rid : Nat) (m : Msg) (core image : Nat) : State :=
  if 64 ≤ s.inboxHeld core then s.modMsg rid (fun x => { x with sent := false, dsts := [], op := .heapHeld core image })
  else
    let s := s.modCore core (fun k =>
      let h := k.heapOf m.ctx
      { k with heap := kset k.heap m.ctx (h.1 + 1, h.2) })
    (s.enterInbox core (entryOfImage image)).ackMsg rid m 0

/-- A record posted by TASK enters the pool, or finds it full (12 R241). -/
def State.taskHome (s : State) (rid : Nat) (m : Msg) (r : Nat) : State :=
  match s.postRecord m.ctx r none with
  | (some i, t) => t.answerMsg rid m (t.taskHandle i).toNat []
  | (none, t) => t.setPoolFull.failMsg rid m { cause := .taskFull, tval := 0 }

/-- An 8-byte store of a slot at an aperture of this die other than a FIFO's or channel's push port, which rows of their
own serve. -/
def State.pushHome (s : State) (rid : Nat) (m : Msg) (pa : Nat) (v : Word) : State :=
  match s.portAway rid m pa { typ := 0x02, data := bytesOf 8 v.toNat, enables := 0xFF, rel := m.rel } with
  | some t => t
  | none =>
    if apBte ≤ pa % 2 ^ 42 then s else s.portStore m.ctx (pa % 2 ^ 42) (.own rid)

/-- An 8-byte load of a slot at an aperture of this die other than a FIFO's. -/
def State.popHome (s : State) (rid : Nat) (m : Msg) (pa : Nat) (nw pope : Bool) : State :=
  match s.portAway rid m pa { typ := 0x01, op := if pope then (if nw then 3 else 1) else 0 } with
  | some t => t
  | none =>
    let off := pa % 2 ^ 42
    if apFifo ≤ off then s
    else if pope then s.portPope m.ctx off nw (.own rid)
    else
      let r := s.portLoad m.ctx false off
      r.2.portAnswer (.own rid) false r.1

/-- GETT of another agent's time, or of this die's (19 R394). -/
def State.gettHome (s : State) (rid : Nat) (m : Msg) (agent : Nat) : State :=
  match s.homeOf agent with
  | .own => s.answerMsg rid m s.now []
  | .agent a => s.sendMsg rid m a { typ := 0x0B, vc := 2, arg1 := BitVec.ofNat 64 s.now }
  | .gone => s.nackMsg rid m

/-- A group's exit report goes to its leader or deputy (16 R323). -/
def State.reportHome (s : State) (rid : Nat) (m : Msg) (p : Packet) : State :=
  match s.homeOf p.dst with
  | .own => (s.unpost rid).start (.exitReport { p with src := s.ownAgent, ctx := m.ctx })
  | .agent a => s.sendMsg rid m a p
  | .gone => s.unpost rid

/-- The deputy has acknowledged an update, or is gone: the deal that waited for it is sent (16 R323 item 1). -/
def State.mirrored (s : State) (rid : Nat) (deal : Option Packet) : State :=
  match deal with
  | some d => (s.unpost rid).sendDeal d
  | none => s.unpost rid

/-- A report has been taken; a leader that no longer has the launch says so, and this die reports to it no more. -/
def State.reported (s : State) (rid : Nat) (p : Packet) (answer : Nat) : State :=
  if p.addr = 3 ∧ answer ≠ 0 then
    { (s.unpost rid) with gr := { s.gr with parts := s.gr.parts.filter (fun q => !(q.leader == p.dst && q.launch == p.arg1.toNat)) } }
  else s.unpost rid

/-- A request of the die performed at its home on this die, or sent to the agent that is its home (01 R15, R18; 08 R165,
R167, R168; 09 R178, R179, R192; 11 R222, R224; 19 R381). -/
def State.homeAct (s : State) (rid : Nat) (m : Msg) : State :=
  match m.op with
  | .load ps fill =>
    match s.homeOf (m.pa / 2 ^ 42) with
    | .own => s.loadHere rid m ps fill
    | .agent a => let f := pieceForm ps fill.isSome; s.sendMsg rid m a { typ := 0x01, addr := BitVec.ofNat 64 f.1, lsz := f.2 }
    | .gone => s.nackMsg rid m
  | .store ps data =>
    match s.homeOf (m.pa / 2 ^ 42) with
    | .own => s.storeHere rid m ps data
    | .agent a => s.sendMsg rid m a { writePacket a ps data m.rel with repl := m.replicated, prop := m.prop }
    | .gone => s.nackMsg rid m
  | .amo op w y =>
    match s.homeOf (m.pa / 2 ^ 42) with
    | .own => s.amoHere rid m op w y
    | .agent a =>
      s.sendMsg rid m a { typ := 0x03, addr := BitVec.ofNat 64 m.pa, lsz := w.log2, rel := m.rel, op := op.code,
                          arg1 := BitVec.ofNat 64 y, arg2 := BitVec.ofNat 64 op.second, repl := m.replicated, prop := m.prop }
    | .gone => s.nackMsg rid m
  | .push pa v => s.pushHome rid m pa v
  | .pop pa nw pope => s.popHome rid m pa nw pope
  | .heapRead core =>
    match s.homeOf (m.pa / 2 ^ 42) with
    | .own =>
      if s.memBytes < m.pa % 2 ^ 42 + 256 then s.nackMsg rid m
      else if 64 ≤ s.inboxHeld core || s.lineHeld m.pa then s
      else s.heapTake rid m core (s.mem.readN (m.pa % 2 ^ 42) 256)
    | .agent a => s.sendMsg rid m a { typ := 0x01, addr := BitVec.ofNat 64 m.pa, lsz := 8 }
    | .gone => s.nackMsg rid m
  | .heapHeld core image => if 64 ≤ s.inboxHeld core then s else s.heapTake rid m core image
  | .task r => s.taskHome rid m r
  | .remote kind x off w op data => s.remoteHome rid m kind x off w op data
  | .mcst off data agents =>
    (s.modMsg rid (fun x => { x with sent := true, dsts := agents })).chainOn rid s.ownAgent m.ctx off (bytesOf 512 data) agents 0 0
  | .gett agent => s.gettHome rid m agent
  | .tlbi k va ctx => s.tlbiHome rid m k va ctx
  | .report p => s.reportHome rid m p
  | .relay p _ response => (s.unpost rid).respond p response
  | .mirror _ p deal =>
    match s.homeOf p.dst with
    | .agent a => s.sendMsg rid m a p
    | _ => s.mirrored rid deal
  | .query _ p =>
    match s.homeOf p.dst with
    | .agent a => s.sendMsg rid m a p
    | _ => s.start (.leaderQuery { p with rsp := true, src := s.ownAgent, tag := rid, data := [] })
  | _ => s

/-- HOME_ACCESS. -/
def execHomeAccess (rid : Nat) (s : State) : Host.Outcome State Fault Refusal :=
  match s.ready rid with
  | some m => .next (s.homeAct rid m)
  | none => .next s

/-! ### Replies (DEPOSIT) -/

/-- A load's pieces picked from the bytes that answer it, which start at `base`. -/
def pickPieces (base : Nat) (ps : List Piece) (v : Nat) : Nat × List UeEvent :=
  ps.foldl (fun (a : Nat × List UeEvent) (p : Piece) =>
    if p.poison then (a.1, a.2 ++ [{ where' := bitsOf 36 5 p.va, src := 3, row := 0, col := p.lane, kind := 1 }])
    else (a.1 ||| (((v >>> (8 * (p.pa - base) + if p.high then 4 else 0)) % 2 ^ p.bits) <<< p.bit), a.2)) (0, [])

/-- A response from another agent answers the request that it repeats the TAG of. -/
def State.takeResponse (s : State) (rid : Nat) (m : Msg) (bytes : List Byte) : State :=
  let v := ofBytes bytes
  match m.op with
  | .load ps fill =>
    let f := pieceForm ps fill.isSome
    let r := pickPieces f.1 ps v
    let s := match fill with
      | some w => if f.2 = 5 && r.2.isEmpty then s.fillL1 m f.1 w (bytesOf 32 v) else s
      | none => s
    s.answerMsg rid m (s.overHeld m ps r.1) r.2
  | .amo _ w _ => s.answerMsg rid m (v % 2 ^ (8 * w)) []
  | .remote _ _ _ w _ _ => s.answerMsg rid m (v % 2 ^ (8 * w)) []
  | .heapRead core => s.heapTake rid m core v
  | _ => s.answerMsg rid m (v % 2 ^ 64) []

/-- A deposit whose requests are all answered is made at once, unless its slot is saved (18 R363). -/
def State.depositDone (s : State) (d : Nat) : State :=
  match kget s.deps d with
  | some x =>
    if x.outstanding = 0 ∧ x.sid < 2304 then
      let t := s.deposit d x
      -- the deposit of an acquire, a barrier's release time among them (17 R339 item 2)
      if x.acq then t.dropWritable (x.sid / 16) else t
    else s
  | none => s

/-- The answer of the agent that a request went to has come (19 R387). -/
def State.hearFrom (s : State) (m : Msg) : State := match m.dsts with | a :: _ => s.hear a | [] => s

/-- DEPOSIT: of a reply that is complete, or of one that a response from another agent brings (04 R88). -/
def execDeposit (rid : Nat) (response : Option (List Byte)) (s : State) : Host.Outcome State Fault Refusal :=
  match response with
  | none => .next (s.depositDone rid)
  | some bytes =>
    match kget s.msgs rid with
    | some m =>
      if !m.sent then .next s
      else
        let t := (s.hearFrom m).takeResponse rid m bytes
        .next (match m.dep with | some d => t.depositDone d | none => t)
    | none => .next s

/-! ### Acknowledgements -/

/-- The answer to a request on which a slot is STALLED: it goes on, or traps at the instruction (01 R18; 10 R207;
17 R336, R337). -/
def State.endStall (s : State) (rid : Nat) (m : Msg) (code : Nat) : State :=
  let t := s.unpost rid
  match m.sid with
  | none => t
  | some sid =>
    match s.slot sid with
    | none => t
    | some x =>
      match x.status with
      | .stalled (.answer r n u) =>
        if r ≠ rid then t
        else
          let y := { x with xlat := [] }
          if code = 0 then t.setSlot sid (y.goOn s.t.cycle n u)
          else if code = ackBack then t.setSlot sid { y with status := .ready }
          else if code = ackNack then t.takeTrap sid y .remoteNack m.nackVal false
          else match m.op with
            | .vopen h .. => t.takeTrap sid y .versionExists (versionTval h code) false
            | .barrier _ h _ _ _ _ => t.takeTrap sid y .barrierBroken (barrierTval h code) false
            | _ => t.setSlot sid (y.goOn s.t.cycle n u)
      | _ => t

/-- The same, for a slot on a pair at its checkpoint too, where it stands as it does now (21 R407). -/
def State.endStallPair (s : State) (rid : Nat) (m : Msg) (code : Nat) : State :=
  let t := s.endStall rid m code
  match m.sid with
  | some sid =>
    match t.slot sid with
    | some y => if y.pairMode then t.modHeld sid (fun _ => y) else t
    | none => t
  | none => t

/-- A completion from one of the agents that a request was sent to. -/
def State.takeAck (s : State) (rid : Nat) (m : Msg) (answer : Nat) : State :=
  let rest := m.dsts.drop 1
  match m.op with
  | .store .. =>
    if rest = [] then (s.freeReplicas rid m).ackMsg rid m 0
    else let m := { m with dsts := rest }; (s.post rid m).sendReplica rid m
  | .relay p _ response =>
    if rest = [] then ((s.freeReplicas rid m).unpost rid).respond p response
    else let m := { m with dsts := rest }; (s.post rid m).sendReplica rid m
  | .tlbi .. => if rest = [] then s.ackMsg rid m 0 else s.modMsg rid (fun x => { x with dsts := rest })
  | .vopen .. => s.ackMsg rid m answer
  | .vstore h _ _ _ _ => s.versionDone rid m h answer
  | .vseal h _ _ _ => s.versionDone rid m h answer
  | .vacc h _ _ _ _ => s.versionDone rid m h answer
  | .vref h _ _ => s.versionDone rid m h answer
  | .vrel h _ _ => s.versionDone rid m h answer
  | .barrier _ h _ _ _ _ =>
    if m.stalls || answer == 0 then s.ackMsg rid m answer else s.failMsg rid m (barrierFault h answer)
  | .mcst .. => s.chainAnswer rid s.ownAgent m.ctx answer
  | .notice .. => s.unpost rid
  | .proxy .. => s.unpost rid
  | .vconsume .. => s.unpost rid
  | .report p => s.reported rid p answer
  | .mirror _ _ deal => s.mirrored rid deal
  | .push .. => s.ackMsg rid m (if answer = ackBack then ackBack else 0)
  | _ => s.ackMsg rid m 0

/-- ACKNOWLEDGEMENT: the answer that a stalled slot's request has received, or a completion from another agent
(08 R168, R172; 09 R186, R193; 10 R207; 13 R281; 17 R335; 19 R393). -/
def execAcknowledgement (rid answer : Nat) (s : State) : Host.Outcome State Fault Refusal :=
  match kget s.msgs rid with
  | none => .next s
  | some m =>
    match m.answer with
    | some code => .next (if m.sid.isSome then s.endStallPair rid m code else s)
    | none => .next (if m.sent then (s.hearFrom m).takeAck rid m answer else s)

/-! ### Negative acknowledgements and re-sending (19 R382) -/

/-- A VSUB or VFETCH of the die's proxy put on its way (10 R212). -/
def State.askHome (s : State) (ctx : Nat) (h : Word) (fetch : Bool) (gen agent : Nat) : State :=
  let (r, s) := s.newId
  let m : Msg := { sid := none, ctx := ctx, user := false, op := .proxy h fetch, pa := 0, after := [], dep := none, sent := true, dsts := [agent] }
  (s.post r m).sendPacket agent r ctx { typ := if fetch then 0x05 else 0x06, space := 1, addr := h, arg1 := BitVec.ofNat 64 gen }

/-- A proxy's copy is lost with its home: its waiters are refused (10 R212). -/
def State.refuseProxy (s : State) (ctx : Nat) (h : Word) : State :=
  match s.proxy ctx h with
  | some p => (p.waiters.foldl (fun (s : State) (w : Waiter) => s.refuseWaiter h w) s).dropProxy ctx h
  | none => s

/-- A NACK other than RETRY ends a request. -/
def State.endNacked (s : State) (rid : Nat) (m : Msg) : State :=
  match m.op with
  | .notice .. => s.unpost rid
  | .proxy h _ => (s.unpost rid).refuseProxy m.ctx h
  | .vconsume .. => s.unpost rid
  | .report .. => s.unpost rid
  | .mirror _ _ deal => s.mirrored rid deal
  | .query _ p => s.start (.leaderQuery { p with rsp := true, src := s.ownAgent, tag := rid, data := [] })
  | .steal .. => s.unpost rid
  | .tlbi .. => s.takeAck rid m 0
  | .store .. => if s.local' m.pa then s.takeAck rid m 0 else s.nackMsg rid m
  | .relay .. => s.takeAck rid m 0
  | _ => s.nackMsg rid m

/-- NACK (01 R18; 10 R196; 12 R255; 18 R350; 19 R375, R382). -/
def State.nackIn (s : State) (p : Packet) : State :=
  match kget s.msgs p.tag with
  | none => s
  | some m =>
    if !m.sent then s
    else if p.addr.toNat % 256 = 7 then s.modMsg p.tag (fun x => { x with retryAt := some (s.t.cycle + 1250) })
    else s.endNacked p.tag m

/-- NACK. -/
def execNack (p : Packet) (s : State) : Host.Outcome State Fault Refusal := .next (s.packetIn p (fun s => s.nackIn p))

/-- A request refused with RETRY is sent again: a replica's WRITE, a proxy's VSUB or VFETCH, else the request as it was
first sent (19 R382). -/
def execRetryResend (rid : Nat) (s : State) : Host.Outcome State Fault Refusal :=
  match kget s.msgs rid with
  | none => .next s
  | some m =>
    match m.retryAt with
    | none => .next s
    | some c =>
      let n := { m with retryAt := none }
      match m.op with
      | .notice .. => .next s
      | .proxy h fetch =>
        if s.t.cycle < c then .next s
        else .next ((s.post rid n).sendPacket (m.dsts.headD 0) rid m.ctx
          { typ := if fetch then 0x05 else 0x06, space := 1, addr := h, arg1 := BitVec.ofNat 64 (((s.proxy m.ctx h).map ProxyCopy.gen).getD 0) })
      | .store .. =>
        if s.t.cycle < c then .next s
        else if s.local' m.pa then .next ((s.post rid n).sendReplica rid n)
        else .next (s.post rid { n with sent := false, dsts := [] })
      | .relay .. => if s.t.cycle < c then .next s else .next ((s.post rid n).sendReplica rid n)
      | .tlbi .. =>
        if s.t.cycle < c then .next s
        else .next (s.post rid { n with sent := false, dsts := [] })
      | _ => if s.t.cycle < c then .next s else .next (s.post rid { n with sent := false, dsts := [] })

/-- Every 2 µs a VNOTICE that is not yet acknowledged is sent again (19 R384 item 2); one whose die is FENCED or DOWN
counts as acknowledged. -/
def execVnoticeResend (s : State) : Host.Outcome State Fault Refusal :=
  .next (s.msgs.foldl (fun (s : State) (p : Nat × Msg) =>
    match p.2.op, p.2.retryAt with
    | .notice h agent reclaim, some c =>
      if s.t.cycle < c then s
      else if !s.agentUp agent then s.unpost p.1
      else match s.version p.2.ctx h with
        | some v =>
          (s.modMsg p.1 (fun m => { m with retryAt := some (s.t.cycle + 2500) })).sendPacket agent p.1 v.ctx (v.notice reclaim)
        | none => s.unpost p.1
    | _, _ => s) s)

/-! ### Requests of other agents (19 R375, R380, R381) -/

/-- A request of another agent waits at this die and is looked at again in every cycle. -/
def State.holdPacket (s : State) (p : Packet) : State := { s with lk := { s.lk with pktHeld := s.lk.pktHeld ++ [p] } }

/-- Agent, core and offset of a remote address (19 R391). -/
def bankCore (a : Word) : Nat := bitsOf 24 17 a.toNat
def bankOff (a : Word) : Nat := bitsOf 16 0 a.toNat

/-- READ.  Of the three kinds of request, only those for versions depend on the context being admitted here (18 R350)
(01 R18; 10 R215; 18 R350; 19 R380, R381, R392). -/
def State.readIn (s : State) (p : Packet) : State :=
  let off := p.addr.toNat % 2 ^ 42
  let n := 2 ^ p.lsz
  if p.space = 1 && !s.admits p.ctx then s.refusePacket p 4
  else if p.space = 0 then
    if off + n ≤ s.memBytes then
      if s.lineHeld p.addr.toNat then s.holdPacket p else s.respond p { typ := 0x01, data := (s.memBytesUe off n).1 }
    else if inAperture off then
      if n ≠ 8 ∨ off % 8 ≠ 0 then s.refusePacket p 3
      else
        if p.op % 2 = 1 then s.portPope p.ctx off (p.op == 3) (.packet p)
        else
          let r := s.portLoad p.ctx false off
          r.2.portAnswer (.packet p) false r.1
    else if inLocWin off then
      -- only the host and Ferper of another die reach the window: its slots and engines do not (01 R17, R19)
      match s.hostLocalRead (off - apLocal) n with
      | some bs => s.respond p { typ := 0x01, data := bs }
      | none => s.refusePacket p 3
    else if inRegs off && regServed (off - apRegs) n then s.respond p { typ := 0x01, data := bytesOf n (s.regRead (off - apRegs) n) }
    else s.refusePacket p 3
  else if p.space = 1 then
    if p.op % 256 = 9 then s.respond p { typ := 0x01, data := bytesOf 8 (s.probeAt p.ctx p.addr) } else s.refusePacket p 1
  else if p.space = 2 then
    if s.bankOk p.ctx (bankCore p.addr) (bankOff p.addr) n && decide (n ≤ 8) then
      s.respond p { typ := 0x01, data := bytesOf n (s.bankDo (bankCore p.addr) 0 (bankOff p.addr) n .swap 0).1 }
    else s.refusePacket p 6
  else s.refusePacket p 1

/-- READ. -/
def execRead (p : Packet) (s : State) : Host.Outcome State Fault Refusal := .next (s.packetIn p (fun s => s.readIn p))

/-- The home of a REPLICATED page has written this die's copy: the oldest store of this die that it carries out is performed at
die scope (09 R185). -/
def State.replicaWritten (s : State) (p : Packet) : State :=
  if p.repl then s
  else
    match s.msgs.find? (fun (q : Nat × Msg) =>
        q.2.sent && q.2.replicated && !q.2.dieDone && q.2.dsts == [p.src] &&
          (match q.2.op with
           | .store ps data =>
             let w := writePacket p.src ps data false
             w.addr.toNat % 2 ^ 42 == p.addr.toNat % 2 ^ 42 && w.lsz == p.lsz && w.enables == p.enables && w.data == p.data
           | _ => false)) with
    | some q => s.modMsg q.1 (fun m => { m with dieDone := true })
    | none => s

/-- WRITE (01 R18; 08 R168; 10 R208, R218; 19 R380, R381, R392). -/
def State.writeIn (s : State) (p : Packet) : State :=
  let off := p.addr.toNat % 2 ^ 42
  let n := 2 ^ p.lsz
  let v := ofBytes (p.data.take n)
  let done := fun (s : State) (code : Nat) => s.respond p { typ := 0x02, op := code }
  if p.space = 1 && !s.admits p.ctx then s.refusePacket p 4
  else if p.space = 0 then
    if off + n ≤ s.memBytes then
      let t := (s.memWrite off (overlay (bytesOf n (s.mem.readN off n)) p)).replicaWritten p
      if p.repl then t.relay p { p with repl := false, rel := false } { typ := 0x02 }
      else if !p.prop then done t 0
      else if p.enables = 0 then done (s.freeLine p) 0
      else done (t.holdLine p) 0
    else if inAperture off then
      if off < apTask + 0x400400 then done (if apTask + 0x400000 ≤ off then s.dropPost false else s) 0
      else if n ≠ 8 ∨ off % 8 ≠ 0 ∨ p.nibbles ∨ (p.enables % 256 ≠ 255 ∧ p.enables ≠ 0) then s.refusePacket p 3
      else
        -- what waits at a full port is withdrawn by a WRITE of its TAG that enables nothing (13 R281; log 41)
        if p.enables = 0 then s.unpark p else s.portStore p.ctx off (.packet p)
    else if inLocWin off then
      match s.hostLocalRead (off - apLocal) n with
      | some bs => done (s.hostLocalWrite (off - apLocal) (overlay bs p)) 0
      | none => s.refusePacket p 3
    else if inRegs off && regServed (off - apRegs) n && !p.nibbles && p.enables % 2 ^ n == 2 ^ n - 1 then
      done (s.startRegWrite p.ctx off n v) 0
    else s.refusePacket p 3
  else if p.space = 1 then
    let replay := p.op.testBit 16
    let a := p.arg1.toNat
    if p.op % 256 = 2 then
      let r := s.vstoreAt p.ctx p.addr a p.data.length (ofBytes p.data) replay
      done r.2 r.1
    else if p.op % 256 = 4 then
      let r := s.vaccAt p.ctx p.addr (bitsOf 9 0 a) (bitsOf 24 16 a) (ofBytes p.data) replay
      done r.2 r.1
    else s.refusePacket p 1
  else if p.space = 2 then
    if s.bankOk p.ctx (bankCore p.addr) (bankOff p.addr) n && decide (n ≤ 8) then
      done (s.bankDo (bankCore p.addr) 1 (bankOff p.addr) n .swap v).2.2 0
    else s.refusePacket p 6
  else s.refusePacket p 1

/-- WRITE. -/
def execWrite (p : Packet) (s : State) : Host.Outcome State Fault Refusal := .next (s.packetIn p (fun s => s.writeIn p))

/-- ATOMIC (08 R172; 09 R192; 10 R198, R207, R209, R216; 19 R381, R392). -/
def State.atomicIn (s : State) (p : Packet) : State :=
  let off := p.addr.toNat % 2 ^ 42
  let n := 2 ^ p.lsz
  let a := p.arg1.toNat
  let done := fun (s : State) (code : Nat) => s.respond p { typ := 0x03, op := code }
  if p.space = 1 && !s.admits p.ctx then s.refusePacket p 4
  else if p.space = 0 then
    if s.lineHeld p.addr.toNat then s.holdPacket p
    else if n ≠ 4 ∧ n ≠ 8 then s.refusePacket p 3
    else
      let bad := s.amoBad off n
      match s.amoAt p.ctx off 0 (amoOfPacket p) n (a % 2 ^ (8 * n)) with
      | some (old, _, s) =>
        if p.repl && (amoLeaves (amoOfPacket p) n old (a % 2 ^ (8 * n)) bad).isSome then
          s.relay p { typ := 0x02, addr := p.addr, lsz := p.lsz, enables := 2 ^ n - 1, data := bytesOf n (s.mem.readN off n) } { typ := 0x03, data := bytesOf n old }
        else s.respond p { typ := 0x03, data := bytesOf n old }
      | none => s.refusePacket p 3
  else if p.space = 1 then
    let replay := p.op.testBit 16
    match p.op % 256 with
    | 1 =>
      let r := s.vopenAt p.ctx p.addr p.arg1 p.arg2 (p.op.testBit 8) (bitsOf 11 9 p.op) replay
      if r.1 = 2 then r.2.holdPacket p else done r.2 r.1
    | 3 => let r := s.vsealAt p.ctx p.addr replay (a.testBit 8) (a % 64); done r.2 r.1
    | 5 => let r := s.vrefAt p.ctx p.addr (a % 4096) replay; done r.2 r.1
    | 6 => let r := s.vrelAt p.ctx p.addr (a % 4096) replay; done r.2 r.1
    | 10 =>
      let r := s.vnameAt p.ctx (bitsOf 11 0 a + 1) (bitsOf 19 16 a)
      r.2.respond p { typ := 0x03, data := bytesOf 8 r.1 }
    | 11 => done (s.vconsumeAt p.ctx p.addr) 0
    | _ => s.refusePacket p 1
  else if p.space = 2 then
    if s.bankOk p.ctx (bankCore p.addr) (bankOff p.addr) n && (n == 4 || n == 8) then
      let r := s.bankDo (bankCore p.addr) 2 (bankOff p.addr) n (amoOfPacket p) (a % 2 ^ (8 * n))
      r.2.2.respond p { typ := 0x03, data := bytesOf n r.1 }
    else s.refusePacket p 6
  else if p.addr = 1 then
    let scope := p.op % 4
    let users := s.tlbUsers scope a p.ctx
    let t := s.tlbDrop scope a p.ctx true
    if users = [] then done t 0
    else
      -- answered when every access that a dropped entry translated has completed
      let (r, t) := t.newId
      t.post r { sid := none, ctx := p.ctx, user := false, op := .relay p p { typ := 0x03, op := 0 }, pa := 0, after := users, dep := none }
  else s.refusePacket p 1

/-- ATOMIC. -/
def execAtomic (p : Packet) (s : State) : Host.Outcome State Fault Refusal := .next (s.packetIn p (fun s => s.atomicIn p))

/-- CHAIN: the block is written here and sent on (19 R385); the last agent's response goes to the slot that sent it. -/
def State.chainIn (s : State) (p : Packet) : State :=
  if p.rsp then s.chainAnswer p.tag s.ownAgent p.ctx p.op
  else
    let off := p.addr.toNat % 2 ^ 42
    let r := s.chainWrite p.ctx off (p.data.take 512) p.pos p.op
    r.2.chainOn p.tag p.src p.ctx off (p.data.take 512) p.agents (p.pos + 1) r.1

/-- CHAIN. -/
def execChain (p : Packet) (s : State) : Host.Outcome State Fault Refusal := .next (s.packetIn p (fun s => s.chainIn p))

/-! ### Versions across dies (10 R200, R212, R217; 19 R384) -/

/-- VNOTICE: a reclaim notice drops the copy; any other makes the proxy fetch the data, when it has waiters for them. -/
def State.noticeIn (s : State) (p : Packet) : State :=
  let s1 := s.respond p { typ := 0x04 }
  match s.proxy p.ctx p.addr with
  | none => s1
  | some q =>
    if p.op.testBit 1 then
      let s1 := s1.uncacheVersion (q.slot, q.gen)
      -- a fill still on its way carries the old generation, which is no one's now (10 R200, R217)
      if q.waiters = [] then s1.dropProxy p.ctx p.addr
      else (s1.setProxy { q with present := false, data := 0, got := 0, gen := 2 ^ 17 }).askHome p.ctx p.addr false 0 p.src
    else if q.present && q.gen == p.arg1.toNat / 2 ^ 32 then s1
    else
      let gen := p.arg1.toNat / 2 ^ 32 % 2 ^ 16
      (s1.setProxy { q with present := false, data := 0, got := 0, slot := p.arg1.toNat % 2 ^ 32, gen := gen, g := p.arg2.toNat % 128,
                            poisoned := p.op.testBit 0 }).askHome p.ctx p.addr true gen p.src

/-- VNOTICE. -/
def execVnotice (p : Packet) (s : State) : Host.Outcome State Fault Refusal := .next (s.packetIn p (fun s => s.noticeIn p))

/-- Decrements of another die's proxy applied to a version. -/
def State.applyConsumes (s : State) (ctx : Nat) (h : Word) : Nat → State
  | 0 => s
  | n + 1 => State.applyConsumes (s.vconsumeAt ctx h) ctx h n

/-- VSUB: the sending die is a subscriber; a version that is COMPLETE, sealed POISONED or DEAD is told at once
(19 R384 item 1). -/
def State.subIn (s : State) (p : Packet) : State :=
  let v := s.versionOrNew p.ctx p.addr
  let v := { v with subs := if v.subs.contains p.src then v.subs else v.subs ++ [p.src] }
  if !s.recRoom (s.entryNeed p.ctx p.addr) then (s.holdFull p.ctx p.addr).holdPacket p
  else
  let s := ((s.unholdFull p.ctx p.addr).setVersion v).respond p { typ := 0x06 }
  if v.state = .complete ∨ v.state = .dead ∨ (v.state = .poisoned ∧ v.sealed) then s.sendNotice v false p.src else s

/-- VFETCH: the data in packets of 512 bytes with the entry's generation; a version that is not there any more is
subscribed to anew (19 R384 item 3). -/
def State.fetchIn (s : State) (p : Packet) : State :=
  match s.version p.ctx p.addr with
  | some v =>
    if v.state = .complete ∨ (v.state = .poisoned ∧ v.sealed) ∨ (v.state = .dead ∧ v.gen = p.arg1.toNat % 2 ^ 16) then
      let bytes := bytesOf (4096 * v.g) v.data
      let s := (List.range (8 * v.g)).foldl (fun (s : State) i =>
        s.respond p { typ := 0x05, addr := v.handle, arg1 := BitVec.ofNat 64 (512 * i), arg2 := BitVec.ofNat 64 (v.gen + v.slot * 2 ^ 32)
                      data := (bytes.drop (512 * i)).take 512 }) s
      s.applyConsumes p.ctx p.addr (p.arg2.toNat % 4096)
    else (s.setVersion { v with subs := if v.subs.contains p.src then v.subs else v.subs ++ [p.src] }).respond p
      { typ := 0x05, addr := p.addr, arg2 := BitVec.ofNat 64 (2 ^ 16) }
  | none =>
    if !s.recRoom (s.entryNeed p.ctx p.addr) then (s.holdFull p.ctx p.addr).holdPacket p
    else
      ((s.unholdFull p.ctx p.addr).setVersion { s.newVersion p.ctx p.addr with subs := [p.src] }).respond p
        { typ := 0x05, addr := p.addr, arg2 := BitVec.ofNat 64 (2 ^ 16) }

/-- Requests of other agents that wait are looked at, oldest first. -/
def State.retryPackets (s : State) : State :=
  s.lk.pktHeld.foldl (fun (s : State) p =>
    match p.typ with
    | 0x01 => s.readIn p
    | 0x02 => s.writeIn p
    | 0x05 => s.fetchIn p
    | 0x06 => s.subIn p
    | _ => s.atomicIn p) { s with lk := { s.lk with pktHeld := [] } }

/-- VFETCH or VSUB. -/
def execVfetch (p : Packet) (s : State) : Host.Outcome State Fault Refusal :=
  .next (s.packetIn p (fun s =>
    if !s.admits p.ctx then s.refusePacket p 4
    else if p.typ = 0x06 then s.subIn p
    else s.fetchIn p))

/-- A complete copy serves the waiters of the proxy, and each consuming one sends its decrement (10 R212). -/
def State.serveProxy (s : State) (q : ProxyCopy) (agent : Nat) : State :=
  let s := s.setProxy { q with waiters := [] }
  q.waiters.foldl (fun (s : State) (w : Waiter) =>
    let s := s.serveWaiter q.handle (q.slot, q.gen) q.g q.data q.poisoned w
    if w.load.cons && !w.load.replay then s.sendDecrement q.ctx q.handle agent else s) s

/-- A response to VFETCH: data of the generation that the VNOTICE gave are kept, others discarded and the version
subscribed to anew (10 R200; 19 R384 item 3). -/
def State.dataIn (s : State) (p : Packet) : State :=
  match kget s.msgs p.tag with
  | none => s
  | some m =>
    match m.op with
    | .proxy h true =>
      match s.proxy m.ctx h with
      | none => s.unpost p.tag
      | some q =>
        if q.gen + q.slot * 2 ^ 32 ≠ p.arg2.toNat then
          ((s.unpost p.tag).setProxy { q with present := false, data := 0, got := 0 }).askHome m.ctx h false 0 p.src
        else
          let off := p.arg1.toNat
          let q := { q with data := setBits (8 * (off + 512) - 1) (8 * off) q.data (ofBytes p.data), got := q.got + 512 }
          if 4096 * q.g ≤ q.got then (s.unpost p.tag).serveProxy { q with present := true } p.src
          else s.setProxy q
    | _ => s

/-- Response to VFETCH. -/
def execVfetchResponse (p : Packet) (s : State) : Host.Outcome State Fault Refusal := .next (s.packetIn p (fun s => s.dataIn p))

end Sys2Proof.Machine
end

