-- ==== Sys2Proof/Machine/Paging.lean ====
section
/-!
DEFINITION. Meanings of the steps of the walkers and of the fault queue (08 R160 to R172), and of the writes that
divide slices, local memory and the instruction store (09 R180, R182; 14 R286).
-/

namespace Sys2Proof.Machine

/-! ### Walks (08 R170, R171) -/

/-- A slot's walk has ended: the page's translation or fault is kept for the re-issue of its instruction, and the slot
goes on when no other walk holds it. -/
def Slot.walked (x : Slot) (w : Nat) (t : Option Xlat) : Slot :=
  let x := match t with | some q => { x with xlat := x.xlat ++ [q] } | none => x
  match x.status with
  | .stalled (.walk ws) =>
    let rest := ws.filter (fun v => v != w)
    { x with status := if rest = [] then .ready else .stalled (.walk rest) }
  | _ => x

/-- The slots that asked for a walk receive what it gave. -/
def State.tellSlots (s : State) (wid : Nat) (w : Walk) (t : Option Xlat) : State :=
  w.who.foldl (fun (s : State) q =>
    match q with
    | .slot sid _ _ => s.modSlot sid (fun x => x.walked wid t)
    | .engine .. => s) s

/-- A walk has ended in a fault: a record for each requester; a slot traps at its re-issue, any other request is held. -/
def State.walkFault (s : State) (wid : Nat) (w : Walk) (code : Nat) : State :=
  let s := w.who.foldl (fun (s : State) q =>
    match q with
    | .slot sid va kind => s.faultRecord { va := BitVec.ofNat 64 va, src := sid, ctx := w.ctx, code := code, kind := kind } true
    | .engine src va kind => s.hold src w.ctx va code kind) s
  s.tellSlots wid w (some { vpn := w.vpn, fault := some code, leaf := 0 })

/-- A walk's page enters the TLBs of those that asked for it; a unit keeps it for its request (08 R169). -/
def State.fillWalk (s : State) (w : Walk) (l : Word) : State :=
  w.who.foldl (fun (s : State) q =>
    match q with
    | .slot sid va _ => if sid < 2304 then (s.coreTlbs (sid / 16) va).foldl (fun (s : State) t => s.tlbFill (tlbEntry w.ctx va l) t) s else s
    | .engine src va _ =>
      let s := s.tlbFill (tlbEntry w.ctx va l) (s.tlbSlice va)
      { s with pg := { s.pg with unitTlb := s.pg.unitTlb ++ [(src, tlbEntry w.ctx va l)] } }) s

/-- A walk that has ended in a leaf, with those of the same page in flight, which have joined it (08 R170 item 1). -/
def State.walkLeaf (s : State) (w : Walk) (l : Word) : State :=
  let page := leafPage l w.va
  let s := s.cacheWalk w.got w.ctx w.va
  s.pg.walks.foldl (fun (s : State) (q : Nat × Walk) =>
    if q.2.ctx = w.ctx ∧ q.2.stale = false ∧ page.1 ≤ q.2.vpn ∧ q.2.vpn < page.1 + page.2 then
      let t := { s with pg := { s.pg with walks := kdel s.pg.walks q.1 } }
      (t.fillWalk q.2 l).tellSlots q.1 q.2 (some { vpn := q.2.vpn, fault := none, leaf := l })
    else s) s

/-- WALK_END: the tables are read as they stand; an entry at another agent is asked for and awaited (08 R170 item 3).
A result that a TLBI has made stale is not kept (08 R172). -/
def execWalkEnd (wid : Nat) (s : State) : Host.Outcome State Fault Refusal :=
  match kget s.pg.walks wid with
  | none => .next s
  | some w =>
    let done := { s with pg := { s.pg with walks := kdel s.pg.walks wid } }
    if w.stale then .next (done.tellSlots wid w none)
    else
      match s.walkTables w.got w.ctx w.va with
      | .leaf l => .next (s.walkLeaf w l)
      | .fault c => .next (done.walkFault wid w c)
      | .held => .next s
      | .ask pa =>
        match w.asked with
        | none =>
          let piece : Piece := { pa := pa, bit := 0, bits := 64, high := false, lane := 0, va := 0, poison := false }
          let r := s.collect { sid := none, ctx := w.ctx, user := false, op := .load [piece] none, pa := pa, after := [], dep := none, isLoad := true }
          .next { r.2 with pg := { r.2.pg with walks := kset r.2.pg.walks wid { w with asked := some r.1 } } }
        | some d =>
          match kget s.deps d with
          | none => .next (done.walkFault wid w fcBad)
          | some x =>
            if x.outstanding ≠ 0 then .next s
            else if x.nack.isSome then .next ((done.forget [d]).walkFault wid w fcBad)
            else
              let t := s.forget [d]
              .next { t with pg := { t.pg with walks := kset t.pg.walks wid { w with asked := none, got := kset w.got pa (BitVec.ofNat 64 x.value) } } }

/-! ### The fault queue (08 R171) -/

/-- The records of slots' faults of this cycle enter the queue. -/
def State.takeFaults (s : State) : State :=
  s.pg.fqNew.foldl (fun (s : State) r => s.faultRecord r true) { s with pg := { s.pg with fqNew := [] } }

/-- The head record leaves, and one that waits for room enters. -/
def State.fqDrop (s : State) : State := ({ s with pg := { s.pg with fq := s.pg.fq.drop 1 } }).fqRefill

/-- DIE_FQPOP with REPLAY 0. -/
def execFqPop (s : State) : Host.Outcome State Fault Refusal := .next s.fqDrop

/-- DIE_FQPOP with REPLAY 1: the request that the head record holds is made again (08 R170 item 5; 13 R272; 15 R298;
16 R320). -/
def execFqReplay (s : State) : Host.Outcome State Fault Refusal :=
  match s.pg.fq with
  | [] => .next s
  | r :: _ =>
    let s := { s with pg := { s.pg with fqHeld := s.pg.fqHeld.filter (fun q => decide (q ≠ r)) } }
    let s := if 0x1000 ≤ r.src ∧ r.src < 0x2000 then
        let n := r.src - 0x1000
        let c := s.channel n
        if c.state = .held ∧ !s.pg.fqHeld.any (fun q => q.src == r.src) then s.setChannel n { c with state := .running } else s
      else s
    .next s.fqDrop

/-! ### Slices (09 R180) -/

/-- A write of SLICE_SPLIT. -/
def execSliceSplitWrite (v : Nat) (s : State) : Host.Outcome State Fault Refusal :=
  let n := v % 16
  if s.vs.splitBusy || decide (12 < n) then .next s
  else .next { s with vs := { s.vs with splitTo := n, splitBusy := n != s.vs.vways } }

/-- A lowering has no room for what the ways it returns hold. -/
def State.splitStuck (s : State) : Bool :=
  let t := { s with vs := { s.vs with vways := s.vs.splitTo } }
  let beyond := s.liveSlices.foldl (fun n k => n + (t.granulesUsed k - t.wayGranules k)) 0
  decide (s.extGranules < s.spilled + beyond + s.recGranules 0)

/-- Lines in version ways are pinned by matrix tasks. -/
def State.splitPinned (s : State) : Bool := s.liveSlices.any (fun k => decide (0 < s.pinnedGranules k))

/-- A change of the version ways completes: a lowering first spills what the returned ways hold, oldest completion
first, and waits for room with FULL set. -/
def execSliceSplitDone (s : State) : Host.Outcome State Fault Refusal :=
  if !s.vs.splitBusy || (decide (s.vs.splitTo < s.vs.vways) && s.splitPinned) then .next s
  else if s.vs.splitTo < s.vs.vways ∧ s.splitStuck then .next (s.holdFull 16 0)
  else
    let s := s.unholdFull 16 0
    let t := { s with vs := { s.vs with vways := s.vs.splitTo, splitBusy := false } }
    .next (t.liveSlices.foldl (fun (s : State) k => s.spill k (s.granulesUsed k - s.wayGranules k)) t)

/-! ### Local memory and the instruction store (09 R182, 14 R286) -/

/-- A kernel holds a range on a core of this die. -/
def State.coreLoaded (s : State) (c : Nat) : Bool := s.kn.kernels.any (fun k => k.holdsCore c)

/-- A write of LCORE_LMAPn. -/
def execLmapWrite (core v : Nat) (s : State) : Host.Outcome State Fault Refusal :=
  let shad := bitsOf 15 8 v
  let save := bitsOf 7 0 v
  let k := s.core core
  let busy := s.slots.any (fun (p : Nat × Slot) => p.1 / 16 == core) || s.cx.saved.any (fun x => x.sid / 16 == core)
  if 144 ≤ core || busy || decide (32 < shad) || decide (save < 16) || decide (128 < save) then .next s
  else if s.coreLoaded core && decide (0x100000 < 4096 * (save + 2 * shad) + k.xbound) then .next s
  else .next (s.setCore core { k with shad := shad, save := save })

/-- A write of LCORE_XTOPn. -/
def execXtopWrite (core v : Nat) (s : State) : Host.Outcome State Fault Refusal :=
  let g := v % 256
  let k := s.core core
  if 144 ≤ core || s.coreLoaded core || g == 0 || decide (k.ltop - 4096 * k.shad < 4096 * g) then .next s
  else .next (s.setCore core { k with xtop := g })

end Sys2Proof.Machine
end

