-- ==== Sys2Proof/Machine/KernelOps.lean ====
section
/-!
DEFINITION. Kernel images as the loader checks them, and SHA3-512, by which it recognises them (14 R283 to R285, R289;
15 R291).
-/

namespace Sys2Proof.Machine

/-! ### SHA3-512 (14 R283; FIPS 202, log 9) -/

/-- Rotation amounts of the state's lanes, lane x + 5 y. -/
def keccakRot : List Nat :=
  [0, 1, 62, 28, 27, 36, 44, 6, 55, 20, 3, 10, 43, 25, 39, 41, 45, 15, 21, 8, 18, 2, 61, 56, 14]

/-- Round constants. -/
def keccakRc : List Nat :=
  [0x0000000000000001, 0x0000000000008082, 0x800000000000808A, 0x8000000080008000, 0x000000000000808B, 0x0000000080000001,
   0x8000000080008081, 0x8000000000008009, 0x000000000000008A, 0x0000000000000088, 0x0000000080008009, 0x000000008000000A] ++
  [0x000000008000808B, 0x800000000000008B, 0x8000000000008089, 0x8000000000008003, 0x8000000000008002, 0x8000000000000080,
   0x000000000000800A, 0x800000008000000A, 0x8000000080008081, 0x8000000000008080, 0x0000000080000001, 0x8000000080008008]

/-- A lane of a state. -/
def laneAt (a : List Word) (i : Nat) : Word := a[i]?.getD 0

/-- One round of Keccak-f[1600]. -/
def keccakRound (a : List Word) (rc : Nat) : List Word :=
  let c := (List.range 5).map (fun x => (List.range 5).foldl (fun (w : Word) y => w ^^^ laneAt a (x + 5 * y)) 0)
  let d := (List.range 5).map (fun x => laneAt c ((x + 4) % 5) ^^^ (laneAt c ((x + 1) % 5)).rotateLeft 1)
  let b := (List.range 25).map (fun i => (laneAt a i ^^^ laneAt d (i % 5)).rotateLeft (keccakRot[i]?.getD 0))
  -- lane (x, y) of the next plane comes from lane ((x + 3 y) mod 5, x)
  let e := (List.range 25).map (fun i => laneAt b ((i % 5 + 3 * (i / 5)) % 5 + 5 * (i % 5)))
  let z := (List.range 25).map (fun i =>
    let y := 5 * (i / 5)
    laneAt e i ^^^ (~~~ laneAt e ((i + 1) % 5 + y) &&& laneAt e ((i + 2) % 5 + y)))
  match z with
  | w :: ws => (w ^^^ BitVec.ofNat 64 rc) :: ws
  | [] => []

/-- Keccak-f[1600]. -/
def keccak (a : List Word) : List Word := keccakRc.foldl keccakRound a

/-- Blocks of 72 bytes absorbed. -/
def absorb (a : List Word) (bs : List Byte) : Nat → List Word
  | 0 => a
  | n + 1 =>
    let block := bs.take 72
    let ws := (List.range 25).map (fun i => laneAt a i ^^^ (if i < 9 then BitVec.ofNat 64 (ofBytes ((block.drop (8 * i)).take 8)) else 0))
    absorb (keccak ws) (bs.drop 72) n

/-- SHA3-512 of a byte string, its 64 bytes as a little-endian number. -/
def sha3 (bs : List Byte) : Nat :=
  let n := bs.length / 72 + 1
  let fill := 72 * n - bs.length
  let pad : List Byte := if fill = 1 then [0x86] else [0x06] ++ List.replicate (fill - 2) 0 ++ [0x80]
  let a := absorb (List.replicate 25 0) (bs ++ pad) n
  (List.range 8).foldl (fun v i => v + (laneAt a i).toNat * 2 ^ (64 * i)) 0

/-! ### The image (14 R283, R284) -/

/-- A field of `n` bytes at offset `o` of an image. -/
def imField (im : List Byte) (o n : Nat) : Nat := ofBytes ((im.drop o).take n)

/-- Fields of the header. -/
def imNseg (im : List Byte) : Nat := imField im 0x14 2
def imNent (im : List Byte) : Nat := imField im 0x16 2
def imCodeLen (im : List Byte) : Nat := imField im 0x18 4
def imDataLen (im : List Byte) : Nat := imField im 0x1C 4
def imResLen (im : List Byte) : Nat := imField im 0x20 4
def imSpace (im : List Byte) : Nat := imField im 0x08 4
def imPass (im : List Byte) : Bool := imField im 0x04 4 == 1
def imDigest (im : List Byte) : Nat := imField im 0x40 64

/-- Byte bases of the four views. -/
def imViews (im : List Byte) : List Nat := (List.range 4).map (fun i => imField im (0x0C + 2 * i) 2)

/-- Length of an image by its header. -/
def imLength (im : List Byte) : Nat := 128 + 16 * imNseg im + 16 * imNent im + imCodeLen im + imDataLen im

/-- A header keeps 14 R283. -/
def headerOk (im : List Byte) : Bool :=
  let space := imSpace im
  let view := fun (i size : Nat) => let v := imField im (0x0C + 2 * i) 2; v % size == 0 && decide (v < space)
  imField im 0 4 == 0x4B514D49 && decide (imField im 4 4 < 2) && decide (4096 ≤ space) && decide (space ≤ 65536) && space % 4096 == 0 &&
    view 0 8 && view 1 512 && view 2 4096 && view 3 2048 &&
    decide (1 ≤ imNseg im) && decide (imNseg im ≤ (if imPass im then 32 else 1)) && decide (1 ≤ imNent im) && decide (imNent im ≤ 256) &&
    imCodeLen im % 2 == 0 && decide (2 ≤ imCodeLen im) && decide (imCodeLen im ≤ 0xFF000) && decide (imDataLen im ≤ 2 ^ 24) &&
    imResLen im % 2 == 0 && decide (2 ≤ imResLen im) && decide (imResLen im ≤ imCodeLen im) && imField im 0x24 28 == 0

/-- Offset of a segment table entry. -/
def segAt (i : Nat) : Nat := 128 + 16 * i

/-- Offset of an entry table entry. -/
def entAt (im : List Byte) (i : Nat) : Nat := 128 + 16 * imNseg im + 16 * i

/-- Logical cores that a segment names. -/
def imCores (im : List Byte) (i : Nat) : List Nat :=
  ((List.range 4).map (fun j => imField im (segAt i + 8 + j) 1)).filter (fun c => c != 0xFF)

/-- The segments follow each other and cover the code. -/
def segsCover (im : List Byte) : Bool :=
  let ends := (List.range (imNseg im)).foldl (fun (a : Option Nat) i =>
    let off := imField im (segAt i) 4
    let len := imField im (segAt i + 4) 4
    if a == some off && len % 2 == 0 && imField im (segAt i + 12) 4 == 0 then some (off + len) else none) (some 0)
  ends == some (imCodeLen im)

/-- Entries are even offsets of the code with a segment and a live value; in a passage kernel the segment holds the
offset (14 R284, 15 R291 item 4). -/
def entriesOk (im : List Byte) : Bool :=
  (List.range (imNent im)).all (fun i =>
    let o := entAt im i
    let off := imField im o 4
    let live := imField im (o + 4) 2
    let seg := imField im (o + 6) 1
    let first := imField im (segAt seg) 4
    off % 2 == 0 && decide (off < imCodeLen im) && live % 8 == 0 && decide (live ≤ 2048) && decide (seg < imNseg im) &&
      imField im (o + 7) 9 == 0 && decide (first ≤ off) && decide (off < first + imField im (segAt seg + 4) 4))

/-- The segments' cores: none in an ordinary kernel; one to four existing logical cores, none twice, in a passage kernel
(14 R284; 15 R291 items 1 to 3). -/
def State.segCoresOk (s : State) (im : List Byte) : Bool :=
  let all := (List.range (imNseg im)).flatMap (imCores im)
  if !imPass im then all == []
  else
    (List.range (imNseg im)).all (fun i => imCores im i != []) && decide ((distinct all).length = all.length) &&
      all.all (fun c => decide (c < 144) && (s.core c).tabV)

/-- The tables of an image keep 14 R284 and 15 R291. -/
def State.tablesOk (s : State) (im : List Byte) (ovl : Nat) : Bool :=
  segsCover im && entriesOk im && s.segCoresOk im && (!imPass im || ovl == 0)

/-- The image with its digest read as zero. -/
def imBlank (im : List Byte) : List Byte := im.take 0x40 ++ List.replicate 64 0 ++ im.drop 0x80

/-- Code bytes of an image. -/
def imCode (im : List Byte) : List Byte := (im.drop (entAt im (imNent im))).take (imCodeLen im)

/-- Data bytes of an image. -/
def imData (im : List Byte) : List Byte := (im.drop (entAt im (imNent im) + imCodeLen im)).take (imDataLen im)

/-- The kernel that an image is loaded as. -/
def State.kernelOf (s : State) (im : List Byte) (kid ctx kbase ovl : Nat) : Kernel :=
  { kid := kid, ctx := ctx, kbase := kbase, ovl := ovl, pass := imPass im, space := imSpace im, views := imViews im
    codeLen := imCodeLen im, resLen := imResLen im
    segments := (List.range (imNseg im)).map (fun i =>
      { off := imField im (segAt i) 4, len := imField im (segAt i + 4) 4, cores := (imCores im i).map (fun c => (s.core c).tabPhys) })
    entries := (List.range (imNent im)).map (fun i =>
      { off := imField im (entAt im i) 4, live := imField im (entAt im i + 4) 2, seg := imField im (entAt im i + 6) 1 })
    digest := imDigest im, state := .sealed }

/-- Physical cores that must hold a kernel's code. -/
def State.kernelCores (s : State) (k : Kernel) : List Nat := (List.range 144).filter (fun c => !s.fused c && k.holdsCore c)

/-- A kernel's range has no room on a core that must hold it, or the die holds 64 kernels (14 R289). -/
def State.noRoom (s : State) (k : Kernel) : Bool :=
  let others := s.kn.kernels.filter (fun q => q.kid != k.kid)
  decide (64 ≤ others.length) ||
    (s.kernelCores k).any (fun c =>
      decide ((s.core c).xbound < k.range.2) ||
        others.any (fun q => q.holdsCore c && decide (q.range.1 < k.range.2) && decide (k.range.1 < q.range.2)))

end Sys2Proof.Machine
end

