-- ==== Sys2Proof/Machine/KernelLoad.lean ====
section
/-!
DEFINITION. Meanings of the loader's commands and of their ends (14 R288 to R290).
-/

namespace Sys2Proof.Machine

/-- Fields of a loader command (14 R288). -/
def kcKid (c : Word) : Nat := bitsOf 31 20 c.toNat
def kcCtx (c : Word) : Nat := bitsOf 19 16 c.toNat
def kcBase (c : Word) : Nat := bitsOf 51 32 c.toNat
def kcArg (c : Word) : Nat := bitsOf 15 0 c.toNat
def kcOp (c : Word) : Nat := bitsOf 63 62 c.toNat

/-- The loader's number as a source of fault records, for the image and the data part (08 R171). -/
def loaderSrc : Nat := 0x30FF

/-- A command ends with a result, and VEC is sent (14 R288, R290). -/
def State.kernelDone (s : State) (result : Nat) : State :=
  let t := s.dropEngine loaderSrc
  let t := t.forget (s.kn.cwrites.getD [])
  ({ t with kn := { t.kn with kbusy := false, kresult := result, cwrites := none } }).irq t.kn.kvec

/-- A command begins. -/
def State.kernelBusy (s : State) (cmd : Word) : State :=
  { s with kn := { s.kn with kcmd := cmd, kbusy := true, csrc := s.kn.ksrc, cdva := s.kn.kdva, cwrites := none } }

/-- A kernel's record replaced. -/
def State.setKernel (s : State) (k : Kernel) : State :=
  { s with kn := { s.kn with kernels := s.kn.kernels.filter (fun q => q.kid != k.kid) ++ [k] } }

/-- A kernel's record removed: ABSENT. -/
def State.delKernel (s : State) (kid : Nat) : State :=
  { s with kn := { s.kn with kernels := s.kn.kernels.filter (fun q => q.kid != kid) } }

/-- LCORE_KCMD OP 0: the kernel is LOADING, unless its identifier is on the die already. -/
def execKernelLoad (cmd : Word) (s : State) : Host.Outcome State Fault Refusal :=
  if s.kn.kbusy then .next s
  else
    let t := s.kernelBusy cmd
    match s.kernel (kcKid cmd) with
    | some _ => .next t
    | none =>
      .next (t.setKernel { kid := kcKid cmd, ctx := kcCtx cmd, kbase := kcBase cmd, ovl := kcArg cmd, pass := false, space := 4096, views := []
                           codeLen := 0, resLen := 0, segments := [], entries := [], digest := 0, state := .loading })

/-- LCORE_KCMD OP 1: the kernel is ABSENT, or UNLOADING while it is in use (14 R290). -/
def execKernelUnload (cmd : Word) (s : State) : Host.Outcome State Fault Refusal :=
  if s.kn.kbusy then .next s
  else
    let t := s.kernelBusy cmd
    match s.sealedFor (kcKid cmd) (kcCtx cmd) with
    | none => .next (t.kernelDone 2)
    | some k =>
      if s.useCount k.kid = 0 then .next ((t.delKernel k.kid).kernelDone 0)
      else .next ((t.setKernel { k with state := .unloading }).kernelDone 0)

/-- The local range that an overlay writes, when its segment and place are good; else the result of its failure
(14 R289). -/
def Kernel.overlayRange (k : Kernel) (cmd : Word) : Except Nat (Segment × Nat) :=
  match k.segments[kcArg cmd]? with
  | none => .error 3
  | some g =>
    if 256 * k.ovl < g.len then .error 3
    else if kcBase cmd < k.kbase + k.resLen ∨ k.range.2 < kcBase cmd + g.len then .error 4
    else .ok (g, kcBase cmd)

/-- LCORE_KCMD OP 2: while the copy runs, the bytes being written cannot be fetched (14 R289). -/
def execKernelOverlay (cmd : Word) (s : State) : Host.Outcome State Fault Refusal :=
  if s.kn.kbusy then .next s
  else
    let t := s.kernelBusy cmd
    match s.sealedFor (kcKid cmd) (kcCtx cmd) with
    | none => .next t
    | some k =>
      match k.overlayRange cmd with
      | .ok (g, o) => .next (t.setKernel { k with busy := some (o, o + g.len) })
      | .error _ => .next t

/-- LCORE_KCMD with OP 3, KID 0, a reserved bit or an odd KBASE. -/
def execBadcmd (cmd : Word) (s : State) : Host.Outcome State Fault Refusal :=
  if s.kn.kbusy then .next s else .next ((s.kernelBusy cmd).kernelDone 1)

/-! ### The ends -/

/-- What stops the loader: a result, or a wait. -/
inductive LoadStop where
  | result (n : Nat)
  | wait
  deriving DecidableEq, Repr

/-- What an obstacle means to the loader (14 R289). -/
def Got.loadStop {α : Type} (g : Got α) : LoadStop :=
  match g with
  | .prot => .result 6
  | .nack => .result 7
  | _ => .wait

/-- The first bytes of the command's image, read in whole lines through the pages of its context, which need X (14 R288); the
lines that other agents have sent are kept until the command ends. -/
def State.readPart (s : State) (ctx n : Nat) : Except LoadStop (List Byte) × State :=
  let va := s.kn.csrc.toNat
  match s.engLines loaderSrc ctx 2 .fetch false (lineParts va ((va + n + 255) / 256 * 256 - va)) with
  | (.ok (im, _), s) => (.ok (im.take n), s)
  | (g, s) => (.error g.loadStop, s)

/-- Header and tables of the image; those that break R283, R284 or 15 R291 end the command (14 R289). -/
def State.readTables (s : State) (ctx ovl : Nat) : Except LoadStop (List Byte) × State :=
  match s.readPart ctx 128 with
  | (.error st, s) => (.error st, s)
  | (.ok h, s) =>
    if !headerOk h then (.error (.result 3), s)
    else
      match s.readPart ctx (entAt h (imNent h)) with
      | (.error st, s) => (.error st, s)
      | (.ok im, s) => if s.tablesOk im ovl then (.ok im, s) else (.error (.result 3), s)

/-- The data part copied to LCORE_KDVA; `true` once every write of it has been performed. -/
def State.copyData (s : State) (ctx : Nat) (bs : List Byte) : Except LoadStop Bool × State :=
  match s.kn.cwrites with
  | some ws =>
    if !ws.all s.settled then (.ok false, s)
    else if ws.any s.refused' then (.error (.result 7), s)
    else (.ok true, s)
  | none =>
    match s.engWritable loaderSrc ctx s.kn.cdva.toNat bs.length 1 false with
    | (.ok _, s) =>
      let r := s.engWrite loaderSrc ctx s.kn.cdva.toNat bs 1 false
      let t := r.2.2.2
      match r.2.1 with
      | .ok _ => (.ok (r.2.2.1 == []), { t with kn := { t.kn with cwrites := some r.2.2.1 } })
      | g => (.error g.loadStop, t)
    | (g, s) => (.error g.loadStop, s)

/-- A load's failure: ABSENT again. -/
def State.loadFail (s : State) (kid : Nat) (st : LoadStop) : State :=
  match st with
  | .wait => s
  | .result n => (s.delKernel kid).kernelDone n

/-- The code written on each core that must hold it, and the kernel SEALED. -/
def State.sealKernel (s : State) (k : Kernel) (code : List Byte) : State :=
  (((s.kernelCores k).foldl (fun (s : State) c => s.locWrite c k.kbase (code.take k.resLen)) s).setKernel { k with code := code.take k.resLen }).kernelDone 0

/-- A load goes on, and ends with its kernel SEALED or ABSENT (14 R289). -/
def execKernelLoadEnd (s : State) : Host.Outcome State Fault Refusal :=
  let cmd := s.kn.kcmd
  let kid := kcKid cmd
  let ctx := kcCtx cmd
  if !s.kn.kbusy || kcOp cmd != 0 then .next s
  else
    match s.kernel kid with
    | none => .next (s.kernelDone 2)
    | some k0 =>
      if k0.state != .loading then .next (s.kernelDone 2)
      else
        match s.readTables ctx (kcArg cmd) with
        | (.error st, s) => .next (s.loadFail kid st)
        | (.ok h, s) =>
          let k := s.kernelOf h kid ctx (kcBase cmd) (kcArg cmd)
          if s.noRoom k then .next (s.loadFail kid (.result 4))
          else
            match s.readPart ctx (imLength h) with
            | (.error st, s) => .next (s.loadFail kid st)
            | (.ok im, s) =>
              if sha3 (imBlank im) ≠ imDigest im then .next (s.loadFail kid (.result 5))
              else
                match s.copyData ctx (imData im) with
                | (.error st, s) => .next (s.loadFail kid st)
                | (.ok true, s) => .next (s.sealKernel k (imCode im))
                | (.ok false, s) => .next s

/-- The loader's copy of a kernel's range with bytes written at a local address. -/
def Kernel.patched (k : Kernel) (o : Nat) (bs : List Byte) : Kernel :=
  let at' := o - k.kbase
  let old := k.code ++ List.replicate (at' + bs.length - k.code.length) 0
  { k with code := old.take at' ++ bs ++ old.drop (at' + bs.length), overlaid := k.overlaid ++ [(o, o + bs.length)] }

/-- SEALED kernels written again into the cores that hold them, among those given (20 R397, 21 R412). -/
def State.reloadCores (s : State) (cores : List Nat) : State :=
  s.kn.kernels.foldl (fun (s : State) (k : Kernel) =>
    if k.state = .loading then s
    else ((s.kernelCores k).filter (fun c => cores.contains c)).foldl (fun (s : State) c => s.locWrite c k.kbase k.code) s) s

/-- An overlay ends with a result; its bytes can be fetched again. -/
def State.overlayDone (s : State) (kid result : Nat) : State :=
  let s := match s.kernel kid with
    | some k => s.setKernel { k with busy := none }
    | none => s
  s.kernelDone result

/-- What stops the loader ends an overlay, or makes it wait. -/
def State.overlayStop (s : State) (kid : Nat) (st : LoadStop) : State :=
  match st with
  | .wait => s
  | .result n => s.overlayDone kid n

/-- An overlay goes on, and ends (14 R289). -/
def execKernelOverlayEnd (s : State) : Host.Outcome State Fault Refusal :=
  let cmd := s.kn.kcmd
  let kid := kcKid cmd
  if !s.kn.kbusy || kcOp cmd != 2 then .next s
  else
    match s.sealedFor kid (kcCtx cmd) with
    | none => .next (s.kernelDone 2)
    | some k =>
      match s.readTables k.ctx k.ovl with
      | (.error st, s) => .next (s.overlayStop kid st)
      | (.ok h, s) =>
        match k.overlayRange cmd with
        | .error n => .next (s.overlayDone kid n)
        | .ok (g, o) =>
          match s.readPart k.ctx (imLength h) with
          | (.error st, s) => .next (s.overlayStop kid st)
          | (.ok im, s) =>
            if sha3 (imBlank im) ≠ k.digest ∨ imDigest im ≠ k.digest then .next (s.overlayDone kid 5)
            else
              let code := ((imCode im).drop g.off).take g.len
              let s := (s.kernelCores k).foldl (fun (s : State) c => s.locWrite c o code) s
              .next ((s.setKernel (k.patched o code)).overlayDone kid 0)

end Sys2Proof.Machine
end

