-- ==== Sys2Proof/Machine/Passage.lean ====
section
/-!
DEFINITION. Meanings of PASS and of the steps of a passage transfer (15 R294 to R300, R304).
-/

namespace Sys2Proof.Machine

/-! ### PASS (15 R304) -/

/-- PASS: a jump within the current segment, else a departure. -/
def passBody : Body := fun sid c x s =>
  let lnk := c.mod.toNat.testBit 0
  let a := x.reg .scalar c.a.toNat
  let d := x.reg .scalar c.c.toNat
  match x.checkUses { all := (if lnk then [d] else []) ++ [a], src := [a] } with
  | .error st => (s, .error st)
  | .ok _ =>
    let v := x.readUe a 64
    let t := BitVec.ofNat 64 v.1
    let away := match s.passageOf x with
      | some k => if k.segmentAt x.pc.toNat = k.segmentAt t.toNat then none else some k
      | none => none
    if !x.pass then (s, .error (.trap .passageMap t))
    else if v.1 % 2 = 1 then (s, .error (.trap .align t))
    else
      match x.checkUses { dst := if lnk then [d] else [] } with
      | .error st => (s, .error st)
      | .ok _ =>
        let link := if lnk then scalarResult x c.c.toNat (x.nextPc c).toNat else []
        match away with
        | none => (s, .ok (.go { writes := link, ue := v.2, jump := some t }))
        | some k => s.depart sid x c k t (8 * c.imm.toNat) link v.2

/-- PASS. -/
def execPass (c : Chain) (s : State) : Host.Outcome State Fault Refusal := .next (s.issue opPass c passBody)

/-! ### The lead core (15 R296) -/

/-- Ring places of a context in use on a core. -/
def State.ringUsed (s : State) (ctx core : Nat) : List Nat :=
  (s.kn.rings.filter (fun r => r.1 == ctx && r.2.1 == core)).map (fun r => r.2.2)

/-- Answers to a RESERVE: 1 NOCORE, 2 FULL, 4 + 64 n + p for a grant of place p on core n. -/
def resNoCore : Nat := 1
def resFull : Nat := 2
def resGrant (core place : Nat) : Nat := 4 + 64 * core + place

/-- A RESERVE answered by the lead core of its segment; without a heap it is FULL (15 R298 item 3). -/
def execPassageReserve (rid : Nat) (s : State) : Host.Outcome State Fault Refusal :=
  match s.ready rid with
  | none => .next s
  | some m =>
    match m.op with
    | .reserve kid seg _ _ _ _ =>
      let answer := fun (s : State) (a : Nat) => s.modMsg rid (fun x => { x with answer := some a })
      let size := (s.ctx m.ctx).phsize
      match s.sealedFor kid m.ctx with
      | none => .next (answer s (if size = 0 then resFull else resNoCore))
      | some k =>
        let list := ((k.segments[seg]?).map Segment.cores).getD []
        let up := list.filter (fun c => s.coreUp c &&
          ((s.zone (zoneOf c)).state == .flowing || (s.zone (zoneOf c)).state == .throttled))
        let room := up.filter (fun c => decide ((s.ringUsed m.ctx c).length < size))
        if size = 0 then .next (answer s resFull)
        else if up = [] then .next (answer s resNoCore)
        else match s.fewest kid seg room with
          | none => .next (answer s resFull)
          | some c =>
            let p := ((List.range size).find? (fun p => !(s.ringUsed m.ctx c).contains p)).getD 0
            let t := { s with kn := { s.kn with arrCounts := s.kn.arrCounts ++ [(kid, seg, c)], rings := s.kn.rings ++ [(m.ctx, c, p)] } }
            .next (answer t (resGrant c p))
    | _ => .next s

/-! ### Departure (15 R295, R297) -/

/-- State words of an image, words 0 to 21 (15 R297). -/
def Slot.passWords (x : Slot) (live : Nat) (pc : Word) : List Nat :=
  [pc.toNat, live + x.replay.toNat * 2 ^ 16 + x.sup.toNat * 2 ^ 17, x.flags.toNat, x.uefl.toNat, x.uexy.toNat, x.chk.toNat,
   x.vws.toNat, x.vwv.toNat, x.vwt.toNat, x.vwa.toNat, x.fmt.toNat, x.sca.toNat, x.scb.toNat, x.band.toNat] ++
  [x.task.toNat, x.gid.toNat, x.gthr.toNat, x.gshape.toNat, x.trapc.toNat, x.epc.toNat, x.tval.toNat, x.sscr.toNat]

/-- The arrival image of a thread as a little-endian number. -/
def Slot.passImage (x : Slot) (live : Nat) (pc : Word) : Nat :=
  let regs := (shipped live).foldl (fun n r => if r.2.size = 0 then n else n + (x.readUe r.2 64).1 * 2 ^ (8 * r.1)) 0
  let words := x.passWords live pc
  regs + (List.range words.length).foldl (fun n i => n + (words[i]?.getD 0) * 2 ^ (8 * (0x1800 + 8 * i))) 0

/-- A slot that is granted its transfer: link and lat written, state captured, the slot FREE, the image on its way. -/
def State.departNow (s : State) (rid sid : Nat) (m : Msg) (x : Slot) (core place : Nat) : State :=
  match m.op with
  | .reserve kid seg live target link ue =>
    let ev := (shipped live).flatMap (fun r => if r.2.size = 0 then [] else (x.readUe r.2 64).2)
    let y := x.applyWrites link 0 (ue ++ ev)
    let t : Transfer :=
      { ctx := x.ctx, kid := kid, fromCore := sid / 16, fromSlot := sid % 16, core := core, place := place, seg := seg
        image := y.passImage live target, live := live, pc := target, waitFor := s.leftBehind sid
        group := x.group, pulled := x.pulled, task := x.task, tasks := x.tasks, dealt := x.dealt }
    let s := (s.unpost rid).truncate x.ctx x
    let s := (s.freeSlot sid).unloadEnd
    { s with kn := { s.kn with transfers := kset s.kn.transfers rid t } }
  | _ => s

/-- The answer to a RESERVE reaches the departing slot. -/
def execPassageGrant (rid : Nat) (s : State) : Host.Outcome State Fault Refusal :=
  match kget s.msgs rid with
  | none => .next s
  | some m =>
    match m.op, m.answer, m.sid.bind (fun i => (s.slot i).map (fun x => (i, x))) with
    | .reserve _ _ _ target _ _, some a, some (sid, x) =>
      if a = resNoCore then .next ((s.unpost rid).takeTrap sid x .passageMap target false)
      else if a = resFull then .next ((s.unpost rid).takeTrap sid x .inboxHeap target false)
      else .next (s.departNow rid sid m x ((a - 4) / 64) ((a - 4) % 64))
    | _, _, _ => .next s

/-- Virtual address of a ring place (15 R298). -/
def Context.placeVa (c : Context) (core p : Nat) : Nat := (c.phbase.toNat + (core * c.phsize + p) * 8192) % 2 ^ 64

/-- Source number of a core's passage image accesses (08 R171). -/
def passSrc (core : Nat) : Nat := 0x4000 + core

/-- A transfer ends without an arrival: its place and its arrival count are free. -/
def State.endTransfer (s : State) (tid : Nat) (t : Transfer) : State :=
  { s with kn := { s.kn with
      transfers := kdel s.kn.transfers tid
      arrCounts := s.kn.arrCounts.erase (t.kid, t.seg, t.core)
      rings := s.kn.rings.filter (fun r => r != (t.ctx, t.core, t.place)) } }

/-- Header word of an arrival descriptor (15 R299). -/
def State.descriptor (s : State) (t : Transfer) : Word :=
  BitVec.ofNat 64 (t.place * 2 ^ 48 + t.ctx * 2 ^ 38 + s.ownAgent * 2 ^ 28 + t.fromCore * 2 ^ 20 + t.fromSlot * 2 ^ 16)

/-- The descriptor sent to the target core. -/
def State.sendDescriptor (s : State) (tid : Nat) (t : Transfer) : State :=
  let (r, s) := s.newId
  let target := BitVec.ofNat 64 (t.place * 2 ^ 48 + t.core * 2 ^ 10 + s.ownAgent)
  let s := { s with kn := { s.kn with transfers := kset s.kn.transfers tid { t with written := true, writes := none, image := 0 } } }
  s.post r { sid := none, ctx := t.ctx, user := false, op := .packet target (s.descriptor t) [], pa := 0, after := [], dep := none }

/-- The image is written to its ring place, as far as it is defined, and the descriptor is sent (15 R295, R297, R298). -/
def execPassageImageWritten (rid : Nat) (s : State) : Host.Outcome State Fault Refusal :=
  match kget s.kn.transfers rid with
  | none => .next s
  | some t =>
    let src := passSrc t.fromCore
    let fail := fun (s : State) => (s.endTransfer rid t).faultContext t.ctx 16 (sidOf t.fromCore t.fromSlot)
    match t.written, t.writes with
    | true, _ => .next s
    | false, some ws =>
      if !ws.all s.settled then .next s
      else if ws.any s.refused' then .next (fail (s.forget ws))
      else .next ((s.forget ws).sendDescriptor rid t)
    | false, none =>
      let va := (s.ctx t.ctx).placeVa t.core t.place
      let parts := [(0, 0x1000 + t.live), (0x1800, 176)]
      -- every byte must be writable before any is written
      let ok := parts.foldl (fun (acc : Got Unit × State) p =>
        match acc with
        | (.ok _, s) => s.engWritable src t.ctx (va + p.1) p.2 1 true
        | acc => acc) (.ok (), s)
      match ok with
      | (.ok _, s) =>
        let r := parts.foldl (fun (acc : List Nat × State) p =>
          let w := acc.2.engWrite src t.ctx (va + p.1) (bytesOf p.2 (t.image >>> (8 * p.1))) 1 true
          (acc.1 ++ w.2.2.1, w.2.2.2)) ([], s)
        if r.1 = [] then .next (r.2.sendDescriptor rid t)
        else .next { r.2 with kn := { r.2.kn with transfers := kset r.2.kn.transfers rid { t with writes := some r.1 } } }
      | (.nack, s) => .next (fail s)
      | (_, s) => .next s

/-! ### Arrival (15 R300) -/

/-- The head arrival of a core: the first descriptor accepted whose context is RESIDENT. -/
def State.headArrival (s : State) (core : Nat) : Option (Nat × Transfer) :=
  (s.kn.transfers.filter (fun (p : Nat × Transfer) => p.2.core == core && p.2.accepted.isSome && (s.ctx p.2.ctx).state == .resident)).foldl
    (fun (m : Option (Nat × Transfer)) p =>
      match m with
      | none => some p
      | some q => if p.2.accepted.getD 0 < q.2.accepted.getD 0 then some p else some q) none

/-- A thread as its image restores it on a fresh slot (15 R297). -/
def Slot.fromImage (x : Slot) (image live : Nat) : Slot :=
  let w := fun (i : Nat) => bitsOf (8 * (0x1800 + 8 * i) + 63) (8 * (0x1800 + 8 * i)) image
  { x.ofStateWords w with
    lat := BitVec.ofNat 4096 image, ofile := BitVec.ofNat 32768 (image % 2 ^ 32768 - image % 2 ^ 4096)
    file := BitVec.ofNat 524288 (if live = 0 then 0 else bitsOf (8 * (0x1000 + live) - 1) (8 * 0x1000) image)
    replay := (w 1).testBit 16, sup := (w 1).testBit 17 }

/-- The descriptor of a transfer leaves its inbox. -/
def State.takeDescriptor (s : State) (t : Transfer) : State :=
  s.modCore t.core (fun k =>
    match k.inbox.findIdx? (fun e => e.isDesc && e.ctx == t.ctx && ihTag e.header == t.place) with
    | some i => { k with inbox := k.inbox.eraseIdx i }
    | none => k)

/-- The start notice is sent to the lead core (15 R300 item 4). -/
def State.sendStartNotice (s : State) (t : Transfer) : State :=
  let (r, s) := s.newId
  s.post r { sid := none, ctx := t.ctx, user := false, op := .startNotice t.kid t.seg t.core t.ctx t.place, pa := 0, after := [], dep := none }

/-- An arrival's thread starts on its reserved slot. -/
def State.startArrival (s : State) (tid : Nat) (t : Transfer) (k : Kernel) (slot : Nat) (image : Nat) : State :=
  let sid := sidOf t.core slot
  let x := ((s.freshSlot t.ctx k t.pc).fromImage image t.live)
  -- its thermal class is 0 (20 R404)
  let x := { x with group := t.group, pulled := t.pulled, tasks := t.tasks, dealt := t.dealt, waitFor := t.waitFor }
  let s := { s with kn := { s.kn with transfers := kdel s.kn.transfers tid } }
  let s := { s with gr := { s.gr with groups := kmod s.gr.groups t.group (fun g => { g with cores := [t.core], slots := [[slot]] }) } }
  ((s.sendStartNotice t).takeDescriptor t).startSlot sid x

/-- The head arrival of a core is started: a slot and room are reserved, and its image is read (15 R298, R300).  One
whose kernel has left the die is discarded. -/
def execArrivalStart (core : Nat) (s : State) : Host.Outcome State Fault Refusal :=
  match s.headArrival core with
  | none => .next s
  | some (tid, t) =>
    match s.kernel t.kid with
    | none => .next ((s.takeDescriptor t).endTransfer tid t)
    | some k =>
      let slot := match t.reserved with
        | some q => some q
        | none =>
          match s.offer core (s.pairOn t.ctx) with
          | some o => if o.fits k.space then o.slots.head? else none
          | none => none
      match slot with
      | none => .next s
      | some q =>
        let s := { s with kn := { s.kn with transfers := kset s.kn.transfers tid { t with reserved := some q } } }
        let va := (s.ctx t.ctx).placeVa core t.place
        let fail := fun (s : State) => ((s.takeDescriptor t).endTransfer tid t).faultContext t.ctx 16 (sidOf core q)
        match s.engRead (passSrc core) t.ctx va (0x1000 + t.live) 0 false true with
        | (.ok (regs, _), s) =>
          match s.engRead (passSrc core) t.ctx (va + 0x1800) 176 0 false true with
          | (.ok (words, _), s) => .next (s.startArrival tid t k q (ofBytes regs + ofBytes words * 2 ^ (8 * 0x1800)))
          | (.nack, s) => .next (fail s)
          | (_, s) => .next s
        | (.nack, s) => .next (fail s)
        | (_, s) => .next s

/-- A start notice reaches the lead core (15 R296). -/
def execStartNotice (rid : Nat) (s : State) : Host.Outcome State Fault Refusal :=
  match s.ready rid with
  | none => .next s
  | some m =>
    match m.op with
    | .startNotice kid seg core ctx place =>
      let s := s.unpost rid
      .next { s with kn := { s.kn with arrCounts := s.kn.arrCounts.erase (kid, seg, core)
                                       rings := s.kn.rings.filter (fun r => r != (ctx, core, place)) } }
    | _ => .next s

end Sys2Proof.Machine
end

