-- ==== Sys2Proof/Machine/Barriers.lean ====
section
/-!
DEFINITION. Meanings of BARI, BARA, BARW, BARQ and BARX, of the steps of barriers at their home, and of stealing
(17 R327 to R347).
-/

namespace Sys2Proof.Machine

/-! ### The instructions (17 R334 to R340) -/

/-- A named barrier that a slot's group does not have (17 R335, R336, R338). -/
def Slot.noBarrier (x : Slot) (h : Word) : Bool := !bhDie h && (x.pass || decide (32 * shCores x.gshape.toNat ≤ bhN h))

/-- The trap NOBAR at issue. -/
def noBar (h : Word) : Stop := .trap .barrierBroken (barrierTval h brNobar)

/-- A request of a slot to a barrier. -/
def State.barrierMsg (s : State) (sid : Nat) (x : Slot) (op : Nat) (h a m : Word) : Msg :=
  { sid := some sid, ctx := x.ctx, user := !x.sup, op := .barrier op h a m x.group x.gthr.toNat
    pa := (if bhDie h then bhHome h else s.ownAgent) * 2 ^ 42, after := [], dep := none, epc := x.pc, nackVal := h, fab := bhDie h }

/-- BARI (17 R335). -/
def bariBody : Body := fun sid c x s =>
  let h := x.reg .scalar c.a.toNat
  let a := x.reg .scalar c.b.toNat
  let m := x.reg .scalar c.c.toNat
  match x.checkUses { all := [h, a, m], src := [h, a, m] } with
  | .error st => (s, .error st)
  | .ok _ =>
    let u := x.readUe h 64
    let v := x.readUe a 64
    let w := x.readUe m 64
    let hw := BitVec.ofNat 64 u.1
    if x.noBarrier hw then (s, .error (noBar hw))
    else
      let r := s.request sid { s.barrierMsg sid x 0 hw (BitVec.ofNat 64 v.1) (BitVec.ofNat 64 (w.1 % 256)) with stalls := true } false 32
      (r.2, .ok (.answer r.1 { ue := u.2 ++ v.2 ++ w.2 }))

/-- BARI. -/
def execBari (c : Chain) (s : State) : Host.Outcome State Fault Refusal := .next (s.issue opBari c bariBody)

/-- BARI.clr (17 R335). -/
def bariClrBody : Body := fun sid c x s =>
  let h := x.reg .scalar c.a.toNat
  match x.checkUses { all := [h], src := [h] } with
  | .error st => (s, .error st)
  | .ok _ =>
    let u := x.readUe h 64
    let hw := BitVec.ofNat 64 u.1
    if x.noBarrier hw then (s, .error (noBar hw))
    else
      let r := s.request sid { s.barrierMsg sid x 1 hw 0 0 with stalls := true } false 32
      (r.2, .ok (.answer r.1 { ue := u.2 }))

/-- BARI.clr. -/
def execBariClr (c : Chain) (s : State) : Host.Outcome State Fault Refusal := .next (s.issue opBariClr c bariClrBody)

/-- BARA, BARX, BARW and BARQ: an operation with a deposit.  Arrivals are releases (17 R339 item 1); the release time is
an acquire for what follows its deposit (item 2). -/
def barrierBody (op : Nat) (release acquire ticket : Bool) (noDie : Bool) : Body := fun sid c x s =>
  let d := x.reg .scalar c.a.toNat
  let h := x.reg .scalar c.b.toNat
  if 512 ≤ (s.deps.filter (fun (p : Nat × Dep) => p.2.sid == sid && p.2.len != 0)).length then (s, .error (.hold .again))
  else
  match x.checkUses { all := [d, h], src := h :: (if ticket then [d] else []), dst := [d] } with
  | .error st => (s, .error st)
  | .ok _ =>
    let u := x.readUe h 64
    let e := if ticket then x.readUe d 64 else (0, [])
    let hw := BitVec.ofNat 64 u.1
    if x.noBarrier hw || (noDie && bhDie hw) then (s, .error (noBar hw))
    else
      let again := op == 3 || op == 4
      let (d0, s) := s.newDep { scalarDep sid d 1 0 with acq := acquire, idem := again }
      let msg := { s.barrierMsg sid x op hw (BitVec.ofNat 64 (e.1 % 2 ^ 32)) 0 with dep := some d0 }
      let s := if again then s.modDep d0 (fun y => { y with sent := [msg] }) else s
      ((s.request sid msg release 32).2, .ok (.set ((x.markEmpty d.loc 8).leaveMem c (u.2 ++ e.2))))

/-- BARA. -/
def execBara (c : Chain) (s : State) : Host.Outcome State Fault Refusal := .next (s.issue opBara c (barrierBody 2 true false false false))

/-- BARW. -/
def execBarw (c : Chain) (s : State) : Host.Outcome State Fault Refusal := .next (s.issue opBarw c (barrierBody 3 false true true false))

/-- BARQ. -/
def execBarq (c : Chain) (s : State) : Host.Outcome State Fault Refusal := .next (s.issue opBarq c (barrierBody 4 false false false false))

/-- BARX. -/
def execBarx (c : Chain) (s : State) : Host.Outcome State Fault Refusal := .next (s.issue opBarx c (barrierBody 5 true true false true))

/-! ### The steps at the home (17 R329 to R333) -/

/-- Where a barrier request is served: a barrier of this die, another agent, or nothing that answers. -/
inductive BarHome where
  | here (k : BKey)
  | agent (a : Nat)
  | gone
  deriving DecidableEq, Repr

/-- Home of a request of this die (17 R328, R329). -/
def State.barrierHome (s : State) (h : Word) (group : Nat) : BarHome :=
  if !bhDie h then .here (.named (128 * group + bhN h))
  else
    match s.homeOf (bhHome h) with
    | .own => .here (.die (bhId h))
    | .agent a => if s.isCompute a then .agent a else .gone
    | .gone => .gone

/-- A barrier request of this die taken to its home by `f`, sent to another agent, or refused. -/
def State.barrierStep (s : State) (rid : Nat) (ops : List Nat) (f : State → Msg → BKey → Nat → Word → Word → Word → Nat → State) : State :=
  match s.ready rid with
  | none => s
  | some m =>
    match m.op with
    | .barrier op h a b group member =>
      if !ops.contains op then s
      else
        match s.barrierHome h group with
        | .here k => f s m k op h a b (if bhDie h then s.ownPos m.ctx else member)
        | .agent g => s.sendMsg rid m g { typ := 0x0A, space := 3, addr := h, op := op, arg1 := a, arg2 := b }
        | .gone => s.nackMsg rid m
    | _ => s

/-- List position of a packet's sender in the context's die list; 8, which no mask holds, when it has none. -/
def State.senderPos (s : State) (p : Packet) : Nat := (s.diePos p.ctx p.src).getD 8

/-- BARI at the home: 0, or the reason of its failure. -/
def State.armAt (s : State) (k : BKey) (ctx group : Nat) (cf mask : Word) : Nat × State :=
  s.armBarrier k ctx group cf.toNat (match k with | .die _ => mask.toNat % 256 | .named _ => 0)

/-- BARRIER_ARM. -/
def execBarrierArm (q : HomeReq) (s : State) : Host.Outcome State Fault Refusal :=
  match q with
  | .own rid => .next (s.barrierStep rid [0] (fun s m k _ _ a b _ =>
      let group := match m.op with | .barrier _ _ _ _ g _ => g | _ => 0
      let r := s.armAt k m.ctx group a b
      r.2.ackMsg rid m r.1))
  | .packet p => .next (s.packetIn p (fun s =>
      if !s.barrierAdmits p.ctx then s.refusePacket p 4
      else let r := s.armAt (.die (bhId p.addr)) p.ctx 0 p.arg1 p.arg2; r.2.respond p { typ := 0x0A, op := r.1 }))

/-- BARI.clr at the home: 0, or BUSY for a die barrier of another context. -/
def State.clearAt (s : State) (k : BKey) (ctx : Nat) : Nat × State :=
  match s.barrierAt k with
  | none => (0, s)
  | some b =>
    let busy := match k with | .die _ => b.ctx != ctx | .named _ => false
    if busy then (brBusy, s) else (0, s.freeBarrier k (some brCleared))

/-- BARRIER_CLEAR. -/
def execBarrierClear (q : HomeReq) (s : State) : Host.Outcome State Fault Refusal :=
  match q with
  | .own rid => .next (s.barrierStep rid [1] (fun s m k _ _ _ _ _ => let r := s.clearAt k m.ctx; r.2.ackMsg rid m r.1))
  | .packet p => .next (s.packetIn p (fun s =>
      if !s.barrierAdmits p.ctx then s.refusePacket p 4
      else let r := s.clearAt (.die (bhId p.addr)) p.ctx; r.2.respond p { typ := 0x0A, op := r.1 }))

/-- A context is FAULTED on another die: the die barriers whose mask names it break (17 R332 item 4). -/
def State.peerFault (s : State) (ctx pos : Nat) : State :=
  s.breakWhere (fun _ => false) (fun b => b.ctx == ctx && b.mask.testBit pos) brFault

/-- BARRIER_ARRIVAL: of BARA or BARX, or word of a context's fault on another die. -/
def execBarrierArrival (q : HomeReq) (s : State) : Host.Outcome State Fault Refusal :=
  match q with
  | .own rid => .next (s.barrierStep rid [2, 5] (fun s m k op h _ _ member =>
      (s.unpost rid).arrive k m.ctx member (op == 5) (.own (m.dep.getD rid)) h))
  | .packet p => .next (s.packetIn p (fun s =>
      if !s.barrierAdmits p.ctx then s.refusePacket p 4
      else if p.op = 6 then (s.peerFault p.ctx (s.senderPos p)).respond p { typ := 0x0A }
      else s.arrive (.die (bhId p.addr)) p.ctx (s.senderPos p) false (.agent p.src p.tag) p.addr))

/-- BARRIER_WAIT. -/
def execBarrierWait (q : HomeReq) (s : State) : Host.Outcome State Fault Refusal :=
  match q with
  | .own rid => .next (s.barrierStep rid [3] (fun s m k _ h a _ _ =>
      (s.unpost rid).awaitBarrier k m.ctx a.toNat (.own (m.dep.getD rid)) h))
  | .packet p => .next (s.packetIn p (fun s => if !s.barrierAdmits p.ctx then s.refusePacket p 4 else s.awaitBarrier (.die (bhId p.addr)) p.ctx (p.arg1.toNat % 2 ^ 32) (.agent p.src p.tag) p.addr))

/-- BARRIER_QUERY. -/
def execBarrierQuery (q : HomeReq) (s : State) : Host.Outcome State Fault Refusal :=
  match q with
  | .own rid => .next (s.barrierStep rid [4] (fun s m k _ _ _ _ _ => s.answerMsg rid m (s.barrierStatus k m.ctx) []))
  | .packet p => .next (s.packetIn p (fun s => if !s.barrierAdmits p.ctx then s.refusePacket p 4 else s.respond p { typ := 0x0A, data := bytesOf 8 (s.barrierStatus (.die (bhId p.addr)) p.ctx) }))

/-- A release packet: the die's waiters for the episode receive the release time, and the straggler mask of a bound
barrier is the die's view (17 R331, R343). -/
def execBarrierReleasePacket (p : Packet) (s : State) : Host.Outcome State Fault Refusal :=
  s.packetStep p (fun s =>
    let s := if p.op.testBit 0 then { s with br := { s.br with views := kset s.br.views p.ctx (p.op / 2 % 256) } } else s
    .next (s.msgs.foldl (fun (s : State) (q : Nat × Msg) =>
      match q.2.op with
      | .barrier 3 h a _ _ _ =>
        if q.2.sent ∧ q.2.ctx = p.ctx ∧ sameBarrier h p.addr ∧ a = p.arg1 then s.answerMsg q.1 q.2 p.arg2.toNat [] else s
      | _ => s) s))

/-! ### Stealing (17 R344 to R347) -/

/-- A die's straggler view of a context. -/
def State.view (s : State) (ctx : Nat) : Nat := kgetD s.br.views ctx 0

/-- A class holds no READY dealt entry, and at least half the working cores have no active slot (17 R344 item 2). -/
def State.dealtIdle (s : State) (ctx : Nat) : Bool :=
  let work := (List.range 144).filter (fun c => !s.fused c)
  let idle := work.filter (fun c => !s.slots.any (fun (p : Nat × Slot) => p.1 / 16 == c) && !s.cx.saved.any (fun v => v.sid / 16 == c))
  !s.pl.pool.any (fun (p : Nat × PoolEntry) => p.2.state == .ready && p.2.ctx == ctx && !recPull p.2.record) &&
    decide (work.length ≤ 2 * idle.length)

/-- A STEAL of a context's class is outstanding. -/
def State.stealing (s : State) (ctx : Nat) (pulled : Bool) : Bool :=
  s.msgs.any (fun (p : Nat × Msg) => p.2.ctx == ctx && (match p.2.op with | .steal q => q == pulled | _ => false))

/-- Pool entries that are EMPTY. -/
def State.poolFree (s : State) : Nat := 1024 * s.liveSlices.length - s.pl.pool.length

/-- STEAL_SEND: a thief asks the straggler of lowest list position. -/
def execStealSend (ctx : Nat) (pulled : Bool) (s : State) : Host.Outcome State Fault Refusal :=
  let v := s.view ctx
  if !s.br.echoCtx.testBit ctx || v.testBit (s.ownPos ctx) || s.stealing ctx pulled || (!pulled && !s.dealtIdle ctx) then .next s
  else
    match (List.range 8).find? (fun i => v.testBit i) with
    | none => .next s
    | some i =>
      match ((s.ctx ctx).dies[i]?).join with
      | none => .next s
      | some a =>
        if s.isOwn a || !s.agentUp a then .next s
        else
          let (r, s) := s.newId
          let m : Msg := { sid := none, ctx := ctx, user := false, op := .steal pulled, pa := 0, after := [], dep := none, sent := true, dsts := [a] }
          .next ((s.post r m).sendPacket a r ctx
            { typ := 0x08, op := min s.br.echoMaxT s.poolFree, arg1 := (if pulled then 1 else 0), arg2 := BitVec.ofNat 64 v })

/-- Entries that an owner may grant, in the order of R345: highest KEY first, then lowest index. -/
def State.grantable (s : State) (ctx : Nat) (pulled : Bool) : List (Nat × PoolEntry) :=
  let ok : List (Nat × PoolEntry) := s.pl.pool.filter (fun (p : Nat × PoolEntry) => p.2.state == .ready && p.2.ctx == ctx &&
    recPull p.2.record == pulled && decide (recKind p.2.record ≤ 2) && p.2.stolen.isNone)
  ok.foldl (fun (l : List (Nat × PoolEntry)) p =>
    l.filter (fun (q : Nat × PoolEntry) => decide (recKey p.2.record ≤ recKey q.2.record)) ++ [p] ++
      l.filter (fun (q : Nat × PoolEntry) => decide (recKey q.2.record < recKey p.2.record))) []

/-- A counter of ECHO_STEALCNT raised, up to 0xFFFF: 0 TAKEN, 1 GIVEN, 2 LOST. -/
def State.countSteal (s : State) (i n : Nat) : State :=
  { s with br := { s.br with stealCnt := s.br.stealCnt.set i (min 0xFFFF ((s.br.stealCnt[i]?.getD 0) + n)) } }

/-- STEAL: the owner answers with one GRANT (17 R345); tasks granted to a thief that is FENCED or DOWN are lost
(17 R347). -/
def execSteal (p : Packet) (s : State) : Host.Outcome State Fault Refusal :=
  s.packetStep p (fun s =>
    if !s.admits p.ctx then .next (s.refusePacket p 4)
    else
      let may := s.br.echoCtx.testBit p.ctx && (s.ctx p.ctx).state == .resident && p.arg2.toNat.testBit (s.ownPos p.ctx)
      let given := if may then (s.grantable p.ctx (p.arg1.toNat % 2 == 1)).take (min 15 p.op) else []
      let n := given.length
      let s := (given.foldl (fun (s : State) q => s.emptyEntry q.1) s).unloadEnd
      let s := s.countSteal 1 n
      let s := if s.agentUp p.src then s else s.countSteal 2 n
      let r : Packet := { typ := 0x09, rsp := true, vc := 1, dst := p.src, src := s.ownAgent, tag := p.tag, ctx := p.ctx, op := n
                          data := given.flatMap (fun q => bytesOf 64 q.2.record) }
      .next (s.out (.packet r)))

/-- A granted record enters the thief's pool READY, or is dropped with BAD set (17 R346). -/
def State.takeGrant (s : State) (ctx src r : Nat) : State :=
  let plain := recKind r ≤ 1 && !recPull r
  if plain && (s.sealedFor (recKid r) ctx).isNone then s.dropPost false
  else
    match s.postRecord ctx r (some src) with
    | (some _, s) => s
    | (none, s) => s.dropPost true

/-- GRANT. -/
def execGrant (p : Packet) (s : State) : Host.Outcome State Fault Refusal :=
  s.packetStep p (fun s =>
    match kget s.msgs p.tag with
    | none => .next s
    | some m =>
      match m.op with
      | .steal _ =>
        let n := p.data.length / 64
        .next ((List.range n).foldl (fun (s : State) i =>
          s.takeGrant m.ctx p.src (ofBytes ((p.data.drop (64 * i)).take 64))) ((s.unpost p.tag).countSteal 0 n))
      | _ => .next s)

end Sys2Proof.Machine
end

