-- ==== Sys2Proof/Machine/Launch.lean ====
section
/-!
DEFINITION. Meanings of the steps of launches: the post, the count, dealing, placement, exits, mirrors, and what the loss
of a die does to them (16 R314 to R326).
-/

namespace Sys2Proof.Machine

/-! ### Fields of a launch record (16 R314) -/

def laShape (r : Nat) : Nat := bitsOf 9 0 r
def laTherm (r : Nat) : Nat := bitsOf 12 10 r
def laInd (r : Nat) : Nat := bitsOf 14 13 r
def laCsrc (r : Nat) : Nat := recWord r 2
def laIn (r : Nat) : Nat := recWord r 5
def laFin (r : Nat) : Nat := recWord r 6

/-- The launch's dies, in list order. -/
def laDies (r : Nat) : List Nat :=
  (List.range (bitsOf 18 16 r + 1)).map (fun i => (recWord r (3 + i / 4) >>> (10 * (i % 4))) % 1024)

/-- A shape or reserved field makes the record invalid (16 R315 items 1 and 2). -/
def laBad (r : Nat) : Bool :=
  r.testBit 15 || bitsOf 31 19 r != 0 || recWord r 3 / 2 ^ 40 != 0 || recWord r 4 / 2 ^ 40 != 0 || laInd r == 3 ||
    (laInd r == 0 && laCsrc r / 2 ^ 32 != 0) || shapeBad (laShape r)

/-! ### Posting (16 R315 to R319) -/

/-- A bit of DIE_LSTAT is set and VEC sent: FULL, BAD, LOST (16 R318). -/
def State.launchFull (s : State) : State :=
  if s.gr.lfull then s.sticky .launchFull else (({ s with gr := { s.gr with lfull := true } }).irq s.gr.lvec).sticky .launchFull
def State.launchBad (s : State) : State :=
  if s.gr.lbad then s.sticky .launchBad else (({ s with gr := { s.gr with lbad := true } }).irq s.gr.lvec).sticky .launchBad
def State.launchLost (s : State) : State :=
  if s.gr.llost then s.sticky .launchLost else (({ s with gr := { s.gr with llost := true } }).irq s.gr.lvec).sticky .launchLost

/-- The record's dies and kernel are invalid (16 R315 items 3 and 4).  What holds on another die is not seen here: with
such dies listed, the answer for them is a free choice. -/
def State.launchInvalid (s : State) (ctx r : Nat) : Bool × State :=
  let dies := laDies r
  let bad := (distinct dies).length != dies.length || dies.any (fun a => !s.isCompute a) || !dies.any s.isOwn ||
    (match s.sealedFor (recKid r) ctx with
      | some k => k.pass || s.entryBad ctx (recKid r) (recPc r) true
      | none => true)
  if bad || dies.all s.isOwn then (bad, s) else let (f, s) := s.draw; (f % 2 == 1, s)

/-- A launch written. -/
def State.setLaunch (s : State) (l : Nat) (x : Launch) : State := { s with gr := { s.gr with launches := kset s.gr.launches l x } }

/-- A launch leaves the table: FREE. -/
def State.freeLaunch (s : State) (l : Nat) : State := { s with gr := { s.gr with launches := kdel s.gr.launches l } }

/-- A mirror update sent to the deputy, with the deal that waits for its acknowledgement; without a deputy the deal goes
at once (16 R323 item 1). -/
def State.toMirror (s : State) (l : Nat) (x : Launch) (p : Packet) (deal : Option Packet) : State :=
  match x.deputy with
  | some d =>
    let (r, s) := s.newId
    let p : Packet := { p with typ := 0x07, space := 3, dst := d, ctx := x.ctx, addr := 5, arg1 := BitVec.ofNat 64 l }
    let m : Msg := { sid := none, ctx := x.ctx, user := false, op := .mirror l p deal, pa := 0, after := [], dep := none, sent := true, dsts := [d] }
    (s.post r m).sendPacket d r x.ctx p
  | none => match deal with
    | some d => s.sendDeal d
    | none => s

/-- Stands for the die of an index that waits to be dealt again: no agent has this number. -/
def noAgent : Nat := 2 ^ 16

/-- The full state of a launch sent to its deputy: record, next index and count, then each index that is outstanding or to be
dealt again. -/
def State.mirrorAll (s : State) (l : Nat) (x : Launch) : State :=
  let base : Packet := { typ := 0x07, op := 1, arg2 := BitVec.ofNat 64 (x.next + x.total * 2 ^ 32), data := bytesOf 64 x.record }
  (x.out ++ x.redeal.map (fun i => (i, noAgent))).foldl (fun (s : State) (q : Nat × Nat) =>
    s.toMirror l x { typ := 0x07, arg2 := BitVec.ofNat 64 (q.1 + q.2 * 2 ^ 32) } none) (s.toMirror l x base none)

/-- The deputy drops the mirror of a launch that ends without an exit report. -/
def State.dropMirror (s : State) (l : Nat) (x : Launch) : State := s.toMirror l x { typ := 0x07, op := 2 } none

/-- A launch enters the table WAITING, with waiters for its versions; it is READY at once when it has nothing to wait
for (16 R319, R320). -/
def State.enterLaunch (s : State) (l ctx r : Nat) : State :=
  let (u, s) := s.newId
  let ins := (if laIn r = 0 then [] else [(laIn r, 2 * u)]) ++ (if laInd r = 2 then [(laCsrc r, 2 * u + 1)] else [])
  let x : Launch := { ctx := ctx, record := r, uid := u, waits := ins.length, deputy := s.deputyOf (laDies r) s.ownAgent
                      state := if ins = [] ∧ s.released (recRelease r) then .ready else .waiting }
  let s := (s.setLaunch l x).mirrorAll l x
  ins.foldl (fun (s : State) i => s.seekWaiter ctx (BitVec.ofNat 64 i.1) (.launch i.2)) s

/-- Lowest free place of the launch table. -/
def State.freeLaunchIndex (s : State) : Option Nat := (List.range 64).find? (fun i => (kget s.gr.launches i).isNone)

/-- Number that names the reads of posted records (see `State.hold`). -/
def postSrc (ctx : Nat) : Nat := 0x7000 + ctx

/-- The oldest pending post of an address in a context. -/
def State.postKey (s : State) (v : Word) (ctx : Nat) : Option Nat :=
  (s.gr.posts.find? (fun (p : Nat × (Word × Nat)) => p.2.1 == v && p.2.2 == ctx)).map (fun p => p.1)

/-- The oldest pending post of an address in a context is over: its read is forgotten. -/
def State.endPost (s : State) (v : Word) (ctx : Nat) : State :=
  let s := s.dropEngine (postSrc ctx)
  match s.postKey v ctx with
  | some n => { s with gr := { s.gr with posts := kdel s.gr.posts n } }
  | none => s

/-- LAUNCH_POST: the record is read through the context's pages; a post whose record is still on its way stays pending
and is taken up again.  Each post is a launch of its own, though two name one record (16 R317). -/
def execLaunchPost (v : Word) (ctx : Nat) (s : State) : Host.Outcome State Fault Refusal :=
  let s := if (s.postKey v ctx).isSome then s else s.putPost v ctx
  let va := bitsOf 56 6 v.toNat * 64
  match s.engRead (postSrc ctx) ctx va 64 0 false false with
  | (.ok (bs, ue), s) =>
    let s := s.endPost v ctx
    let r := ofBytes bs
    if !ue.isEmpty || laBad r then .next s.launchBad
    else
      match s.launchInvalid ctx r with
      | (true, s) => .next s.launchBad
      | (false, s) =>
        match s.freeLaunchIndex with
        | none => .next s.launchFull
        | some l => .next (s.enterLaunch l ctx r)
  | (.wait, s) => .next (if s.isHeld (postSrc ctx) ctx va then (s.endPost v ctx).launchBad else s)
  | (_, s) => .next (s.endPost v ctx).launchBad

/-- LAUNCH_RELEASE_TIME: RELEASE has passed and every awaited version is sealed (16 R319). -/
def execLaunchReleaseTime (l : Nat) (s : State) : Host.Outcome State Fault Refusal :=
  match kget s.gr.launches l with
  | some x =>
    if x.state = .waiting ∧ x.waits = 0 ∧ s.released (recRelease x.record) then .next (s.setLaunch l { x with state := .ready })
    else .next s
  | none => .next s

/-! ### Completion (16 R319, R326) -/

/-- The completion action: FIN is decremented. -/
def State.completeLaunch (s : State) (l : Nat) (x : Launch) : State :=
  let s := s.freeLaunch l
  if laFin x.record = 0 then s else s.start (.taskDecrement (BitVec.ofNat 64 (laFin x.record)))

/-- TASK_DECREMENT: a decrement by handle (12 R240, R243). -/
def execTaskDecrement (handle : Word) (s : State) : Host.Outcome State Fault Refusal := .next (s.decrement handle)

/-- Every listed die has reported, and no grotto of any could hold the shape when empty (16 R319). -/
def Launch.unfit (x : Launch) : Bool :=
  x.state == .dealing && x.reports.isEmpty && x.queries.isEmpty && !x.fits && x.next == 0 && x.out.isEmpty && x.redeal.isEmpty

/-- A launch written back: DRAINING once every index is dealt, over once the last outstanding one is reported, and dropped
with BAD where its shape never fits. -/
def State.turnLaunch (s : State) (l : Nat) (x : Launch) : State :=
  let all := x.redeal == [] && decide (x.total ≤ x.next)
  let x := if x.state = .dealing ∧ all then { x with state := .draining }
    else if x.state = .draining ∧ !all then { x with state := .dealing } else x
  if x.unfit then ((s.freeLaunch l).dropMirror l x).launchBad
  else if x.state = .draining ∧ x.out = [] ∧ x.queries = [] then s.completeLaunch l x else s.setLaunch l x

/-! ### The count (16 R320) -/

/-- Some grotto of this die could hold the shape when empty: R307's cores, with the spill space that R85 keeps free (16 R319). -/
def State.everFits (s : State) (ctx r : Nat) : Bool :=
  match s.loadedFor (recKid r) ctx with
  | none => false
  | some k =>
    let n := shSlots (laShape r)
    let fits := fun (c : Nat) => !s.fused c && decide (n * k.space + s.spillSpace c ≤ (s.core c).gran * 4096)
    let pair := s.pairOn ctx
    decide (n ≤ if s.pl.rsv then 15 else 16) && (List.range 36).any (fun g =>
      decide (shCores (laShape r) ≤ ((List.range 4).filter (fun j =>
        if pair then j % 2 == 0 && fits (4 * g + j) && fits (4 * g + j + 1) else fits (4 * g + j))).length))

/-- Room reports asked of the other listed dies (16 R319). -/
def State.askRooms (s : State) (l : Nat) (x : Launch) : State :=
  let others := (laDies x.record).filter (fun a => !s.isOwn a && s.agentUp a)
  others.foldl (fun (s : State) a =>
    s.sendDeal { typ := 0x07, space := 3, dst := a, ctx := x.ctx, addr := 3, arg1 := BitVec.ofNat 64 l, data := bytesOf 64 x.record })
    (s.setLaunch l { x with reports := others })

/-- The count is known: completion at 0, else DEALING. -/
def State.counted (s : State) (l : Nat) (x : Launch) (n : Nat) (bad : Bool) : State :=
  let s := if bad then s.launchBad else s
  if n = 0 ∨ bad then (s.completeLaunch l x).dropMirror l x
  else
    let x := { x with state := .dealing, total := n, fits := s.everFits x.ctx x.record }
    let s := (s.mirrorAll l x).askRooms l x
    match kget s.gr.launches l with
    | some y => s.turnLaunch l y
    | none => s

/-- LAUNCH_COUNT_READ: while its context is RESIDENT (18 R350) a READY launch fixes its count. -/
def execLaunchCountRead (l : Nat) (s : State) : Host.Outcome State Fault Refusal :=
  match kget s.gr.launches l with
  | none => .next s
  | some x =>
    if x.state ≠ .ready ∨ (s.ctx x.ctx).state ≠ .resident then .next s
    else if laInd x.record = 0 then .next (s.counted l x (laCsrc x.record) false)
    else if laInd x.record = 2 then .next (s.counted l x (x.count.getD 0) x.countBad)
    else
      match s.engRead (0x6000 + l) x.ctx (laCsrc x.record) 4 0 false true with
      | (.ok (bs, ue), s) => .next (s.counted l x (ofBytes bs) (!ue.isEmpty))
      | (.nack, s) => .next (s.counted l x 0 true)
      | (_, s) => .next s

/-! ### Rooms and rounds (16 R321) -/

/-- Grottos of this die that deals on their way will take: those that wait to be placed, and those not yet sent (16 R323). -/
def State.dealsToCome (s : State) : List Nat :=
  s.gr.deals.map (fun (d : Nat × Deal) => d.2.grotto) ++
    s.msgs.filterMap (fun (p : Nat × Msg) => match p.2.op with
      | .mirror _ _ (some d) => if s.isOwn d.dst then some (d.op / 2 ^ 8 % 64) else none
      | _ => none) ++
    s.o.agenda.filterMap (fun i => match i with | .launchDeal p => some (p.op / 2 ^ 8 % 64) | _ => none)

/-- Room of this die's grottos for a launch's shape, less what deals on their way will take (16 R307, R321). -/
def State.roomsFor (s : State) (ctx r : Nat) : List Nat :=
  match s.loadedFor (recKid r) ctx with
  | none => List.replicate 36 0
  | some k =>
    if (s.ctx ctx).state != .resident || (s.ctx ctx).restoring then List.replicate 36 0
    else
      let coming := s.dealsToCome
      (List.range 36).map (fun g => s.room g ctx (laShape r) k.space (laTherm r) - (coming.filter (fun j => j == g)).length)

/-- Room of each grotto of a launch's sequence, die by die: as reported, and as it stands on this die. -/
def State.launchRooms (s : State) (x : Launch) : List Nat :=
  (laDies x.record).flatMap (fun a =>
    if s.isOwn a then s.roomsFor x.ctx x.record
    else if !s.agentUp a then List.replicate 36 0
    else (List.range 36).map (fun g => ((x.rooms.find? (fun q => q.1 == a && q.2.1 == g)).map (fun q => q.2.2)).getD 0))

/-- A launch could take a round now. -/
def State.roundReady (s : State) (x : Launch) : Bool :=
  x.state == .dealing && x.reports == [] && x.queries == [] && (s.ctx x.ctx).state == .resident &&
    (x.redeal != [] || decide (x.next < x.total)) && (s.launchRooms x).any (fun n => n != 0)

/-- The launch that takes the next round: of the contexts in turn, the one of least KEY, ties in post order. -/
def State.nextRound (s : State) : Option Nat :=
  let ls : List (Nat × Launch) := s.gr.launches.filter (fun (p : Nat × Launch) => s.roundReady p.2)
  let turn := fun (c : Nat) => (c + 15 - s.gr.lastRound) % 16
  let before := fun (a b : Launch) =>
    decide (turn a.ctx < turn b.ctx) || (a.ctx == b.ctx && (decide (recKey a.record < recKey b.record) ||
      (recKey a.record == recKey b.record && decide (a.uid < b.uid))))
  (ls.foldl (fun (m : Option (Nat × Launch)) p =>
    match m with
    | none => some p
    | some q => if before p.2 q.2 then some p else some q) none).map (fun p => p.1)

/-- First place at or after the cursor, cyclically, with room. -/
def firstRoom (rooms : List Nat) (cursor : Nat) : Option Nat :=
  ((List.range rooms.length).map (fun i => (cursor + i) % rooms.length)).find? (fun j => (rooms[j]?.getD 0) != 0)

/-- The deals of a round: index, place in the sequence, replay; re-dealt indices first (16 R321 items 2 to 4). -/
def dealRound : Nat → List Nat → List Nat → Nat → Nat → Nat → List (Nat × Nat × Bool) × List Nat × List Nat × Nat × Nat
  | 0, rooms, redeal, next, _, cursor => ([], rooms, redeal, next, cursor)
  | n + 1, rooms, redeal, next, total, cursor =>
    match firstRoom rooms cursor with
    | none => ([], rooms, redeal, next, cursor)
    | some j =>
      let rooms' := rooms.set j ((rooms[j]?.getD 0) - 1)
      let c' := (j + 1) % rooms.length
      match redeal with
      | i :: rest =>
        let r := dealRound n rooms' rest next total c'
        ((i, j, true) :: r.1, r.2)
      | [] =>
        if next < total then
          let r := dealRound n rooms' [] (next + 1) total c'
          ((next, j, false) :: r.1, r.2)
        else ([], rooms, [], next, cursor)

/-- LAUNCH_DEAL_ROUND. -/
def execLaunchDealRound (l : Nat) (s : State) : Host.Outcome State Fault Refusal :=
  match kget s.gr.launches l with
  | none => .next s
  | some x =>
    if s.nextRound ≠ some l then .next s
    else
      let rooms := s.launchRooms x
      let dies := laDies x.record
      let (deals, left, redeal, next, cursor) := dealRound (rooms.foldl (fun n k => n + k) 0) rooms x.redeal x.next x.total x.cursor
      let agent := fun (j : Nat) => dies[j / 36]?.getD 0
      let y := { x with
        redeal := redeal, next := next, cursor := cursor
        out := x.out ++ deals.map (fun d => (d.1, agent d.2.1))
        rooms := (List.range left.length).filterMap (fun j => if s.isOwn (agent j) then none else some (agent j, j % 36, left[j]?.getD 0)) }
      let s := { s with gr := { s.gr with lastRound := x.ctx } }
      let s := deals.foldl (fun (s : State) d =>
        let a := agent d.2.1
        let p : Packet := { typ := 0x07, space := 3, dst := a, ctx := x.ctx, addr := 2, op := (if d.2.2 then 1 else 0) + d.2.1 % 36 * 2 ^ 8
                            arg1 := BitVec.ofNat 64 l, arg2 := BitVec.ofNat 64 d.1, data := bytesOf 64 x.record }
        s.toMirror l x { typ := 0x07, arg2 := BitVec.ofNat 64 (d.1 + a * 2 ^ 32) } (some p)) s
      .next (s.turnLaunch l y)

/-- ROOM_REPORT: a leader asks this die for its room, which it gives and will keep correct, with whether an empty grotto of
it holds the shape (R319); or a die's report reaches the leader, to be used from the next round on (16 R321 item 5). -/
def execRoomReport (p : Packet) (s : State) : Host.Outcome State Fault Refusal :=
  s.packetStep p (fun s =>
    let l := p.arg1.toNat
    if !p.rsp ∧ p.op = 0 then
      if !s.admits p.ctx then .next (s.refusePacket p 4)
      else
        let r := ofBytes (p.data.take 64)
        let rooms := s.roomsFor p.ctx r
        let part : Part := { leader := p.src, launch := l, ctx := p.ctx, record := r, last := rooms }
        let s := { s with gr := { s.gr with
          parts := s.gr.parts.filter (fun (q : Part) => !(q.leader == p.src && q.launch == l)) ++ [part]
          replaced := s.gr.replaced.filter (fun q => q != (p.src, l)) } }
        .next (s.respond p { typ := 0x07, addr := 3, op := 1, arg1 := p.arg1, arg2 := if s.everFits p.ctx r then 1 else 0
                             data := rooms.map (fun n => BitVec.ofNat 8 n) })
    else
      let s := if p.rsp then s.unpost p.tag else s
      match kget s.gr.launches l with
      | none => .next (s.respond p { typ := 0x07, addr := 3, op := 1 })
      | some x =>
        let news := (List.range 36).map (fun g => (p.src, g, ((p.data[g]?).map BitVec.toNat).getD 0))
        let x := { x with rooms := x.rooms.filter (fun q => q.1 != p.src) ++ news, reports := x.reports.filter (fun a => a != p.src)
                          fits := x.fits || p.arg2 != 0 }
        .next ((if x.state = .dealing then s.turnLaunch l x else s.setLaunch l x).respond p { typ := 0x07, addr := 3 }))

/-- Rooms that have changed are reported to the leaders of other dies (16 R321 item 5, R322). -/
def State.reportRooms (s : State) : State :=
  if s.gr.parts = [] then s
  else
    let parts := s.gr.parts.filter (fun q => s.agentUp q.leader)
    let changed := parts.filter (fun q => s.roomsFor q.ctx q.record != q.last)
    let now := parts.map (fun q => { q with last := s.roomsFor q.ctx q.record })
    changed.foldl (fun (s : State) q =>
      s.sendDeal { typ := 0x07, space := 3, dst := q.leader, ctx := q.ctx, addr := 3, op := 1, arg1 := BitVec.ofNat 64 q.launch
                   data := (s.roomsFor q.ctx q.record).map (fun n => BitVec.ofNat 8 n) }) { s with gr := { s.gr with parts := now } }

/-! ### Placement (16 R322) -/

/-- LAUNCH_DEAL: the index joins the deals of this die that wait to be placed; one from a leader that has been replaced
is discarded (16 R324 item 2). -/
def execLaunchDeal (p : Packet) (s : State) : Host.Outcome State Fault Refusal :=
  s.packetStep p (fun s =>
    if !s.admits p.ctx then .next (s.refusePacket p 4)
    else
      let l := p.arg1.toNat
      let s := s.respond p { typ := 0x07, addr := 2 }
      if s.gr.replaced.contains (p.src, l) then .next s
      else
        let d : Deal := { ctx := p.ctx, leader := p.src, launch := l, index := p.arg2.toNat, grotto := p.op / 2 ^ 8 % 64, replay := p.op.testBit 0
                          record := ofBytes (p.data.take 64) }
        let (n, s) := s.newId
        .next { s with gr := { s.gr with deals := kset s.gr.deals n d } })

/-- The grotto for a deal: the named one, the next of the die's own in sequence order, or, once it has waited, the first
that has room. -/
def State.dealGrotto (s : State) (d : Deal) (space : Nat) : Option Nat :=
  ((List.range 36).map (fun i => if d.waited then i else (d.grotto + i) % 36)).find?
    (fun g => s.room g d.ctx (laShape d.record) space (laTherm d.record) != 0)

/-- A deal may be placed now. -/
def State.dealReady (s : State) (d : Deal) : Bool :=
  (s.ctx d.ctx).state == .resident && !(s.ctx d.ctx).restoring &&
    (match s.loadedFor (recKid d.record) d.ctx with
      | some k => !d.waited || (s.dealGrotto d k.space).isSome
      | none => false)

/-- GROUP_PLACE. -/
def execGroupPlace (deal : Nat) (s : State) : Host.Outcome State Fault Refusal :=
  match kget s.gr.deals deal with
  | none => .next s
  | some d =>
    match (if s.dealReady d then s.loadedFor (recKid d.record) d.ctx else none) with
    | none => .next s
    | some k =>
      let wait := { s with gr := { s.gr with deals := kset s.gr.deals deal { d with waited := true } } }
      match s.dealGrotto d k.space with
      | none => .next wait
      | some g =>
        let grp : Group := { ctx := d.ctx, kid := k.kid, shape := laShape d.record, cores := [], slots := [], live := 0,
                             launch := some (d.leader, d.launch, laDies d.record, d.index) }
        let x := { ((s.freshSlot d.ctx k (BitVec.ofNat 64 (recPc d.record))).withParam (recParam d.record)) with
          gid := BitVec.ofNat 64 d.index, thermal := laTherm d.record, replay := d.replay }
        match s.placeOn g grp k.space (laTherm d.record) x with
        | some s => .next { s with gr := { s.gr with deals := kdel s.gr.deals deal } }
        | none => .next wait

/-! ### Exits and mirrors (16 R319, R323) -/

/-- A mirror that this die holds. -/
def State.mirrorOf (s : State) (leader l : Nat) : Option Launch :=
  (s.gr.mirrors.find? (fun q => q.1 == leader && q.2.1 == l)).map (fun q => q.2.2)

/-- A mirror written, or dropped. -/
def State.setMirror (s : State) (leader l : Nat) (x : Option Launch) : State :=
  let rest := s.gr.mirrors.filter (fun q => !(q.1 == leader && q.2.1 == l))
  { s with gr := { s.gr with mirrors := rest ++ (match x with | some y => [(leader, l, y)] | none => []) } }

/-- An index in ascending order among others. -/
def insertIndex (i : Nat) (l : List Nat) : List Nat := l.filter (fun j => decide (j < i)) ++ [i] ++ l.filter (fun j => decide (i < j))

/-- An exit takes an index from a launch that this die leads; one that a fenced region has lost is dealt again.  An exit that
comes in the cycle in which its die fails still counts (16 R323). -/
def Launch.exited (x : Launch) (i : Nat) (again : Bool) (cycle : Nat) : Launch :=
  if x.out.any (fun q => q.1 == i) then
    { x with out := x.out.filter (fun q => q.1 != i), redeal := if again then insertIndex i x.redeal else x.redeal }
  else if !again && x.lostAt == cycle && x.lost.contains i then { x with redeal := x.redeal.filter (fun j => j != i) }
  else x

/-- The launch of this die that an exit report names: by its own number, or by that which its lost leader gave it (16 R324). -/
def State.launchNamed (s : State) (leader l : Nat) : Option Nat :=
  if s.isOwn leader then some l
  else (s.gr.launches.find? (fun (p : Nat × Launch) => p.2.was == some (leader, l))).map (fun p => p.1)

/-- EXIT_REPORT: an outstanding index ends; one that a fenced region has lost is dealt again (16 R319, R323; 21 R413).
With the last one the launch is complete, and a deputy drops its mirror. -/
def execExitReport (p : Packet) (s : State) : Host.Outcome State Fault Refusal :=
  s.packetStep p (fun s =>
    let leader := p.arg1.toNat % 2 ^ 16
    let l := p.arg1.toNat / 2 ^ 16
    let i := p.arg2.toNat
    let again := p.op = 1
    let s := s.respond p { typ := 0x07, addr := 4 }
    match s.launchNamed leader l with
    | some k =>
      match kget s.gr.launches k with
      | none => .next s
      | some x =>
        let y := x.exited i again s.t.cycle
        .next (if y = x then s else s.turnLaunch k y)
    | none =>
      match s.mirrorOf leader l with
      | none => .next s
      | some x =>
        if again then .next s
        else
          let x := { x with out := x.out.filter (fun q => q.1 != i) }
          let beyond := x.total ≠ 0 ∧ x.total ≤ x.next ∧ x.out = []
          .next (s.setMirror leader l (if beyond then none else some x)))

/-- MIRROR_UPDATE: the deputy takes over a launch's state, or one deal of it, or drops it, and acknowledges. -/
def execMirrorUpdate (p : Packet) (s : State) : Host.Outcome State Fault Refusal :=
  s.packetStep p (fun s =>
    if !s.admits p.ctx then .next (s.refusePacket p 4)
    else
      let l := p.arg1.toNat
      let lo := p.arg2.toNat % 2 ^ 32
      let hi := p.arg2.toNat / 2 ^ 32
      let s := s.respond p { typ := 0x07, addr := 5 }
      if p.op = 2 then .next (s.setMirror p.src l none)
      else if p.op = 1 then
        .next (s.setMirror p.src l (some { ctx := p.ctx, record := ofBytes (p.data.take 64), next := lo, total := hi
                                           state := if hi = 0 then .waiting else .dealing }))
      else
        match s.mirrorOf p.src l with
        | none => .next s
        | some x => .next (s.setMirror p.src l (some { x with next := max x.next (lo + 1), out := x.out.filter (fun q => q.1 != lo) ++ [(lo, hi)] })))

/-! ### The loss of a die (16 R323, R324) -/

/-- Every survivor has answered: what none of them holds is dealt again in replay, and the launch goes on with a deputy
(16 R324 items 3 and 4). -/
def State.resume (s : State) (l : Nat) (x : Launch) : State :=
  if x.queries ≠ [] then s.setLaunch l x
  else
    let lost := (x.out.filter (fun q => !x.survived.contains q.1)).map (fun q => q.1)
    let x := { x with
      out := x.out.filter (fun q => x.survived.contains q.1), survived := []
      redeal := lost.foldl (fun r i => insertIndex i r) x.redeal
      deputy := s.deputyOf (laDies x.record) s.ownAgent, fits := s.everFits x.ctx x.record }
    let s := (s.mirrorAll l x).askRooms l x
    match kget s.gr.launches l with
    | some y => s.turnLaunch l y
    | none => s

/-- Indices of a launch that this die holds: groups placed, deals waiting, and exits whose reports are still on their way. -/
def State.holdsOf (s : State) (leader l : Nat) : List Nat :=
  s.gr.groups.filterMap (fun (g : Nat × Group) => match g.2.launch with | some (a, b, _, i) => if a = leader ∧ b = l then some i else none | none => none) ++
    (s.gr.deals.filter (fun (d : Nat × Deal) => d.2.leader == leader && d.2.launch == l)).map (fun d => d.2.index) ++
    (distinct (s.msgs.filterMap (fun (p : Nat × Msg) => match p.2.op with
      | .report q => if q.addr = 4 ∧ q.arg1.toNat = leader + l * 2 ^ 16 ∧ s.agentUp q.dst then some q.arg2.toNat else none
      | _ => none)))

/-- What this die holds of a launch belongs to its new leader; late deals of the old one are discarded. -/
def State.newLeader (s : State) (old ol new nl : Nat) : State :=
  { s with gr := { s.gr with
      groups := kmap s.gr.groups (fun _ g => match g.launch with
        | some (a, b, d, i) => if a = old ∧ b = ol then { g with launch := some (new, nl, d, i) } else g
        | none => g)
      deals := kmap s.gr.deals (fun _ d => if d.leader = old ∧ d.launch = ol then { d with leader := new, launch := nl } else d)
      parts := s.gr.parts.filter (fun q => !(q.leader == old && q.launch == ol))
      replaced := s.gr.replaced.filter (fun q => q != (old, ol)) ++ [(old, ol)] } }

/-- LEADER_FAILOVER: the deputy becomes the leader of a launch of a lost one and asks the surviving listed dies what they
hold (16 R324); a launch that dealt nothing yet starts again from its record. -/
def State.failOver (s : State) (old ol : Nat) (x : Launch) : State :=
  let s := s.setMirror old ol none
  match s.freeLaunchIndex with
  | none => s.launchLost
  | some l =>
    if x.total = 0 then (s.newLeader old ol s.ownAgent l).enterLaunch l x.ctx x.record
    else
      let (u, s) := s.newId
      let ask := (laDies x.record).filter (fun a => !s.isOwn a && s.agentUp a)
      let mine := s.holdsOf old ol
      let s := s.newLeader old ol s.ownAgent l
      let s := ask.foldl (fun (s : State) a =>
        let (r, s) := s.newId
        let p : Packet := { typ := 0x07, space := 3, dst := a, ctx := x.ctx, addr := 6, arg1 := BitVec.ofNat 64 (old + ol * 2 ^ 16), arg2 := BitVec.ofNat 64 l }
        let m : Msg := { sid := none, ctx := x.ctx, user := false, op := .query l p, pa := 0, after := [], dep := none, sent := true, dsts := [a] }
        (s.post r m).sendPacket a r x.ctx p) s
      s.resume l { x with uid := u, queries := ask, survived := mine, deputy := none, reports := [], rooms := [], was := some (old, ol) }

/-- LEADER_QUERY: a survivor answers with the indices it holds; or an answer reaches the new leader. -/
def execLeaderQuery (p : Packet) (s : State) : Host.Outcome State Fault Refusal :=
  s.packetStep p (fun s =>
    if p.rsp then
      match kget s.msgs p.tag with
      | some m =>
        match m.op with
        | .query l _ =>
          let s := s.unpost p.tag
          match kget s.gr.launches l with
          | some x =>
            let got := (List.range (p.data.length / 4)).map (fun i => ofBytes ((p.data.drop (4 * i)).take 4))
            .next (s.resume l { x with queries := x.queries.filter (fun a => !m.dsts.contains a), survived := x.survived ++ got })
          | none => .next s
        | _ => .next s
      | none => .next s
    else
      let old := p.arg1.toNat % 2 ^ 16
      let ol := p.arg1.toNat / 2 ^ 16
      let held := s.holdsOf old ol
      .next ((s.newLeader old ol p.src p.arg2.toNat).respond p { typ := 0x07, addr := 6, data := held.flatMap (fun i => bytesOf 4 i) }))

/-- What the loss of an agent does to a launch that this die leads (16 R323). -/
def State.loseDie (s : State) (l agent : Nat) (x : Launch) : State :=
  let gone := (x.out.filter (fun q => q.2 == agent)).map (fun q => q.1)
  let x := { x with
    out := x.out.filter (fun q => q.2 != agent), redeal := gone.foldl (fun r i => insertIndex i r) x.redeal
    rooms := x.rooms.filter (fun q => q.1 != agent), reports := x.reports.filter (fun a => a != agent)
    lost := (if x.lostAt = s.t.cycle then x.lost else []) ++ gone, lostAt := s.t.cycle }
  let led := decide (x.deputy = some agent)
  -- updates to a lost deputy: their deals wait for the new one
  let waiting : List (Nat × Msg) := if led then
      s.msgs.filter (fun (p : Nat × Msg) => match p.2.op with | .mirror k _ _ => k == l | _ => false) else []
  let x := if led then { x with deputy := s.deputyOf (laDies x.record) s.ownAgent } else x
  let s := { s with msgs := s.msgs.filter (fun (p : Nat × Msg) => !waiting.any (fun q => q.1 == p.1)) }
  let s := if led then s.mirrorAll l x else s
  let s := waiting.foldl (fun (s : State) q =>
    match q.2.op with
    | .mirror _ p (some d) => if s.isOwn d.dst || s.agentUp d.dst then s.toMirror l x { typ := 0x07, arg2 := p.arg2 } (some d) else s
    | _ => s) s
  if x.queries.contains agent then s.resume l { x with queries := x.queries.filter (fun a => a != agent) }
  else if x.state = .dealing ∨ x.state = .draining then s.turnLaunch l x
  else s.setLaunch l x

/-- A group of a lost launch runs to its end and is told to nobody (16 R324). -/
def State.orphanGroups (s : State) (p : Nat → Nat → List Nat → Bool) : State :=
  let hit := s.gr.groups.any (fun (g : Nat × Group) => match g.2.launch with | some (a, b, d, _) => p a b d | none => false)
  let s := { s with gr := { s.gr with
    groups := kmap s.gr.groups (fun _ g => match g.launch with | some (a, b, d, _) => if p a b d then { g with launch := none } else g | none => g)
    deals := s.gr.deals.filter (fun (d : Nat × Deal) => !p d.2.leader d.2.launch (laDies d.2.record)) } }
  if hit then s.launchLost else s

/-- An agent has become FENCED or DOWN: launches that this die leads deal its indices again; those it led go over to
this die where it is their deputy, and are lost where no deputy is left (16 R323, R324). -/
def State.launchesLose (s : State) (agent : Nat) : State :=
  let s := s.gr.launches.foldl (fun (s : State) (p : Nat × Launch) =>
    match kget s.gr.launches p.1 with
    | some x => if (laDies x.record).contains agent then s.loseDie p.1 agent x else s
    | none => s) s
  -- updates of launches that are over
  let s := { s with msgs := s.msgs.filter (fun (p : Nat × Msg) => match p.2.op with | .mirror .. => !p.2.dsts.contains agent | _ => true) }
  -- the leader was lost before, and now its deputy
  let s := s.orphanGroups (fun a _ dies => a != agent && !s.isOwn a && !s.agentUp a && dies.contains agent &&
    (match s.deputyOf dies a with | some d => decide (agent < d) | none => true))
  let mine := s.gr.mirrors.filter (fun q => q.1 == agent)
  let s := mine.foldl (fun (s : State) q => s.failOver q.1 q.2.1 q.2.2) s
  -- no deputy is left for the others
  s.orphanGroups (fun a _ dies => a == agent &&
    (match s.deputyOf dies a with | some d => s.isOwn d | none => true))

end Sys2Proof.Machine
end

