-- ==== Sys2Proof/Machine/LinkPort.lean ====
section
/-!
DEFINITION. The UCIe modules: link states, flits, what is unsent when a link is lost, and the loss of an agent
(19 R372 to R378, R380, R383, R387).
-/

namespace Sys2Proof.Machine

/-! ### States (19 R373, R374) -/

/-- Entry into TRAINING: CFG takes effect, and the replay buffer stays. -/
def Link.train (l : Link) : Link := { l with state := .training, failures := 0, width := 0, idleOn := l.idle, rateOn := l.rateCfg }

/-- A trained link: UP at x64, DEGRADED at x32. -/
def Link.wide (l : Link) : LinkState := if l.width = 64 then .up else .degraded

/-- The link carries packets. -/
def Link.carries (l : Link) : Bool := l.state == .up || l.state == .degraded

/-- LINK_ENABLE: CFG is written, and EN := 1 trains a DOWN module. -/
def execLinkEnable (m : Nat) (v : Word) (s : State) : Host.Outcome State Fault Refusal :=
  if 8 ≤ m then .next s
  else
    let n := v.toNat
    .next (s.modLink m (fun l =>
      let l := { l with idle := bitsOf 39 32 n, rateCfg := bitsOf 2 1 n, en := n.testBit 0 }
      if l.en && l.state == .down then l.train else l))

/-- RETRAIN: from DOWN, UP or DEGRADED. -/
def execRetrain (m : Nat) (s : State) : Host.Outcome State Fault Refusal :=
  if 8 ≤ m then .next s
  else .next (s.modLink m (fun l => if l.state == .down || l.carries then l.train else l))

/-! ### What a lost link leaves (19 R383 item 4, R385) -/

/-- A packet that cannot be sent any more: a request is answered with GONE, a chain goes on behind the agent it cannot
reach, and a response is discarded. -/
def State.unsent (s : State) (p : Packet) : State :=
  if p.rsp || p.typ == 0x0E then s
  else if p.typ == 0x0D then
    s.chainOn p.tag p.src p.ctx p.addr.toNat p.data p.agents (p.pos + 1) (p.op ||| 2 ^ p.pos)
  else if s.isOwn p.src then
    s.start (.nack { typ := 0x0E, rsp := true, vc := 1, dst := s.ownAgent, src := s.ownAgent, tag := p.tag, ctx := p.ctx
                     addr := BitVec.ofNat 64 (5 + 256 * p.dst) })
  else s.refusePacket p 5

/-- A module is fenced: what it has not delivered goes another way where there is one. -/
def State.fenceLink (s : State) (m : Nat) : State :=
  let l := s.link m
  if 8 ≤ m || l.state == .down || l.state == .fenced then s
  else
    let left := l.unacked.filterMap (fun f => f.2) ++ l.queue
    let s := s.modLink m (fun l => { l with state := .fenced, queue := [], unacked := [] })
    left.foldl (fun (s : State) p => if s.modulesTo p.dst = [] then s.unsent p else s.out (.packet p)) s

/-- LINK_FENCE. -/
def execLinkFence (m : Nat) (s : State) : Host.Outcome State Fault Refusal := .next (s.fenceLink m)

/-! ### The loss of an agent (10 R212; 17 R332, R347; 19 R387) -/

/-- A request that waits for a response of a lost agent is answered with GONE; one to several agents waits for the
others, and an update of a launch's mirror for a new deputy (16 R323). -/
def State.loseRequest (s : State) (rid agent : Nat) : State :=
  match kget s.msgs rid with
  | none => s
  | some m =>
    if !m.sent || !m.dsts.contains agent then s
    else
      let rest := m.dsts.filter (fun a => a != agent)
      match m.op with
      | .tlbi .. => s.takeAck rid { m with dsts := agent :: rest } 0
      | .mirror .. => s
      | .store .. =>
        if s.local' m.pa then (if m.dsts.head? = some agent then s.takeAck rid { m with dsts := agent :: rest } 0 else s.modMsg rid (fun x => { x with dsts := rest }))
        else s.endNacked rid m
      | .relay .. =>
        if m.dsts.head? = some agent then s.takeAck rid { m with dsts := agent :: rest } 0 else s.modMsg rid (fun x => { x with dsts := rest })
      | _ => s.endNacked rid m

/-- Tasks in GRANTs that a lost thief has not accepted. -/
def State.grantsTo (s : State) (agent : Nat) : Nat :=
  let mine := fun (p : Packet) => p.typ == 0x09 && p.dst == agent
  (List.range 8).foldl (fun n m =>
    let l := s.link m
    n + ((l.queue ++ l.unacked.filterMap (fun f => f.2)).filter mine).foldl (fun n p => n + p.op) 0) 0

/-- Copies of versions homed at a lost agent, for which loads wait, are lost (10 R212). -/
def State.loseCopies (s : State) (agent : Nat) : State :=
  let homed := fun (q : ProxyCopy) => ((s.ctx q.ctx).nsmap[bitsOf 31 28 q.handle.toNat]?).join == some agent
  (s.vs.proxies.filter (fun q => homed q && !q.waiters.isEmpty)).foldl (fun (s : State) q => s.refuseProxy q.ctx q.handle) s

/-- An agent becomes FENCED (1) or DOWN (2) in DIE_TOPO, until die reset. -/
def State.loseAgent (s : State) (agent mark : Nat) : State :=
  if s.isOwn agent || !s.agentUp agent then s
  else
    let lost := s.grantsTo agent
    let s := { s with lk := { s.lk with topo := kset s.lk.topo agent (BitVec.ofNat 64 (setBits 60 59 (s.topo agent) mark)) } }
    let s := if lost = 0 then s else { s with br := { s.br with stealCnt := s.br.stealCnt.set 2 (min 0xFFFF ((s.br.stealCnt[2]?.getD 0) + lost)) } }
    let s := s.msgs.foldl (fun (s : State) (p : Nat × Msg) => s.loseRequest p.1 agent) s
    let s := s.loseCopies agent
    let s := s.breakWhere (fun _ => false) (fun b => match s.diePos b.ctx agent with | some i => b.mask.testBit i | none => false) brFence
    let s := s.launchesLose agent
    if mark = 1 then
      (List.range 8).foldl (fun (s : State) m => if (s.link m).peer = agent ∧ (s.link m).peerUid.isSome then s.fenceLink m else s) s
    else s

/-- AGENT_DOWN_TIMEOUT: no packet from an agent for 16 µs. -/
def execAgentDownTimeout (agent : Nat) (s : State) : Host.Outcome State Fault Refusal :=
  if kgetD s.lk.heard agent 0 + 16000 ≤ s.now then .next (s.loseAgent agent 2) else .next s

/-! ### Sending (19 R376 to R378) -/

/-- Flits that a packet fills. -/
def packetFlits (p : Packet) : Nat := ceilDiv (packetBeats p) 14

/-- Credits of a VC. -/
def Link.credit (l : Link) (vc : Nat) : Int := (l.credits[vc]?).getD 0

/-- A packet may be sent: the first of its VC, with credit, and with room for its flits. -/
def Link.maySend (l : Link) (i : Nat) : Bool :=
  match l.queue[i]? with
  | some p => !(l.queue.take i).any (fun q => q.vc == p.vc) && decide ((min (packetBeats p) 32 : Nat) ≤ l.credit p.vc) &&
      decide (l.unacked.length + packetFlits p ≤ 2048)
  | none => false

/-- A packet put into flits, which are kept until they are acknowledged. -/
def Link.send (l : Link) (i now : Nat) (p : Packet) : Link :=
  let k := packetFlits p
  { l with
    queue := l.queue.take i ++ l.queue.drop (i + 1)
    credits := l.credits.set p.vc (l.credit p.vc - packetBeats p)
    unacked := l.unacked ++ (List.range k).map (fun j => ((l.sendSeq + j) % 4096, if j + 1 = k then some p else none))
    sendSeq := (l.sendSeq + k) % 4096, lastUse := now }

/-- Every link sends the next packet that it can. -/
def State.sendFlits (s : State) : State :=
  (List.range 8).foldl (fun (s : State) m =>
    let l := s.link m
    if l.queue = [] || !l.carries then s
    else
      match (List.range l.queue.length).find? l.maySend with
      | none => s
      | some i =>
        match l.queue[i]? with
        | none => s
        | some p =>
          let s := s.modLink m (fun l => l.send i s.now p)
          { s with o := { s.o with outbox := s.o.outbox ++ [.packet p] } }) s

/-! ### Receiving (19 R376, R377) -/

/-- Flits before a number are received. -/
def Link.free (l : Link) (ack : Nat) : Link :=
  match l.unacked with
  | [] => l
  | f :: _ =>
    let n := (ack + 4096 - f.1) % 4096
    if n = 0 ∨ l.unacked.length < n then l else { l with unacked := l.unacked.drop n, sameReplays := 0 }

/-- Credits returned. -/
def Link.credited (l : Link) (cred : List Nat) : Link :=
  { l with credits := (List.range 4).map (fun v => l.credit v + ((cred[v]?).getD 0 : Nat)) }

/-- A flit that asks for a replay from the next number expected. -/
def State.sendNak (s : State) (m : Nat) : State :=
  let l := s.link m
  let f : Flit := { seq := l.sendSeq, ack := l.recvSeq, ackV := false, nak := true, crcOk := true, cred := [0, 0, 0, 0] }
  (s.modLink m (fun l => { l with sendSeq := (l.sendSeq + 1) % 4096, unacked := l.unacked ++ [(l.sendSeq, none)] })).out (.flit m f)

/-- Flits from ACK on are sent again; eight replays of one flit retrain the module. -/
def State.replayFrom (s : State) (m ack : Nat) : State :=
  let l := (s.link m).free ack
  if 8 ≤ m || l.unacked = [] then s
  else
    let l := { l with replays := min (2 ^ 32 - 1) (l.replays + l.unacked.length), sameReplays := l.sameReplays + 1 }
    s.modLink m (fun _ => if 8 ≤ l.sameReplays && l.carries then { l.train with sameReplays := 0 } else l)

/-- FLIT_RECEIVE: its CRC and SEQ are checked; a NAK is sent, a duplicate discarded, or its ACK, NAK and credits taken. -/
def execFlitReceive (m : Nat) (f : Flit) (s : State) : Host.Outcome State Fault Refusal :=
  let l := s.link m
  if 8 ≤ m || l.state == .down || l.state == .fenced || l.state == .training then .next s
  else if !f.crcOk then .next (s.sendNak m)
  else if f.seq % 4096 ≠ l.recvSeq then
    -- a number already accepted lies up to 2,048 behind
    let behind := (l.recvSeq + 4096 - f.seq % 4096) % 4096
    if behind ≤ 2048 then .next s else .next (s.sendNak m)
  else
    let s := s.modLink m (fun l => ((if f.ackV then l.free f.ack else l).credited f.cred))
    let s := s.modLink m (fun l => { l with recvSeq := (l.recvSeq + 1) % 4096, lastUse := s.now })
    .next (if f.nak then s.replayFrom m f.ack else s)

/-- LINK_REPLAY. -/
def execLinkReplay (m ack : Nat) (s : State) : Host.Outcome State Fault Refusal := .next (s.replayFrom m ack)

/-! ### Degrade, sleep and wake (19 R373) -/

/-- LANE_REPAIR: 32 working lanes are left. -/
def execLaneRepair (m : Nat) (s : State) : Host.Outcome State Fault Refusal :=
  if 8 ≤ m then .next s
  else .next (s.modLink m (fun l => if l.state == .up then { l with state := .degraded, width := 32 } else l))

/-- The idle time of a link has passed, with nothing to send, no replay pending and no credit owed: every beat that the peer
granted can be sent again. -/
def State.linkIdle (s : State) (m : Nat) : Bool :=
  let l := s.link m
  l.carries && l.idleOn != 0 && l.queue.isEmpty && l.unacked.isEmpty && l.credits.all (fun c => c == (l.granted : Int)) && decide (l.lastUse + 1000 * l.idleOn ≤ s.now)

/-- LINK_IDLE_TIMEOUT. -/
def execLinkIdleTimeout (m : Nat) (s : State) : Host.Outcome State Fault Refusal :=
  if decide (m < 8) && s.linkIdle m then .next (s.modLink m (fun l => { l with state := .sleep })) else .next s

/-- LINK_WAKE: a packet to send, or a wake from the peer; one in the cycle of a decision to enter SLEEP abandons that (19
R373). -/
def execLinkWake (m : Nat) (s : State) : Host.Outcome State Fault Refusal :=
  if 8 ≤ m then .next s
  else if s.linkIdle m then .next (s.modLink m (fun l => { l with lastUse := s.now }))
  else .next (s.modLink m (fun l => if l.state == .sleep then { l with state := .waking } else l))

/-- LINK_WAKE_END: the link goes on at its width, or trains. -/
def execLinkWakeEnd (m : Nat) (ok : Bool) (s : State) : Host.Outcome State Fault Refusal :=
  if 8 ≤ m then .next s
  else .next (s.modLink m (fun l =>
    if l.state != .waking then l
    else if ok then { l with state := l.wide, lastUse := s.now }
    else l.train))

/-! ### Unknown packets (19 R380) -/

/-- UNKNOWN_PACKET: answered with BADTYPE on VC0, discarded on the others, and logged. -/
def execUnknownPacket (m : Nat) (p : Packet) (s : State) : Host.Outcome State Fault Refusal :=
  .next (s.packetIn p (fun s =>
    let s := s.monLog 0 m 0 0 3
    if p.vc = 0 then s.refusePacket p 1 else s))

end Sys2Proof.Machine
end

