-- ==== Sys2Proof/Machine/Discovery.lean ====
section
/-!
DEFINITION. Training, discovery and time (19 R372, R373, R386 to R389; 22 R420 step 5).
-/

namespace Sys2Proof.Machine

/-! ### Training -/

/-- The die's own DISCOVER record (19 R388 item 2). -/
def State.ownRecord (s : State) : DiscoverRec :=
  { uid := s.idn.uid, role := 0, fixedId := none, winGib := s.idn.memGib, fence := false
    peers := (List.range 8).filterMap (fun m => (s.link m).peerUid.map (fun u => (m, u))) }

/-- A record sent through a module, and through every module in DISCOVERY but one. -/
def State.announce (s : State) (r : DiscoverRec) (but : Option Nat) : State :=
  (List.range 8).foldl (fun (s : State) m =>
    if (s.link m).state == .discovery && some m != but then s.out (.discover m r) else s) s

/-- A record kept, in place of an earlier one of the same agent. -/
def keepRecord (rs : List DiscoverRec) (r : DiscoverRec) : List DiscoverRec := rs.filter (fun q => q.uid != r.uid) ++ [r]

/-- A module enters DISCOVERY: the die's record names its new peer on every such link, and the new link hears what the die
has seen so far. -/
def State.joinDiscovery (s : State) (m : Nat) (width : Nat) (uid : Word) (grant rate : Nat) : State :=
  let s := s.modLink m (fun l => { l with state := .discovery, width := width, rate := rate, peerUid := some uid, failures := 0
                                          credits := List.replicate 4 (grant : Int), granted := grant, lastUse := s.now })
  let own := s.ownRecord
  let s := s.lk.records.foldl (fun (s : State) r => if r.uid = own.uid then s else s.out (.discover m r)) s
  ({ s with lk := { s.lk with records := keepRecord s.lk.records own, recordAt := s.now } }).announce own none

/-- Rate of a training: at most CFG's, and 32 GT/s while the module's edge zone is EVACUATING (20 R403). -/
def State.trainedRate (s : State) (m rate : Nat) : Nat :=
  if (s.zone (18 + m / 4)).state = .evacuating then 0 else min rate (s.link m).rateOn

/-- A training to a width that a module does not support is declined: it fails (00 R2, 19 R372). -/
def supported (r : Training) : Training :=
  match r with
  | .ok width _ _ _ => if width = 64 ∨ width = 32 then r else .failed
  | .failed => .failed

/-- LINK_TRAINING_END (19 R373, R378, R388 last paragraph). -/
def execLinkTrainingEnd (m : Nat) (r : Training) (s : State) : Host.Outcome State Fault Refusal :=
  let l := s.link m
  if 8 ≤ m || l.state != .training then .next s
  else
    match supported r with
    | .failed =>
      .next (s.modLink m (fun l => if 2 ≤ l.failures then { l with state := .down, failures := 0 } else { l with failures := l.failures + 1 }))
    | .ok width uid grant rate' =>
      let rate := s.trainedRate m rate'
      if grant < 32 then .next (s.fenceLink m)
      else if !s.lk.topoDone then .next (s.joinDiscovery m width uid grant rate)
      else if l.peerUid != some uid then .next (s.fenceLink m)
      else
        .next (s.modLink m (fun l =>
          let l := { l with width := width, rate := rate, failures := 0, credits := List.replicate 4 (grant : Int), granted := grant, lastUse := s.now }
          { l with state := l.wide }))

/-- Bring-up step 5: every enabled module trains (22 R420, 19 R388 item 1). -/
def State.startDiscovery (s : State) : State :=
  let s := (List.range 8).foldl (fun (s : State) m => s.modLink m (fun l => if l.en && l.state == .down then l.train else l)) s
  { s with lk := { s.lk with recordAt := s.now } }

/-! ### Records (19 R387, R388) -/

/-- Agent of a UID. -/
def State.agentOf (s : State) (uid : Word) : Option Nat := (s.lk.uids.find? (fun (p : Nat × Word) => p.2 == uid)).map (fun p => p.1)

/-- A record by which an agent says that it is fenced goes on over every other link that carries packets. -/
def State.spreadFence (s : State) (r : DiscoverRec) (but : Option Nat) : State :=
  (List.range 8).foldl (fun (s : State) m =>
    if (s.link m).carries && some m != but then s.out (.discover m r) else s) s

/-- DISCOVER: a new record is kept and sent on; one with FENCE marks its agent. -/
def execDiscover (m : Nat) (r : DiscoverRec) (s : State) : Host.Outcome State Fault Refusal :=
  if s.lk.topoDone then
    if !r.fence then .next s
    else
      match s.agentOf r.uid with
      | some a => if s.isOwn a || !s.agentUp a then .next s else .next ((s.spreadFence r (some m)).loseAgent a 1)
      | none => .next s
  else if s.lk.records.contains r || r.uid == s.idn.uid then .next s
  else .next (({ s with lk := { s.lk with records := keepRecord s.lk.records r, recordAt := s.now } }).announce r (some m))

/-! ### The topology (19 R388 items 4 to 6, R389) -/

/-- UIDs that a record names as peers. -/
def peersOf (rs : List DiscoverRec) (u : Word) : List Word :=
  match rs.find? (fun r => r.uid == u) with
  | some r => r.peers.map (fun p => p.2)
  | none => []

/-- Distances by breadth: agents reached so far with their distance. -/
def spread (rs : List DiscoverRec) : Nat → List (Word × Nat) → Nat → List (Word × Nat)
  | 0, seen, _ => seen
  | n + 1, seen, d =>
    let front := (seen.filter (fun p => p.2 == d)).flatMap (fun p => peersOf rs p.1)
    let next := front.foldl (fun (l : List (Word × Nat)) u => if l.any (fun p => p.1 == u) then l else l ++ [(u, d + 1)]) seen
    spread rs n next (d + 1)

/-- Links on a shortest path between two agents. -/
def hops (rs : List DiscoverRec) (a b : Word) : Option Nat :=
  ((spread rs rs.length [(a, 0)] 0).find? (fun p => p.1 == b)).map (fun p => p.2)

/-- Modules of an agent that lie on a shortest path to another. -/
def firstHops (rs : List DiscoverRec) (own : DiscoverRec) (b : Word) : List Nat :=
  match hops rs own.uid b with
  | none => []
  | some d => (own.peers.filter (fun p => match hops rs p.2 b with | some e => e + 1 == d | none => false)).map (fun p => p.1)

/-- IDs by fixed request: where two agents request one, the lower UID keeps it. -/
def fixedIds (rs : List DiscoverRec) : List (Word × Nat) :=
  rs.filterMap (fun r =>
    match r.fixedId with
    | some i =>
      if i < 1024 ∧ !rs.any (fun q => q.fixedId == some i && decide (q.uid.toNat < r.uid.toNat)) then some (r.uid, i) else none
    | none => none)

/-- Records by role and then by UID. -/
def sortRecords (rs : List DiscoverRec) : List DiscoverRec :=
  let rank := fun (r : DiscoverRec) => r.role * 2 ^ 64 + r.uid.toNat
  rs.foldl (fun (l : List DiscoverRec) r => l.filter (fun q => decide (rank q < rank r)) ++ [r] ++ l.filter (fun q => decide (rank r ≤ rank q))) []

/-- Every agent's ID: the fixed ones, then the lowest free ID for the others in order. -/
def agentIds (rs : List DiscoverRec) : List (Word × Nat) :=
  let fixed := fixedIds rs
  let rest := sortRecords (rs.filter (fun r => !fixed.any (fun p => p.1 == r.uid)))
  rest.foldl (fun (l : List (Word × Nat)) r =>
    match (List.range 1024).find? (fun i => !l.any (fun p => p.2 == i)) with
    | some i => l ++ [(r.uid, i)]
    | none => l) fixed

/-- DIE_TOPOn of an agent. -/
def topoWord (r : DiscoverRec) (port dist : Nat) : Word :=
  BitVec.ofNat 64 (2 ^ 63 + r.role % 4 * 2 ^ 61 + port * 2 ^ 56 + dist * 2 ^ 48 + min 4096 r.winGib)

/-- The tables built from the records. -/
def State.buildTopology (s : State) (rs : List DiscoverRec) (own : DiscoverRec) : State :=
  let ids := agentIds rs
  let known : List (Nat × DiscoverRec) := ids.filterMap (fun p => (rs.find? (fun r => r.uid == p.1)).map (fun r => (p.2, r)))
  let topo := known.foldl (fun (m : KMap Word) p =>
    let hs := firstHops rs own p.2.uid
    kset m p.1 (topoWord p.2 (hs.foldl min (hs.headD 0)) ((hops rs own.uid p.2.uid).getD 0))) []
  let dies := (known.filter (fun p => p.2.role == 0)).map (fun p => p.1)
  { s with lk := { s.lk with
      topo := topo, uids := known.foldl (fun (m : KMap Word) p => kset m p.1 p.2.uid) []
      paths := known.foldl (fun (m : KMap (List Nat)) p => kset m p.1 (firstHops rs own p.2.uid)) []
      heard := known.foldl (fun (m : KMap Nat) p => kset m p.1 s.now) []
      topoDone := true, topoGen := (s.lk.topoGen + 1) % 2 ^ 16, topoMaster := dies.foldl min (dies.headD 0), records := rs } }

/-- A module leaves DISCOVERY: its link carries packets, or is fenced when its peer has no ID. -/
def State.leaveDiscovery (s : State) (m : Nat) : State :=
  let l := s.link m
  if l.state != .discovery then s
  else
    match l.peerUid.bind s.agentOf with
    | some a => s.modLink m (fun l => { l with state := l.wide, peer := a })
    | none => s.fenceLink m

/-- Discovery may end: 20 µs without a new record, and no module still training (19 R388 item 4). -/
def State.discoveryOver (s : State) : Bool :=
  s.bt.bstep == 5 && !s.lk.topoDone && decide (s.lk.recordAt + 20000 ≤ s.now) &&
    !(List.range 8).any (fun m => (s.link m).state == .training)

/-- DISCOVERY_END: the topology is built, IDs are assigned, links go up, and the die is ready (19 R388, R389; 01 R21;
22 R420). -/
def execDiscoveryEnd (s : State) : Host.Outcome State Fault Refusal :=
  if !s.discoveryOver then .next s
  else
    let own := s.ownRecord
    let s := s.buildTopology (keepRecord s.lk.records own) own
    let s := match s.agentOf own.uid with
      | some a => { s with idn := { s.idn with agv := true, agent := a } }
      | none => s
    let s := (List.range 8).foldl (fun (s : State) m => s.leaveDiscovery m) s
    .next { s with t := { s.t with setDue := !s.isOwn s.lk.topoMaster }, bt := { s.bt with bstep := 6 } }

/-! ### Time (19 R386) -/

/-- The module towards the time master. -/
def State.masterPort (s : State) : Nat := bitsOf 58 56 (s.topo s.lk.topoMaster)

/-- A responder's time base taken by a neighbour: set once after discovery, slewed to afterwards. -/
def State.takeTime (s : State) (p : Packet) : State :=
  let l := s.link s.masterPort
  if !s.lk.topoDone || s.isOwn s.lk.topoMaster || l.peer != p.src then s
  else
    let there := p.arg1.toNat + (s.now - l.timeSent) / 2
    if s.t.setDue then { s with t := { s.t with time := there, setDue := false, slew := 0 } }
    else { s with t := { s.t with slew := (there : Int) - (s.now : Int) } }

/-- TIME: a request is answered with the die's time base; a response from the neighbour on the way to the master corrects
it. -/
def execTime (p : Packet) (s : State) : Host.Outcome State Fault Refusal :=
  .next (s.packetIn p (fun s =>
    if p.rsp then s.takeTime p else s.respond p { typ := 0x0B, arg1 := BitVec.ofNat 64 s.now }))

/-- A nanosecond of the slew, at most one in ten ticks: 100 ns per ms.  A slower clock waits for it, so that the time base
never decreases. -/
def Clock.slewed (t : Clock) : Clock :=
  if t.slew = 0 then { t with slewTicks := 0 }
  else if t.slewTicks < 9 then { t with slewTicks := t.slewTicks + 1 }
  else if 0 < t.slew then { t with time := t.time + 1, slew := t.slew - 1, slewTicks := 0 }
  else { t with timeFrac := t.timeFrac - 5, slew := t.slew + 1, slewTicks := 0 }

/-- TIME_TICK: each UP or DEGRADED link sends a TIME request, and the time base is slewed. -/
def execTimeTick (s : State) : Host.Outcome State Fault Refusal :=
  let s := (List.range 8).foldl (fun (s : State) m =>
    let l := s.link m
    if !l.carries then s
    else
      let p : Packet := { typ := 0x0B, vc := 2, dst := l.peer, src := s.ownAgent, tag := 0xFFFF, arg1 := BitVec.ofNat 64 s.now }
      (s.modLink m (fun l => { l with timeSent := s.now })).toLink m p) s
  .next { s with t := s.t.slewed }

end Sys2Proof.Machine
end

