-- ==== Sys2Proof/Machine/HostPort.lean ====
section
/-!
DEFINITION. The host port: reads and writes through the two BARs (19 R369 to R371; 01 R17 to R20, R428; 12 R242; 13 R279,
R280; 22 R420).
-/

namespace Sys2Proof.Machine

/-- First offsets of the register region's FERP_ block, of the local memory window and of the memory window in their
BARs (19 R369). -/
def barFerp : Nat := 0xD0000
def barLocal : Nat := 0x10000000
def barMemory : Nat := 0x4000000

/-- Before bring-up has ended only the FERP_ block is reached (22 R420). -/
def State.hostBlocked (s : State) (bar offset size : Nat) : Bool :=
  decide (s.bt.bstep < 6) && !(bar == 0 && decide (barFerp ≤ offset) && decide (offset + size ≤ barFerp + 0x10000))

/-- FERP_ registers that may be written before bring-up has ended: those of 22 R424. -/
def ferpEarly (offset : Nat) : Bool := decide (barFerp + 8 ≤ offset) && decide (offset < barFerp + 0x28)

/-- A completion for the host, or Unsupported Request status. -/
def State.hostReply (s : State) (r : Option (List Byte)) : State := s.out (.hostReply r)

/-- Writes of the host that other agents have not answered yet; a refused one completes with Unsupported Request status
(19 R370). -/
def State.hostSettle (s : State) : State :=
  let beyond := s.lk.hostWrites.filter (fun w => s.settled w.2)
  if beyond = [] then s
  else
    let bad := beyond.filter (fun w => s.refused' w.2)
    let s := bad.foldl (fun (s : State) _ => s.hostReply none) s
    let s := s.forget (beyond.map (fun w => w.2))
    { s with lk := { s.lk with hostWrites := s.lk.hostWrites.filter (fun w => !s.settled w.2 || !beyond.contains w) } }

/-- Every write of the host that has been made is performed (19 R371; log 40). -/
def State.hostArrived (s : State) : Bool := s.lk.hostWrites.all (fun w => s.settled w.2)

/-- Physical address that an offset of the memory window reaches (19 R370). -/
def State.hostPa (s : State) (offset : Nat) : Nat := (s.lk.hwbase.toNat + (offset - barMemory)) % 2 ^ 52

/-- Requests for a byte range at another agent under one deposit. -/
def State.hostAsk (s : State) (pa n : Nat) (op : Piece → MsgOp) (after : List Nat) (load : Bool) : Nat × State :=
  let parts := lineParts pa n
  let (d, s) := s.newId
  let s := { s with deps := kset s.deps d { sid := engineSid 144, dst := .lat, len := 0, mask := 0, outstanding := parts.length } }
  let s := parts.foldl (fun (s : State) q =>
    let (r, s) := s.newId
    let piece : Piece := { pa := q.1, bit := 8 * (q.1 - pa), bits := 8 * q.2, high := false, lane := 0, va := 0, poison := false }
    s.post r { sid := none, ctx := s.lk.hctx, user := false, op := op piece, pa := q.1, after := after, dep := some d, isLoad := load, isStore := !load }) s
  (d, s)

/-! ### Reads -/

/-- A load of an aperture of this die in the host's name; none for what no block serves.  The host reads every record of the
record window (12 R242). -/
def State.hostPort (s : State) (off n : Nat) : Option (List Byte) × State :=
  if off - apTask + n ≤ 0x400000 then (some (bytesOf n (s.recordBytes none (off - apTask) n)), s)
  else if n ≠ 8 ∨ off % 8 ≠ 0 then (none, s)
  else
    match s.portLoad s.lk.hctx true off with
    | (.done v, s) => (some (bytesOf 8 v), s)
    | (.nack, s) => (none, s)

/-- A read of the memory window; one at another agent is asked for, and answered when its bytes have come. -/
def State.hostMemRead (s : State) (bar offset size : Nat) : State :=
  let pa := s.hostPa offset
  if s.local' pa then
    let off := pa % 2 ^ 42
    if off + size ≤ s.memBytes then
      if s.lineHeld pa then s else s.hostReply (some (s.memBytesUe off size).1)
    else if inAperture off then
      let r := s.hostPort off size
      r.2.hostReply r.1
    else if inRegs off then s.hostReply (if regServed (off - apRegs) size then some (bytesOf size (s.regRead (off - apRegs) size)) else none)
    else if inLocWin off then s.hostReply (s.hostLocalRead (off - apLocal) size)
    else s.hostReply none
  else
    match s.lk.hostReads.find? (fun r => r.1 == bar && r.2.1 == offset && r.2.2.1 == size) with
    | some r =>
      if !s.settled r.2.2.2 then s
      else
        let v := match kget s.deps r.2.2.2 with
          | some d => if d.nack.isSome then none else some (bytesOf size d.value)
          | none => none
        let s := s.forget [r.2.2.2]
        ({ s with lk := { s.lk with hostReads := s.lk.hostReads.filter (fun q => q != r) } }).hostReply v
    | none =>
      let r := s.hostAsk pa size (fun p => .load [p] none) [] true
      { r.2 with lk := { r.2.lk with hostReads := r.2.lk.hostReads ++ [(bar, offset, size, r.1)] } }

/-- What a read through a BAR of this die's own blocks is answered. -/
def State.hostReadHere (s : State) (bar offset size : Nat) : State :=
  if bar = 0 then
    if offset + size ≤ 0xE0000 then
      s.hostReply (if regServed offset size then some (bytesOf size (s.regRead offset size)) else none)
    else if barLocal ≤ offset ∧ offset + size ≤ barLocal + 0x9000000 then s.hostReply (s.hostLocalRead (offset - barLocal) size)
    else s.hostReply none
  else if bar = 2 then
    if offset + size ≤ 0x400000 ∨ (0x1000000 ≤ offset ∧ offset + size ≤ 0x1040000) ∨ (0x2000000 ≤ offset ∧ offset + size ≤ 0x3000000) then
      let r := s.hostPort (apTask + offset) size
      r.2.hostReply r.1
    else if barMemory ≤ offset ∧ offset + size ≤ 2 ^ 36 then s.hostMemRead bar offset size
    else s.hostReply none
  else s.hostReply none

/-- Most bytes that a host read asks for, and that a host write carries (19 R368). -/
def hostReadMax : Nat := 4096
def hostWriteMax : Nat := 512

/-- HOST_READ: performed once every host write before it has been performed; the host presents it until it is answered
(19 R369 to R371; 22 R420). -/
def execHostRead (bar offset size : Nat) (s : State) : Host.Outcome State Fault Refusal :=
  if s.hostBlocked bar offset size || decide (hostReadMax < size) then .next (s.hostReply none)
  else if !s.hostArrived || !s.lk.hostHeld.isEmpty then .next s
  else .next (s.hostReadHere bar offset size)

/-! ### Writes -/

/-- HOST_LOCAL_WRITE: applied, or ignored and logged for a core with a resident slot or for a SEALED kernel's range
(01 R20; 14 R290).  The KIND 1 record names no source: SRC and CTX are 0 (log 47).  A fused core answers with Unsupported
Request status (log 47). -/
def execHostLocalWrite (offset : Nat) (data : List Byte) (s : State) : Host.Outcome State Fault Refusal :=
  if s.fused (offset / 0x100000) ∨ 0x100000 < offset % 0x100000 + data.length then .next (s.hostReply none)
  else .next (s.hostLocalWrite offset data)

/-- Requests for a host write at an agent, behind the host's earlier writes to it. -/
def State.hostSend (s : State) (pa : Nat) (data : List Byte) : State :=
  let agent := pa / 2 ^ 42
  let before := (s.lk.hostWrites.filter (fun w => w.1 == agent)).map (fun w => w.2)
  let earlier := (s.msgs.filter (fun (p : Nat × Msg) => match p.2.dep with | some d => before.contains d | none => false)).map (fun p => p.1)
  let v := ofBytes data
  let r := s.hostAsk pa data.length (fun p => .store [{ p with bit := 0 }] ((v >>> p.bit) % 2 ^ p.bits)) earlier false
  { r.2 with lk := { r.2.lk with hostWrites := r.2.lk.hostWrites ++ [(agent, r.1)] } }

/-- A store of the host at an aperture; a push to a full queue or FIFO waits there (13 R273, R280). -/
def State.hostPush (s : State) (off : Nat) (data : List Byte) : State :=
  if data.length ≠ 8 ∨ off % 8 ≠ 0 then s.hostReply none
  else
    let (d, s) := s.newId
    let (r, s) := s.newId
    let pa := s.ownAgent * 2 ^ 42 + off
    let m : Msg := { sid := none, ctx := s.lk.hctx, user := false, op := .push pa (BitVec.ofNat 64 (ofBytes data)), pa := pa, after := [], dep := some d
                     isStore := true }
    let s := { s with deps := kset s.deps d { sid := engineSid 144, dst := .lat, len := 0, mask := 0 }
                      lk := { s.lk with hostWrites := s.lk.hostWrites ++ [(s.ownAgent, d)] } }
    (s.post r m).portStore s.lk.hctx off (.own r)

/-- A host write of the register region: before bring-up has ended only some of the FERP_ block can be written (22 R420). -/
def State.hostRegWrite (s : State) (o : Nat) (data : List Byte) : State :=
  if !regServed o data.length then s.hostReply none
  else if s.bt.bstep < 6 ∧ !ferpEarly o then s
  else s.start (.registerWrite o data.length (BitVec.ofNat 64 (ofBytes data)))

/-- A plain store of the host at a physical address (19 R370, R371). -/
def State.hostMemWrite (s : State) (offset : Nat) (data : List Byte) : State :=
  let pa := s.hostPa offset
  let off := pa % 2 ^ 42
  if s.local' pa then
    if off + data.length ≤ s.memBytes then s.memWrite off data
    else if apTask ≤ off ∧ off < apTask + 0x400000 then s
    else if apTask + 0x400000 ≤ off ∧ off < apTask + 0x400400 then s.start (.hostPost (off - apTask) data)
    else if inAperture off then s.hostPush off data
    else if inRegs off then s.hostRegWrite (off - apRegs) data
    else if inLocWin off then s.start (.hostLocalWrite (off - apLocal) data)
    else s.hostReply none
  else s.hostSend pa data

/-- A host write performed at the block that its BAR offset names. -/
def State.hostWriteHere (s : State) (bar offset : Nat) (data : List Byte) : State :=
  let size := data.length
  if bar = 0 then
    if offset + size ≤ 0xE0000 then s.hostRegWrite offset data
    else if barLocal ≤ offset ∧ offset + size ≤ barLocal + 0x9000000 then s.start (.hostLocalWrite (offset - barLocal) data)
    else s.hostReply none
  else if bar = 2 then
    if offset + size ≤ 0x1000000 then
      s.start (.hostPost offset data)
    else if (0x1000000 ≤ offset ∧ offset + size ≤ 0x1040000) ∨ (0x2000000 ≤ offset ∧ offset + size ≤ 0x3000000) then
      s.hostPush (apTask + offset) data
    else if barMemory ≤ offset ∧ offset + size ≤ 2 ^ 36 then s.hostMemWrite offset data
    else s.hostReply none
  else s.hostReply none

/-- Where a host write goes: an offset of a window of this die's, or none for another agent's memory. -/
def State.hostOwn (s : State) (bar offset : Nat) : Bool := !(bar == 2 && decide (barMemory ≤ offset)) || s.local' (s.hostPa offset)

/-- A host write that is performed at fabric scope after every other before it: a post, a push, and a command of DIE_LPOST,
DIE_CTXCMD or LCORE_KCMD (11 R232; 13 R273; 14 R288; 16 R317; 18 R352). -/
def State.hostReleases (s : State) (bar offset : Nat) : Bool :=
  if bar = 0 then isCommand (apRegs + offset)
  else if offset < barMemory then true
  else inAperture (s.hostPa offset % 2 ^ 42) || isCommand (s.hostPa offset)

/-- A host write to this die may be performed: those before it to this die are, and for a release every one (19 R371). -/
def State.hostMay (s : State) (bar offset : Nat) : Bool :=
  if s.hostReleases bar offset then s.hostArrived else s.lk.hostWrites.all (fun w => w.1 != s.ownAgent || s.settled w.2)

/-- The oldest host write that waits is performed when it may be. -/
def State.hostNext (s : State) : State :=
  match s.lk.hostHeld with
  | [] => s
  | w :: ws => if s.hostMay w.1 w.2.1 then { s with lk := { s.lk with hostHeld := ws } }.hostWriteHere w.1 w.2.1 w.2.2 else s

/-- HOST_WRITE (19 R368 to R371; 22 R420): performed in the order of arrival at this die; a longer one than the port supports is
declined. -/
def execHostWrite (bar offset : Nat) (data : List Byte) (s : State) : Host.Outcome State Fault Refusal :=
  if s.hostBlocked bar offset data.length || decide (hostWriteMax < data.length) then .next (s.hostReply none)
  else if s.hostOwn bar offset && (!s.lk.hostHeld.isEmpty || !s.hostMay bar offset) then
    .next { s with lk := { s.lk with hostHeld := s.lk.hostHeld ++ [(bar, offset, data)] } }
  else .next (s.hostWriteHere bar offset data)

end Sys2Proof.Machine
end

