-- ==== Sys2Proof/Machine/Boot.lean ====
section
/-!
DEFINITION. Reset and bring-up: the firmware check, the harvest load, HBM4 training, the anti-rollback count and
attestation (22); an encoding that no instruction has (03 R51, R73).
-/

namespace Sys2Proof.Machine

/-! ### Die reset (22 R420 steps 1 and 2, R421) -/

/-- A copy's key and signature are good. -/
def copySigned (c : FlashCopy) : Bool := c.keyOk && c.sigOk

/-- A copy is accepted. -/
def copyAccepted (c : FlashCopy) (arb : Nat) : Bool := c.keyOk && c.sigOk && decide (arb ≤ c.svn)

/-- A word of the fused-core mask (16 R310). -/
def fusedWord (fused : List Nat) (k : Nat) : Word :=
  BitVec.ofNat 64 ((List.range 64).foldl (fun n i => if fused.contains (64 * k + i) && decide (64 * k + i < 144) then n + 2 ^ i else n) 0)

/-- LCORE_TABLE and CORE_SPACE of a core (04 R86; 16 R312, R313). -/
def harvestCore (p : FusedPart) (n : Nat) : CoreSt :=
  let work := (List.range 144).filter (fun c => !p.fused.contains c)
  { tabV := decide (n < work.length), tabPhys := work[n]?.getD 0
    gran := if p.fused.contains n then 0 else ((p.gran.find? (fun g => g.1 == n)).map (fun g => min 128 g.2)).getD 128 }

/-- The die at the start of bring-up: all at reset but what lies in Ferper's non-volatile store, in fuses or outside. -/
def State.atReset (s : State) (p : FusedPart) : State :=
  let z := State.reset
  { z with
    o := { z.o with nextId := s.o.nextId, fresh := s.o.fresh, irqs := s.o.irqs, outbox := s.o.outbox }
    idn := { z.idn with stepId := p.step % 16, uid := p.uid }
    lk := { z.lk with topoGen := s.lk.topoGen }
    hl := { z.hl with life := s.hl.life, lifeMins := s.hl.lifeMins }
    bt := { z.bt with arb := max s.bt.arb (p.arb % 64) } }

/-- The harvest load: the part's tables, with every way and slice that has been retired. -/
def State.loadHarvest (s : State) (p : FusedPart) (ways : List (Nat × Nat × Nat)) (live : Word) : State :=
  { s with
    hl := { s.hl with harvest := [fusedWord p.fused 0, fusedWord p.fused 1, fusedWord p.fused 2] }
    vs := { s.vs with waysOff := ways ++ p.ways.filter (fun w => !ways.contains w), live := live &&& p.live }
    cores := (List.range 144).map (fun n => (n, harvestCore p n)) }

/-- Bring-up fails. -/
def State.bootFail (s : State) (code : Nat) : State := { s with bt := { s.bt with bfail := true, bcode := code } }

/-- Bring-up enters a step. -/
def State.bootStep (s : State) (n : Nat) : State := { s with bt := { s.bt with bstep := n, bstepAt := s.now } }

/-- The harvest load, once a copy of the firmware runs. -/
def State.bootLoad (s t : State) (p : FusedPart) : State :=
  let t := t.bootStep 2
  if p.tablesOk then (t.loadHarvest p s.vs.waysOff s.vs.live).bootStep 3 else t.bootFail 3

/-- DIE_RESET: copy A is tried, then copy B; then the tables are loaded and the coolant check begins. -/
def execDieReset (part : FusedPart) (copyA copyB : FlashCopy) (s : State) : Host.Outcome State Fault Refusal :=
  let t := (s.atReset part).lived 1 1
  if copyAccepted copyA t.bt.arb then .next (s.bootLoad { t with bt := { t.bt with svn := copyA.svn % 2 ^ 32 } } part)
  else if copyAccepted copyB t.bt.arb then .next (s.bootLoad { t with bt := { t.bt with svn := copyB.svn % 2 ^ 32, copyB := true } } part)
  else .next (t.bootFail (if copySigned copyA && copySigned copyB then 2 else 1))

/-- BRINGUP_TIMEOUT: no compute zone is FLOWING after 10 s. -/
def execBringupTimeout (s : State) : Host.Outcome State Fault Refusal :=
  if s.bt.bfail || s.bt.bstep != 3 || decide (s.now < s.bt.bstepAt + 10000000000) then .next s
  else .next (s.bootFail 4)

/-! ### HBM4 (22 R422) -/

/-- A stack that trains, of a kind that the die supports. -/
def stackUsable (k : Stack) : Bool :=
  k.trained && [8, 12, 16].contains k.height && [24, 32].contains k.density && [64, 80, 100].contains k.grade

/-- Controllers whose stacks remain: those like the first that trains. -/
def remaining (stackList : List Stack) : List Nat :=
  match stackList.find? stackUsable with
  | none => []
  | some r => (List.range stackList.length).filter (fun i => stackList[i]? == some r)

/-- GiB of the stacks that remain. -/
def gibOf (stackList : List Stack) : Nat :=
  (remaining stackList).foldl (fun n i => n + (match stackList[i]? with | some k => k.height * k.density / 8 | none => 0)) 0

/-- HBM4_TRAINING_END: DIE_MEMSZ is written, and stacks left out are logged; discovery begins. -/
def execHbm4TrainingEnd (stackList : List Stack) (s : State) : Host.Outcome State Fault Refusal :=
  if s.bt.bfail || s.bt.bstep != 4 then .next s
  else
    let six := stackList.take 6
    let left := (List.range 6).filter (fun i => !(remaining six).contains i)
    let s := left.foldl (fun (s : State) i => s.monLog 0 i 0 0 10) s
    if gibOf six = 0 then .next (s.bootFail 5)
    else .next (({ s with idn := { s.idn with memGib := gibOf six } }).bootStep 5).startDiscovery

/-! ### The anti-rollback count and attestation (22 R424, R425) -/

/-- ARB_RAISE. -/
def execArbRaise (v : Word) (s : State) : Host.Outcome State Fault Refusal :=
  let n := min (bitsOf 5 0 v.toNat) s.bt.svn
  if n ≤ s.bt.arb then .next s else .next { s with bt := { s.bt with arb := n } }

/-- A report ends. -/
def State.attested (s : State) (err : Bool) : State :=
  { s with bt := { s.bt with attBusy := false, attErr := s.bt.attErr || err, attWrite := none } }

/-- A report whose write at another agent has ended is over. -/
def State.attestEnd (s : State) : State :=
  match s.bt.attWrite with
  | some d => if s.settled d then (s.attested (s.refused' d)).forget [d] else s
  | none => s

/-- ATTESTATION_START: ignored while a report is being built or before bring-up has ended; one that ends in this cycle ends
first. -/
def execAttestationStart (v : Word) (s : State) : Host.Outcome State Fault Refusal :=
  let s := s.attestEnd
  if s.bt.attBusy || s.bt.bstep != 6 then .next s
  else .next { s with bt := { s.bt with attBusy := true, nonce := bytesOf 8 v.toNat, attWrite := none } }

/-- Bytes that depend on keys and images outside the spec (log 3). -/
def attestBytes (first n f : Nat) : List Byte := (List.range n).map (fun i => Config.attestByte (first + i) f)

/-- A report of 4,883 bytes. -/
def State.report (s : State) (firmware signature : Nat) : List Byte :=
  bytesOf 4 0x41545351 ++ bytesOf 4 4883 ++ bytesOf 8 s.idn.uid.toNat ++ bytesOf 4 (s.readDie 0) ++ bytesOf 4 s.bt.svn ++
  s.bt.nonce ++ bytesOf 8 (s.readDie 0x800) ++
  bytesOf 8 (s.readHarv 0) ++ bytesOf 8 (s.readHarv 8) ++ bytesOf 8 (s.readHarv 16) ++ bytesOf 8 s.vs.live.toNat ++
  bytesOf 8 (fields [(8, s.idn.memGib % 2 ^ 10), (0, s.bt.arb % 64)]) ++
  attestBytes 0x050 64 firmware ++ attestBytes 0x090 64 0 ++ List.replicate 48 0 ++ attestBytes 0x100 4627 signature

/-- A report written into the local memory window, core by core (01 R17, R20); none where a core does not take it. -/
def State.reportLocal (s : State) (o : Nat) (bs : List Byte) : Option State :=
  let n := min bs.length (0x100000 - o % 0x100000)
  let parts := [(o, bs.take n), (o + n, bs.drop n)].filter (fun p => !p.2.isEmpty)
  if decide (o + bs.length ≤ 0x9000000) && parts.all (fun p => (s.hostLocalRead p.1 p.2.length).isSome) then
    some (parts.foldl (fun (s : State) p => s.hostLocalWrite p.1 p.2) s)
  else none

/-- ATTESTATION_DONE: the report is written and BUSY clears, or ERR is set; a report for another agent's memory goes out
first, and ends with its answer. -/
def execAttestationDone (s : State) : Host.Outcome State Fault Refusal :=
  if !s.bt.attBusy then .next s
  else if s.bt.attWrite.isSome then .next s.attestEnd
  else
    let (f, s) := s.draw
    let (g, s) := s.draw
    let bs := s.report f g
    let pa := s.bt.attBuf.toNat
    let off := pa % 2 ^ 42
    if s.local' pa then
      if off + bs.length ≤ s.memBytes then .next ((s.memWrite off bs).attested false)
      else if inLocWin off then
        match s.reportLocal (off - apLocal) bs with
        | some t => .next (t.attested false)
        | none => .next (s.attested true)
      else .next (s.attested true)
    else
      let v := ofBytes bs
      let r := s.hostAsk pa bs.length (fun p => .store [{ p with bit := 0 }] ((v >>> p.bit) % 2 ^ p.bits)) [] false
      .next { r.2 with bt := { r.2.bt with attWrite := some r.1 } }

/-! ### Illegal encodings (03 R51, R73) -/

/-- ILLEGAL_ENCODING: the words at the slot's pc are no instruction; ILLEGAL with the offending word and its position. -/
def execIllegalEncoding (w pos : Nat) (s : State) : Host.Outcome State Fault Refusal :=
  match s.slot s.o.cur with
  | some x => .next (s.takeTrap s.o.cur (x.snapshot s.t.cycle) .illegal (wordTval w pos) false)
  | none => .next s

end Sys2Proof.Machine
end

