-- ==== Sys2Proof/Machine/Control.lean ====
section
/-!
DEFINITION. Meanings of control transfers, control registers, waiting, traps and the return from them (04 R95 to R100; 05 R111 to R117; 18 R357, R358).
-/

namespace Sys2Proof.Machine

/-- BR (05 R112, R113). -/
def execBr (c : Chain) (s : State) : Host.Outcome State Fault Refusal := .next (s.issue opBr c (transfer brBody))

/-- JMP (05 R112, R113). -/
def execJmp (c : Chain) (s : State) : Host.Outcome State Fault Refusal := .next (s.issue opJmp c (transfer jmpBody))

/-- CALL (05 R112, R113). -/
def execCall (c : Chain) (s : State) : Host.Outcome State Fault Refusal := .next (s.issue opCall c (transfer callBody))

/-- RET (05 R112, R113). -/
def execRet (c : Chain) (s : State) : Host.Outcome State Fault Refusal := .next (s.issue opRet c (transfer retBody))

/-- JMPI (05 R112, R113). -/
def execJmpi (c : Chain) (s : State) : Host.Outcome State Fault Refusal := .next (s.issue opJmpi c (transfer jmpiBody))

/-! ### Control registers (04 R95 to R100) -/

/-- Access to a control register in user mode (04 R95). -/
inductive KAccess where
  | priv | ro | rw
  deriving DecidableEq, Repr

/-- The User column of 04 R95. -/
def kregUser (n : Nat) : KAccess :=
  if 0x101 ≤ n ∧ n ≤ 0x104 then .priv
  else if (0x20 ≤ n ∧ n ≤ 0x23) ∨ n = 0x25 ∨ (0x30 ≤ n ∧ n ≤ 0x32) then .rw
  else .ro

/-- k.mode (04 R97). -/
def Slot.mode (x : Slot) : Nat :=
  x.sup.toNat + 2 * (x.gshape.toNat.testBit 9).toNat + 4 * x.pass.toNat + 8 * x.pairMode.toNat + 16 * x.replay.toNat

/-- Value of a control register at the start of the issue cycle (04 R95). -/
def State.kreg (s : State) (sid : Nat) (x : Slot) (n : Nat) : Nat :=
  match n with
  | 0x000 => sid % 16
  | 0x001 => sid / 16
  | 0x002 => grottoOf (sid / 16)
  | 0x003 => s.ownAgent
  | 0x004 => x.ctx
  | 0x005 => x.gid.toNat
  | 0x006 => x.gthr.toNat
  | 0x007 => x.gshape.toNat
  | 0x008 => x.task.toNat % 2 ^ 24
  | 0x009 => s.now
  | 0x00A => x.space
  | 0x010 => x.fmt.toNat
  | 0x011 => x.sca.toNat
  | 0x012 => x.scb.toNat
  | 0x013 => x.band.toNat
  | 0x020 => x.vws.toNat
  | 0x021 => x.vwv.toNat
  | 0x022 => x.vwt.toNat
  | 0x023 => x.vwa.toNat
  | 0x024 => (s.core (sid / 16)).xbound
  | 0x025 => x.chk.toNat
  | 0x030 => x.flags.toNat
  | 0x031 => x.uefl.toNat
  | 0x032 => x.uexy.toNat
  | 0x100 => x.mode
  | 0x101 => x.trapc.toNat
  | 0x102 => x.epc.toNat
  | 0x103 => x.tval.toNat
  | 0x104 => x.sscr.toNat
  | _ => 0

/-- GETK (04 R99, R100). -/
def getkBody : Body := fun sid c x s =>
  let n := c.imm.toNat
  if !x.sup && kregUser n == .priv then (s, .error (.trap .priv (BitVec.ofNat 64 n)))
  else
    let d := x.reg .scalar c.a.toNat
    match x.checkUses { all := [d], dst := [d] } with
    | .error st => (s, .error st)
    | .ok _ => (s, .ok (.go { writes := scalarResult x c.a.toNat (s.kreg sid x n) }))

/-- The view whose base a control register holds. -/
def kregView (n : Nat) : Option View :=
  match n with
  | 0x020 => some .scalar
  | 0x021 => some .vector
  | 0x022 => some .tile
  | 0x023 => some .acc
  | _ => none

/-- PUTK (04 R99, R100).  An uncorrectable source counts as an event after the write (02 R49 item 4). -/
def putkBody : Body := fun _ c x s =>
  let n := c.imm.toNat
  if !x.sup && kregUser n != .rw then (s, .error (.trap .priv (BitVec.ofNat 64 n)))
  else
    let a := x.reg .scalar c.a.toNat
    match x.checkUses { all := [a], src := [a] } with
    | .error st => (s, .error st)
    | .ok _ =>
      let v := x.readUe a 64
      let bad := match kregView n with
        | some w => if v.1 % w.size ≠ 0 then some Cause.align else if x.space ≤ v.1 then some Cause.space else none
        | none => none
      match bad with
      | some k => (s, .error (.trap k (BitVec.ofNat 64 v.1)))
      | none => (s, .ok (.set { ((x.setKreg n v.1).captureAll v.2) with pc := x.nextPc c }))

/-- GETK (04 R98 to R100). -/
def execGetk (c : Chain) (s : State) : Host.Outcome State Fault Refusal := .next (s.issue opGetk c getkBody)

/-- PUTK (04 R98 to R100). -/
def execPutk (c : Chain) (s : State) : Host.Outcome State Fault Refusal := .next (s.issue opPutk c putkBody)

/-! ### Traps by instruction, and the return (05 R117; 18 R357, R358) -/

/-- k.tval of TRAP and BREAK: the immediate and the length in words. -/
def softTval (c : Chain) : Word := BitVec.ofNat 64 (c.imm.toNat % 2 ^ 16 + c.words * 2 ^ 16)

/-- TRAP takes the trap SOFTWARE (18 R358). -/
def execTrap (c : Chain) (s : State) : Host.Outcome State Fault Refusal :=
  .next (s.issue opTrap c (fun _ c _ s => (s, .error (.trap .software (softTval c)))))

/-- BREAK takes the trap BREAK (05 R117). -/
def execBrk (c : Chain) (s : State) : Host.Outcome State Fault Refusal :=
  .next (s.issue opBrk c (fun _ c _ s => (s, .error (.trap .brk (softTval c)))))

/-- ERET (18 R357). -/
def eretBody : Body := fun sid _ x s =>
  let t := x.epc.toNat
  if t % 2 = 1 then (s, .error (.trap .align x.epc))
  else if x.pass && !(match s.kernel x.kid with | some k => k.holdsOn (sid / 16) t | none => false) then
    (s, .error (.trap .passageMap x.epc))
  else (s, .ok (.set x.eret))

/-- ERET (18 R357). -/
def execEret (c : Chain) (s : State) : Host.Outcome State Fault Refusal := .next (s.issue opEret c eretBody)

/-! ### Waiting (05 R115, R116) -/

/-- YIELD: pc is after it, and the slot is idle (05 R115). -/
def yieldBody : Body := fun _ c x s =>
  let n := c.stall.toNat
  (s, .ok (.setStatus { x with pc := x.nextPc c,
                               status := .stalled (.yield (s.t.cycle + 1024) (if n = 0 then 0 else stallUntil s.t.cycle n)) }))

/-- YIELD (05 R115). -/
def execYield (c : Chain) (s : State) : Host.Outcome State Fault Refusal := .next (s.issue opYield c yieldBody)

/-- Last event of a YIELD: 64 rotations have passed (05 R115 item 4). -/
def execYieldTimeout (sid : Nat) (s : State) : Host.Outcome State Fault Refusal :=
  match s.slot sid with
  | some x =>
    match x.status with
    | .stalled (.yield d _) => if d ≤ s.t.cycle + 1 then .next (s.setSlot sid x.unyield) else .next s
    | _ => .next s
  | none => .next s

/-- The result of WAITT at a time base of `now` (05 R116 item 2). -/
def waittEffect (x : Slot) (c : Chain) (now : Nat) (ue : List UeEvent) : Effect :=
  { writes := scalarResult x c.a.toNat now, ue := ue }

/-- WAITT (05 R116). -/
def waittBody : Body := fun _ c x s =>
  let d := x.reg .scalar c.a.toNat
  let a := x.reg .scalar c.b.toNat
  match x.checkUses { all := [d, a], src := [a], dst := [d] } with
  | .error st => (s, .error st)
  | .ok _ =>
    let t := x.readUe a 64
    if t.1 ≤ s.now then (s, .ok (.go (waittEffect x c s.now t.2)))
    else (s, .ok (.setStatus { (x.captureAll t.2) with status := .stalled (.time t.1 c) }))

/-- WAITT (05 R116). -/
def execWaitt (c : Chain) (s : State) : Host.Outcome State Fault Refusal := .next (s.issue opWaitt c waittBody)

/-- Completion of a WAITT at an issue cycle of its slot (05 R116 items 1 and 2). -/
def execWaittComplete (sid : Nat) (s : State) : Host.Outcome State Fault Refusal :=
  match s.slot sid with
  | some x =>
    match x.status with
    | .stalled (.time t c) =>
      if t ≤ s.now ∧ s.t.cycle % 16 = sid % 16 then
        .next (s.settleSlot sid (x.snapshot s.t.cycle) c (.go (waittEffect x c s.now [])))
      else .next s
    | _ => .next s
  | none => .next s

/-- End of a stall count (03 R60); that of an SFU instruction lasts until its request has started (07 R158 item 5). -/
def execStallEnd (sid : Nat) (s : State) : Host.Outcome State Fault Refusal :=
  match s.slot sid with
  | some x =>
    match x.status with
    | .stalled (.count u) =>
      let queued := (s.core (sid / 16)).sfu.any (fun q => q.sid == sid && q.image.isNone && q.start.isNone)
      if u ≤ s.t.cycle + 1 ∧ !queued then .next (s.setSlot sid { x with status := .ready }) else .next s
    | _ => .next s
  | none => .next s

/-- A late fault is taken at its slot's instruction boundary (10 R214, 18 R355 item 2).  A slot inside a stall takes it
when the stall ends; one whose instruction is held at issue, with no effect, stands at that boundary. -/
def execLateFault (sid : Nat) (s : State) : Host.Outcome State Fault Refusal :=
  match s.slot sid with
  | some x =>
    let boundary := match x.status with
      | .ready => true
      | .parked _ => true
      | .stalled .again => true
      | .stalled .sfu => !x.results.any (fun p => p.sfu)
      | _ => false
    match x.late with
    | some f => if boundary then .next (s.takeTrap sid x f.cause f.tval true) else .next s
    | none => .next s
  | none => .next s

/-- Results of fixed latency whose last cycle has come are written (03 R61, 04 R83, R91). -/
def execResultWrite (sid : Nat) (s : State) : Host.Outcome State Fault Refusal :=
  match s.slot sid with
  | some x =>
    .next (s.setSlot sid (x.writeResults (fun p => !p.sfu && decide (p.due ≤ s.t.cycle)) [] x.results))
  | none => .next s

/-! ### The SFU queue (07 R158, R159) -/

/-- The stall of a slot whose SFU request, issued in cycle `c`, starts in cycle `s`, lengthened (07 R158 item 5), and the
cycle in which its result falls due. -/
def Slot.sfuStarts (x : Slot) (s : Nat) : Slot :=
  match x.results.find? (fun p => p.sfu) with
  | none => x
  | some p =>
    let c := p.due - 63
    let more := ceilDiv (s - c) 16
    { x with
      results := x.results.map (fun q => if q.sfu then { q with due := s + 63 } else q)
      longer := more
      status := match x.status with
        | .stalled (.count u) => .stalled (.count (u + 16 * more))
        | st => st }

/-- The oldest request that has not started starts when the SFU is free (07 R158 items 2 and 3). -/
def execSfuStart (core : Nat) (s : State) : Host.Outcome State Fault Refusal :=
  let k := s.core core
  match k.sfu.find? (fun q => q.start.isNone) with
  | none => .next s
  | some q =>
    if s.t.cycle < k.sfuFree then .next s
    else
      let started := fun (r : SfuEntry) => if r.sid = q.sid ∧ r.image = q.image then { r with start := some s.t.cycle } else r
      let s1 := s.setCore core { k with sfu := k.sfu.map started, sfuFree := s.t.cycle + q.occ }
      match q.image with
      | none => .next (s1.modSlot q.sid (fun x => x.sfuStarts s.t.cycle))
      | some o => .next (s1.modImage (o + savedBase) (fun v =>
          let y := v.slot.sfuStarts s.t.cycle
          { v with slot := y, extra := v.extra + y.longer }))

/-- The SFU results of a slot written, and no longer due. -/
def Slot.sfuWrite (x : Slot) : Slot := x.writeResults (fun p => p.sfu) [] x.results

end Sys2Proof.Machine
end

