-- ==== Sys2Proof/Machine/Saving.lean ====
section
/-!
DEFINITION. Saved slots: the image and its place, replies to it, SFU results, and the restore (18 R359 to R364; 07 R159;
11 R235; 20 R403 step 3).
-/

namespace Sys2Proof.Machine

/-! ### The image (18 R360) -/

/-- Bytes of an image. -/
def imageSize (space n : Nat) : Nat := 0x1100 + 65 * space / 64 + 16 * n

/-- Issue cycles of the slot that a stall count still takes, and how many of them the SFU queue has added (07 R158 item 5). -/
def Slot.stallLeft (x : Slot) (cycle : Nat) : Nat × Nat :=
  match x.status with
  | .stalled (.count u) => let n := (u - cycle - 1) / 16; (n, min n x.longer)
  | _ => (0, 0)

/-- STATE and the rotations left of the slot's own stall. -/
def Slot.savedState (x : Slot) (cycle : Nat) : Nat × Nat :=
  match x.status with
  | .ready => (1, 0)
  | .held => (4, 0)
  | .parked (.partner ..) => (1, 0)
  | .parked _ => (3, 0)
  | .stalled (.count _) => let n := x.stallLeft cycle; (2, n.1 - n.2)
  | .stalled (.yield ..) => (1, 0)
  | .stalled (.time ..) => (1, 0)
  | .stalled _ => (2, 0)

/-- What an awaited register is written as: granule and o-register. -/
def Slot.savedWait (x : Slot) : Nat × Nat :=
  match x.status with
  | .parked (.granule g) => (g, 0)
  | .parked (.oreg k) => (0, k)
  | _ => (0, 0)

/-- Word 1 of the header. -/
def Slot.wordOne (x : Slot) (cycle n : Nat) : Nat :=
  let st := x.savedState cycle
  let w := x.savedWait
  st.1 + st.2 * 2 ^ 3 + x.sup.toNat * 2 ^ 6 + x.replay.toNat * 2 ^ 7 + (127 - bitsOf 7 1 x.oEmpty.toNat) * 2 ^ 8 + w.1 * 2 ^ 16 +
    w.2 * 2 ^ 29 + n * 2 ^ 32

/-- The parts of an image that a reply or a restore changes or reads: words 0 and 2 to 21, the full bits of the
o-registers, the registers, and the full/empty bits. -/
def Slot.imageBits (x : Slot) : Nat :=
  let words := x.pc.toNat :: 0 :: (x.passWords 0 x.pc).drop 2
  let head := (List.range words.length).foldl (fun n i => n + (words[i]?.getD 0) * 2 ^ (64 * i)) 0
  head + (127 - bitsOf 7 1 x.oEmpty.toNat) * 2 ^ 72 + x.lat.toNat * 2 ^ 0x800 + x.ofile.toNat / 2 ^ 4096 * 2 ^ (0x800 + 4096) +
    x.file.toNat % 2 ^ (8 * x.space) * 2 ^ (8 * 0x1100) +
    ((2 ^ (x.space / 8) - 1) - x.empty.toNat % 2 ^ (x.space / 8)) * 2 ^ (8 * (0x1100 + x.space))

/-- A slot as an image gives it, over what only the die keeps. -/
def Slot.ofImage (x : Slot) (n : Nat) : Slot :=
  let one := (n >>> 64) % 2 ^ 64
  let full := fun (bits : Nat) => (n >>> (8 * (0x1100 + x.space))) % 2 ^ bits
  { x.ofStateWords (fun i => (n >>> (64 * i)) % 2 ^ 64) with
    sup := one.testBit 6, replay := one.testBit 7
    oEmpty := BitVec.ofNat 8 ((127 - bitsOf 14 8 one) * 2)
    lat := BitVec.ofNat 4096 (n >>> 0x800)
    ofile := BitVec.ofNat 32768 ((n >>> (0x800 + 4096)) % 2 ^ (7 * 4096) * 2 ^ 4096)
    file := BitVec.ofNat 524288 ((n >>> (8 * 0x1100)) % 2 ^ (8 * x.space))
    empty := BitVec.ofNat 8192 ((2 ^ (x.space / 8) - 1) - full (x.space / 8)) }

/-- The status that a restore gives a slot from word 1 (18 R364 item 4 of the second list). -/
def Slot.restoredStatus (x : Slot) (one cycle extra : Nat) : Status :=
  let left := bitsOf 5 3 one + extra
  let k := bitsOf 31 29 one
  let g := bitsOf 28 16 one
  match bitsOf 2 0 one with
  | 2 => if left = 0 then .ready else .stalled (.count (cycle + 16 * left + 1))
  | 3 =>
    if k = 0 then (if x.empty.toNat.testBit g then .parked (.granule g) else .ready)
    else if x.oEmpty.toNat.testBit k then .parked (.oreg k) else .ready
  | 4 => .held
  | _ => .ready

/-- First word of a deposit entry, without its request ID and DONE. -/
def Dep.entryWord (d : Dep) : Nat :=
  let q := match d.dst with | .main off => (off / 8, 0) | .o k => (0, k) | .lat => (0, 0)
  q.1 * 2 ^ 16 + q.2 * 2 ^ 29 + ceilDiv d.len 8 * 2 ^ 32 + d.idem.toNat * 2 ^ 43

/-- The image of a slot as it is saved. -/
def State.imageOf (s : State) (v : Saved) : Nat :=
  let x := v.slot
  let n := v.deps.length
  let drawn := fun (i : Nat) => (v.drawn >>> (64 * i)) % 2 ^ 64
  let at' := 8 * (0x1100 + 65 * x.space / 64)
  let entries := (List.range n).foldl (fun k i =>
    let r := v.deps[i]?.getD 0
    k + (r % 2 ^ 16 + ((kget s.deps r).map Dep.entryWord).getD 0 + drawn (10 + i) * 2 ^ 64) * 2 ^ (at' + 128 * i)) 0
  let hidden := (List.range 10).foldl (fun k i => k + drawn i * 2 ^ (64 * (22 + i))) 0
  let y := match v.back with | some p => { x with pc := p } | none => x
  setBits 127 64 y.imageBits (y.wordOne s.t.cycle n) + hidden + entries

/-! ### Its place (18 R361) -/

/-- Virtual address of a slot's place in the save region. -/
def State.regionVa (s : State) (v : Saved) : Nat :=
  ((s.ctx v.ctx).savebase.toNat + s.ownPos v.ctx * (192 * 2 ^ 20) + v.sid * (80 * 1024)) % 2 ^ 64

/-- Source number of save-region accesses. -/
def Saved.src (v : Saved) : Nat := 0x5000 + v.sid / 16

/-- First fit of `n` granules in a core's save area. -/
def CoreSt.saveFit (k : CoreSt) (n : Nat) : Option Nat :=
  ((List.range k.save).map (fun i => 256 - k.save + i)).find? (fun g => decide (g + n ≤ 256) &&
    !k.areas.any (fun a => decide (a.1 < g + n) && decide (g < a.1 + a.2)))

/-- Cores whose save areas may take a slot's image: its own, or in an evacuation those outside the zone. -/
def State.saveCores (s : State) (sid : Nat) (evac : Bool) : List Nat :=
  if evac then (List.range 144).filter (fun c => zoneOf c != zoneOf (sid / 16) && !s.fused c) else [sid / 16]

/-- Where an image of `n` granules goes: a save area, the save region, or nowhere yet. -/
def State.savePlace (s : State) (sid ctx n : Nat) (evac : Bool) : Option (Option (Nat × Nat)) :=
  match (s.saveCores sid evac).findSome? (fun c => ((s.core c).saveFit n).map (fun g => (c, g))) with
  | some p => some (some p)
  | none => if (s.ctx ctx).savebase = 0 then none else some none

/-- The image's granules of a save area are free again. -/
def State.freeArea (s : State) (v : Saved) : State :=
  match v.place with
  | some (c, g) => s.modCore c (fun k => { k with areas := k.areas.filter (fun a => a.1 != g) })
  | none => s

/-- The image as it stands at its place. -/
def State.imageGet (s : State) (v : Saved) : Got Nat × State :=
  match v.place with
  | some (c, g) => (.ok ((s.core c).loc.readN (4096 * g) v.size), s)
  | none =>
    match s.engRead v.src v.ctx (s.regionVa v) v.size 0 false true with
    | (.ok (bs, _), s) => (.ok (ofBytes bs), s)
    | (.wait, s) => (.wait, s)
    | (.prot, s) => (.wait, s)
    | (.nack, s) => (.nack, s)

/-- The image written to its place: what hinders it, and the writes that are on their way. -/
def State.imagePut (s : State) (v : Saved) (n : Nat) : Got (List Nat) × State :=
  match v.place with
  | some (c, g) => (.ok [], s.locWrite c (4096 * g) (bytesOf v.size n))
  | none =>
    let va := s.regionVa v
    match s.engWritable v.src v.ctx va v.size 1 true with
    | (.ok _, s) =>
      let r := s.engWrite v.src v.ctx va (bytesOf v.size n) 1 true
      (.ok r.2.2.1, r.2.2.2)
    | (.nack, s) => (.nack, s)
    | (_, s) => (.wait, s)

/-! ### Saving (18 R359, R360) -/

/-- The pair that a core belongs to is at a checkpoint: nothing has been held or folded since (21 R407 item 4). -/
def State.pairClean (s : State) (core : Nat) : Bool :=
  let p := (s.core (core / 2 * 2)).pair
  p.buffer == [] && !p.comparing && p.count == 0

/-- Evacuation of a zone has reached step 3 (20 R403). -/
def State.evacSaves (s : State) (z : Nat) : Bool := (s.zone z).state == .evacuating && decide ((s.zone z).evacAt + 2000 ≤ s.now)

/-- A save of a slot is requested: its context drains, or its zone is evacuated. -/
def State.saveWanted (s : State) (sid : Nat) (x : Slot) : Bool := (s.ctx x.ctx).state == .draining || s.evacSaves (zoneOf (sid / 16))

/-- A push that no port has accepted: a save withdraws it (13 R281). -/
def State.withdraws (s : State) (x : Slot) : Option Nat :=
  match x.status with
  | .stalled (.answer r _ _) =>
    match kget s.msgs r with
    | some m => match m.op with | .push .. => if m.sent || m.answer.isSome then none else some r | _ => none
    | none => none
  | _ => none

/-- A push that waits at another agent's port and is still to be withdrawn: its request (13 R281). -/
def State.awayPush (s : State) (x : Slot) : Option (Nat × Msg) :=
  match x.status with
  | .stalled (.answer r _ _) =>
    match kget s.msgs r with
    | some m => match m.op with | .push .. => if m.sent && m.answer.isNone && !m.withdrawn then some (r, m) else none | _ => none
    | none => none
  | _ => none

/-- The withdrawal of a push at another agent's port is asked for: a WRITE of its TAG that enables nothing (log 41). -/
def State.withdrawAway (s : State) (sid : Nat) : State :=
  match (s.slot sid).bind s.awayPush with
  | some (r, m) =>
    (s.modMsg r (fun x => { x with withdrawn := true })).sendPacket (m.dsts.headD 0) r m.ctx { typ := 0x02, addr := BitVec.ofNat 64 m.pa, lsz := 3 }
  | none => s

/-- The slot stands at an instruction boundary at which it can be saved (18 R359; 04 R79; 05 R115, R116; 07 R159;
08 R172; 09 R193; 13 R281). -/
def State.savable (s : State) (sid : Nat) (x : Slot) : Bool :=
  let sfu := x.results.any Pending.sfu
  x.openPkt.isNone && x.results.all Pending.sfu && (!x.pairMode || s.pairClean (sid / 16)) && (match x.status with
    | .stalled (.count u) => sfu || decide (u ≤ s.t.cycle)
    | .stalled (.yield _ least) => decide (least ≤ s.t.cycle)
    | .stalled (.answer ..) => (s.withdraws x).isSome
    | _ => true)

/-- A member of a slot's group has been saved: none of the others issues (18 R359). -/
def State.groupSaved (s : State) (x : Slot) : Bool := s.cx.saved.any (fun v => v.slot.group == x.group)

/-- Replies that are complete enter the registers before the image is written (04 R81). -/
def State.depositsOf (s : State) (sid : Nat) : State :=
  s.deps.foldl (fun (s : State) (p : Nat × Dep) =>
    if p.2.sid = sid ∧ p.2.outstanding = 0 then (match kget s.deps p.1 with | some d => s.deposit p.1 d | none => s) else s) s

/-- Requests, deposits and SFU entries of one number carried by another. -/
def State.renumber (s : State) (old new : Nat) : State :=
  { s with deps := kmap s.deps (fun _ d => if d.sid = old then { d with sid := new } else d)
           msgs := kmap s.msgs (fun _ m => if m.sid = some old then { m with sid := some new } else m) }

/-- A slot leaves its core for an image, which is still to be written. -/
def State.takeOff (s : State) (sid : Nat) (x : Slot) (place : Option (Nat × Nat)) (evac : Bool) : State :=
  let x := match s.withdraws x with | some _ => { x with status := .ready } | none => x
  let s := match (s.slot sid).bind s.withdraws with | some r => s.unpost r | none => s
  let order := s.cx.saveOrder
  let mine := (s.deps.filter (fun (p : Nat × Dep) => p.2.sid == sid && p.2.len != 0)).map (fun p => p.1)
  let (f, s) := s.draw
  let v : Saved := { sid := sid, ctx := x.ctx, order := order, slot := { x with xlat := [], gang := none, longer := 0 }, place := place
                     size := imageSize x.space mine.length, deps := mine, drawn := f % 2 ^ (64 * (10 + mine.length)), extra := (x.stallLeft s.t.cycle).2 }
  let s := match place with
    | some (c, g) => s.modCore c (fun k => { k with areas := k.areas ++ [(g, ceilDiv v.size 4096)] })
    | none => s
  let s := ((s.leaveWalks sid).renumber sid (order + savedBase)).modCore (sid / 16) (fun k =>
    { k with sfu := k.sfu.map (fun q => if q.sid = sid ∧ q.image = none then { q with image := some order } else q) })
  let s := { s with slots := kdel s.slots sid, cx := { s.cx with saved := s.cx.saved ++ [v], saveOrder := order + 1 } }
  let s := s.modCtx x.ctx (fun k => { k with cmdCount := k.cmdCount + 1, restoring := k.restoring || evac })
  s.leaveCore (sid / 16) x.ctx x.pairMode

/-- An entry of a saved context moves from an inbox to the spill heap, as RECV.sp would move it; none when the heap has
no room, or cannot be written (18 R362). -/
def State.moveEntry (s : State) (core ctx : Nat) : Option State :=
  match (s.core core).oldest ctx (fun _ => true) with
  | none => none
  | some (e, left) =>
    let cx := s.ctx ctx
    let (head, tail) := (s.core core).heapOf ctx
    if cx.ihsize ≤ tail - head then none
    else
      match s.engTranslate ctx (cx.heapVa core tail) .store with
      | .pa pa l =>
        if leafE l || !s.served pa 256 then none
        else
          let r := s.engPut ctx (cx.heapVa core tail) pa l (bytesOf 256 e.image)
          let s := r.2.modCore core (fun k => { k with inbox := left, heap := kset k.heap ctx (head, tail + 1) })
          some (s.leaveInbox core e)
      | _ => none

/-- INBOX_MOVE on one core, as far as the heap takes the entries. -/
def State.moveEntries (s : State) (core ctx : Nat) : Nat → State
  | 0 => s
  | n + 1 =>
    match s.moveEntry core ctx with
    | some t => State.moveEntries t core ctx n
    | none => s

/-- Every image of a context has been written. -/
def State.imagesWritten (s : State) (ctx : Nat) : Bool :=
  s.cx.saved.all (fun v => v.ctx != ctx || (v.written && v.writes.all s.settled))

/-- The last active slot of a DRAINING context is saved, and every image written: SAVED (18 R350, R362, R365). -/
def State.drainEnd (s : State) (ctx : Nat) : State :=
  if (s.ctx ctx).state != .draining || s.slots.any (fun (p : Nat × Slot) => p.2.ctx == ctx) || !s.imagesWritten ctx then s
  else
    let s := (List.range 144).foldl (fun (s : State) c => s.moveEntries c ctx 64) s
    let n := (s.ctx ctx).cmdCount
    ((s.modCtx ctx (fun k => { k with state := .saved, busy := false })).irq (s.ctx ctx).vec).endCommand ctx n

/-- An image written to its place, or the next step of that: a refused write faults the context (18 R351, R361). -/
def State.writeImage (s : State) (v : Saved) : State :=
  let id := v.order + savedBase
  let fail := fun (s : State) => s.faultContext v.ctx 16 v.sid
  if v.written then
    if !v.writes.all s.settled then s
    else if v.writes.any s.refused' then fail (s.forget v.writes)
    else ((s.forget v.writes).modImage id (fun w => { w with writes := [] })).drainEnd v.ctx
  else
    match s.imagePut v (s.imageOf v) with
    | (.ok ws, s) => (s.modImage id (fun w => { w with written := true, writes := ws })).drainEnd v.ctx
    | (.nack, s) => fail s
    | (_, s) => s

/-- SLOT_SAVE: a slot whose save is requested leaves at its boundary and its image is written; a number from `savedBase`
on takes the writing of an image further. -/
def execSlotSave (sid : Nat) (s : State) : Host.Outcome State Fault Refusal :=
  if savedBase ≤ sid then
    match s.image sid with
    | some v => .next (s.writeImage v)
    | none => .next s
  else
    match s.slot sid with
    | none => .next s
    | some x0 =>
      if !s.saveWanted sid x0 || !s.savable sid x0 then .next s
      else
        let s := s.depositsOf sid
        let x := (s.slot sid).getD x0
        let evac := (s.ctx x.ctx).state != .draining
        let n := (s.deps.filter (fun (p : Nat × Dep) => p.2.sid == sid && p.2.len != 0)).length
        match s.savePlace sid x.ctx (ceilDiv (imageSize x.space n) 4096) evac with
        | none => .next s
        | some place =>
          let t := s.takeOff sid x place evac
          match t.image (s.cx.saveOrder + savedBase) with
          | some v => .next (t.writeImage v)
          | none => .next t

/-! ### Replies to an image (18 R363) -/

/-- An image can be reached: it has been written, and no restore is reading it. -/
def State.reachable (s : State) (v : Saved) : Bool := v.written && v.writes.all s.settled && v.image.isNone

/-- What `f` changes of a slot changed in its image; `done` is the place of a deposit entry that becomes DONE.  None
where the image cannot be reached. -/
def State.updateImage (s : State) (v : Saved) (f : Slot → Slot) (done : Option Nat) : Option State × State :=
  if !s.reachable v then (none, s)
  else
    match s.imageGet v with
    | (.ok n, s) =>
      let x := v.slot.ofImage n
      let n := n ^^^ x.imageBits ^^^ (f x).imageBits
      let n := match done with
        | some i => n ||| 2 ^ (8 * (0x1100 + 65 * x.space / 64) + 128 * i + 42)
        | none => n
      match s.imagePut v n with
      | (.ok ws, s) => (some (s.modImage (v.order + savedBase) (fun w => { w with slot := f w.slot, writes := ws })), s)
      | (_, s) => (none, s)
    | (_, s) => (none, s)

/-- A reply as an image's registers receive it. -/
def Slot.fillSaved (rid : Nat) (d : Dep) (x : Slot) : Slot :=
  let y := x.fillRegs d
  { y with acqHold := y.acqHold.filter (fun r => r != rid), nextRid := if y.nextRid = some rid then none else y.nextRid }

/-- A complete reply of a saved slot: written into the image; or, where that cannot be reached, dropped if a restore may
ask again, else held. -/
def State.replySaved (s : State) (rid : Nat) (d : Dep) (v : Saved) : State :=
  match s.updateImage v (Slot.fillSaved rid d) (v.deps.findIdx? (fun r => r == rid)) with
  | (some t, _) => { t with deps := kdel t.deps rid }
  | (none, t) =>
    if d.idem && !d.sent.isEmpty then
      { (t.modImage (v.order + savedBase) (fun w => { w with lost := kset w.lost rid d })) with deps := kdel t.deps rid }
    else t

/-- REPLY_TO_IMAGE. -/
def execReplyToImage (rid : Nat) (response : Option (List Byte)) (s : State) : Host.Outcome State Fault Refusal :=
  match response with
  | some bytes =>
    match kget s.msgs rid with
    | some m => if m.sent then .next (s.takeResponse rid m bytes) else .next s
    | none => .next s
  | none =>
    match kget s.deps rid with
    | none => .next s
    | some d =>
      match s.image d.sid with
      | none => .next s
      | some v => if d.outstanding = 0 then .next (s.replySaved rid d v) else .next s

/-- The result of the oldest request whose 64 cycles have passed is written: to its slot, or to the slot's saved image
when that can be reached, else the image goes back to the instruction (07 R158 item 4, R159 item 2). -/
def execSfuResult (core : Nat) (s : State) : Host.Outcome State Fault Refusal :=
  let k := s.core core
  match k.sfu with
  | [] => .next s
  | q :: rest =>
    match q.start with
    | none => .next s
    | some c =>
      if s.t.cycle < c + 63 then .next s
      else
        let s1 := s.setCore core { k with sfu := rest }
        match q.image with
        | none => .next (s1.modSlot q.sid Slot.sfuWrite)
        | some o =>
          match s1.image (o + savedBase) with
          | none => .next s1
          | some v =>
            match s1.updateImage v Slot.sfuWrite none with
            | (some t, _) => .next t
            | (none, t) =>
              .next (t.modImage (o + savedBase) (fun w => { w with back := some q.pc, slot := { w.slot with results := [] } }))

/-! ### The restore (18 R364) -/

/-- The next unit to be placed: the images of the group of the image saved first, by k.gthr. -/
def State.nextUnit (s : State) (ctx : Nat) : List Saved :=
  match s.cx.saved.find? (fun v => v.ctx == ctx) with
  | none => []
  | some v =>
    let all := s.cx.saved.filter (fun w => w.slot.group == v.slot.group)
    all.foldl (fun (l : List Saved) w =>
      l.filter (fun u => decide (u.slot.gthr.toNat ≤ w.slot.gthr.toNat)) ++ [w] ++
        l.filter (fun u => decide (w.slot.gthr.toNat < u.slot.gthr.toNat))) []

/-- The unit is a group rather than a single thread. -/
def State.isGroupUnit (s : State) (key : Nat) : Bool :=
  match kget s.gr.groups key with
  | some g => g.task.isSome || g.launch.isSome || decide (1 < shCores g.shape * shSlots g.shape)
  | none => false

/-- A zone takes a restore of work of a class (20 R404 item 1). -/
def State.zoneTakes (s : State) (c cls : Nat) : Bool := (s.zone (zoneOf c)).open' cls

/-- Cores that hold the segment in which a passage thread goes on: of the image's pc, or of its k.epc for a slot saved in
its handler. -/
def State.homeCores (s : State) (v : Saved) : List Nat × Nat :=
  match s.kernel v.slot.kid with
  | none => ([], 0)
  | some k =>
    match k.segmentAt (if v.slot.handler then v.slot.epc else v.slot.pc).toNat with
    | some g => (((k.segments[g]?).map Segment.cores).getD [], g)
    | none => ([], 0)

/-- Where a unit goes now: cores and slot indices; none while there is no room. -/
def State.unitPlace (s : State) (ctx : Nat) (unit : List Saved) : Option (List (Nat × List Nat)) × State :=
  match unit with
  | [] => (none, s)
  | v :: _ =>
    let pair := s.pairOn ctx
    let cls := unit.foldl (fun n u => max n u.slot.thermal) 0
    if s.isGroupUnit v.slot.group then
      let sh := ((kget s.gr.groups v.slot.group).map Group.shape).getD 0
      let fit := (List.range 36).filterMap (fun g =>
        if s.zoneTakes (4 * g) cls then placeGroup (s.offers g pair) (shCores sh) (shSlots sh) v.slot.space (shGang sh) else none)
      match fit with
      | [] => (none, s)
      | [p] => (some p, s)
      | _ => let (f, s) := s.draw; (fit[f % fit.length]?, s)
    else
      let os := (List.range 144).filterMap (fun c =>
        match s.offer c pair with
        | some o => if o.fits v.slot.space && s.zoneTakes c cls then some o else none
        | none => none)
      if v.slot.pass then
        let h := s.homeCores v
        match s.fewest v.slot.kid h.2 (h.1.filter (fun c => os.any (fun o => o.core == c))) with
        | some c => ((os.find? (fun o => o.core == c)).map (fun o => [(c, o.slots.take 1)]), s)
        | none => (none, s)
      else
        let gs := s.preferZone (distinct (os.map (fun o => grottoOf o.core)))
        ((os.find? (fun o => gs.contains (grottoOf o.core))).map (fun o => [(o.core, o.slots.take 1)]), s)

/-- The die could hold the unit with all its working cores free (18 R364 items 4 and 5). -/
def State.couldHold (s : State) (ctx : Nat) (unit : List Saved) : Bool :=
  match unit with
  | [] => true
  | v :: _ =>
    let sh := if s.isGroupUnit v.slot.group then ((kget s.gr.groups v.slot.group).map Group.shape).getD 0 else 0x11
    let n := shSlots sh
    let fits := fun (c : Nat) => s.coreUp c && decide (n * v.slot.space + s.spillSpace c ≤ (s.core c).gran * 4096) && decide (n ≤ if s.pl.rsv then 15 else 16)
    if v.slot.pass then (s.homeCores v).1.any fits
    else (List.range 36).any (fun g =>
      decide (shCores sh ≤ ((List.range 4).filter (fun j =>
        if s.pairOn ctx then j % 2 == 0 && fits (4 * g + j) && fits (4 * g + j + 1) else fits (4 * g + j))).length))

/-- A request of a restored slot sent again under a new number (18 R363 last paragraph). -/
def State.reissue (s : State) (sid : Nat) (rid : Nat) (d : Dep) : Nat × State :=
  let (n, s) := s.newId
  let d' : Dep := { d with sid := sid, value := d.base, outstanding := d.sent.length, nack := none, fault := none, ue := [], flags := 0 }
  let s := { s with deps := kset (kdel s.deps rid) n d' }
  let s := d.sent.foldl (fun (s : State) m => (s.request sid { m with sid := some sid, dep := some n } false 32).2) s
  (n, s)

/-- Deposits of a restored slot that are not DONE: idempotent ones are asked for again, the others stay pending. -/
def State.reissueAll (s : State) (sid : Nat) (v : Saved) : State :=
  v.deps.foldl (fun (s : State) rid =>
    let d := match kget v.lost rid with
      | some d => some d
      | none => (kget s.deps rid).bind (fun d => if d.idem && !d.sent.isEmpty then some d else none)
    match d with
    | none => s
    | some d =>
      let r := s.reissue sid rid d
      r.2.modSlot sid (fun x => { x with acqHold := x.acqHold.map (fun q => if q = rid then r.1 else q) })) s

/-- One slot of a unit restored on its new place. -/
def State.restoreSlot (s : State) (v : Saved) (sid image : Nat) : State :=
  let one := bitsOf 127 64 image
  let x := v.slot.ofImage image
  let x := match v.back with | some p => { x with pc := p } | none => x
  let moved := sid / 16 != v.sid / 16
  let x := { x with
    status := x.restoredStatus one s.t.cycle v.extra, pairMode := s.pairOn v.ctx
    owned := if moved then none else x.owned, ownedPos := if moved then 0 else x.ownedPos
    waitFor := x.waitFor ++ s.leftBehind (v.order + savedBase) }
  let s := { s with cx := { s.cx with saved := s.cx.saved.filter (fun w => w.order != v.order) } }
  let s := (s.freeArea v).renumber (v.order + savedBase) sid
  let s := s.startSlot sid x
  let mine : List SfuEntry := (s.core (v.sid / 16)).sfu.filter (fun q => q.image == some v.order)
  let s := if mine = [] then s else
    if moved then
      (s.modCore (v.sid / 16) (fun k => { k with sfu := k.sfu.filter (fun q => q.image != some v.order) })).modCore (sid / 16)
        (fun k => { k with sfu := k.sfu ++ mine.map (fun q => { q with sid := sid, image := none, start := none }) })
    else s.modCore (sid / 16) (fun k => { k with sfu := k.sfu.map (fun q => if q.image = some v.order then { q with sid := sid, image := none } else q) })
  (s.reissueAll sid v).serveRecvs (sid / 16)

/-- What the check word covers is as the die wrote it (18 R360). -/
def Saved.checks (v : Saved) (image : Nat) : Bool :=
  let drawn := fun (i : Nat) => (v.drawn >>> (64 * i)) % 2 ^ 64
  let word := fun (at' : Nat) => (image >>> (8 * at')) % 2 ^ 64
  (List.range 10).all (fun i => word (8 * (22 + i)) == drawn i) &&
    (List.range v.deps.length).all (fun i => word (0x1100 + 65 * v.slot.space / 64 + 16 * i + 8) == drawn (10 + i))

/-- The restore of a context has ended when nothing of it is saved (18 R350, R365). -/
def State.restoreEnd (s : State) (ctx : Nat) : State :=
  if (s.ctx ctx).restoring && (s.ctx ctx).state == .resident && !s.cx.saved.any (fun v => v.ctx == ctx) then
    let n := (s.ctx ctx).cmdCount
    (s.modCtx ctx (fun k => { k with restoring := false, busy := false })).endCommand ctx n
  else s

/-- Images of a unit read, one after another as they come; the first obstacle ends the step. -/
def State.readUnit (s : State) (unit : List Saved) : Got Unit × State :=
  unit.foldl (fun (acc : Got Unit × State) v =>
    match acc with
    | (.ok _, s) =>
      if v.image.isSome then (.ok (), s)
      else
        match s.imageGet v with
        | (.ok n, s) => (.ok (), s.modImage (v.order + savedBase) (fun w => { w with image := some n }))
        | (.nack, s) => (.nack, s.faultContext v.ctx 16 v.sid)
        | (_, s) => (.wait, s)
    | acc => acc) (.ok (), s)

/-- The slots of a unit on their cores, by position. -/
def placeSlots (place : List (Nat × List Nat)) : List Nat := place.flatMap (fun p => p.2.map (fun q => sidOf p.1 q))

/-- SAVED_SLOT_PLACE: the next unit of a context is placed and its slots restored, when there is room; no core that could
ever hold it faults the context (18 R351, R364). -/
def execSavedSlotPlace (ctx : Nat) (s : State) : Host.Outcome State Fault Refusal :=
  let unit := s.nextUnit ctx
  let ready := unit.all (fun v => v.written && v.writes.all s.settled) &&
    !s.slots.any (fun (p : Nat × Slot) => unit.any (fun v => v.slot.group == p.2.group))
  if (s.ctx ctx).state != .resident then .next s
  else if unit = [] then .next (s.restoreEnd ctx)
  else if !ready then .next s
  else if !s.couldHold ctx unit then .next (s.faultContext ctx 20 ((unit.map Saved.sid).headD 0))
  else
    match s.unitPlace ctx unit with
    | (none, s) => .next s
    | (some place, s) =>
      match s.readUnit unit with
      | (.ok _, s) =>
        let unit := s.nextUnit ctx
        match unit.find? (fun v => !v.checks (v.image.getD 0)) with
        | some v => .next (s.faultContext ctx 1 v.sid)
        | none =>
          let sids := placeSlots place
          let s := match unit with
            | v :: _ => ({ s with gr := { s.gr with groups := kmod s.gr.groups v.slot.group (fun (g : Group) =>
                { g with cores := place.map (fun (p : Nat × List Nat) => p.1), slots := place.map (fun (p : Nat × List Nat) => p.2) }) } } : State).followEcho v.slot.group
            | [] => s
          let s := (unit.zip sids).foldl (fun (s : State) p =>
            (s.restoreSlot p.1 p.2 (p.1.image.getD 0)).modCtx ctx (fun k => { k with cmdCount := k.cmdCount + 1 })) s
          .next (s.restoreEnd ctx)
      | (_, s) => .next s

end Sys2Proof.Machine
end

