-- ==== Sys2Proof/Machine/Contexts.lean ====
section
/-!
DEFINITION. Contexts on the die: the record, the commands, SAVES and RESTS, the end of a reclaim, and the port shares
(18 R348 to R353, R365 to R367).
-/

namespace Sys2Proof.Machine

/-! ### The record (18 R348, R349) -/

/-- Entry `i` of a table of 16-bit agent entries at byte `o` of a record: its agent where V is set. -/
def recAgent (r o i : Nat) : Option Nat :=
  let e := (r >>> (8 * o + 16 * i)) % 2 ^ 16
  if e.testBit 15 then some (e % 1024) else none

/-- Reserved bits [14:10] of such an entry are 0. -/
def agentClean (r o i : Nat) : Bool := bitsOf 14 10 ((r >>> (8 * o + 16 * i)) % 2 ^ 16) == 0

/-- The record's own form: reserved bits, alignments and PHSIZE. -/
def ctxRecordForm (r : Nat) : Bool :=
  let w := recWord r
  bitsOf 63 52 (w 0) == 0 && bitsOf 11 0 (w 0) == 0 && bitsOf 63 48 (w 1) == 0 &&
    (List.range 16).all (agentClean r 0x10) && (List.range 8).all (agentClean r 0x30) &&
    decide (w 8 < 256) && w 9 % 256 == 0 && bitsOf 31 28 (w 10) == 0 && w 11 % 8192 == 0 && decide (w 12 ≤ 64) &&
    w 13 % 65536 == 0 && w 14 == 0 && w 15 == 0

/-- The agents that a record names are this die once in its list, and dies that DIE_TOPO lists. -/
def State.ctxRecordAgents (s : State) (r : Nat) : Bool :=
  let dies := (List.range 8).filterMap (recAgent r 0x30)
  let homes := (List.range 16).filterMap (recAgent r 0x10)
  (dies.filter s.isOwn).length == 1 && (dies ++ homes).all (fun a => s.isOwn a || s.agentKnown a)

/-- A record as the die keeps it. -/
def Context.build (k : Context) (r : Nat) : Context :=
  let w := recWord r
  { k with
    state := .built, root := BitVec.ofNat 64 (w 0), hkid := bitsOf 11 0 (w 1)
    skids := [bitsOf 23 12 (w 1), bitsOf 35 24 (w 1), bitsOf 47 36 (w 1)]
    nsmap := (List.range 16).map (recAgent r 0x10), dies := (List.range 8).map (recAgent r 0x30), rep := w 8
    ihbase := BitVec.ofNat 64 (w 9), ihsize := bitsOf 15 0 (w 10), spkid := bitsOf 27 16 (w 10), spoff := bitsOf 63 32 (w 10)
    phbase := BitVec.ofNat 64 (w 11), phsize := w 12, savebase := BitVec.ofNat 64 (w 13)
    traptab := (List.range 32).map (fun i =>
      let e := (r >>> (8 * 0x80 + 32 * i)) % 2 ^ 32
      (e.testBit 0, e / 2 * 2)) }

/-- BUILD with the record's bytes: the record is kept and the name counters homed here are 0, or BAD. -/
def State.buildWith (s : State) (ctx r : Nat) : State :=
  if !ctxRecordForm r || !s.ctxRecordAgents r then s.ctxReject ctx
  else
    let mine := (List.range 16).filter (fun i => match recAgent r 0x10 i with | some a => s.isOwn a | none => false)
    let s := { s with vs := { s.vs with names := mine.foldl (fun m i => kset m (ctx * 16 + i) 0) s.vs.names } }
    s.modCtx ctx (fun k => k.build r)

/-- A BUILD no longer waits for its record. -/
def State.endBuild (s : State) (ctx : Nat) : State :=
  let mine := s.cx.builds.filter (fun b => b.1 == ctx)
  { (s.forget (mine.map (fun b => b.2.2))) with cx := { s.cx with builds := s.cx.builds.filter (fun b => b.1 != ctx) } }

/-- CTX_BUILD: the record is read at its physical address; one at another agent is asked for, and the step is taken
again when it has come. -/
def execCtxBuild (ctx pa : Nat) (s : State) : Host.Outcome State Fault Refusal :=
  match s.cx.builds.find? (fun b => b.1 == ctx && b.2.1 == pa) with
  | some (_, _, d) =>
    match kget s.deps d with
    | some dep =>
      if dep.outstanding ≠ 0 then .next s
      else
        let bad := dep.nack.isSome || !dep.ue.isEmpty || (s.ctx ctx).state != .free
        let t := s.endBuild ctx
        .next (if bad then t.ctxReject ctx else t.buildWith ctx dep.value)
    | none => .next ((s.endBuild ctx).ctxReject ctx)
  | none =>
    if (s.ctx ctx).state != .free || (s.ctx ctx).busy || s.cx.builds.any (fun b => b.1 == ctx) then .next (s.ctxReject ctx)
    else if s.local' pa then
      if !s.served pa 256 then .next (s.ctxReject ctx)
      else
        let b := s.memBytesUe (pa % 2 ^ 42) 256
        .next (if !b.2.isEmpty then s.ctxReject ctx else s.buildWith ctx (ofBytes b.1))
    else
      let piece : Piece := { pa := pa, bit := 0, bits := 2048, high := false, lane := 0, va := 0, poison := false }
      let r := s.collect { sid := none, ctx := ctx, user := false, op := .load [piece] none, pa := pa, after := [], dep := none, isLoad := true }
      .next { r.2 with cx := { r.2.cx with builds := r.2.cx.builds ++ [(ctx, pa, r.1)] } }

/-! ### Commands (18 R350) -/

/-- A command that acts in some states only, not while BUSY, and not in the cycle of a fault. -/
def State.command (s : State) (ctx : Nat) (ok : CState → Bool) (f : State → State) : State :=
  if ok (s.ctx ctx).state && !(s.ctx ctx).busy && (s.ctx ctx).faultAt != some s.t.cycle then
    f (s.modCtx ctx (fun k => { k with cmdAt := some s.t.cycle }))
  else s.ctxReject ctx

/-- CTX_ADMIT: BUILT becomes ADMITTED. -/
def execCtxAdmit (ctx : Nat) (s : State) : Host.Outcome State Fault Refusal :=
  .next (s.command ctx (fun k => k == .built) (fun s => s.modCtx ctx (fun k => { k with state := .admitted })))

/-- CTX_RUN: ADMITTED becomes RESIDENT. -/
def execCtxRun (ctx : Nat) (s : State) : Host.Outcome State Fault Refusal :=
  .next (s.command ctx (fun k => k == .admitted) (fun s => s.modCtx ctx (fun k => { k with state := .resident })))

/-- Open packets of slots to be saved count towards their truncation from now (12 R255). -/
def State.dateOpen (s : State) : State :=
  let date := fun (sid : Nat) (x : Slot) =>
    match x.openPkt with
    | some p => if p.since.isNone && s.saveWanted sid x then { x with openPkt := some { p with since := some s.t.cycle } } else x
    | none => x
  { s with slots := kmap s.slots date }

/-- The drain of a context starts; with nothing to save it ends at once. -/
def State.drain (s : State) (ctx : Nat) : State :=
  ((s.modCtx ctx (fun k => { k with state := .draining, busy := true, cmdCount := 0 })).dateOpen).drainEnd ctx

/-- The restore of a context starts; with nothing saved it ends at once. -/
def State.restore (s : State) (ctx : Nat) : State :=
  (s.modCtx ctx (fun k => { k with state := .resident, busy := true, restoring := true, cmdCount := 0 })).restoreEnd ctx

/-- CTX_DRAIN: RESIDENT becomes DRAINING. -/
def execCtxDrain (ctx : Nat) (s : State) : Host.Outcome State Fault Refusal :=
  .next (s.command ctx (fun k => k == .resident) (fun s => s.drain ctx))

/-- CTX_RESTORE: SAVED becomes RESIDENT, with its slots to be placed. -/
def execCtxRestore (ctx : Nat) (s : State) : Host.Outcome State Fault Refusal :=
  .next (s.command ctx (fun k => k == .saved) (fun s => s.restore ctx))

/-! ### RETIRE (18 R353) -/

/-- Versions of a context homed on the die are discarded, their waiters cancelled, and reclaimed. -/
def State.retireVersions (s : State) (ctx : Nat) : State :=
  let mine := s.vs.versions.filter (fun v => v.ctx == ctx)
  let s := { s with vs := { s.vs with proxies := s.vs.proxies.filter (fun p => p.ctx != ctx) } }
  mine.foldl (fun (s : State) v =>
    if v.state = .absent then s.freeVersion v
    else if v.state = .dead then s.setVersion { v with waiters := [] }
    else s.reclaimStart { v with waiters := [] }) s

/-- What the cores and the barrier table hold of a context is freed. -/
def State.retireRest (s : State) (ctx : Nat) : State :=
  let s := { s with cores := kmap s.cores (fun _ k => { k with inbox := k.inbox.filter (fun e => e.ctx != ctx), heap := kdel k.heap ctx }) }
  let bars : List Nat := (s.br.dieBars.filter (fun (p : Nat × Barrier) => p.2.ctx == ctx)).map (fun p => p.1)
  let s := bars.foldl (fun (s : State) k => s.freeBarrier (.die k) none) s
  s.tlbDrop 1 0 ctx false

/-- CTX_RETIRE: the context is RETIRED and its reclaim starts. -/
def execCtxRetire (ctx : Nat) (s : State) : Host.Outcome State Fault Refusal :=
  .next (s.command ctx (fun k => k == .built || k == .admitted || k == .saved || k == .faulted) (fun s =>
    let s := s.dropWork ctx brFault
    let s := { s with kn := { s.kn with kernels := s.kn.kernels.filter (fun k => k.ctx != ctx) } }
    ((s.retireVersions ctx).retireRest ctx).modCtx ctx (fun k => { k with state := .retired, busy := true })))

/-- CONTEXT_RECLAIM_END: no version of the RETIRED context is left on the die, and it is FREE. -/
def execContextReclaimEnd (ctx : Nat) (s : State) : Host.Outcome State Fault Refusal :=
  if (s.ctx ctx).state = .retired ∧ !s.vs.versions.any (fun v => v.ctx == ctx) then
    let s := { s with vs := { s.vs with vHeld := s.vs.vHeld.filter (fun p => p.1 != ctx) } }
    .next (s.modCtx ctx (fun k => { k with state := .free, busy := false }))
  else .next s

/-! ### SAVES and RESTS (18 R365) -/

/-- What keeps SAVES or RESTS from acting on a context, as it is deposited. -/
def State.ctxRefusal (s : State) (own ctx : Nat) (need : CState) : Option Nat :=
  if ctx = own then some (2 ^ 63 + 3)
  else if (s.ctx ctx).busy then some (2 ^ 63 + 2)
  else if (s.ctx ctx).state ≠ need then some (2 ^ 63 + 1)
  else none

/-- SAVES and RESTS: one acts as DRAIN, the other as RESTORE. -/
def ctxBody (need : CState) (act : State → Nat → State) : Body := fun sid c x s =>
  let d := x.reg .scalar c.a.toNat
  let a := x.reg .scalar c.b.toNat
  match s.memHold sid x true with
  | .error st => (s, .error st)
  | .ok _ =>
    match x.checkUses { all := [d, a], src := [a], dst := [d] } with
    | .error st => (s, .error st)
    | .ok _ =>
      let v := x.readUe a 64
      let ctx := v.1 % 16
      let y := (x.markEmpty d.loc 8).leaveMem c v.2
      match s.ctxRefusal x.ctx ctx need with
      | some r => ((s.newDep (scalarDep sid d 0 r)).2, .ok (.set y))
      | none =>
        let (d0, s) := s.newDep (scalarDep sid d 1 0)
        (act (s.modCtx ctx (fun k => { k with cmdRid := some d0 })) ctx, .ok (.set y))

/-- SAVES (18 R365). -/
def execSaves (c : Chain) (s : State) : Host.Outcome State Fault Refusal := .next (s.issue opSaves c (ctxBody .resident State.drain))

/-- RESTS (18 R365). -/
def execRests (c : Chain) (s : State) : Host.Outcome State Fault Refusal := .next (s.issue opRests c (ctxBody .saved State.restore))

/-! ### Shares of the request port (18 R366, R367) -/

/-- The tokens of a port at a period start: what its active contexts receive, by their shares (18 R366 item 4). -/
def CoreSt.refill (k : CoreSt) (active : List Nat) (share : Nat → Nat) (cap : Nat) : CoreSt :=
  let sum := (active.map share).foldl (fun a b => a + b) 0
  { k with tokens := active.foldl (fun m c => kset m c (cap * share c / sum)) [], active := [] }

/-- Contexts active at a core's port: those that sent in the period just ended, and those that had a request waiting there in
its last cycle (18 R366 item 3). -/
def State.portActive (s : State) (core : Nat) (k : CoreSt) : List Nat :=
  distinct (k.active ++ (s.atPort core).filterMap (fun p => if p.2.2.since < s.t.cycle then some p.2.1.ctx else none))

/-- QOS_PERIOD_START: at a cycle count that is a multiple of 1,024 each port refills the tokens of its active contexts. -/
def execQosPeriodStart (s : State) : Host.Outcome State Fault Refusal :=
  if s.t.cycle % 1024 = 0 then
    .next { s with cores := kmap s.cores (fun c k => k.refill (s.portActive c k) (fun c => kgetD s.cx.shares c 0x10) s.cx.portCap) }
  else .next s

end Sys2Proof.Machine
end

