-- ==== Sys2Proof/Machine/Regions.lean ====
section
/-!
DEFINITION. Fence regions: the fence, what happens to the work, and the reset (21 R411 to R413); the fence of the die
(21 R412, 19 R387).
-/

namespace Sys2Proof.Machine

/-- A region's record, and the same changed. -/
def State.region (s : State) (r : Nat) : Region := kgetD s.hl.regions r {}
def State.modRegion (s : State) (r : Nat) (f : Region → Region) : State :=
  { s with hl := { s.hl with regions := kset s.hl.regions r (f (s.region r)) } }

/-- Grottos of a region, and cores of grottos. -/
def State.regionGrottos (s : State) (r : Nat) : List Nat := (List.range 36).filter (fun g => s.regionOf g == r)
def coresOf (gs : List Nat) : List Nat := gs.flatMap (fun g => [4 * g, 4 * g + 1, 4 * g + 2, 4 * g + 3])

/-! ### The work of fenced grottos (21 R413) -/

/-- A RUNNING pool entry returns to READY, to be run in replay. -/
def State.rerunEntry (s : State) (i : Nat) : State :=
  match s.entry i with
  | some e => if e.state = .running then (s.setEntry i { e with replay := true }).unrun (s.taskHandle i) else s
  | none => s

/-- The leader of a launched group is asked to deal its index again in replay. -/
def State.redeal (s : State) (g : Group) : State :=
  match g.launch with
  | none => s
  | some (leader, l, _, index) =>
    let (r, s) := s.newId
    s.post r { sid := none, ctx := g.ctx, user := false, op := .report { exitPacket leader l index leader with op := 1 }, pa := 0, after := [], dep := none }

/-- What a fence takes away: slots, arrivals, groups, pool entries, and the contexts whose work nothing can re-issue. -/
structure FencedWork where
  slots : List (Nat × Slot)
  arrivals : List (Nat × Transfer)
  groups : List (Nat × Group)
  entries : List Nat
  lost : List Nat

/-- The work on some cores. -/
def State.workOn (s : State) (cores : List Nat) : FencedWork :=
  let slots : List (Nat × Slot) := s.slots.filter (fun (p : Nat × Slot) => cores.contains (p.1 / 16))
  let arrivals : List (Nat × Transfer) := s.kn.transfers.filter (fun (p : Nat × Transfer) => cores.contains p.2.core)
  let keys := slots.map (fun p => p.2.group) ++ arrivals.map (fun p => p.2.group)
  let groups : List (Nat × Group) := s.gr.groups.filter (fun (p : Nat × Group) => keys.contains p.1)
  let backed := fun (key : Nat) (pulled : Bool) (dealt : Option Word) =>
    pulled || dealt.isSome || groups.any (fun p => p.1 == key && (p.2.task.isSome || p.2.launch.isSome))
  let handles := slots.flatMap (fun p => p.2.handles) ++ arrivals.flatMap (fun p => p.2.handles) ++
    groups.filterMap (fun p => p.2.task)
  let matrix := cores.flatMap (fun c => ((s.core c).matrix.toList ++ (s.core c).nextMatrix.toList).map MxTask.entry)
  { slots := slots, arrivals := arrivals, groups := groups, entries := distinct (handles.filterMap s.entryOf ++ matrix)
    lost := distinct ((slots.filter (fun p => !backed p.2.group p.2.pulled p.2.dealt)).map (fun p => p.2.ctx) ++
      (arrivals.filter (fun p => !backed p.2.group p.2.pulled p.2.dealt)).map (fun p => p.2.ctx)) }

/-- Slots of fenced cores stop with no save; their requests go on to their end. -/
def State.stopSlots (s : State) (w : FencedWork) : State :=
  let keys := w.groups.map (fun p => p.1)
  let s := s.breakWhere (fun b => keys.contains b.group) (fun _ => false) brFence
  let s := w.slots.foldl (fun (s : State) p => s.freeSlot p.1) s
  let s := w.arrivals.foldl (fun (s : State) p => s.endTransfer p.1 p.2) s
  let bars : List Nat := (s.br.barriers.filter (fun (p : Nat × Barrier) => keys.contains p.2.group)).map (fun p => p.1)
  let s := bars.foldl (fun (s : State) k => s.freeBarrier (.named k) none) s
  let images := s.cx.saved.filter (fun v => keys.contains v.slot.group)
  { s with
    gr := { s.gr with groups := s.gr.groups.filter (fun (p : Nat × Group) => !keys.contains p.1) }
    cx := { s.cx with saved := s.cx.saved.filter (fun v => !keys.contains v.slot.group) }
    deps := s.deps.filter (fun (p : Nat × Dep) => !images.any (fun v => v.order + savedBase == p.2.sid)) }

/-- Matrix tasks of fenced cores stop. -/
def State.stopMatrix (s : State) (cores : List Nat) : State :=
  cores.foldl (fun (s : State) c =>
    if (s.core c).matrix.isNone && (s.core c).nextMatrix.isNone then s
    else (s.dropEngine (0x2000 + c)).modCore c (fun k => { k with matrix := none, nextMatrix := none })) s

/-- Cores are fenced: their slots stop and their work is re-issued (21 R413). -/
def State.fenceCores (s : State) (cores : List Nat) : State :=
  let w := s.workOn cores
  -- what pairs have held is not performed
  let held := cores.flatMap (fun c => (s.core c).pair.buffer)
  let s := { s with msgs := s.msgs.filter (fun (p : Nat × Msg) => !held.contains p.1) }
  let s := cores.foldl (fun (s : State) c => if (s.core c).pair = {} then s else s.modCore c (fun k => { k with pair := {} })) s
  let s := (s.stopSlots w).stopMatrix cores
  let s := w.entries.foldl (fun (s : State) i => s.rerunEntry i) s
  let s := w.groups.foldl (fun (s : State) p => s.redeal p.2) s
  w.lost.foldl (fun (s : State) c => if (s.ctx c).state.admitted' then s.faultContext c 0 0 else s) s

/-! ### States of a region (21 R411, R412) -/

/-- Requests that slots of some cores have on their way. -/
def State.inFlight (s : State) (cores : List Nat) : List Nat :=
  (s.msgs.filter (fun (p : Nat × Msg) => match p.2.sid with | some i => cores.contains (i / 16) | none => false)).map (fun p => p.1)

/-- An OPEN region is fenced. -/
def State.fenceRegion (s : State) (r : Nat) : State :=
  if (s.region r).state ≠ 0 then s
  else
    let cores := coresOf (s.regionGrottos r)
    let flying := s.inFlight cores
    let s := s.modRegion r (fun q => { q with state := 1, fences := min 15 (q.fences + 1) })
    let s := { s with hl := { s.hl with drain := kset s.hl.drain r flying } }
    let s := s.fenceCores cores
    let s := (if r < 8 then s.lived (118 + r) 1 else s).lived 129 1
    s.monLog 0 r 0 0 6

/-- REGION_FENCE: of the region that holds a grotto. -/
def execRegionFence (grotto : Nat) (s : State) : Host.Outcome State Fault Refusal :=
  if 36 ≤ grotto then .next s else .next (s.fenceRegion (s.regionOf grotto))

/-- Cores reset together: registers and local memory are zero, and the loader writes each SEALED kernel again. -/
def State.resetCores (s : State) (cores : List Nat) : State :=
  (cores.foldl (fun (s : State) c => s.modCore c (fun k =>
    { k with loc := [], ueLoc := [], left := [], l1 := [], sfu := [], sfuFree := 0, inbox := [], heap := [], spillReason := 0, pair := {} })) s).reloadCores cores

/-- Every request that left a fenced region has been performed or discarded. -/
def State.regionQuiet (s : State) (r : Nat) : Bool := (kgetD s.hl.drain r []).all (fun i => (kget s.msgs i).isNone)

/-- REGION_DRAINED. -/
def execRegionDrained (grotto : Nat) (s : State) : Host.Outcome State Fault Refusal :=
  let r := s.regionOf grotto
  if 36 ≤ grotto || (s.region r).state != 1 || !s.regionQuiet r then .next s
  else
    let cores := (coresOf (s.regionGrottos r)).filter (fun c => !s.fused c)
    let s := { s with hl := { s.hl with drain := kdel s.hl.drain r } }
    .next ((s.resetCores cores).modRegion r (fun q => { q with state := 2 }))

/-- REGION_RESET_END: OPEN again, or CLOSED with the fourth fence. -/
def execRegionResetEnd (grotto : Nat) (s : State) : Host.Outcome State Fault Refusal :=
  let r := s.regionOf grotto
  if 36 ≤ grotto || (s.region r).state != 2 then .next s
  else .next (s.modRegion r (fun q => { q with state := if q.fences < 4 then 0 else 3 }))

/-- REGION_DEF_WRITE: ignored while the region is not OPEN. -/
def execRegionDefWrite (r : Nat) (v : Word) (s : State) : Host.Outcome State Fault Refusal :=
  if 8 ≤ r || (s.region r).state != 0 then .next s
  else
    let n := v.toNat
    .next (s.modRegion r (fun q =>
      { q with en := n.testBit 63, y1 := bitsOf 11 9 n, x1 := bitsOf 8 6 n, y0 := bitsOf 5 3 n, x0 := bitsOf 2 0 n }))

/-! ### The fence of the die (19 R387) -/

/-- Ferper fences the die: a DISCOVER record with FENCE goes out, and the die is FENCED in its own DIE_TOPO. -/
def State.fenceDie (s : State) : State :=
  let s := s.spreadFence { s.ownRecord with fence := true } none
  if s.agentKnown s.ownAgent then
    { s with lk := { s.lk with topo := kset s.lk.topo s.ownAgent (BitVec.ofNat 64 (setBits 60 59 (s.topo s.ownAgent) 1)) } }
  else s

end Sys2Proof.Machine
end

