-- ==== Sys2Proof/Machine/Health.lean ====
section
/-!
DEFINITION. Retirement, scrubbing, monitors, the event log, the lifetime record, and uncorrectable errors in control
state outside the grottos (21 R412, R414 to R419).
-/

namespace Sys2Proof.Machine

/-! ### Ways and slices (21 R414, R415) -/

/-- Versions of a slice that its ways no longer hold go to the extension region (10 R201). -/
def State.fitSlice (s : State) (slice : Nat) : State :=
  let beyond := s.granulesUsed slice - s.wayGranules slice
  if beyond = 0 then s else s.spill slice beyond

/-- Versions take table slots of the slices that the map now selects. -/
def State.rehome (s : State) : State :=
  let old := s.vs.versions
  let s := old.foldl (fun (s : State) v =>
    if s.nameSlice v.handle = slotSlice v.slot then s
    else
      -- the slot it leaves is freed (10 R200)
      let n := s.newVersion v.ctx v.handle
      let t := s.setVersion { v with slot := n.slot, gen := n.gen }
      ({ t with vs := { t.vs with vgens := kset t.vs.vgens v.slot ((v.gen + 1) % 2 ^ 16) } }).uncacheVersion (v.slot, v.gen)) s
  s.liveSlices.foldl State.fitSlice s

/-- Disabled ways of a set. -/
def State.deadWays (s : State) (slice set : Nat) : Nat := (s.vs.waysOff.filter (fun w => w.1 == slice && w.2.1 == set)).length

/-- A slice retires: SLICE_MAP changes, and what it held moves. -/
def State.retireSlice (s : State) (slice set : Nat) : State :=
  let live := BitVec.ofNat 64 (setBits slice slice s.vs.live.toNat 0)
  let s := ({ s with vs := { s.vs with live := live } }).rehome
  (s.lived 127 1).monLog (BitVec.ofNat 64 (slice * 65536 + set)) slice 0 0 8

/-- A way is disabled; a set left with fewer than two retires its slice. -/
def State.disableWay (s : State) (slice set way : Nat) : State :=
  let s := { s with vs := { s.vs with waysOff := s.vs.waysOff ++ [(slice, set, way)] } }
  let s := ((s.lived 126 1).monLog (BitVec.ofNat 64 (slice * 65536 + set)) slice 0 0 7).fitSlice slice
  if decide (14 < s.deadWays slice set) then s.retireSlice slice set else s

/-- CORRECTED_ERROR: counted against its way, which the third one disables. -/
def execCorrectedError (slice set way : Nat) (s : State) : Host.Outcome State Fault Refusal :=
  if !s.liveSlice slice || 1024 ≤ set || 16 ≤ way || s.vs.waysOff.contains (slice, set, way) then .next s
  else
    let key := slice * 2 ^ 24 + set * 2 ^ 5 + way
    let n := kgetD s.vs.wayErrs key 0 + 1
    let s := s.lived (54 + slice) 1
    let s := { s with vs := { s.vs with wayErrs := kset s.vs.wayErrs key n } }
    .next (if n = 3 then s.disableWay slice set way else s)

/-! ### The scrubber (21 R416) -/

/-- The sector of an address of the die's own memory is found uncorrectable. -/
def State.markSector (s : State) (pa : Nat) : State :=
  let off := pa % 2 ^ 42 / 32 * 32
  if !s.isOwn (pa / 2 ^ 42) || s.memBytes < off + 32 then s
  else { s with ueMem := s.ueMem ++ ((List.range 32).map (fun i => off + i)).filter (fun b => !s.ueMem.contains b) }

/-- SCRUB: a correction is written back (KIND 4), or dropped because a store came between (KIND 5); an uncorrectable sector
stays, for a later read to consume.  R418 gives no KIND for it, so that KIND is a free choice. -/
def execScrub (pa : Nat) (corrected stored : Bool) (s : State) : Host.Outcome State Fault Refusal :=
  let src := s.sliceOf (Config.lineHash (pa / 256))
  let w := BitVec.ofNat 64 pa
  if corrected then .next (s.monLog w src 0 0 (if stored then 5 else 4))
  else
    let (f, s) := s.draw
    .next ((if stored then s else s.markSector pa).monLog w src 0 0 (f % 2 ^ 20))

/-! ### Monitors and the event log (21 R417, R418) -/

/-- A monitor. -/
def State.monitor (s : State) (m : Nat) : Monitor := kgetD s.hl.mons m {}

/-- MON_CLEAR. -/
def execMonClear (m : Nat) (s : State) : Host.Outcome State Fault Refusal :=
  if 16 ≤ m then .next s
  else .next { s with hl := { s.hl with mons := kset s.hl.mons m (s.monitor m).clear } }

/-- MON_ELOG_POP: the head record is removed. -/
def execMonElogPop (s : State) : Host.Outcome State Fault Refusal :=
  .next { s with hl := { s.hl with mlog := s.hl.mlog.drop 1 } }

/-- Bin of a sample. -/
def Monitor.binOf (q : Monitor) (v : Nat) : Nat := min 31 ((v - bitsOf 63 32 q.bin.toNat) / 2 ^ bitsOf 4 0 q.bin.toNat)

/-- A sample counted. -/
def Monitor.sample (q : Monitor) (v : Nat) : Monitor :=
  let b := q.binOf v
  { q with
    min' := BitVec.ofNat 64 (min q.min'.toNat v)
    max' := BitVec.ofNat 64 (max q.max'.toNat v)
    cnt := q.cnt + 1
    hist := (List.range 32).map (fun i => let n := q.hist[i]?.getD 0; if i = b then min (2 ^ 32 - 1) (n + 1) else n) }

/-- A monitor takes samples. -/
def Monitor.samples (q : Monitor) : Bool :=
  q.sel.toNat.testBit 31 && decide (1 ≤ bitsOf 23 16 q.sel.toNat) && decide (bitsOf 23 16 q.sel.toNat ≤ 6)

/-- MONITOR_SAMPLE. -/
def execMonitorSample (m v : Nat) (s : State) : Host.Outcome State Fault Refusal :=
  if 16 ≤ m || !(s.monitor m).samples then .next s
  else .next { s with hl := { s.hl with mons := kset s.hl.mons m ((s.monitor m).sample (v % 2 ^ 64)) } }

/-! ### The lifetime record (21 R419) -/

/-- Minutes counted: power-on hours, and each zone's TJMAX in bins of 5 °C. -/
def State.addMinutes (s : State) (n : Nat) : State :=
  let s := (List.range 20).foldl (fun (s : State) z => s.lived (2 + min 31 (((s.zone z).tj.foldl max 0) / 5)) n) s
  let m := s.hl.lifeMins + n
  ({ s with hl := { s.hl with lifeMins := m % 60 } }).lived 0 (m / 60)

/-- LIFETIME_UPDATE: the minutes passed since the last one are counted. -/
def execLifetimeUpdate (s : State) : Host.Outcome State Fault Refusal :=
  let n := (s.now - s.hl.lifeAt) / 60000000000
  if s.now < s.hl.lifeAt then .next { s with hl := { s.hl with lifeAt := s.now } }
  else if n = 0 then .next s
  else .next ({ s with hl := { s.hl with lifeAt := s.hl.lifeAt + n * 60000000000 } }.addMinutes n)

/-! ### Control state outside the grottos (21 R412, 18 R351) -/

/-- UNCORRECTABLE_ERROR: Ferper fences the die, or the context whose kept record it is becomes FAULTED with FCAUSE 0. -/
def execUncorrectableError (w : UeWhere) (s : State) : Host.Outcome State Fault Refusal :=
  let s := s.lived 129 1
  match w with
  | .outside => .next s.fenceDie
  | .context c => .next (if (s.ctx c).state.admitted' then s.faultContext c 0 0 else s)

end Sys2Proof.Machine
end

