-- ==== Sys2Proof/Machine/Pairs.lean ====
section
/-!
DEFINITION. Pair mode: what forces a checkpoint, the pair buffer, the comparison and the rollback, and PAIR (21 R406 to
R410).  The model keeps the slots of the leader; the checker's fingerprint stands for the checker.
-/

namespace Sys2Proof.Machine

/-- Forcing instructions that are known by their words; the others are known by what they send (21 R407 item 2). -/
def forces (i : Instr) : Bool :=
  match i with
  | .recvH _ => true
  | .recvW _ => true
  | .recvSp _ => true
  | .recvSt _ => true
  | .next _ => true
  | .exit _ => true
  | .saves _ => true
  | .rests _ => true
  | .fence c => bitsOf 4 3 c.mod.toNat != 1 && bitsOf 2 0 c.mod.toNat != 0
  | _ => false

/-- A message that a pair holds (21 R408 item 1). -/
def Msg.pairHeld (m : Msg) : Bool :=
  match m.op with
  | .store .. => !m.rel
  | .vstore .. => true
  | .vref .. => true
  | .vrel .. => true
  | .remote kind .. => kind == 1 && !m.rel
  | _ => false

/-- A message whose reply can be asked for again (18 R363 item 3), and which forces nothing. -/
def Msg.pairFree (m : Msg) : Bool :=
  match m.op with
  | .load .. => true
  | .vload .. => true
  | .vprobe .. => true
  | .barrier op .. => op == 3 || op == 4
  | .remote kind .. => kind == 0
  | .tlbi .. => true
  | _ => false

/-- A change to the pair of a leader core. -/
def State.modPair (s : State) (core : Nat) (f : PairState → PairState) : State := s.modCore core (fun k => { k with pair := f k.pair })

/-- INTERVAL of a pair: the least of the contexts that have slots on it. -/
def State.pairInterval (s : State) (core : Nat) : Nat :=
  let mine := (s.slots.filter (fun (p : Nat × Slot) => p.1 / 16 == core)).map (fun p => (kgetD s.hl.pairCtx p.2.ctx (4, false)).1)
  1024 * mine.foldl min (mine.headD 4)

/-- The state as it stands becomes the checkpoint of a pair. -/
def State.pairMark (s : State) (core : Nat) : State :=
  let k := s.core core
  s.modPair core (fun p => { p with
    count := 0, buffer := [], comparing := false, fpA := 0, fpB := 0, loc := k.loc, sfu := k.sfu, mark := s.o.nextId, redo := []
    slots := s.slots.filter (fun (q : Nat × Slot) => q.1 / 16 == core) })

/-- One of the counters of PAIR_STAT raised: position and width (21 R409). -/
def State.pairCount (s : State) (lo n : Nat) : State :=
  let old := bitsOf (lo + n - 1) lo s.hl.pairStat
  { s with hl := { s.hl with pairStat := setBits (lo + n - 1) lo s.hl.pairStat (min (2 ^ n - 1) (old + 1)) } }

/-- The pair reaches a checkpoint, and its fingerprints are being compared. -/
def State.pairCheck (s : State) (core : Nat) : State :=
  if (s.core core).pair.comparing || !s.slots.any (fun (p : Nat × Slot) => p.1 / 16 == core && p.2.pairMode) then s
  else (s.modPair core (fun p => { p with comparing := true })).pairCount 0 32

/-- PAIR_CHECKPOINT: of the pair of cores 2p and 2p + 1. -/
def execPairCheckpoint (pair : Nat) (s : State) : Host.Outcome State Fault Refusal :=
  if 72 ≤ pair then .next s else .next (s.pairCheck (2 * pair))

/-! ### The comparison (21 R408, R409) -/

/-- A slot as a rollback resumes it, with the replies that came for requests from before the checkpoint. -/
def Slot.resumed (x : Slot) (redo : List (Nat × Dep)) : Slot :=
  let x := redo.foldl (fun (x : Slot) p =>
    let y := x.fill p.2
    { y with acqHold := y.acqHold.filter (fun r => r != p.1), recvs := y.recvs.filter (fun r => r != p.1)
             nextRid := if y.nextRid = some p.1 then none else y.nextRid }) x
  match x.status with
  | .stalled (.walk _) => { x with status := .ready, xlat := [] }
  | .parked (.partner ..) => { x with status := .ready }
  | _ => x

/-- Both cores roll back: logged values are restored, held writes and later requests are dropped, and every slot resumes
at the checkpoint. -/
def State.rollback (s : State) (core : Nat) : State :=
  let p := (s.core core).pair
  let onCore := fun (sid : Nat) => sid / 16 == core
  let back : KMap Slot := (p.slots.filter (fun (q : Nat × Slot) => (s.slot q.1).isSome)).map (fun q =>
    (q.1, q.2.resumed (p.redo.filter (fun r => r.2.sid == q.1))))
  let s := { s with
    msgs := s.msgs.filter (fun (q : Nat × Msg) => !(p.buffer.contains q.1 || (decide (p.mark ≤ q.1) && (match q.2.sid with | some i => onCore i | none => false))))
    deps := s.deps.filter (fun (q : Nat × Dep) => !(decide (p.mark ≤ q.1) && onCore q.2.sid)) }
  let s := back.foldl (fun (s : State) q => (s.leaveWalks q.1).setSlot q.1 q.2) s
  let s := s.modCore core (fun k => { k with loc := p.loc, sfu := p.sfu })
  s.modPair core (fun q => { q with count := 0, buffer := [], comparing := false, rerun := true, fpA := 0, fpB := 0, slots := back, redo := [] })

/-- Held writes go on their way in issue order, and the checkpoint moves. -/
def State.pairAgree (s : State) (core : Nat) : State :=
  let p := (s.core core).pair
  let s := { s with msgs := kmap s.msgs (fun r m => if p.buffer.contains r then { m with buffered := false } else m) }
  (s.pairMark core).modPair core (fun q => { q with rerun := false })

/-- The fingerprints differ: a rollback, or the fence of the pair's region when the interval was being re-run. -/
def State.pairDiffer (s : State) (core : Nat) : State :=
  if (s.core core).pair.rerun then (s.pairCount 48 16).fenceRegion (s.regionOf (grottoOf core))
  else ((((s.rollback core).pairCount 32 16).lived 128 1).monLog 0 (core * 16) 0 0 9)

/-- PAIR_COMPARE_END. -/
def execPairCompareEnd (pair : Nat) (s : State) : Host.Outcome State Fault Refusal :=
  let p := (s.core (2 * pair)).pair
  if 72 ≤ pair || !p.comparing then .next s
  else .next (if p.fpA = p.fpB then s.pairAgree (2 * pair) else s.pairDiffer (2 * pair))

/-! ### Issue on a pair (21 R407, R408) -/

/-- The slot has retired its instruction: it does not wait to issue it again. -/
def Slot.retired (x : Slot) : Bool :=
  match x.status with
  | .parked _ => false
  | .stalled .again => false
  | .stalled .sfu => false
  | .stalled .fence => false
  | .stalled (.walk _) => false
  | _ => true

/-- Messages that a slot has sent since request number `n`. -/
def State.sentSince (s : State) (sid n : Nat) : List (Nat × Msg) :=
  s.msgs.filter (fun (p : Nat × Msg) => decide (n ≤ p.1) && p.2.sid == some sid)

/-- An instruction forces a checkpoint: by its words, by what it sent, or by a reply that cannot be asked for again. -/
def State.forcedBy (s t : State) (sid : Nat) (i : Instr) : Bool :=
  forces i || (t.sentSince sid s.o.nextId).any (fun p => !p.2.pairHeld && !p.2.pairFree) ||
    t.deps.any (fun (p : Nat × Dep) => decide (s.o.nextId ≤ p.1) && p.2.sid == sid && !p.2.idem && p.2.outstanding != 0)

/-- What an instruction did on a pair: its writes are held, and it is folded into both fingerprints. -/
def State.pairFold (s t : State) (sid : Nat) : State :=
  let held := (t.sentSince sid s.o.nextId).filter (fun p => p.2.pairHeld)
  let done := match t.slot sid with | some x => x.retired | none => true
  let t := { t with msgs := kmap t.msgs (fun r m => if held.any (fun p => p.1 == r) then { m with buffered := true } else m) }
  let (a, t) := t.draw
  let (b, t) := t.draw
  t.modPair (sid / 16) (fun p => { p with
    buffer := p.buffer ++ held.map (fun q => q.1)
    count := p.count + done.toNat
    fpA := if done then Config.fingerprint p.fpA 0 a else p.fpA
    fpB := if done then Config.fingerprint p.fpB 1 b else p.fpB })

/-- The issue of an instruction by a slot on a pair: `s` before it and `t` after it.  A forcing instruction takes its
checkpoint first, and so does one that the buffer, the undo log (whose fill is a free choice, log 36) or the interval has
no room for; it issues after the comparison. -/
def State.pairIssue (s t : State) (sid : Nat) (i : Instr) : State :=
  let core := sid / 16
  let p := (s.core core).pair
  let clean := p.buffer.isEmpty && p.count == 0
  let forcing := s.forcedBy t sid i
  let held := ((t.sentSince sid s.o.nextId).filter (fun q => q.2.pairHeld)).length
  let (u, t') := t.draw
  let full := decide (256 < p.buffer.length + held) || decide (s.pairInterval core ≤ p.count) || u % 2 == 1
  if (forcing || full) && !clean then (s.draw.2).pairCheck core
  else if forcing then t'.pairMark core
  else s.pairFold t' sid

/-! ### PAIR (21 R410) -/

/-- PAIR_CTXc as it is read. -/
def pairWord (p : Nat × Bool) : Nat := p.1 * 2 ^ 16 + p.2.toNat

/-- PAIR (21 R410). -/
def pairBody : Body := fun sid c x s =>
  let d := x.reg .scalar c.a.toNat
  let a := x.reg .scalar c.b.toNat
  match s.memHold sid x true with
  | .error st => (s, .error st)
  | .ok _ =>
    match x.checkUses { all := [d, a], src := [a], dst := [d] } with
    | .error st => (s, .error st)
    | .ok _ =>
      let v := x.readUe a 64
      let ctx := v.1 % 16
      let n := bitsOf 22 16 v.1
      let old := kgetD s.hl.pairCtx ctx (4, false)
      let y := (x.markEmpty d.loc 8).leaveMem c v.2
      let give := fun (s : State) (r : Nat) => ((s.newDep (scalarDep sid d 0 r)).2, Except.ok (After.set y))
      if 64 < n then give s (2 ^ 63 + 1)
      else if (s.ctx ctx).state = .free ∨ (s.ctx ctx).state = .retired then give s (2 ^ 63 + 2)
      else
        give { s with hl := { s.hl with pairCtx := kset s.hl.pairCtx ctx (if n = 0 then old.1 else n, v.1.testBit 4) } } (pairWord old)

/-- PAIR. -/
def execPair (c : Chain) (s : State) : Host.Outcome State Fault Refusal := .next (s.issue opPair c pairBody)

end Sys2Proof.Machine
end

