-- ==== Sys2Proof/Machine/Scalar.lean ====
section
/-!
DEFINITION. Meanings of the register-only scalar instructions of page 0 (05).
-/

namespace Sys2Proof.Machine

/-- MOV (05 R106 to R110, R114). -/
def execMov (c : Chain) (s : State) : Host.Outcome State Fault Refusal := .next (s.issue opMov c (regs movBody))

/-- MOVI (05 R106 to R110, R114). -/
def execMovi (c : Chain) (s : State) : Host.Outcome State Fault Refusal := .next (s.issue opMovi c (regs moviBody))

/-- ADD (05 R106 to R110, R114). -/
def execAdd (c : Chain) (s : State) : Host.Outcome State Fault Refusal := .next (s.issue opAdd c (regs addBody))

/-- ADDI (05 R106 to R110, R114). -/
def execAddi (c : Chain) (s : State) : Host.Outcome State Fault Refusal := .next (s.issue opAddi c (regs addiBody))

/-- SUB (05 R106 to R110, R114). -/
def execSub (c : Chain) (s : State) : Host.Outcome State Fault Refusal := .next (s.issue opSub c (regs subBody))

/-- MUL (05 R106 to R110, R114). -/
def execMul (c : Chain) (s : State) : Host.Outcome State Fault Refusal := .next (s.issue opMul c (regs mulBody))

/-- MULH (05 R106 to R110, R114). -/
def execMulh (c : Chain) (s : State) : Host.Outcome State Fault Refusal := .next (s.issue opMulh c (regs mulhBody))

/-- MULHN (05 R106 to R110, R114). -/
def execMulhn (c : Chain) (s : State) : Host.Outcome State Fault Refusal := .next (s.issue opMulhn c (regs mulhnBody))

/-- DIV (05 R106 to R110, R114). -/
def execDiv (c : Chain) (s : State) : Host.Outcome State Fault Refusal := .next (s.issue opDiv c (regs divBody))

/-- DIVN (05 R106 to R110, R114). -/
def execDivn (c : Chain) (s : State) : Host.Outcome State Fault Refusal := .next (s.issue opDivn c (regs divnBody))

/-- REM (05 R106 to R110, R114). -/
def execRem (c : Chain) (s : State) : Host.Outcome State Fault Refusal := .next (s.issue opRem c (regs remBody))

/-- REMN (05 R106 to R110, R114). -/
def execRemn (c : Chain) (s : State) : Host.Outcome State Fault Refusal := .next (s.issue opRemn c (regs remnBody))

/-- AND (05 R106 to R110, R114). -/
def execAnd (c : Chain) (s : State) : Host.Outcome State Fault Refusal := .next (s.issue opAnd c (regs andBody))

/-- OR (05 R106 to R110, R114). -/
def execOr (c : Chain) (s : State) : Host.Outcome State Fault Refusal := .next (s.issue opOr c (regs orBody))

/-- XOR (05 R106 to R110, R114). -/
def execXor (c : Chain) (s : State) : Host.Outcome State Fault Refusal := .next (s.issue opXor c (regs xorBody))

/-- ANDN (05 R106 to R110, R114). -/
def execAndn (c : Chain) (s : State) : Host.Outcome State Fault Refusal := .next (s.issue opAndn c (regs andnBody))

/-- SHL (05 R106 to R110, R114). -/
def execShl (c : Chain) (s : State) : Host.Outcome State Fault Refusal := .next (s.issue opShl c (regs shlBody))

/-- SHR (05 R106 to R110, R114). -/
def execShr (c : Chain) (s : State) : Host.Outcome State Fault Refusal := .next (s.issue opShr c (regs shrBody))

/-- SAR (05 R106 to R110, R114). -/
def execSar (c : Chain) (s : State) : Host.Outcome State Fault Refusal := .next (s.issue opSar c (regs sarBody))

/-- ROL (05 R106 to R110, R114). -/
def execRol (c : Chain) (s : State) : Host.Outcome State Fault Refusal := .next (s.issue opRol c (regs rolBody))

/-- CLZ (05 R106 to R110, R114). -/
def execClz (c : Chain) (s : State) : Host.Outcome State Fault Refusal := .next (s.issue opClz c (regs clzBody))

/-- CTZ (05 R106 to R110, R114). -/
def execCtz (c : Chain) (s : State) : Host.Outcome State Fault Refusal := .next (s.issue opCtz c (regs ctzBody))

/-- POPC (05 R106 to R110, R114). -/
def execPopc (c : Chain) (s : State) : Host.Outcome State Fault Refusal := .next (s.issue opPopc c (regs popcBody))

/-- MIN (05 R106 to R110, R114). -/
def execMin (c : Chain) (s : State) : Host.Outcome State Fault Refusal := .next (s.issue opMin c (regs minBody))

/-- MAX (05 R106 to R110, R114). -/
def execMax (c : Chain) (s : State) : Host.Outcome State Fault Refusal := .next (s.issue opMax c (regs maxBody))

/-- MINN (05 R106 to R110, R114). -/
def execMinn (c : Chain) (s : State) : Host.Outcome State Fault Refusal := .next (s.issue opMinn c (regs minnBody))

/-- MAXN (05 R106 to R110, R114). -/
def execMaxn (c : Chain) (s : State) : Host.Outcome State Fault Refusal := .next (s.issue opMaxn c (regs maxnBody))

/-- SEQ (05 R106 to R110, R114). -/
def execSeq (c : Chain) (s : State) : Host.Outcome State Fault Refusal := .next (s.issue opSeq c (regs seqBody))

/-- SNE (05 R106 to R110, R114). -/
def execSne (c : Chain) (s : State) : Host.Outcome State Fault Refusal := .next (s.issue opSne c (regs sneBody))

/-- SLT (05 R106 to R110, R114). -/
def execSlt (c : Chain) (s : State) : Host.Outcome State Fault Refusal := .next (s.issue opSlt c (regs sltBody))

/-- SLTN (05 R106 to R110, R114). -/
def execSltn (c : Chain) (s : State) : Host.Outcome State Fault Refusal := .next (s.issue opSltn c (regs sltnBody))

/-- SEL (05 R106 to R110, R114). -/
def execSel (c : Chain) (s : State) : Host.Outcome State Fault Refusal := .next (s.issue opSel c (regs selBody))

/-- EXT (05 R106 to R110, R114). -/
def execExt (c : Chain) (s : State) : Host.Outcome State Fault Refusal := .next (s.issue opExt c (regs extBody))

/-- BSWAP (05 R106 to R110, R114). -/
def execBswap (c : Chain) (s : State) : Host.Outcome State Fault Refusal := .next (s.issue opBswap c (regs bswapBody))

/-- CLMUL (05 R106 to R110, R114). -/
def execClmul (c : Chain) (s : State) : Host.Outcome State Fault Refusal := .next (s.issue opClmul c (regs clmulBody))

/-- CLMULH (05 R106 to R110, R114). -/
def execClmulh (c : Chain) (s : State) : Host.Outcome State Fault Refusal := .next (s.issue opClmulh c (regs clmulhBody))

/-- NOP (05 R114). -/
def execNop (c : Chain) (s : State) : Host.Outcome State Fault Refusal := .next (s.issue opNop c (regs nopBody))

end Sys2Proof.Machine
end

