-- ==== Sys2Proof/Machine/Special.lean ====
section
/-!
DEFINITION. Meanings of the instructions of page 2 (07).
-/

namespace Sys2Proof.Machine

/-- VCVT (07 R140 to R157). -/
def execVcvt (c : Chain) (s : State) : Host.Outcome State Fault Refusal := .next (s.issue opVcvt c (regs vcvtBody))

/-- VQUANT (07 R140 to R157). -/
def execVquant (c : Chain) (s : State) : Host.Outcome State Fault Refusal := .next (s.issue opVquant c (regs vquantBody))

/-- VDEQ (07 R140 to R157). -/
def execVdeq (c : Chain) (s : State) : Host.Outcome State Fault Refusal := .next (s.issue opVdeq c (regs vdeqBody))

/-- VSCALE (07 R140 to R157). -/
def execVscale (c : Chain) (s : State) : Host.Outcome State Fault Refusal := .next (s.issue opVscale c (regs vscaleBody))

/-- VPERM (07 R140 to R157). -/
def execVperm (c : Chain) (s : State) : Host.Outcome State Fault Refusal := .next (s.issue opVperm c (regs vpermBody))

/-- VSHUF (07 R140 to R157). -/
def execVshuf (c : Chain) (s : State) : Host.Outcome State Fault Refusal := .next (s.issue opVshuf c (regs vshufBody))

/-- VZIP (07 R140 to R157). -/
def execVzip (c : Chain) (s : State) : Host.Outcome State Fault Refusal := .next (s.issue opVzip c (regs vzipBody))

/-- VUNZIP (07 R140 to R157). -/
def execVunzip (c : Chain) (s : State) : Host.Outcome State Fault Refusal := .next (s.issue opVunzip c (regs vunzipBody))

/-- VROTL (07 R140 to R157). -/
def execVrotl (c : Chain) (s : State) : Host.Outcome State Fault Refusal := .next (s.issue opVrotl c (regs vrotlBody))

/-- VRED (07 R140 to R157). -/
def execVred (c : Chain) (s : State) : Host.Outcome State Fault Refusal := .next (s.issue opVred c (regs vredBody))

/-- VSCAN (07 R140 to R157). -/
def execVscan (c : Chain) (s : State) : Host.Outcome State Fault Refusal := .next (s.issue opVscan c (regs vscanBody))

/-- VCLMUL (07 R140 to R157). -/
def execVclmul (c : Chain) (s : State) : Host.Outcome State Fault Refusal := .next (s.issue opVclmul c (regs vclmulBody))

/-- VCLMULH (07 R140 to R157). -/
def execVclmulh (c : Chain) (s : State) : Host.Outcome State Fault Refusal := .next (s.issue opVclmulh c (regs vclmulhBody))

/-- VPOPC (07 R140 to R157). -/
def execVpopc (c : Chain) (s : State) : Host.Outcome State Fault Refusal := .next (s.issue opVpopc c (regs vpopcBody))

/-- VCLZ (07 R140 to R157). -/
def execVclz (c : Chain) (s : State) : Host.Outcome State Fault Refusal := .next (s.issue opVclz c (regs vclzBody))

/-- VSQRT (07 R140 to R157). -/
def execVsqrt (c : Chain) (s : State) : Host.Outcome State Fault Refusal := .next (s.issue opVsqrt c (regs vsqrtBody))

/-- VDIV (07 R140 to R157). -/
def execVdiv (c : Chain) (s : State) : Host.Outcome State Fault Refusal := .next (s.issue opVdiv c (regs vdivBody))

/-- VRCP (07 R155, R156, R158). -/
def execVrcp (c : Chain) (s : State) : Host.Outcome State Fault Refusal := .next (s.issue opVrcp c (sfuIssue (sfuBody .rcp)))

/-- VRSQ (07 R155, R156, R158). -/
def execVrsq (c : Chain) (s : State) : Host.Outcome State Fault Refusal := .next (s.issue opVrsq c (sfuIssue (sfuBody .rsq)))

/-- VEXP2 (07 R155, R156, R158). -/
def execVexp2 (c : Chain) (s : State) : Host.Outcome State Fault Refusal := .next (s.issue opVexp2 c (sfuIssue (sfuBody .exp2)))

/-- VLOG2 (07 R155, R156, R158). -/
def execVlog2 (c : Chain) (s : State) : Host.Outcome State Fault Refusal := .next (s.issue opVlog2 c (sfuIssue (sfuBody .log2)))

/-- VSIN (07 R155, R156, R158). -/
def execVsin (c : Chain) (s : State) : Host.Outcome State Fault Refusal := .next (s.issue opVsin c (sfuIssue (sfuBody .sin)))

/-- VCOS (07 R155, R156, R158). -/
def execVcos (c : Chain) (s : State) : Host.Outcome State Fault Refusal := .next (s.issue opVcos c (sfuIssue (sfuBody .cos)))

/-- VTANH (07 R155, R156, R158). -/
def execVtanh (c : Chain) (s : State) : Host.Outcome State Fault Refusal := .next (s.issue opVtanh c (sfuIssue (sfuBody .tanh)))

/-- VSIGM (07 R155, R156, R158). -/
def execVsigm (c : Chain) (s : State) : Host.Outcome State Fault Refusal := .next (s.issue opVsigm c (sfuIssue (sfuBody .sigm)))

end Sys2Proof.Machine
end

