-- ==== Sys2Proof/Machine/Vector.lean ====
section
/-!
DEFINITION. Meanings of the register-only instructions of page 1 (06).
-/

namespace Sys2Proof.Machine

/-- VMOV (06 R118 to R134). -/
def execVmov (c : Chain) (s : State) : Host.Outcome State Fault Refusal := .next (s.issue opVmov c (regs vmovBody))

/-- VBCAST (06 R118 to R134). -/
def execVbcast (c : Chain) (s : State) : Host.Outcome State Fault Refusal := .next (s.issue opVbcast c (regs vbcastBody))

/-- VINS (06 R118 to R134). -/
def execVins (c : Chain) (s : State) : Host.Outcome State Fault Refusal := .next (s.issue opVins c (regs vinsBody))

/-- VEXTR (06 R118 to R134). -/
def execVextr (c : Chain) (s : State) : Host.Outcome State Fault Refusal := .next (s.issue opVextr c (regs vextrBody))

/-- VADD (06 R118 to R134). -/
def execVadd (c : Chain) (s : State) : Host.Outcome State Fault Refusal := .next (s.issue opVadd c (regs vaddBody))

/-- VSUB (06 R118 to R134). -/
def execVsub (c : Chain) (s : State) : Host.Outcome State Fault Refusal := .next (s.issue opVsub c (regs vsubBody))

/-- VMUL (06 R118 to R134). -/
def execVmul (c : Chain) (s : State) : Host.Outcome State Fault Refusal := .next (s.issue opVmul c (regs vmulBody))

/-- VFMA (06 R118 to R134). -/
def execVfma (c : Chain) (s : State) : Host.Outcome State Fault Refusal := .next (s.issue opVfma c (regs vfmaBody))

/-- VFMS (06 R118 to R134). -/
def execVfms (c : Chain) (s : State) : Host.Outcome State Fault Refusal := .next (s.issue opVfms c (regs vfmsBody))

/-- VFNMA (06 R118 to R134). -/
def execVfnma (c : Chain) (s : State) : Host.Outcome State Fault Refusal := .next (s.issue opVfnma c (regs vfnmaBody))

/-- VMIN (06 R118 to R134). -/
def execVmin (c : Chain) (s : State) : Host.Outcome State Fault Refusal := .next (s.issue opVmin c (regs vminBody))

/-- VMAX (06 R118 to R134). -/
def execVmax (c : Chain) (s : State) : Host.Outcome State Fault Refusal := .next (s.issue opVmax c (regs vmaxBody))

/-- VABS (06 R118 to R134). -/
def execVabs (c : Chain) (s : State) : Host.Outcome State Fault Refusal := .next (s.issue opVabs c (regs vabsBody))

/-- VNEG (06 R118 to R134). -/
def execVneg (c : Chain) (s : State) : Host.Outcome State Fault Refusal := .next (s.issue opVneg c (regs vnegBody))

/-- VABSD (06 R118 to R134). -/
def execVabsd (c : Chain) (s : State) : Host.Outcome State Fault Refusal := .next (s.issue opVabsd c (regs vabsdBody))

/-- VAVG (06 R118 to R134). -/
def execVavg (c : Chain) (s : State) : Host.Outcome State Fault Refusal := .next (s.issue opVavg c (regs vavgBody))

/-- VAND (06 R118 to R134). -/
def execVand (c : Chain) (s : State) : Host.Outcome State Fault Refusal := .next (s.issue opVand c (regs vandBody))

/-- VOR (06 R118 to R134). -/
def execVor (c : Chain) (s : State) : Host.Outcome State Fault Refusal := .next (s.issue opVor c (regs vorBody))

/-- VXOR (06 R118 to R134). -/
def execVxor (c : Chain) (s : State) : Host.Outcome State Fault Refusal := .next (s.issue opVxor c (regs vxorBody))

/-- VANDN (06 R118 to R134). -/
def execVandn (c : Chain) (s : State) : Host.Outcome State Fault Refusal := .next (s.issue opVandn c (regs vandnBody))

/-- VSHL (06 R118 to R134). -/
def execVshl (c : Chain) (s : State) : Host.Outcome State Fault Refusal := .next (s.issue opVshl c (regs vshlBody))

/-- VSHR (06 R118 to R134). -/
def execVshr (c : Chain) (s : State) : Host.Outcome State Fault Refusal := .next (s.issue opVshr c (regs vshrBody))

/-- VSAR (06 R118 to R134). -/
def execVsar (c : Chain) (s : State) : Host.Outcome State Fault Refusal := .next (s.issue opVsar c (regs vsarBody))

/-- VCMP (06 R118 to R134). -/
def execVcmp (c : Chain) (s : State) : Host.Outcome State Fault Refusal := .next (s.issue opVcmp c (regs vcmpBody))

/-- VSEL (06 R118 to R134). -/
def execVsel (c : Chain) (s : State) : Host.Outcome State Fault Refusal := .next (s.issue opVsel c (regs vselBody))

/-- VADDW (06 R118 to R134). -/
def execVaddw (c : Chain) (s : State) : Host.Outcome State Fault Refusal := .next (s.issue opVaddw c (regs vaddwBody))

/-- VMULW (06 R118 to R134). -/
def execVmulw (c : Chain) (s : State) : Host.Outcome State Fault Refusal := .next (s.issue opVmulw c (regs vmulwBody))

/-- VDOT (06 R118 to R134). -/
def execVdot (c : Chain) (s : State) : Host.Outcome State Fault Refusal := .next (s.issue opVdot c (regs vdotBody))

/-- VDOTS (06 R118 to R134). -/
def execVdots (c : Chain) (s : State) : Host.Outcome State Fault Refusal := .next (s.issue opVdots c (regs vdotsBody))

end Sys2Proof.Machine
end

