-- ==== Sys2Proof/Machine/Zones.lean ====
section
/-!
DEFINITION. The coolant zones: sensors, states, events, valves, schedules, evacuation and re-priming (20), and THINT.
-/

namespace Sys2Proof.Machine

/-! ### Conditions of a zone (20 R397, R401, R402) -/

/-- TJMAX. -/
def Zone.tjMax (z : Zone) : Nat := z.tj.foldl max 0

/-- FLOW ≥ MINF with VOID = 0. -/
def Zone.wet (z : Zone) : Bool := decide (z.minF ≤ z.flow) && !z.void

/-- The condition that the zone's state waits for: of PRIMING and of a re-prime pulse, or of THROTTLED. -/
def Zone.good (z : Zone) (tjHi : Nat) : Bool :=
  match z.state with
  | .priming => z.wet
  | .drained => z.wet
  | .throttled => decide (z.tjMax + 5 < tjHi) && decide (z.minF ≤ z.flow)
  | _ => false

/-- The time base from which a condition holds. -/
def sinceOf (cond : Bool) (old : Option Nat) (now : Nat) : Option Nat := if cond then some (old.getD now) else none

/-- A condition has held for a time. -/
def heldFor (since : Option Nat) (ns now : Nat) : Bool := match since with | some t => decide (t + ns ≤ now) | none => false

/-- The conditions as new readings leave them. -/
def Zone.timed (z : Zone) (tjHi now : Nat) : Zone :=
  { z with
    goodSince := sinceOf (z.good tjHi) z.goodSince now
    lowSince := sinceOf (decide (z.flow < z.minF)) z.lowSince now
    drySince := sinceOf (decide (4 * z.flow < z.minF)) z.drySince now }

/-- A zone enters a state: its condition counts from now. -/
def Zone.enter (z : Zone) (st : ZState) (tjHi now : Nat) : Zone :=
  let z := { z with state := st, goodSince := none }
  { z with goodSince := sinceOf (z.good tjHi) none now }

/-- THERM_HI, FLOW_LO and VOID of a zone (R402). -/
def Zone.events (z : Zone) (tjHi now : Nat) : List Bool :=
  [decide (tjHi ≤ z.tjMax), heldFor z.lowSince 1000000 now, z.void]

/-- An evacuation trigger (R402). -/
def Zone.dryOrHot (z : Zone) (tjShut now : Nat) : Bool :=
  z.void || heldFor z.drySince 100000 now || decide (tjShut ≤ z.tjMax)

/-! ### Evacuation (20 R403) -/

/-- Cores of a compute zone. -/
def zoneCores (z : Nat) : List Nat := if 18 ≤ z then [] else (List.range 144).filter (fun c => zoneOf c == z)

/-- Modules of an edge zone (01 R12). -/
def zoneModules (z : Nat) : List Nat := if z = 18 then [0, 1, 2, 3] else if z = 19 then [4, 5, 6, 7] else []

/-- Matrix tasks queued behind a running one return to READY. -/
def State.unqueueMatrix (s : State) (c : Nat) : State :=
  match (s.core c).nextMatrix with
  | some m => (s.modCore c (fun k => { k with nextMatrix := none })).unrun (s.taskHandle m.entry)
  | none => s

/-- A zone enters EVACUATING; an edge zone's modules retrain. -/
def State.startEvacuation (s : State) (z : Nat) : State :=
  let now := s.now
  let s := s.modZone z (fun q => { (q.enter .evacuating s.zn.tjHi now) with evacAt := now })
  let s := (zoneCores z).foldl State.unqueueMatrix s
  (zoneModules z).foldl (fun (s : State) m => s.modLink m (fun l => if l.carries then l.train else l)) s

/-- A zone too hot to be saved: its grottos are fenced, and it is DRAINED. -/
def State.fenceZone (s : State) (z : Nat) : State :=
  let cores := zoneCores z
  let gs := distinct (cores.map grottoOf)
  let s := s.modZone z (fun q => q.enter .drained s.zn.tjHi s.now)
  let s := { s with hl := { s.hl with fenced := s.hl.fenced ++ gs.filter (fun g => !s.hl.fenced.contains g) } }
  let s := s.fenceCores cores
  match gs with
  | g :: _ => s.monLog 0 (8 + g) 0 0 6
  | [] => s

/-- A zone goes where its readings send it (R397); of events of one cycle the one listed lower. -/
def State.judgeZone (s : State) (z : Nat) : State :=
  let q := s.zone z
  let now := s.now
  let evs := q.events s.zn.tjHi now
  let throttle := (evs[0]?.getD false) || (evs[1]?.getD false)
  match q.state with
  | .flowing =>
    if q.dryOrHot s.zn.tjShut now then s.startEvacuation z
    else if throttle then s.modZone z (fun q => q.enter .throttled s.zn.tjHi now)
    else s
  | .throttled => if q.dryOrHot s.zn.tjShut now then s.startEvacuation z else s
  | .evacuating => if s.zn.tjShut ≤ q.tjMax then s.fenceZone z else s
  | _ => s

/-- A condition that has begun to hold is an event: its bit, its zone, the vector (R402). -/
def State.zoneEvents (s : State) (z : Nat) : State :=
  let q := s.zone z
  let evs := q.events s.zn.tjHi s.now
  let new := fun (i : Nat) => (evs[i]?.getD false) && !(q.seen[i]?.getD false)
  let s := s.modZone z (fun q => { q with seen := evs })
  let s := { s with zn := { s.zn with
    ztherm := s.zn.ztherm || new 0, zflow := s.zn.zflow || new 1, zvoid := s.zn.zvoid || new 2
    zlast := if new 0 || new 1 || new 2 then z else s.zn.zlast } }
  ((List.range 3).filter new).foldl (fun (s : State) _ => s.irq s.zn.zvec) s

/-- A zone has an event that is not yet noted, or an evacuation trigger: a time has passed, or a limit was written. -/
def State.zoneStirs (s : State) (z : Nat) : Bool :=
  let q := s.zone z
  let evs := q.events s.zn.tjHi s.now
  (List.range 3).any (fun i => (evs[i]?.getD false) && !(q.seen[i]?.getD false)) ||
    ((q.state == .flowing || q.state == .throttled) && q.dryOrHot s.zn.tjShut s.now)

/-- Events and states of all zones, in ascending order. -/
def State.judgeZones (s : State) : State := (List.range 20).foldl (fun (s : State) z => (s.zoneEvents z).judgeZone z) s

/-! ### Sensors and valves (20 R398, R401) -/

/-- Ferper owns the valve. -/
def Zone.owned (z : Zone) : Bool := z.state == .evacuating || z.state == .drained || z.state == .failed

/-- A value on the way from `a` to `b`: a free choice. -/
def between (a b f : Nat) : Nat := if a ≤ b then a + f % (b - a + 1) else b + f % (a - b + 1)

/-- ACT moves toward OPEN and reaches it within 2 ms, but keeps FLOW within MINF to MAXF; how far it has come is a free
choice, and so is what Ferper leaves a valve of its own at after a neighbour's pulse. -/
def Zone.moved (z : Zone) (now f : Nat) : Zone :=
  if z.shutUntil.any (fun t => decide (now < t)) then { z with act := 0 }
  else if z.owned then (if z.shutUntil.isSome then { z with act := f % 256, shutUntil := none } else z)
  else
    let z := if z.shutUntil.isSome then { z with shutUntil := none, openAt := now } else z
    if z.flow < z.minF then { z with act := between (min 255 z.act) 255 f }
    else if z.maxF < z.flow then { z with act := between z.act 0 f }
    else if (z.act < z.openN ∧ z.flow = z.maxF) ∨ (z.openN < z.act ∧ z.flow = z.minF) then z
    else if z.openAt + 2000000 ≤ now then { z with act := z.openN }
    else { z with act := between z.act z.openN f }

/-- New readings of a zone. -/
def Zone.read (z : Zone) (r : Sensors) : Zone :=
  { z with tj := [r.tj0 % 256, r.tj1 % 256, r.tj2 % 256, r.tj3 % 256], tin := r.tin % 256, tout := r.tout % 256
           void := r.void, flow := r.flow % 2 ^ 15, dp := r.dp % 2 ^ 16 }

/-- A zone refreshed. -/
def State.refreshZone (s : State) (z : Nat) (r : Sensors) : State :=
  let (f, s) := s.draw
  s.modZone z (fun q => ((q.read r).timed s.zn.tjHi s.now).moved s.now f)

/-- SENSOR_REFRESH: the readings of zones 0 to 19. -/
def execSensorRefresh (readings : List Sensors) (s : State) : Host.Outcome State Fault Refusal :=
  let s := (List.range 20).foldl (fun (s : State) z =>
    match readings[z]? with
    | some r => s.refreshZone z r
    | none => s) s
  .next s.judgeZones

/-- ZONE_LIMIT_WRITE: one that R402 does not allow is ignored whole. -/
def execZoneLimitWrite (v : Nat) (s : State) : Host.Outcome State Fault Refusal :=
  let shut := bitsOf 15 8 v
  let hi := bitsOf 7 0 v
  if 125 < shut || shut ≤ hi then .next s
  else
    let s := { s with zn := { s.zn with tjShut := shut, tjHi := hi } }
    .next ((List.range 20).foldl (fun (s : State) z => s.modZone z (fun q => q.timed hi s.now)) s)

/-- ZONE_ALLOC_WRITE: one that leaves MINF above MAXF is ignored whole. -/
def execZoneAllocWrite (z : Nat) (v : Word) (s : State) : Host.Outcome State Fault Refusal :=
  let n := v.toNat
  let lo := bitsOf 15 0 n
  let hi := bitsOf 31 16 n
  if 20 ≤ z || hi < lo then .next s
  else .next (s.modZone z (fun q => { q with cmask := bitsOf 63 48 n, maxF := hi, minF := lo }.timed s.zn.tjHi s.now))

/-- OPEN written; ignored while Ferper owns the valve. -/
def State.openValve (s : State) (z v : Nat) : State :=
  if 20 ≤ z || (s.zone z).owned then s
  else s.modZone z (fun q => { q with openN := v % 256, openAt := s.now })

/-- VALVE_OPEN_WRITE. -/
def execValveOpenWrite (z v : Nat) (s : State) : Host.Outcome State Fault Refusal := .next (s.openValve z v)

/-- An entry is armed and its time has come. -/
def Sched.fires (q : Sched) (now : Nat) : Bool := q.actn.toNat.testBit 63 && decide (q.time.toNat ≤ now)

/-- Every entry whose time has come fires, in ascending order. -/
def State.fireValves (s : State) : State :=
  (List.range 16).foldl (fun (s : State) k =>
    let q := kgetD s.zn.scheds k {}
    if !q.fires s.now then s
    else
      let t := s.openValve (bitsOf 12 8 q.actn.toNat) (bitsOf 7 0 q.actn.toNat)
      { t with zn := { t.zn with scheds := kset t.zn.scheds k { q with actn := BitVec.ofNat 64 (bitsOf 62 0 q.actn.toNat) } } }) s

/-- VALVE_SCHED_FIRE. -/
def execValveSchedFire (s : State) : Host.Outcome State Fault Refusal := .next s.fireValves

/-- VALVE_SCHED_WRITE: of ACTN, one that names zone 20 to 31 is ignored whole.  An entry that fires in this cycle fires as it
stood, and the write of V is lost (00 R5). -/
def execValveSchedWrite (k : Nat) (actn : Bool) (v : Word) (s : State) : Host.Outcome State Fault Refusal :=
  if 16 ≤ k || (actn && decide (20 ≤ bitsOf 12 8 v.toNat)) then .next s
  else
    let fires := (kgetD s.zn.scheds k {}).fires s.now
    let s := if fires then s.fireValves else s
    let q := kgetD s.zn.scheds k {}
    let q := if actn then { q with actn := BitVec.ofNat 64 (fields [(63, if fires then 0 else bitsOf 63 63 v.toNat), (0, bitsOf 12 0 v.toNat)]) } else { q with time := v }
    .next { s with zn := { s.zn with scheds := kset s.zn.scheds k q } }

/-! ### Timers (20 R396, R397, R403) -/

/-- Ferper's coolant check at bring-up, from the zones' readings (R396). -/
def State.coolantOk (s : State) : Bool :=
  let flow := (List.range 20).foldl (fun n z => n + (s.zone z).flow) 0
  (List.range 20).all (fun z => decide (15 ≤ (s.zone z).tin) && decide ((s.zone z).tin ≤ 40)) && decide (800 ≤ flow) && decide (flow ≤ 1600)

/-- A zone becomes FLOWING. -/
def State.flowZone (s : State) (z : Nat) : State :=
  (s.modZone z (fun q => q.enter .flowing s.zn.tjHi s.now)).judgeZone z

/-- ZONE_PRIMED: the condition has held for 100 ms; the first compute zone ends bring-up step 3. -/
def execZonePrimed (z : Nat) (s : State) : Host.Outcome State Fault Refusal :=
  let q := s.zone z
  if 20 ≤ z || q.state != .priming || !q.wet || !heldFor q.goodSince 100000000 s.now || s.bt.bfail ||
      decide (s.bt.bstep < 3) || (s.bt.bstep == 3 && !s.coolantOk) then .next s
  else
    let s := s.flowZone z
    .next (if s.bt.bstep = 3 ∧ z < 18 then { s with bt := { s.bt with bstep := 4, bstepAt := s.now } } else s)

/-- ZONE_THROTTLE_END: the condition has held for 1 ms. -/
def execZoneThrottleEnd (z : Nat) (s : State) : Host.Outcome State Fault Refusal :=
  let q := s.zone z
  if q.state != .throttled || !q.good s.zn.tjHi || !heldFor q.goodSince 1000000 s.now then .next s
  else .next (s.flowZone z)

/-- Nothing is left to save on a zone's cores, and no matrix task runs; the modules of an edge zone have trained. -/
def State.evacuated (s : State) (z : Nat) : Bool :=
  if z < 18 then
    (zoneCores z).all (fun c => (s.core c).matrix.isNone && (s.core c).nextMatrix.isNone && (List.range 16).all (fun j => (s.slot (sidOf c j)).isNone))
  else (zoneModules z).all (fun m => (s.link m).state != .training)

/-- EVACUATION_SAVE_END: step 3 ends; of an edge zone, the retrains. -/
def execEvacuationSaveEnd (z : Nat) (s : State) : Host.Outcome State Fault Refusal :=
  let q := s.zone z
  if 20 ≤ z || q.state != .evacuating || decide (s.now < q.evacAt + 2000) || !s.evacuated z then .next s
  else .next (s.modZone z (fun q => { (q.enter .drained s.zn.tjHi s.now) with gateAt := if z < 18 then none else some s.now, pulses := 0 }))

/-- ZONE_GATE_END: the cores are gated, and their local memory is lost. -/
def execZoneGateEnd (z : Nat) (s : State) : Host.Outcome State Fault Refusal :=
  let q := s.zone z
  if 20 ≤ z || q.state != .drained || q.gateAt.isSome then .next s
  else
    let s := (zoneCores z).foldl (fun (s : State) c => s.modCore c (fun k => { k with loc := [], ueLoc := [], left := [], l1 := [] })) s
    .next (s.modZone z (fun q => { q with gateAt := some s.now, gated := true, pulses := 0 }))

/-- Zones that share an edge (01 R12). -/
def zoneNeighbours (z : Nat) : List Nat :=
  if z = 18 then [0, 3, 6, 9, 12, 15]
  else if z = 19 then [2, 5, 8, 11, 14, 17]
  else
    (if z % 3 = 0 then [18] else [z - 1]) ++ (if z % 3 = 2 then [19] else [z + 1]) ++
      (if z < 3 then [] else [z - 3]) ++ (if 15 ≤ z then [] else [z + 3])

/-- The next pulse of a DRAINED zone is due. -/
def Zone.pulseDue (q : Zone) (now : Nat) : Bool :=
  q.state == .drained && decide (q.pulses < 8) &&
    (match q.gateAt with | some t => decide (t + 10000000 + 200000000 * q.pulses ≤ now) | none => false)

/-- REPRIME_PULSE: the valve opens fully, and those of its neighbours close for 20 ms. -/
def execReprimePulse (z : Nat) (s : State) : Host.Outcome State Fault Refusal :=
  let now := s.now
  if 20 ≤ z || !(s.zone z).pulseDue now then .next s
  else
    let s := s.modZone z (fun q => { q with act := 255, shutUntil := none, pulses := q.pulses + 1, pulseAt := now, goodSince := if q.wet then some now else none })
    .next ((zoneNeighbours z).foldl (fun (s : State) n => s.modZone n (fun q => { q with act := 0, shutUntil := some (now + 20000000) })) s)

/-- A pulse has succeeded: flow for 100 ms within the 200 ms after it. -/
def Zone.primes (q : Zone) (now : Nat) : Bool :=
  q.state == .drained && decide (0 < q.pulses) && q.wet && heldFor q.goodSince 100000000 now && decide (now ≤ q.pulseAt + 200000000)

/-- REPRIME_RESULT: the zone primes again, or FAILED after the eighth pulse; an edge zone's failure fences the die. -/
def execReprimeResult (z : Nat) (s : State) : Host.Outcome State Fault Refusal :=
  let q := s.zone z
  let now := s.now
  if 20 ≤ z then .next s
  else if q.primes now then
    let cores := zoneCores z
    let gs := cores.map grottoOf
    let s := s.modZone z (fun q => { (q.enter .priming s.zn.tjHi now) with pulses := 0, gateAt := none, gated := false })
    let s := { s with hl := { s.hl with fenced := s.hl.fenced.filter (fun g => !gs.contains g) } }
    .next (s.reloadCores cores)
  else if q.state == .drained && q.pulses == 8 && decide (q.pulseAt + 200000000 ≤ now) then
    let s := (s.modZone z (fun q => q.enter .failed s.zn.tjHi now)).lived (34 + z) 1
    .next (if 18 ≤ z then s.fenceDie else s)
  else .next s

/-! ### THINT (20 R405) -/

/-- THINT: LOAD is counted from the slots as they stand, so it follows the class. -/
def thintBody : Body := fun _ c x s => (s, .ok (.set { x with thermal := c.imm.toNat, pc := x.nextPc c }))

/-- THINT. -/
def execThint (c : Chain) (s : State) : Host.Outcome State Fault Refusal := .next (s.issue opThint c thintBody)

end Sys2Proof.Machine
end

