-- ==== Sys2Proof/Machine/Dispatch.lean ====
section
/-!
DEFINITION. One arm per step of the part: the meaning it calls, or its rejection by name.
-/

namespace Sys2Proof.Machine

/-- The meaning of every instruction and step. -/
def exec (i : Instr) (s : State) : Host.Outcome State Fault Refusal :=
  match i with
  | .nop c => Sys2Proof.Machine.execNop c s
  | .mov c => Sys2Proof.Machine.execMov c s
  | .movi c => Sys2Proof.Machine.execMovi c s
  | .add c => Sys2Proof.Machine.execAdd c s
  | .addi c => Sys2Proof.Machine.execAddi c s
  | .sub c => Sys2Proof.Machine.execSub c s
  | .mul c => Sys2Proof.Machine.execMul c s
  | .mulh c => Sys2Proof.Machine.execMulh c s
  | .mulhn c => Sys2Proof.Machine.execMulhn c s
  | .div c => Sys2Proof.Machine.execDiv c s
  | .divn c => Sys2Proof.Machine.execDivn c s
  | .rem c => Sys2Proof.Machine.execRem c s
  | .remn c => Sys2Proof.Machine.execRemn c s
  | .and c => Sys2Proof.Machine.execAnd c s
  | .or c => Sys2Proof.Machine.execOr c s
  | .xor c => Sys2Proof.Machine.execXor c s
  | .andn c => Sys2Proof.Machine.execAndn c s
  | .shl c => Sys2Proof.Machine.execShl c s
  | .shr c => Sys2Proof.Machine.execShr c s
  | .sar c => Sys2Proof.Machine.execSar c s
  | .rol c => Sys2Proof.Machine.execRol c s
  | .clz c => Sys2Proof.Machine.execClz c s
  | .ctz c => Sys2Proof.Machine.execCtz c s
  | .popc c => Sys2Proof.Machine.execPopc c s
  | .min c => Sys2Proof.Machine.execMin c s
  | .max c => Sys2Proof.Machine.execMax c s
  | .minn c => Sys2Proof.Machine.execMinn c s
  | .maxn c => Sys2Proof.Machine.execMaxn c s
  | .seq c => Sys2Proof.Machine.execSeq c s
  | .sne c => Sys2Proof.Machine.execSne c s
  | .slt c => Sys2Proof.Machine.execSlt c s
  | .sltn c => Sys2Proof.Machine.execSltn c s
  | .sel c => Sys2Proof.Machine.execSel c s
  | .ext c => Sys2Proof.Machine.execExt c s
  | .bswap c => Sys2Proof.Machine.execBswap c s
  | .br c => Sys2Proof.Machine.execBr c s
  | .jmp c => Sys2Proof.Machine.execJmp c s
  | .call c => Sys2Proof.Machine.execCall c s
  | .ret c => Sys2Proof.Machine.execRet c s
  | .jmpi c => Sys2Proof.Machine.execJmpi c s
  | .ld c => Sys2Proof.Machine.execLd c s
  | .st c => Sys2Proof.Machine.execSt c s
  | .ldl c => Sys2Proof.Machine.execLdl c s
  | .stl c => Sys2Proof.Machine.execStl c s
  | .amo c => Sys2Proof.Machine.execAmo c s
  | .cas c => Sys2Proof.Machine.execCas c s
  | .fence c => Sys2Proof.Machine.execFence c s
  | .getk c => Sys2Proof.Machine.execGetk c s
  | .putk c => Sys2Proof.Machine.execPutk c s
  | .trap c => Sys2Proof.Machine.execTrap c s
  | .eret c => Sys2Proof.Machine.execEret c s
  | .yield c => Sys2Proof.Machine.execYield c s
  | .waitt c => Sys2Proof.Machine.execWaitt c s
  | .brk c => Sys2Proof.Machine.execBrk c s
  | .clmul c => Sys2Proof.Machine.execClmul c s
  | .clmulh c => Sys2Proof.Machine.execClmulh c s
  | .vmov c => Sys2Proof.Machine.execVmov c s
  | .vbcast c => Sys2Proof.Machine.execVbcast c s
  | .vins c => Sys2Proof.Machine.execVins c s
  | .vextr c => Sys2Proof.Machine.execVextr c s
  | .vadd c => Sys2Proof.Machine.execVadd c s
  | .vsub c => Sys2Proof.Machine.execVsub c s
  | .vmul c => Sys2Proof.Machine.execVmul c s
  | .vfma c => Sys2Proof.Machine.execVfma c s
  | .vfms c => Sys2Proof.Machine.execVfms c s
  | .vfnma c => Sys2Proof.Machine.execVfnma c s
  | .vmin c => Sys2Proof.Machine.execVmin c s
  | .vmax c => Sys2Proof.Machine.execVmax c s
  | .vabs c => Sys2Proof.Machine.execVabs c s
  | .vneg c => Sys2Proof.Machine.execVneg c s
  | .vabsd c => Sys2Proof.Machine.execVabsd c s
  | .vavg c => Sys2Proof.Machine.execVavg c s
  | .vand c => Sys2Proof.Machine.execVand c s
  | .vor c => Sys2Proof.Machine.execVor c s
  | .vxor c => Sys2Proof.Machine.execVxor c s
  | .vandn c => Sys2Proof.Machine.execVandn c s
  | .vshl c => Sys2Proof.Machine.execVshl c s
  | .vshr c => Sys2Proof.Machine.execVshr c s
  | .vsar c => Sys2Proof.Machine.execVsar c s
  | .vcmp c => Sys2Proof.Machine.execVcmp c s
  | .vsel c => Sys2Proof.Machine.execVsel c s
  | .vaddw c => Sys2Proof.Machine.execVaddw c s
  | .vmulw c => Sys2Proof.Machine.execVmulw c s
  | .vdot c => Sys2Proof.Machine.execVdot c s
  | .vdots c => Sys2Proof.Machine.execVdots c s
  | .vld c => Sys2Proof.Machine.execVld c s
  | .vst c => Sys2Proof.Machine.execVst c s
  | .vldl c => Sys2Proof.Machine.execVldl c s
  | .vstl c => Sys2Proof.Machine.execVstl c s
  | .vgath c => Sys2Proof.Machine.execVgath c s
  | .vscat c => Sys2Proof.Machine.execVscat c s
  | .vlds c => Sys2Proof.Machine.execVlds c s
  | .vsts c => Sys2Proof.Machine.execVsts c s
  | .vcvt c => Sys2Proof.Machine.execVcvt c s
  | .vquant c => Sys2Proof.Machine.execVquant c s
  | .vdeq c => Sys2Proof.Machine.execVdeq c s
  | .vscale c => Sys2Proof.Machine.execVscale c s
  | .vperm c => Sys2Proof.Machine.execVperm c s
  | .vshuf c => Sys2Proof.Machine.execVshuf c s
  | .vzip c => Sys2Proof.Machine.execVzip c s
  | .vunzip c => Sys2Proof.Machine.execVunzip c s
  | .vrotl c => Sys2Proof.Machine.execVrotl c s
  | .vred c => Sys2Proof.Machine.execVred c s
  | .vscan c => Sys2Proof.Machine.execVscan c s
  | .vclmul c => Sys2Proof.Machine.execVclmul c s
  | .vclmulh c => Sys2Proof.Machine.execVclmulh c s
  | .vpopc c => Sys2Proof.Machine.execVpopc c s
  | .vclz c => Sys2Proof.Machine.execVclz c s
  | .vrcp c => Sys2Proof.Machine.execVrcp c s
  | .vrsq c => Sys2Proof.Machine.execVrsq c s
  | .vsqrt c => Sys2Proof.Machine.execVsqrt c s
  | .vdiv c => Sys2Proof.Machine.execVdiv c s
  | .vexp2 c => Sys2Proof.Machine.execVexp2 c s
  | .vlog2 c => Sys2Proof.Machine.execVlog2 c s
  | .vsin c => Sys2Proof.Machine.execVsin c s
  | .vcos c => Sys2Proof.Machine.execVcos c s
  | .vtanh c => Sys2Proof.Machine.execVtanh c s
  | .vsigm c => Sys2Proof.Machine.execVsigm c s
  | .vopen c => Sys2Proof.Machine.execVopen c s
  | .stv c => Sys2Proof.Machine.execStv c s
  | .vseal c => Sys2Proof.Machine.execVseal c s
  | .vacc c => Sys2Proof.Machine.execVacc c s
  | .ldv c => Sys2Proof.Machine.execLdv c s
  | .ldvl c => Sys2Proof.Machine.execLdvl c s
  | .vprobe c => Sys2Proof.Machine.execVprobe c s
  | .vref c => Sys2Proof.Machine.execVref c s
  | .vrel c => Sys2Proof.Machine.execVrel c s
  | .vname c => Sys2Proof.Machine.execVname c s
  | .task c => Sys2Proof.Machine.execTask c s
  | .next c => Sys2Proof.Machine.execNext c s
  | .exit c => Sys2Proof.Machine.execExit c s
  | .pushe c => Sys2Proof.Machine.execPushe c s
  | .pope c => Sys2Proof.Machine.execPope c s
  | .send c => Sys2Proof.Machine.execSend c s
  | .sendLb c => Sys2Proof.Machine.execSendLb c s
  | .recvH c => Sys2Proof.Machine.execRecvH c s
  | .recvW c => Sys2Proof.Machine.execRecvW c s
  | .recvSp c => Sys2Proof.Machine.execRecvSp c s
  | .recvSt c => Sys2Proof.Machine.execRecvSt c s
  | .rld c => Sys2Proof.Machine.execRld c s
  | .rst c => Sys2Proof.Machine.execRst c s
  | .ramo c => Sys2Proof.Machine.execRamo c s
  | .mcst c => Sys2Proof.Machine.execMcst c s
  | .pass c => Sys2Proof.Machine.execPass c s
  | .bari c => Sys2Proof.Machine.execBari c s
  | .bariClr c => Sys2Proof.Machine.execBariClr c s
  | .bara c => Sys2Proof.Machine.execBara c s
  | .barw c => Sys2Proof.Machine.execBarw c s
  | .barq c => Sys2Proof.Machine.execBarq c s
  | .barx c => Sys2Proof.Machine.execBarx c s
  | .gett c => Sys2Proof.Machine.execGett c s
  | .tlbi c => Sys2Proof.Machine.execTlbi c s
  | .saves c => Sys2Proof.Machine.execSaves c s
  | .rests c => Sys2Proof.Machine.execRests c s
  | .pair c => Sys2Proof.Machine.execPair c s
  | .thint c => Sys2Proof.Machine.execThint c s
  | .stallEnd sid => Sys2Proof.Machine.execStallEnd sid s
  | .resultWrite sid => Sys2Proof.Machine.execResultWrite sid s
  | .deposit rid response => Sys2Proof.Machine.execDeposit rid response s
  | .yieldTimeout sid => Sys2Proof.Machine.execYieldTimeout sid s
  | .waittComplete sid => Sys2Proof.Machine.execWaittComplete sid s
  | .lateFault sid => Sys2Proof.Machine.execLateFault sid s
  | .sfuStart core => Sys2Proof.Machine.execSfuStart core s
  | .sfuResult core => Sys2Proof.Machine.execSfuResult core s
  | .walkEnd wid => Sys2Proof.Machine.execWalkEnd wid s
  | .fqPop => Sys2Proof.Machine.execFqPop s
  | .fqReplay => Sys2Proof.Machine.execFqReplay s
  | .homeAccess rid => Sys2Proof.Machine.execHomeAccess rid s
  | .sliceSplitWrite v => Sys2Proof.Machine.execSliceSplitWrite v s
  | .sliceSplitDone => Sys2Proof.Machine.execSliceSplitDone s
  | .lmapWrite core v => Sys2Proof.Machine.execLmapWrite core v s
  | .xtopWrite core v => Sys2Proof.Machine.execXtopWrite core v s
  | .versionOpenAtHome rid => Sys2Proof.Machine.execVersionOpenAtHome rid s
  | .versionStoreAtHome rid => Sys2Proof.Machine.execVersionStoreAtHome rid s
  | .versionSealAtHome rid => Sys2Proof.Machine.execVersionSealAtHome rid s
  | .versionContribution rid => Sys2Proof.Machine.execVersionContribution rid s
  | .versionLoadAtHome rid => Sys2Proof.Machine.execVersionLoadAtHome rid s
  | .versionProbeAtHome rid => Sys2Proof.Machine.execVersionProbeAtHome rid s
  | .versionCountChange rid => Sys2Proof.Machine.execVersionCountChange rid s
  | .versionReclaimEnd ctx h => Sys2Proof.Machine.execVersionReclaimEnd ctx h s
  | .nameAllocation rid => Sys2Proof.Machine.execNameAllocation rid s
  | .versionPoison ctx h offset => Sys2Proof.Machine.execVersionPoison ctx h offset s
  | .taskReleaseTime entry => Sys2Proof.Machine.execTaskReleaseTime entry s
  | .taskDispatch entry => Sys2Proof.Machine.execTaskDispatch entry s
  | .groupTaskDispatch entry => Sys2Proof.Machine.execGroupTaskDispatch entry s
  | .hostPost offset data => Sys2Proof.Machine.execHostPost offset data s
  | .packetLeave sid => Sys2Proof.Machine.execPacketLeave sid s
  | .sendTruncTimeout sid => Sys2Proof.Machine.execSendTruncTimeout sid s
  | .packetAccept p => Sys2Proof.Machine.execPacketAccept p s
  | .matrixDispatch entry core => Sys2Proof.Machine.execMatrixDispatch entry core s
  | .tileFetch core => Sys2Proof.Machine.execTileFetch core s
  | .matrixFoldEnd core => Sys2Proof.Machine.execMatrixFoldEnd core s
  | .matrixSeal core => Sys2Proof.Machine.execMatrixSeal core s
  | .matrixStop core => Sys2Proof.Machine.execMatrixStop core s
  | .channelPush rid => Sys2Proof.Machine.execChannelPush rid s
  | .copyStart ch => Sys2Proof.Machine.execCopyStart ch s
  | .copyComplete ch => Sys2Proof.Machine.execCopyComplete ch s
  | .copyFail ch => Sys2Proof.Machine.execCopyFail ch s
  | .copyTaskDispatch entry => Sys2Proof.Machine.execCopyTaskDispatch entry s
  | .bteChannelEnable ch => Sys2Proof.Machine.execBteChannelEnable ch s
  | .bteChannelDisable ch => Sys2Proof.Machine.execBteChannelDisable ch s
  | .flush ch => Sys2Proof.Machine.execFlush ch s
  | .resume ch => Sys2Proof.Machine.execResume ch s
  | .elogPop => Sys2Proof.Machine.execElogPop s
  | .fifoConfigWrite f v => Sys2Proof.Machine.execFifoConfigWrite f v s
  | .fifoPush rid => Sys2Proof.Machine.execFifoPush rid s
  | .fifoPop rid => Sys2Proof.Machine.execFifoPop rid s
  | .kernelLoad cmd => Sys2Proof.Machine.execKernelLoad cmd s
  | .kernelUnload cmd => Sys2Proof.Machine.execKernelUnload cmd s
  | .kernelOverlay cmd => Sys2Proof.Machine.execKernelOverlay cmd s
  | .badcmd cmd => Sys2Proof.Machine.execBadcmd cmd s
  | .kernelLoadEnd => Sys2Proof.Machine.execKernelLoadEnd s
  | .kernelOverlayEnd => Sys2Proof.Machine.execKernelOverlayEnd s
  | .passageReserve rid => Sys2Proof.Machine.execPassageReserve rid s
  | .passageGrant rid => Sys2Proof.Machine.execPassageGrant rid s
  | .passageImageWritten rid => Sys2Proof.Machine.execPassageImageWritten rid s
  | .arrivalStart core => Sys2Proof.Machine.execArrivalStart core s
  | .startNotice rid => Sys2Proof.Machine.execStartNotice rid s
  | .groupPlace deal => Sys2Proof.Machine.execGroupPlace deal s
  | .launchPost v ctx => Sys2Proof.Machine.execLaunchPost v ctx s
  | .launchCountRead l => Sys2Proof.Machine.execLaunchCountRead l s
  | .launchDealRound l => Sys2Proof.Machine.execLaunchDealRound l s
  | .launchDeal p => Sys2Proof.Machine.execLaunchDeal p s
  | .roomReport p => Sys2Proof.Machine.execRoomReport p s
  | .exitReport p => Sys2Proof.Machine.execExitReport p s
  | .mirrorUpdate p => Sys2Proof.Machine.execMirrorUpdate p s
  | .leaderQuery p => Sys2Proof.Machine.execLeaderQuery p s
  | .taskDecrement handle => Sys2Proof.Machine.execTaskDecrement handle s
  | .barrierArm q => Sys2Proof.Machine.execBarrierArm q s
  | .barrierClear q => Sys2Proof.Machine.execBarrierClear q s
  | .barrierArrival q => Sys2Proof.Machine.execBarrierArrival q s
  | .barrierWait q => Sys2Proof.Machine.execBarrierWait q s
  | .barrierQuery q => Sys2Proof.Machine.execBarrierQuery q s
  | .barrierReleasePacket p => Sys2Proof.Machine.execBarrierReleasePacket p s
  | .stealSend ctx pulled => Sys2Proof.Machine.execStealSend ctx pulled s
  | .steal p => Sys2Proof.Machine.execSteal p s
  | .grant p => Sys2Proof.Machine.execGrant p s
  | .ctxBuild ctx pa => Sys2Proof.Machine.execCtxBuild ctx pa s
  | .ctxAdmit ctx => Sys2Proof.Machine.execCtxAdmit ctx s
  | .ctxRun ctx => Sys2Proof.Machine.execCtxRun ctx s
  | .ctxDrain ctx => Sys2Proof.Machine.execCtxDrain ctx s
  | .ctxRestore ctx => Sys2Proof.Machine.execCtxRestore ctx s
  | .ctxRetire ctx => Sys2Proof.Machine.execCtxRetire ctx s
  | .contextReclaimEnd ctx => Sys2Proof.Machine.execContextReclaimEnd ctx s
  | .slotSave sid => Sys2Proof.Machine.execSlotSave sid s
  | .savedSlotPlace ctx => Sys2Proof.Machine.execSavedSlotPlace ctx s
  | .replyToImage rid response => Sys2Proof.Machine.execReplyToImage rid response s
  | .qosPeriodStart => Sys2Proof.Machine.execQosPeriodStart s
  | .hostRead bar offset size => Sys2Proof.Machine.execHostRead bar offset size s
  | .hostWrite bar offset data => Sys2Proof.Machine.execHostWrite bar offset data s
  | .hostLocalWrite offset data => Sys2Proof.Machine.execHostLocalWrite offset data s
  | .linkEnable m v => Sys2Proof.Machine.execLinkEnable m v s
  | .retrain m => Sys2Proof.Machine.execRetrain m s
  | .linkFence m => Sys2Proof.Machine.execLinkFence m s
  | .linkTrainingEnd m r => Sys2Proof.Machine.execLinkTrainingEnd m r s
  | .laneRepair m => Sys2Proof.Machine.execLaneRepair m s
  | .linkReplay m ack => Sys2Proof.Machine.execLinkReplay m ack s
  | .linkIdleTimeout m => Sys2Proof.Machine.execLinkIdleTimeout m s
  | .linkWake m => Sys2Proof.Machine.execLinkWake m s
  | .linkWakeEnd m ok => Sys2Proof.Machine.execLinkWakeEnd m ok s
  | .read p => Sys2Proof.Machine.execRead p s
  | .write p => Sys2Proof.Machine.execWrite p s
  | .atomic p => Sys2Proof.Machine.execAtomic p s
  | .vnotice p => Sys2Proof.Machine.execVnotice p s
  | .vfetch p => Sys2Proof.Machine.execVfetch p s
  | .vnoticeResend => Sys2Proof.Machine.execVnoticeResend s
  | .time p => Sys2Proof.Machine.execTime p s
  | .timeTick => Sys2Proof.Machine.execTimeTick s
  | .discover m r => Sys2Proof.Machine.execDiscover m r s
  | .discoveryEnd => Sys2Proof.Machine.execDiscoveryEnd s
  | .chain p => Sys2Proof.Machine.execChain p s
  | .nack p => Sys2Proof.Machine.execNack p s
  | .retryResend rid => Sys2Proof.Machine.execRetryResend rid s
  | .unknownPacket m p => Sys2Proof.Machine.execUnknownPacket m p s
  | .agentDownTimeout agent => Sys2Proof.Machine.execAgentDownTimeout agent s
  | .sensorRefresh readings => Sys2Proof.Machine.execSensorRefresh readings s
  | .zonePrimed z => Sys2Proof.Machine.execZonePrimed z s
  | .zoneThrottleEnd z => Sys2Proof.Machine.execZoneThrottleEnd z s
  | .evacuationSaveEnd z => Sys2Proof.Machine.execEvacuationSaveEnd z s
  | .zoneGateEnd z => Sys2Proof.Machine.execZoneGateEnd z s
  | .reprimePulse z => Sys2Proof.Machine.execReprimePulse z s
  | .reprimeResult z => Sys2Proof.Machine.execReprimeResult z s
  | .valveOpenWrite z v => Sys2Proof.Machine.execValveOpenWrite z v s
  | .valveSchedWrite k actn v => Sys2Proof.Machine.execValveSchedWrite k actn v s
  | .valveSchedFire => Sys2Proof.Machine.execValveSchedFire s
  | .zoneAllocWrite z v => Sys2Proof.Machine.execZoneAllocWrite z v s
  | .zoneLimitWrite v => Sys2Proof.Machine.execZoneLimitWrite v s
  | .pairCheckpoint pair => Sys2Proof.Machine.execPairCheckpoint pair s
  | .pairCompareEnd pair => Sys2Proof.Machine.execPairCompareEnd pair s
  | .regionFence grotto => Sys2Proof.Machine.execRegionFence grotto s
  | .regionDrained grotto => Sys2Proof.Machine.execRegionDrained grotto s
  | .regionResetEnd grotto => Sys2Proof.Machine.execRegionResetEnd grotto s
  | .regionDefWrite r v => Sys2Proof.Machine.execRegionDefWrite r v s
  | .correctedError slice set way => Sys2Proof.Machine.execCorrectedError slice set way s
  | .scrub pa corrected stored => Sys2Proof.Machine.execScrub pa corrected stored s
  | .monClear m => Sys2Proof.Machine.execMonClear m s
  | .monElogPop => Sys2Proof.Machine.execMonElogPop s
  | .lifetimeUpdate => Sys2Proof.Machine.execLifetimeUpdate s
  | .dieReset part copyA copyB => Sys2Proof.Machine.execDieReset part copyA copyB s
  | .bringupTimeout => Sys2Proof.Machine.execBringupTimeout s
  | .hbm4TrainingEnd stackList => Sys2Proof.Machine.execHbm4TrainingEnd stackList s
  | .arbRaise v => Sys2Proof.Machine.execArbRaise v s
  | .attestationStart v => Sys2Proof.Machine.execAttestationStart v s
  | .attestationDone => Sys2Proof.Machine.execAttestationDone s
  | .registerWrite offset size v => Sys2Proof.Machine.execRegisterWrite offset size v s
  | .illegalEncoding w pos => Sys2Proof.Machine.execIllegalEncoding w pos s
  | .vfetchResponse p => Sys2Proof.Machine.execVfetchResponse p s
  | .acknowledgement rid answer => Sys2Proof.Machine.execAcknowledgement rid answer s
  | .flitReceive m f => Sys2Proof.Machine.execFlitReceive m f s
  | .launchReleaseTime l => Sys2Proof.Machine.execLaunchReleaseTime l s
  | .uncorrectableError w => Sys2Proof.Machine.execUncorrectableError w s
  | .monitorSample m v => Sys2Proof.Machine.execMonitorSample m v s

end Sys2Proof.Machine
end

