-- ==== Sys2Proof/Machine/Fetch.lean ====
section
/-!
DEFINITION. Fetching an instruction: where a slot may fetch from, and the words of the chain at its pc (03 R50 to R54,
R73; 14 R287, R289; 15 R293).
-/

namespace Sys2Proof.Machine

/-- What the fetch of a slot's next instruction finds. -/
inductive Fetched where
  | run (i : Instr)
  /-- ILLEGAL at a word of a position (03 R73 items 2 and 3). -/
  | illegal (w pos : Nat)
  /-- A fault of the fetch (03 R73 item 1). -/
  | fault (c : Cause) (tval : Word)
  deriving DecidableEq, Repr

/-- The kernel whose range a slot fetches from: its own, or HKID's in a handler (15 R293, 18 R356). -/
def State.fetchKernel (s : State) (x : Slot) : Option Kernel :=
  if x.handler then s.loadedFor (s.ctx x.ctx).hkid x.ctx else s.kernel x.kid

/-- A byte of a kernel's range holds code: resident code, or what an overlay has brought in (12 R239 item 4; 14 R287). -/
def Kernel.holdsCode (k : Kernel) (a : Nat) : Bool :=
  (decide (k.kbase ≤ a) && decide (a < k.kbase + k.resLen)) || k.overlaid.any (fun b => decide (b.1 ≤ a) && decide (a < b.2))

/-- A word at a local offset may be fetched: below XTOP, code of the kernel as the slot's own core holds it, and not being
written by an overlay (14 R287, R289). -/
def State.fetchable (s : State) (core : Nat) (x : Slot) (a : Nat) : Bool :=
  match s.fetchKernel x with
  | none => false
  | some k =>
    k.holdsCore core && decide (a + 2 ≤ (s.core core).xbound) && k.holdsCode a && k.holdsCode (a + 1) &&
      !k.busy.any (fun b => decide (b.1 < a + 2) && decide (a < b.2))

/-- A word of an instruction at `pc` lies in the segment that it may be fetched from (15 R293; 03 R54 item 2). -/
def State.inSegment (s : State) (core : Nat) (x : Slot) (pc a : Nat) : Bool :=
  if x.pass && !x.handler then
    match s.kernel x.kid with
    | some k => k.holdsOn core pc && k.segmentAt pc == k.segmentAt a
    | none => false
  else true

/-- Local offset of word `i` of the instruction at a slot's pc. -/
def Slot.wordAt (x : Slot) (i : Nat) : Nat := (x.pc.toNat + 2 * i) % 2 ^ 64

/-- Word `i` of the instruction at a slot's pc, or the fault of its fetch; a word that is no code of the kernel traps OVERLAY
though it also lies outside a passage kernel's segment (log 66). -/
def State.fetchWord (s : State) (core : Nat) (x : Slot) (i : Nat) : Except (Cause × Word) Nat :=
  let a := x.wordAt i
  if !s.fetchable core x a then .error (.overlay, BitVec.ofNat 64 a)
  else if !s.inSegment core x x.pc.toNat a then .error (.passageMap, BitVec.ofNat 64 a)
  else .ok ((s.core core).loc.readN a 2)

/-- The chain at a slot's pc read word by word, from the prefixes `q` on, of at most `n` more words. -/
def State.fetchFrom (s : State) (core : Nat) (x : Slot) (q : Prefixes) : Nat → Fetched
  | 0 => .illegal 0 q.pos
  | n + 1 =>
    match s.fetchWord core x q.pos with
    | .error (c, v) => .fault c v
    | .ok w =>
      match readWord q w with
      | .more q' => s.fetchFrom core x q' n
      | .bad w pos => .illegal w pos
      | .done q' base =>
        match instrOf q' base with
        | some i => .run i
        | none => .illegal base q'.pos

/-- The instruction at a slot's pc: a chain has at most five words, of which a fifth prefix is ILLEGAL. -/
def State.fetch (s : State) (core : Nat) (x : Slot) : Fetched := s.fetchFrom core x {} 5

end Sys2Proof.Machine
end

