-- ==== Sys2Proof/Machine/Schedule.lean ====
section
/-!
DEFINITION. What happens next on the die: whose turn it is to issue, which events are due, and the end of a cycle
(04 R79, R82, R83; 16 R309; log 1).
-/

namespace Sys2Proof.Machine

/-! ### Issue (04 R79, R82) -/

/-- A core's zone is throttled in this cycle: it issues in every fourth rotation only (04 R82, 20 R397, R403). -/
def State.throttled (s : State) (core : Nat) : Bool :=
  let z := s.zone (zoneOf core)
  (z.state == .throttled || s.evacSaves (zoneOf core)) && s.t.cycle / 16 % 4 != 0

/-- What the slot's state says: it may issue in its issue cycle, go on with a held instruction, or take a late fault. -/
def State.statusLets (s : State) (x : Slot) : Bool :=
  match x.status with
  | .ready => true
  | .stalled .again => true
  | .stalled .fence => true
  | .stalled .sfu => !x.results.any Pending.sfu
  | .stalled (.time t _) => decide (t ≤ s.now)
  | .parked _ => x.late.isSome
  | _ => false

/-- A slot may issue in its issue cycle. -/
def State.mayIssue (s : State) (sid : Nat) (x : Slot) : Bool :=
  s.statusLets x && !s.throttled (sid / 16) && x.waitFor.all s.isDone && !(s.saveWanted sid x && s.savable sid x) &&
    !s.groupSaved x && !(x.pairMode && (s.core (sid / 16 / 2 * 2)).pair.comparing)

/-- The slot that issues next in this cycle: the issue position is cycle mod 16, and cores follow in ascending order.
What fills or becomes READY by an event of this cycle does so after its issues (04 R89, R92). -/
def State.nextIssue (s : State) : Option (Nat × Slot) :=
  if s.o.mscan ≠ 0 then none
  else s.slots.find? (fun (p : Nat × Slot) => decide (p.1 % 16 = s.t.cycle % 16) && decide (s.o.scan ≤ p.1 / 16) && s.mayIssue p.1 p.2)

/-- A slot's turn has come: the slot is the current one, and the scan goes on behind its core. -/
def State.turn (s : State) (sid : Nat) : State := { s with o := { s.o with cur := sid, scan := sid / 16 + 1 } }

/-- An instruction of a slot on a pair, with its checkpoint (21 R407). -/
def State.paired (s : State) (sid : Nat) (i : Instr) (r : Host.Outcome State Fault Refusal) : Host.Outcome State Fault Refusal :=
  match r with
  | .next t => .next (s.pairIssue t sid i)
  | r => r

/-- The instruction at a slot's pc is fetched and takes effect. -/
def State.runSlot (s : State) (sid : Nat) (x : Slot) : Host.Outcome State Fault Refusal :=
  match s.fetch (sid / 16) x with
  | .run i => if x.pairMode then s.paired sid i (exec i s) else exec i s
  | .illegal w pos => execIllegalEncoding w pos s
  | .fault c v => .next (s.takeTrap sid x c v false)

/-- What a slot does in its issue cycle: a late fault at its boundary, the end of a WAITT, or an instruction. -/
def State.issueSlot (s : State) (sid : Nat) (x : Slot) : Host.Outcome State Fault Refusal :=
  let s := s.turn sid
  match x.status with
  | .stalled (.time _ _) => execWaittComplete sid s
  | .stalled .fence => s.runSlot sid x
  | _ => if x.late.isSome then execLateFault sid s else s.runSlot sid x

/-! ### Events that are due -/

/-- Keys of the entries of a map that satisfy a test. -/
def keysWhere {α : Type} (m : KMap α) (f : Nat → α → Bool) : List Nat :=
  (m.filter (fun (p : Nat × α) => f p.1 p.2)).map (fun p => p.1)

/-- Numbers below `n` that satisfy a test. -/
def below (n : Nat) (f : Nat → Bool) : List Nat := (List.range n).filter f

/-- A message at its home: the step that its kind starts. -/
def State.arriveMsg (s : State) (rid : Nat) (m : Msg) : Host.Outcome State Fault Refusal :=
  match m.op with
  | .vname .. => execNameAllocation rid s
  | .vopen .. => execVersionOpenAtHome rid s
  | .vstore .. => execVersionStoreAtHome rid s
  | .vseal .. => execVersionSealAtHome rid s
  | .vacc .. => execVersionContribution rid s
  | .vload .. => execVersionLoadAtHome rid s
  | .vwait .. => execVersionLoadAtHome rid s
  | .vprobe _ => execVersionProbeAtHome rid s
  | .vref .. => execVersionCountChange rid s
  | .vrel .. => execVersionCountChange rid s
  | .vconsume _ => execVersionCountChange rid s
  | .push pa _ =>
    if s.local' pa && decide (apFifo ≤ pa % 2 ^ 42) then execFifoPush rid s
    else if s.local' pa && decide (apBte ≤ pa % 2 ^ 42) then execChannelPush rid s
    else execHomeAccess rid s
  | .pop pa _ _ => if s.local' pa && decide (apFifo ≤ pa % 2 ^ 42) then execFifoPop rid s else execHomeAccess rid s
  | .packet .. => execPacketAccept (.inNetwork rid) s
  | .reserve .. => execPassageReserve rid s
  | .startNotice .. => execStartNotice rid s
  | .barrier 0 .. => execBarrierArm (.own rid) s
  | .barrier 1 .. => execBarrierClear (.own rid) s
  | .barrier 3 .. => execBarrierWait (.own rid) s
  | .barrier 4 .. => execBarrierQuery (.own rid) s
  | .barrier .. => execBarrierArrival (.own rid) s
  | _ => execHomeAccess rid s

/-- Messages that wait at this die for something else than their turn. -/
def MsgOp.idle (op : MsgOp) : Bool :=
  match op with
  | .next _ => true
  | .steal _ => true
  | .notice .. => true
  | .proxy .. => true
  | _ => false

/-- A packet of a slot that still waits to leave its core. -/
def State.leaving (s : State) (x : Slot) : Bool :=
  match x.status with
  | .stalled (.answer r _ _) =>
    match kget s.msgs r with
    | some m => (match m.op with | .packet .. => m.stalls | _ => false)
    | none => false
  | _ => false

/-- A message that has been answered for a slot. -/
def answered (m : Msg) : Bool := m.answer.isSome && m.sid.isSome

/-- An answer reaches its slot. -/
def State.giveAnswer (s : State) (rid : Nat) : Host.Outcome State Fault Refusal :=
  match (kget s.msgs rid).map Msg.op with
  | some (.reserve ..) => execPassageGrant rid s
  | _ => execAcknowledgement rid 0 s

/-- Pool entries of a kind that the dispatcher may start. -/
def State.dispatches (s : State) (kind : Nat) : List Nat :=
  keysWhere s.pl.pool (fun i e => e.state == .ready && recKind e.record == kind && (s.mayDispatch i).isSome)

/-- A matrix task goes to the lowest engine that has room. -/
def State.dispatchMatrix (s : State) (i : Nat) : Host.Outcome State Fault Refusal :=
  match s.mayDispatch i with
  | some e => execMatrixDispatch i ((s.engines e.ctx (recTherm e.record)).headD 0) s
  | none => .next s

/-- The step that an engine's task is at (13 R267). -/
def State.matrixStep (s : State) (c : Nat) : Host.Outcome State Fault Refusal :=
  match (s.core c).matrix with
  | none => .next s
  | some m =>
    match m.state with
    | .stopped => execMatrixStop c s
    | .sealing => execMatrixSeal c s
    | .run => if m.fetched = mxK m.record / 64 then execMatrixFoldEnd c s else execTileFetch c s
    | _ => execTileFetch c s

/-- The step that a channel's copy is at (13 R272). -/
def State.copyStep (s : State) (n : Nat) : Host.Outcome State Fault Refusal :=
  let c := s.channel n
  if c.cur.isSome && c.fail != 0 then execCopyFail n s
  else if c.cur.isSome && c.tmpl.isSome then execCopyComplete n s
  else execCopyStart n s

/-- A read of the host whose bytes have come is answered (19 R371). -/
def State.answerHost (s : State) (i : Nat) : Host.Outcome State Fault Refusal :=
  match s.lk.hostReads[i]? with
  | some (bar, off, size, _) => execHostRead bar off size s
  | none => .next s

/-- Pairs with a slot to be saved, which wants a checkpoint first (21 R407 item 4). -/
def State.pairsToCheck (s : State) : List Nat :=
  below 72 (fun p =>
    let k := (s.core (2 * p)).pair
    !k.comparing && !s.pairClean (2 * p) && s.slots.any (fun (q : Nat × Slot) => q.1 / 32 == p && q.2.pairMode && s.saveWanted q.1 q.2))

/-! ### What has arrived at the die -/

/-- When in its cycle a step of the agenda has its turn: at once, or with the events of its kind (log 1). -/
inductive Phase where
  /-- A step that another has started, or one that no order in the cycle concerns. -/
  | now
  /-- An access of the host: port 38 (09 R179). -/
  | host
  /-- A packet of another agent: port 39; notices of versions come first (19 R384 item 5), reads of engine FIFOs last (13 R280). -/
  | notice | packet | pop
  /-- A barrier request of another die: after what breaks barriers (17 R333). -/
  | barrier
  /-- A STEAL: after the dispatches of its cycle (17 R345). -/
  | steal
  /-- What sensors, links and memory report: after the writes of registers (00 R5). -/
  | hardware
  /-- An error in control state, which fences: before any request (17 R333; 21 R412). -/
  | fault
  /-- A command on kernels, or FLUSH: after the posts, dispatches and completions of its cycle (13 R272, 14 R290). -/
  | command
  deriving DecidableEq, Repr

/-- The turn of a step of the agenda. -/
def phaseOf : Instr → Phase
  | .hostRead .. => .host
  | .hostWrite .. => .host
  | .vnotice _ => .notice
  | .read p => if apFifo ≤ p.addr.toNat % 2 ^ 42 ∧ inAperture (p.addr.toNat % 2 ^ 42) then .pop else .packet
  | .write _ => .packet
  | .atomic _ => .packet
  | .vfetch _ => .packet
  | .vfetchResponse _ => .packet
  | .chain _ => .packet
  | .nack _ => .packet
  | .time _ => .packet
  | .acknowledgement .. => .packet
  | .deposit _ (some _) => .packet
  | .replyToImage _ (some _) => .packet
  | .packetAccept (.fromDie ..) => .packet
  | .launchDeal _ => .packet
  | .roomReport _ => .packet
  | .exitReport _ => .packet
  | .mirrorUpdate _ => .packet
  | .leaderQuery _ => .packet
  | .barrierReleasePacket _ => .packet
  | .grant _ => .packet
  | .discover .. => .packet
  | .unknownPacket .. => .packet
  | .barrierArm (.packet _) => .barrier
  | .barrierClear (.packet _) => .barrier
  | .barrierArrival (.packet p) => if p.op = 6 then .packet else .barrier
  | .barrierWait (.packet _) => .barrier
  | .barrierQuery (.packet _) => .barrier
  | .steal _ => .steal
  | .sensorRefresh _ => .hardware
  | .monitorSample .. => .hardware
  | .correctedError .. => .hardware
  | .uncorrectableError _ => .fault
  | .scrub .. => .hardware
  | .linkTrainingEnd .. => .hardware
  | .linkReplay .. => .hardware
  | .laneRepair _ => .hardware
  | .linkWake _ => .hardware
  | .linkWakeEnd .. => .hardware
  | .hbm4TrainingEnd _ => .hardware
  | .flush _ => .command
  | .kernelLoad _ => .command
  | .kernelUnload _ => .command
  | .kernelOverlay _ => .command
  | .badcmd _ => .command
  | _ => .now

/-- The first step of the agenda with a given turn, and the rest. -/
def takeFirst (k : Phase) : List Instr → Option (Instr × List Instr)
  | [] => none
  | i :: is => if phaseOf i = k then some (i, is) else (takeFirst k is).map (fun p => (p.1, i :: p.2))

/-- A step of the agenda has its turn. -/
def State.take (s : State) (k : Phase) : Host.Outcome State Fault Refusal :=
  match takeFirst k s.o.agenda with
  | some (i, is) => exec i { s with o := { s.o with agenda := is } }
  | none => .next s

/-! ### The events of a cycle -/

/-- A class of events: which of them are due, in their order, and the step of each. -/
abbrev Due := (State → List Nat) × (Nat → State → Host.Outcome State Fault Refusal)

/-- A class of events. -/
def due (l : State → List Nat) (r : Nat → State → Host.Outcome State Fault Refusal) : Due := (l, r)

/-- The steps of the agenda with a given turn; each is known by how many there still are. -/
def arrivals (k : Phase) : Due :=
  due (fun s => match (s.o.agenda.filter (fun i => decide (phaseOf i = k))).length with | 0 => [] | n + 1 => [n + 1]) (fun _ s => s.take k)

/-- A number put among others by a key, behind those of the same key. -/
def insertBy (f : Nat → Nat) (x : Nat) : List Nat → List Nat
  | [] => [x]
  | y :: ys => if f x < f y then x :: y :: ys else y :: insertBy f x ys

/-- Numbers in the order of a key. -/
def sortBy (f : Nat → Nat) (l : List Nat) : List Nat := l.foldl (fun ys x => insertBy f x ys) []

/-- Place of a request among those of its cycle: the port of its grotto, then core and slot, which rise together; the
block-transfer engine, and the tile fetch units for versions (09 R179; 15 R296; 17 R333). -/
def State.portKey (s : State) (m : Msg) : Nat :=
  match m.sid with
  | some i => if i < savedBase then i else match s.image i with | some v => v.sid | none => i
  | none => if m.op.isMem then 36 * 64 else 37 * 64

/-- Messages that satisfy a test and can be performed, in the order of their ports. -/
def State.atPorts (s : State) (f : MsgOp → Bool) : List Nat :=
  sortBy (fun r => match kget s.msgs r with | some m => s.portKey m | none => 0)
    (keysWhere s.msgs (fun r m => !m.op.idle && f m.op && (s.ready r).isSome))

/-- A pop of an engine FIFO (13 R280), a barrier request (17 R333), a start notice (15 R296): each comes after other requests. -/
def MsgOp.kind : MsgOp → Nat
  | .pop pa _ _ => if apFifo ≤ pa % 2 ^ 42 then 1 else 0
  | .startNotice .. => 2
  | .barrier .. => 3
  | _ => 0

/-- The messages of a kind. -/
def dueMsgs (n : Nat) : Due :=
  due (fun s => s.atPorts (fun op => op.kind == n)) (fun r s => match kget s.msgs r with | some m => s.arriveMsg r m | none => .next s)

/-- What fences agents and regions, and so breaks barriers: before any request of the cycle (17 R333 item 1). -/
def dueBreaks : List Due := [
  arrivals .fault,
  due (fun s => keysWhere s.lk.heard (fun a t => s.lk.topoDone && !s.isOwn a && s.agentUp a && decide (t + 16000 ≤ s.now))) execAgentDownTimeout,
  due (fun s => below 72 (fun p => (s.core (2 * p)).pair.comparing)) execPairCompareEnd]

/-- Slots whose stall or YIELD ends with this cycle. -/
def dueStalls : List Due := [
  due (fun s => keysWhere s.slots (fun _ x => match x.status with | .stalled (.yield d _) => decide (d ≤ s.t.cycle + 1) | _ => false)) execYieldTimeout,
  due (fun s => keysWhere s.slots (fun _ x => match x.status with | .stalled (.count u) => decide (u ≤ s.t.cycle + 1) | _ => false)) execStallEnd]

/-- Results: before a save of the cycle (07 R159 item 3). -/
def dueResults : List Due := [
  due (fun s => keysWhere s.cores (fun _ k => k.sfu.any (fun q => q.start.isNone) && decide (k.sfuFree ≤ s.t.cycle))) execSfuStart,
  due (fun s => keysWhere s.cores (fun _ k => match k.sfu with
    | q :: _ => q.start.any (fun c => decide (c + 63 ≤ s.t.cycle)) | [] => false)) execSfuResult,
  due (fun s => keysWhere s.slots (fun _ x => x.results.any (fun p => !p.sfu && decide (p.due ≤ s.t.cycle)))) execResultWrite] ++ dueStalls ++ [
  due (fun s => keysWhere s.slots (fun _ x => match x.openPkt with
    | some p => p.since.any (fun c => decide (c + 16384 ≤ s.t.cycle)) | none => false)) execSendTruncTimeout]

/-- A period of the ports begins and each sends (18 R366); requests in the order of the ports, then what has arrived from the
host and from other agents (09 R179), what hardware reports (00 R5), and the requests that come after others.  Barriers come
after stores: a remote store of the cycle of a swap lies in the bank that was the shadow bank at its start (17 R341 item 3). -/
def dueRequests : List Due := [
  due (fun s => if s.t.cycle % 1024 = 0 then [0] else []) (fun _ s => execQosPeriodStart s),
  due State.portsDue (fun c s => .next (s.portSend c)),
  due (fun s => keysWhere s.slots (fun _ x => s.leaving x)) execPacketLeave,
  dueMsgs 0, arrivals .host, arrivals .notice, arrivals .packet, arrivals .hardware,
  dueMsgs 3, arrivals .barrier, dueMsgs 1, arrivals .pop, dueMsgs 2]

/-- Answers: a departure comes before the fills of its cycle (04 R81). -/
def dueAnswers : List Due := [
  due (fun s => keysWhere s.msgs (fun _ m => answered m && (match m.op with | .reserve .. => true | _ => false))) (fun r s => s.giveAnswer r),
  due (fun s => keysWhere s.deps (fun _ d => d.outstanding == 0 && decide (d.sid < 2304))) (fun r s => execDeposit r none s),
  due (fun s => keysWhere s.deps (fun _ d => d.outstanding == 0 && decide (savedBase ≤ d.sid))) (fun r s => execReplyToImage r none s),
  due (fun s => keysWhere s.msgs (fun _ m => answered m)) (fun r s => s.giveAnswer r),
  due (fun s => keysWhere s.msgs (fun _ m => (match m.op with | .notice .. => false | _ => true) && m.retryAt.any (fun c => decide (c ≤ s.t.cycle)))) execRetryResend,
  due (fun s => if s.msgs.any (fun (p : Nat × Msg) => (match p.2.op with | .notice .. => true | _ => false) && p.2.retryAt.any (fun c => decide (c ≤ s.t.cycle)))
    then [0] else []) (fun _ s => execVnoticeResend s)]

/-- Records of the cycle's faults and logged events, after its removals (08 R171; 21 R418), and walks: 64 at a time, in the order in which they came (08
R170 item 2). -/
def dueWalks : List Due := [
  due (fun s => if s.pg.fqNew.isEmpty then [] else [0]) (fun _ s => .next s.takeFaults),
  due (fun s => if s.hl.mlogNew.isEmpty then [] else [0]) (fun _ s => .next s.takeLogs),
  due (fun s => (keysWhere s.pg.walks (fun _ _ => true)).take 64) execWalkEnd]

/-- Saves: after the fills and releases of the cycle (04 R81, 17 R333 item 4). -/
def dueSaves : List Due := [
  due (fun s => s.pairsToCheck) execPairCheckpoint,
  due (fun s => keysWhere s.slots (fun i x => s.saveWanted i x && (s.awayPush x).isSome)) (fun i s => .next (s.withdrawAway i)),
  due (fun s => keysWhere s.slots (fun i x => s.saveWanted i x && s.savable i x)) execSlotSave,
  due (fun s => (s.cx.saved.filter (fun v => !v.written)).map (fun v => v.order + savedBase)) execSlotSave,
  -- the last slot may have departed or ended (15 R301 item 1)
  due (fun s => below 16 (fun c => (s.ctx c).state == .draining)) (fun c s => .next (s.drainEnd c))]

/-- Spill threads, once the inboxes of the cycle stand (12 R258). -/
def dueSpills : List Due := [due (fun s => keysWhere s.cores (fun c _ => (s.spillFor c).isSome)) (fun c s => .next (s.spillWake c))]

/-- Zones and their valves. -/
def dueZones : List Due := [
  due (fun s => if (List.range 20).any s.zoneStirs then [0] else []) (fun _ s => .next s.judgeZones),
  due (fun s => below 20 (fun z => (s.zone z).state == .priming && heldFor (s.zone z).goodSince 100000000 s.now)) execZonePrimed,
  due (fun s => below 20 (fun z => (s.zone z).state == .throttled && heldFor (s.zone z).goodSince 1000000 s.now)) execZoneThrottleEnd,
  due (fun s => below 20 (fun z => (s.zone z).state == .evacuating && decide ((s.zone z).evacAt + 2000 ≤ s.now) && s.evacuated z)) execEvacuationSaveEnd,
  due (fun s => below 20 (fun z => (s.zone z).state == .drained && (s.zone z).gateAt.isNone)) execZoneGateEnd,
  due (fun s => below 20 (fun z => (s.zone z).state == .drained && decide (0 < (s.zone z).pulses))) execReprimeResult,
  due (fun s => below 20 (fun z => (s.zone z).pulseDue s.now)) execReprimePulse,
  due (fun s => if (List.range 16).any (fun k => (kgetD s.zn.scheds k {}).fires s.now) then [0] else []) (fun _ s => execValveSchedFire s)]

/-- Placement, in the order of 16 R309; then the STEALs of the cycle (17 R345). -/
def duePlacements : List Due := [
  due (fun s => below 16 (fun c => (s.ctx c).state == .resident && ((s.ctx c).restoring || s.cx.saved.any (fun v => v.ctx == c)))) execSavedSlotPlace,
  due (fun s => (distinct (s.kn.transfers.map (fun (p : Nat × Transfer) => p.2.core))).filter (fun c => (s.headArrival c).isSome)) execArrivalStart,
  due (fun s => keysWhere s.gr.deals (fun _ d => s.dealReady d)) execGroupPlace,
  due (fun s => keysWhere s.pl.pool (fun _ e => e.state == .waiting && e.counter == 0)) execTaskReleaseTime,
  due (fun s => s.dispatches 1) execGroupTaskDispatch,
  due (fun s => s.dispatches 0) execTaskDispatch,
  due (fun s => s.dispatches 2) (fun i s => s.dispatchMatrix i),
  due (fun s => s.dispatches 3) execCopyTaskDispatch,
  arrivals .steal]

/-- Engines; then the commands of the cycle. -/
def dueEngines : List Due := [
  due (fun s => keysWhere s.en.channels (fun _ c => c.cur.isSome || (c.state == .ready && !c.queue.isEmpty))) (fun n s => s.copyStep n),
  due (fun s => keysWhere s.cores (fun _ k => k.matrix.isSome)) (fun c s => s.matrixStep c),
  arrivals .command]

/-- Kernels and passage. -/
def dueKernels : List Due := [
  due (fun s => if s.kn.kbusy && kcOp s.kn.kcmd == 0 then [0] else []) (fun _ s => execKernelLoadEnd s),
  due (fun s => if s.kn.kbusy && kcOp s.kn.kcmd == 2 then [0] else []) (fun _ s => execKernelOverlayEnd s),
  due (fun s => keysWhere s.kn.transfers (fun _ t => !t.written)) execPassageImageWritten]

/-- Launches. -/
def dueLaunches : List Due := [
  due (fun s => keysWhere s.gr.posts (fun _ _ => true)) (fun n s => match kget s.gr.posts n with | some p => execLaunchPost p.1 p.2 s | none => .next s),
  due (fun s => keysWhere s.gr.launches (fun _ x => x.state == .waiting && x.waits == 0)) execLaunchReleaseTime,
  due (fun s => keysWhere s.gr.launches (fun _ x => x.state == .ready)) execLaunchCountRead,
  due (fun s => s.nextRound.toList) execLaunchDealRound,
  due (fun s => below 16 (fun c => s.br.echoCtx.testBit c && (s.ctx c).state == .resident && s.dealtIdle c)) (fun c s => execStealSend c false s)]

/-- Contexts and versions. -/
def dueContexts : List Due := [
  due (fun s => s.cx.builds.map (fun b => b.1)) (fun c s => match s.cx.builds.find? (fun b => b.1 == c) with | some b => execCtxBuild c b.2.1 s | none => .next s),
  due (fun s => below 16 (fun c => (s.ctx c).state == .retired)) execContextReclaimEnd,
  due (fun s => below s.vs.versions.length (fun i => s.vs.versions[i]?.any (fun v => v.state == .dead))) (fun i s => match s.vs.versions[i]? with | some v => execVersionReclaimEnd v.ctx v.handle s | none => .next s),
  due (fun s => if s.vs.splitBusy then [0] else []) (fun _ s => execSliceSplitDone s)]

/-- Regions. -/
def dueRegions : List Due := [
  due (fun s => below 36 (fun g => (s.region (s.regionOf g)).state == 1 && s.regionQuiet (s.regionOf g))) execRegionDrained,
  due (fun s => below 36 (fun g => (s.region (s.regionOf g)).state == 2)) execRegionResetEnd]

/-- Links and time. -/
def dueLinks : List Due := [
  due (fun s => below 8 s.linkIdle) execLinkIdleTimeout,
  due (fun s => below 8 (fun m => (s.link m).state == .sleep && !(s.link m).queue.isEmpty)) execLinkWake,
  due (fun s => if s.discoveryOver then [0] else []) (fun _ s => execDiscoveryEnd s),
  due (fun s => if s.t.cycle % 1250 = 0 then [0] else []) (fun _ s => execTimeTick s),
  due (fun s => if s.bt.bstep = 3 && !s.bt.bfail && decide (s.bt.bstepAt + 10000000000 ≤ s.now) then [0] else []) (fun _ s => execBringupTimeout s)]

/-- The rest. -/
def dueRest : List Due := [
  due (fun s => below s.lk.hostReads.length (fun i => s.lk.hostReads[i]?.any (fun r => s.settled r.2.2.2))) (fun i s => s.answerHost i),
  due (fun s => if s.bt.attBusy && (match s.bt.attWrite with | some d => s.settled d | none => true) then [0] else []) (fun _ s => execAttestationDone s),
  due (fun s => if s.hl.lifeAt + 60000000000 ≤ s.now then [0] else []) (fun _ s => execLifetimeUpdate s)]

/-- The classes of events in their order within a cycle (log 1). -/
def dueClasses : List Due :=
  dueBreaks ++ dueResults ++ dueRequests ++ dueAnswers ++ dueWalks ++ dueSaves ++ dueSpills ++ dueZones ++ duePlacements ++ dueEngines ++ dueKernels ++
    dueLaunches ++ dueContexts ++ dueRegions ++ dueLinks ++ dueRest ++ dueStalls

/-- The events of class `k`, counted from 1, that have had their turn in this cycle. -/
def State.turned (s : State) (k : Nat) : List Nat := if s.o.mscan = k then s.o.mdone else []

/-- The next event of this cycle among the classes from number `k` on; every event of a class has one turn a cycle. -/
def State.nextDue (s : State) : Nat → List Due → Option (Host.Outcome State Fault Refusal)
  | _, [] => none
  | k, c :: cs =>
    if k < s.o.mscan then s.nextDue (k + 1) cs
    else
      match (c.1 s).filter (fun i => !(s.turned k).contains i) with
      | [] => s.nextDue (k + 1) cs
      | n :: _ => some (c.2 n { s with o := { s.o with mscan := k, mdone := n :: s.turned k } })

/-! ### The end of a cycle -/

/-- 0.8 ns more on the time base (04 R82, 19 R386). -/
def Clock.tick (t : Clock) : Clock :=
  let f := t.timeFrac + 4
  if 5 ≤ f then { t with cycle := t.cycle + 1, time := t.time + 1, timeFrac := f - 5 }
  else { t with cycle := t.cycle + 1, timeFrac := f }

/-- A cycle ends: waiting NEXTs and what waits from outside are looked at, rooms are reported, flits leave, and the next
cycle begins. -/
def State.tick (s : State) : State :=
  let s := ((((s.serveWaiting.reportRooms.dateOpen).hostSettle).hostNext).servePorts.retryPackets.retryInbox).sendFlits
  { s with t := s.t.tick, o := { s.o with scan := 0, mscan := 0, mdone := [], sets := [] } }

/-- What happens next: a step that another has started, the issue of a slot, an event that is due, or the end of the
cycle. -/
def State.advance (s : State) : Host.Outcome State Fault Refusal :=
  match takeFirst .now s.o.agenda with
  | some (i, is) => exec i { s with o := { s.o with agenda := is } }
  | none =>
    match s.nextIssue with
    | some (sid, x) => s.issueSlot sid x
    | none =>
      match s.nextDue 1 dueClasses with
      | some r => r
      | none => .next s.tick

/-! ### A state whose next step runs given words (log 8) -/

/-- The kernel that the words are placed as: context 1, its range at local offset 0. -/
def wordKernel : Kernel :=
  { kid := 1, ctx := 1, kbase := 0, ovl := 0, pass := false, space := 4096, views := [0, 0, 0, 0], codeLen := 256, resLen := 256
    segments := [], entries := [], digest := 0, state := .sealed }

/-- Core 0 with bytes at local offset 0. -/
def State.wordCore (s : State) (bs : List Byte) : CoreSt :=
  let k := s.core 0
  { k with loc := k.loc.write 0 (bs ++ List.replicate (10 - bs.length) 0), left := [], pair := {} }

/-- A program of one instruction loaded on core 0, with a supervisor slot of context 1 at it whose issue cycle this is. -/
def State.loadWords (s : State) (bs : List Byte) : State :=
  { s with
    o := { s.o with agenda := [], scan := 0, mscan := 0, mdone := [], sets := [], nextId := s.o.nextId + 1 }
    cores := kset s.cores 0 (s.wordCore bs)
    slots := kset s.slots (s.t.cycle % 16) { ctx := 1, kid := 1, group := s.o.nextId, sup := true }
    kn := { s.kn with kernels := wordKernel :: s.kn.kernels.filter (fun k => k.kid != 1) }
    cx := { s.cx with ctxs := kset s.cx.ctxs 1 { s.ctx 1 with state := .resident } }
    zn := { s.zn with zones := kset s.zn.zones 0 { s.zone 0 with state := .flowing } } }

end Sys2Proof.Machine
end

