-- ==== Sys2Proof/Machine/Step.lean ====
section
/-!
DEFINITION. One step of the die, and a state whose next step runs a given instruction.
-/

namespace Sys2Proof.Machine

/-- One step. -/
def step (s : State) : Host.Outcome State Fault Refusal := s.advance

/-- The state whose next step fetches and runs the words of a row of the opcode table (log 8). -/
def State.withFetchWord (s : State) (nbits w : Nat) : State := s.loadWords (bytesOfWords (tableWords nbits w))

end Sys2Proof.Machine
end

