-- ==== Sys2Proof/Safety.lean ====
section
/-!
DEFINITION. What counts as a safe run, and the terms in which the statements about instructions are made.
-/

namespace Sys2Proof

/-- A run of `n` steps that never stops. -/
def Safe (n : Nat) (s : Machine.State) : Prop := ∃ t, core.run n s = .next t

namespace Machine

/-! ### The turn of a slot -/

/-- `x` is the slot whose turn it is, as it stands in its issue cycle; the words of an instruction of opcode `o` are
legal for it and it may run it (03 R62, R73 items 4 and 5). -/
structure Turn (s : State) (o : OpInfo) (c : Chain) (x : Slot) : Prop where
  active : ∃ y, s.slot s.o.cur = some y ∧ x = y.snapshot s.t.cycle
  legal : c.legal o = true
  gang : x.gangBad o c = false
  priv : o.priv = true → x.sup = true

/-- Registers that an instruction names: all of them lie in the register space, those it reads are full and, where the
slot checks it, written, and those it writes have no pending deposit (03 R65; 04 R87 to R93). -/
structure Usable (x : Slot) (all src dst : List Reg) : Prop where
  inside : ∀ r ∈ all, ∀ off, r.loc = .main off → off + r.size ≤ x.space
  full : ∀ r ∈ src, x.awaits r = none
  settled : x.chk = true → ∀ r ∈ src, unwrittenIn x.results r = false
  free : ∀ r ∈ dst, x.awaits r = none

/-- The register of a gang partner that an instruction reads as operand B is full and, where the slot checks it, written
(04 R93, R94); without a gang offset nothing is asked. -/
def PartnerUsable (s : State) (x : Slot) (c : Chain) (r : Reg) : Prop :=
  ∀ p, s.gangPartner s.o.cur x c = some p → ∀ off, r.loc = .main off →
    firstEmpty p.view.empty off r.size = none ∧ (x.chk = true → unwrittenIn p.view.results r = false)

/-- The die after the instruction of the slot whose turn it is has taken effect. -/
def State.took (s : State) (x : Slot) (c : Chain) (e : Effect) : State := s.settleSlot s.o.cur x c (.go e)

/-- Scalar operand `v` of a slot: the 64 bits of its register, or 0 when an uncorrectable byte is among them (03 R65,
R66; 02 R45). -/
def Slot.operand (x : Slot) (v : Nat) : Word := BitVec.ofNat 64 (x.readUe (x.reg .scalar v) 64).1

/-- The uncorrectable events of reading scalar operand `v`. -/
def Slot.operandUe (x : Slot) (v : Nat) : List UeEvent := (x.readUe (x.reg .scalar v) 64).2

end Machine

end Sys2Proof
end

