-- ==== Sys2Proof/Certificates/Slice0/Obligations.lean ====
section
/-!
DEFINITION. The statements for the provers.
-/

open Sys2Proof Sys2Proof.Machine

/-! ### The scalar instructions of page 0 (05) -/

namespace Sys2Proof.Claims

/-- An exact result clamped to a range, and SAT when that changes it (05 R107). -/
def clamped (lo hi z : Int) : Word × BitVec 6 :=
  (BitVec.ofInt 64 (max lo (min hi z)), if lo ≤ z ∧ z ≤ hi then 0 else fSAT)

/-- The SAT forms of 05 R107 by MOD[1:0], from the exact result on signed and on unsigned operands. -/
def saturated (m : Nat) (zs zu : Int) : Word × BitVec 6 :=
  if m = 1 then clamped (-(2 ^ 63)) (2 ^ 63 - 1) zs
  else if m = 2 then clamped 0 (2 ^ 64 - 1) zu
  else (BitVec.ofInt 64 zs, 0)

/-- A truth value as a register holds it. -/
def truth (b : Bool) : Word := if b then 1 else 0

/-- A value without a flag. -/
def plain (w : Word) : Word × BitVec 6 := (w, 0)

/-- Carry-less product of 05 R106: the XOR, over the one bits of y, of x shifted into a 128-bit value. -/
def carryless (x y : Word) : BitVec 128 :=
  (List.range 64).foldl (fun p i => if y.getLsbD i then p ^^^ (x.zeroExtend 128 <<< i) else p) 0

/-- The three-form scalar instructions: constructor, opcode, latency in rotations, and the value z of 05 R106 with the
flags it sets, by MOD[1:0] and the operands a and b. -/
def scalarThree : List ((Chain → Instr) × OpInfo × Nat × (Nat → Word → Word → Word × BitVec 6)) := [
  (.add, opAdd, 1, fun m x y => saturated m (x.toInt + y.toInt) (x.toNat + y.toNat)),
  (.sub, opSub, 1, fun m x y => saturated m (x.toInt - y.toInt) ((x.toNat : Int) - y.toNat)),
  (.mul, opMul, 1, fun m x y => saturated m (x.toInt * y.toInt) (x.toNat * y.toNat)),
  (.mulh, opMulh, 1, fun _ x y => plain (BitVec.ofInt 64 ((x.toInt * y.toInt) / 2 ^ 64))),
  (.mulhn, opMulhn, 1, fun _ x y => plain (BitVec.ofNat 64 (x.toNat * y.toNat / 2 ^ 64))),
  (.div, opDiv, 3, fun _ x y =>
    if y = 0 then (if x.toInt < 0 then -1 else BitVec.ofNat 64 (2 ^ 63 - 1), fDZ) else plain (BitVec.ofInt 64 (x.toInt.tdiv y.toInt))),
  (.divn, opDivn, 3, fun _ x y => if y = 0 then (-1, fDZ) else plain (x / y)),
  (.rem, opRem, 3, fun _ x y =>
    if y = 0 then (x, fDZ) else plain (BitVec.ofInt 64 (x.toInt - x.toInt.tdiv y.toInt * y.toInt))),
  (.remn, opRemn, 3, fun _ x y => if y = 0 then (x, fDZ) else plain (x - x / y * y)),
  (.and, opAnd, 1, fun _ x y => plain (x &&& y)),
  (.or, opOr, 1, fun _ x y => plain (x ||| y)),
  (.xor, opXor, 1, fun _ x y => plain (x ^^^ y)),
  (.andn, opAndn, 1, fun _ x y => plain (x &&& ~~~y)),
  (.shl, opShl, 1, fun _ x y => plain (x <<< (y.toNat % 64))),
  (.shr, opShr, 1, fun _ x y => plain (x >>> (y.toNat % 64))),
  (.sar, opSar, 1, fun _ x y => plain (x.sshiftRight (y.toNat % 64))),
  (.rol, opRol, 1, fun _ x y => plain (x.rotateLeft (y.toNat % 64))),
  (.min, opMin, 1, fun _ x y => plain (if x.toInt ≤ y.toInt then x else y)),
  (.max, opMax, 1, fun _ x y => plain (if x.toInt ≤ y.toInt then y else x)),
  (.minn, opMinn, 1, fun _ x y => plain (if x.toNat ≤ y.toNat then x else y)),
  (.maxn, opMaxn, 1, fun _ x y => plain (if x.toNat ≤ y.toNat then y else x)),
  (.seq, opSeq, 1, fun _ x y => plain (truth (x == y))),
  (.sne, opSne, 1, fun _ x y => plain (truth (x != y))),
  (.slt, opSlt, 1, fun _ x y => plain (truth (x.slt y))),
  (.sltn, opSltn, 1, fun _ x y => plain (truth (x.ult y))),
  (.clmul, opClmul, 1, fun _ x y => plain ((carryless x y).truncate 64)),
  (.clmulh, opClmulh, 1, fun _ x y => plain ((carryless x y >>> 64).truncate 64))]

/-- Byte-reversed low `n` bytes of a word (05 R110). -/
def reversedBytes (n : Nat) (x : Word) : Word :=
  BitVec.ofNat 64 ((List.range n).foldl (fun z j => z + x.toNat / 256 ^ (n - 1 - j) % 256 * 256 ^ j) 0)

/-- The two-form scalar instructions, by MOD[1:0] and operand a. -/
def scalarTwo : List ((Chain → Instr) × OpInfo × (Nat → Word → Word)) := [
  (.mov, opMov, fun _ x => x),
  (.clz, opClz, fun _ x => BitVec.ofNat 64 (if x = 0 then 64 else 63 - x.toNat.log2)),
  (.ctz, opCtz, fun _ x => BitVec.ofNat 64 (((List.range 64).find? (fun i => x.getLsbD i)).getD 64)),
  (.popc, opPopc, fun _ x => BitVec.ofNat 64 ((List.range 64).filter (fun i => x.getLsbD i)).length),
  (.bswap, opBswap, fun m x => reversedBytes (if m = 0 then 8 else if m = 1 then 4 else 2) x)]

/-- Field of EXT (05 R109): position, width and sign extension from the immediate. -/
def extracted (x : Word) (imm : Nat) : Word :=
  let pos := imm % 64
  let width := imm / 64 % 64 + 1
  let z := x.toNat / 2 ^ pos % 2 ^ width
  if imm / 4096 = 1 ∧ 2 ^ (width - 1) ≤ z then BitVec.ofInt 64 ((z : Int) - 2 ^ width) else BitVec.ofNat 64 z

end Sys2Proof.Claims

/-- ADD, SUB, MUL with their SAT forms, MULH, MULHN, the divisions with their results for a divisor 0, the bitwise
instructions, shifts, rotation, minima, maxima, comparisons and carry-less products: the instruction completes, and its
result with its flags is that of 05 R106 and R107 (02 R26 for division by 0); the result goes to d and to lat.

MOV, CLZ, CTZ, POPC and BSWAP complete with the value of 05 R106 and R110, without a flag.

MOVI, ADDI with its SAT forms, EXT, SEL and NOP complete with the value of 05 R106, R107, R109 and R114. -/
def Obligations.ScalarResults : Prop :=
  (∀ e ∈ Claims.scalarThree, ∀ (s : State) (x : Slot) (c : Chain),
     Turn s e.2.1 c x →
     Usable x [x.reg .scalar c.a.toNat, x.reg .scalar c.b.toNat, x.reg .scalar c.c.toNat]
       [x.reg .scalar c.b.toNat, x.reg .scalar c.c.toNat] [x.reg .scalar c.a.toNat] →
     exec (e.1 c) s = .next (s.took x c {
       writes := scalarResult x c.a.toNat (e.2.2.2 (c.mod.toNat % 4) (x.operand c.b.toNat) (x.operand c.c.toNat)).1.toNat
       flags := (e.2.2.2 (c.mod.toNat % 4) (x.operand c.b.toNat) (x.operand c.c.toNat)).2
       ue := x.operandUe c.b.toNat ++ x.operandUe c.c.toNat
       latency := e.2.2.1 })) ∧
  (∀ e ∈ Claims.scalarTwo, ∀ (s : State) (x : Slot) (c : Chain),
     Turn s e.2.1 c x →
     Usable x [x.reg .scalar c.a.toNat, x.reg .scalar c.b.toNat] [x.reg .scalar c.b.toNat] [x.reg .scalar c.a.toNat] →
     exec (e.1 c) s = .next (s.took x c {
       writes := scalarResult x c.a.toNat (e.2.2 (c.mod.toNat % 4) (x.operand c.b.toNat)).toNat
       ue := x.operandUe c.b.toNat })) ∧
  (∀ (s : State) (x : Slot) (c : Chain),
     (Turn s opMovi c x → Usable x [x.reg .scalar c.a.toNat] [] [x.reg .scalar c.a.toNat] →
       exec (.movi c) s = .next (s.took x c { writes := scalarResult x c.a.toNat (BitVec.ofInt 64 c.imm).toNat })) ∧
     (Turn s opAddi c x → Usable x [x.reg .scalar c.a.toNat, x.reg .scalar c.c.toNat] [x.reg .scalar c.c.toNat] [x.reg .scalar c.a.toNat] →
       exec (.addi c) s = .next (s.took x c {
         writes := scalarResult x c.a.toNat (Claims.saturated (c.mod.toNat % 4) ((x.operand c.c.toNat).toInt + c.imm) ((x.operand c.c.toNat).toNat + c.imm)).1.toNat
         flags := (Claims.saturated (c.mod.toNat % 4) ((x.operand c.c.toNat).toInt + c.imm) ((x.operand c.c.toNat).toNat + c.imm)).2
         ue := x.operandUe c.c.toNat })) ∧
     (Turn s opExt c x → Usable x [x.reg .scalar c.a.toNat, x.reg .scalar c.c.toNat] [x.reg .scalar c.c.toNat] [x.reg .scalar c.a.toNat] →
       exec (.ext c) s = .next (s.took x c {
         writes := scalarResult x c.a.toNat (Claims.extracted (x.operand c.c.toNat) c.imm.toNat).toNat
         ue := x.operandUe c.c.toNat })) ∧
     (Turn s opSel c x →
       Usable x [x.reg .scalar c.a.toNat, x.reg .scalar c.b.toNat, x.reg .scalar c.c.toNat]
         [x.reg .scalar c.b.toNat, x.reg .scalar c.c.toNat, x.reg .scalar c.a.toNat] [x.reg .scalar c.a.toNat] →
       exec (.sel c) s = .next (s.took x c {
         writes := scalarResult x c.a.toNat (if x.operand c.a.toNat ≠ 0 then x.operand c.b.toNat else x.operand c.c.toNat).toNat
         ue := x.operandUe c.b.toNat ++ x.operandUe c.c.toNat ++ x.operandUe c.a.toNat })) ∧
     (Turn s opNop c x → exec (.nop c) s = .next (s.took x c {})))

/-! ### What an effect does to the slot and the die (03 R61, R66, R67; 04 R83) -/

/-! ### Control transfers, control registers, traps, waiting (04 R95 to R100; 05 R111 to R117; 18 R356 to R358) -/

namespace Sys2Proof.Claims

/-- BR is taken (05 R112). -/
def taken (cond : Nat) (x : Word) : Bool :=
  if cond = 0 then x != 0 else if cond = 1 then x == 0 else if cond = 2 then x.slt 0 else !x.slt 0

/-- Target of BR, JMP and CALL (05 R111). -/
def target (x : Slot) (c : Chain) : Word := x.pc + BitVec.ofInt 64 (2 * c.imm)

/-- Length of an instruction in bytes, behind pc. -/
def after (x : Slot) (c : Chain) : Word := x.pc + BitVec.ofNat 64 (2 * c.words)

end Sys2Proof.Claims

/-- BR, JMP, CALL, RET and JMPI outside a passage kernel's segment borders: each completes, pc becomes the target when
the transfer is taken and else goes behind the instruction, and CALL and JMPI write the address behind themselves to d
and lat (05 R111, R112).

RET and JMPI to an odd address trap ALIGN with the address as k.tval, and nothing else happens (05 R112). -/
def Obligations.ControlTransfers : Prop :=
  (∀ (s : State) (x : Slot) (c : Chain),
     (Turn s opBr c x → Usable x [x.reg .scalar c.a.toNat] [x.reg .scalar c.a.toNat] [] → s.leaves x (Claims.target x c) = none →
       exec (.br c) s = .next (s.took x c {
         ue := x.operandUe c.a.toNat
         jump := if Claims.taken (c.mod.toNat % 4) (x.operand c.a.toNat) then some (Claims.target x c) else none })) ∧
     (Turn s opJmp c x → s.leaves x (Claims.target x c) = none →
       exec (.jmp c) s = .next (s.took x c { jump := some (Claims.target x c) })) ∧
     (Turn s opCall c x → Usable x [x.reg .scalar c.a.toNat] [] [x.reg .scalar c.a.toNat] → s.leaves x (Claims.target x c) = none →
       exec (.call c) s = .next (s.took x c {
         writes := scalarResult x c.a.toNat (Claims.after x c).toNat, jump := some (Claims.target x c) })) ∧
     (Turn s opRet c x → Usable x [x.reg .scalar c.a.toNat] [x.reg .scalar c.a.toNat] [] →
       (x.operand c.a.toNat).toNat % 2 = 0 → s.leaves x (x.operand c.a.toNat) = none →
       exec (.ret c) s = .next (s.took x c { ue := x.operandUe c.a.toNat, jump := some (x.operand c.a.toNat) })) ∧
     (Turn s opJmpi c x → Usable x [x.reg .scalar c.a.toNat, x.reg .scalar c.b.toNat] [x.reg .scalar c.b.toNat] [x.reg .scalar c.a.toNat] →
       (x.operand c.b.toNat).toNat % 2 = 0 → s.leaves x (x.operand c.b.toNat) = none →
       exec (.jmpi c) s = .next (s.took x c {
         writes := scalarResult x c.a.toNat (Claims.after x c).toNat
         ue := x.operandUe c.b.toNat
         jump := some (x.operand c.b.toNat) }))) ∧
  (∀ (s : State) (x : Slot) (c : Chain),
     (Turn s opRet c x → Usable x [x.reg .scalar c.a.toNat] [x.reg .scalar c.a.toNat] [] →
       (x.operand c.a.toNat).toNat % 2 = 1 →
       exec (.ret c) s = .next (s.takeTrap s.o.cur x .align (x.operand c.a.toNat) false)) ∧
     (Turn s opJmpi c x → Usable x [x.reg .scalar c.a.toNat, x.reg .scalar c.b.toNat] [x.reg .scalar c.b.toNat] [x.reg .scalar c.a.toNat] →
       (x.operand c.b.toNat).toNat % 2 = 1 →
       exec (.jmpi c) s = .next (s.takeTrap s.o.cur x .align (x.operand c.b.toNat) false)))

namespace Sys2Proof.Claims

/-- The control registers of 04 R95 with what GETK reads in each. -/
def kregReads : List (Nat × (State → Slot → Nat)) := [
  (0x000, fun s _ => s.o.cur % 16), (0x001, fun s _ => s.o.cur / 16), (0x002, fun s _ => s.o.cur / 64),
  (0x003, fun s _ => s.ownAgent), (0x004, fun _ x => x.ctx), (0x005, fun _ x => x.gid.toNat),
  (0x006, fun _ x => x.gthr.toNat), (0x007, fun _ x => x.gshape.toNat), (0x008, fun _ x => x.task.toNat % 2 ^ 24),
  (0x009, fun s _ => s.now), (0x00A, fun _ x => x.space), (0x010, fun _ x => x.fmt.toNat),
  (0x011, fun _ x => x.sca.toNat), (0x012, fun _ x => x.scb.toNat), (0x013, fun _ x => x.band.toNat),
  (0x020, fun _ x => x.vws.toNat), (0x021, fun _ x => x.vwv.toNat), (0x022, fun _ x => x.vwt.toNat),
  (0x023, fun _ x => x.vwa.toNat), (0x024, fun s _ => 4096 * (s.core (s.o.cur / 16)).xtop), (0x025, fun _ x => x.chk.toNat),
  (0x030, fun _ x => x.flags.toNat), (0x031, fun _ x => x.uefl.toNat), (0x032, fun _ x => x.uexy.toNat),
  (0x100, fun _ x => x.sup.toNat + 2 * (x.gshape.getLsbD 9).toNat + 4 * x.pass.toNat + 8 * x.pairMode.toNat + 16 * x.replay.toNat),
  (0x101, fun _ x => x.trapc.toNat), (0x102, fun _ x => x.epc.toNat), (0x103, fun _ x => x.tval.toNat),
  (0x104, fun _ x => x.sscr.toNat)]

/-- The control registers that PUTK writes, with the bits of each that are not reserved, and whether a user slot may
(04 R95, R96; 18 R356). -/
def kregWrites : List (Nat × Nat × Bool) := [
  (0x010, 0x3FFF, false), (0x011, 0xFFFF, false), (0x012, 0xFFFF, false), (0x013, 0xFFFF, false),
  (0x020, 2 ^ 64 - 1, true), (0x021, 2 ^ 64 - 1, true), (0x022, 2 ^ 64 - 1, true), (0x023, 2 ^ 64 - 1, true),
  (0x025, 1, true), (0x030, 0x3F, true), (0x031, 0xF, true), (0x032, 0xFFFFFFFF0FFFFFFF, true),
  (0x101, 0xF0FF, false), (0x102, 2 ^ 64 - 1, false), (0x103, 2 ^ 64 - 1, false), (0x104, 2 ^ 64 - 1, false)]

/-- Size of the registers of the view whose base a control register holds; 1 for the others. -/
def baseUnit (n : Nat) : Nat :=
  if n = 0x020 then 8 else if n = 0x021 then 512 else if n = 0x022 then 4096 else if n = 0x023 then 2048 else 1

end Sys2Proof.Claims

/-- GETK completes and writes the value of its control register to d and lat: of every register in a supervisor slot, of
all but k.trapc, k.epc, k.tval and k.sscr in a user slot (04 R95, R99, R100).

PUTK completes and leaves the source's bits in its register, reserved bits 0, and every other control register but
k.time as it was; a view base must be a multiple of its registers' size inside the space (04 R95 to R99).

In a user slot GETK of k.trapc, k.epc, k.tval and k.sscr, and PUTK of a register that user software may not write,
trap PRIV with the register number as k.tval (04 R95, R100). -/
def Obligations.ControlRegisters : Prop :=
  (∀ e ∈ Claims.kregReads, ∀ (s : State) (x : Slot) (c : Chain),
     Turn s opGetk c x → c.imm = e.1 → (x.sup = true ∨ e.1 < 0x101) →
     Usable x [x.reg .scalar c.a.toNat] [] [x.reg .scalar c.a.toNat] →
     exec (.getk c) s = .next (s.took x c { writes := scalarResult x c.a.toNat (e.2 s x) })) ∧
  (∀ e ∈ Claims.kregWrites, ∀ (s : State) (x : Slot) (c : Chain),
     Turn s opPutk c x → c.imm = e.1 → (x.sup = true ∨ e.2.2 = true) →
     Usable x [x.reg .scalar c.a.toNat] [x.reg .scalar c.a.toNat] [] → x.operandUe c.a.toNat = [] →
     (x.operand c.a.toNat).toNat % Claims.baseUnit e.1 = 0 →
     (1 < Claims.baseUnit e.1 → (x.operand c.a.toNat).toNat < x.space) →
     ∃ y, exec (.putk c) s = .next (s.setSlot s.o.cur y) ∧
       y.pc = Claims.after x c ∧ y.status = stallStatus s.t.cycle c.stall.toNat ∧
       (∀ r ∈ Claims.kregReads, r.1 = e.1 → r.2 s y = (x.operand c.a.toNat).toNat &&& e.2.1) ∧
       (∀ r ∈ Claims.kregReads, r.1 ≠ e.1 → r.2 s y = r.2 s x) ∧
       y.file = x.file ∧ y.ofile = x.ofile ∧ y.lat = x.lat ∧ y.empty = x.empty ∧ y.oEmpty = x.oEmpty) ∧
  (∀ (s : State) (x : Slot) (c : Chain), x.sup = false →
     (Turn s opGetk c x → 0x101 ≤ c.imm ∧ c.imm ≤ 0x104 →
       exec (.getk c) s = .next (s.takeTrap s.o.cur x .priv (BitVec.ofInt 64 c.imm) false)) ∧
     (∀ e ∈ Claims.kregWrites, e.2.2 = false → Turn s opPutk c x → c.imm = e.1 →
       exec (.putk c) s = .next (s.takeTrap s.o.cur x .priv (BitVec.ofInt 64 c.imm) false)))

/-- An instruction marked S in the opcode map traps PRIV in a user slot, with its base word and position as k.tval
(03 R71, R73 item 5).

Words that are not legal for the slot trap ILLEGAL, with the base word and its position as k.tval, before anything
else of the instruction happens (03 R73 item 4). -/
def Obligations.IllegalAndPrivilegedWordsTrap : Prop :=
  (∀ (i : Instr) (o : OpInfo) (c : Chain) (s : State) (y : Slot),
     i.slotOp = some (o, c) → o.priv = true → s.slot s.o.cur = some y → y.sup = false →
     c.legal o = true → (y.snapshot s.t.cycle).gangBad o c = false →
     exec i s = .next (s.takeTrap s.o.cur (y.snapshot s.t.cycle) .priv (baseTval o c) false)) ∧
  (∀ (i : Instr) (o : OpInfo) (c : Chain) (s : State) (y : Slot),
     i.slotOp = some (o, c) → s.slot s.o.cur = some y →
     (c.legal o = false ∨ (y.snapshot s.t.cycle).gangBad o c = true) →
     exec i s = .next (s.takeTrap s.o.cur (y.snapshot s.t.cycle) .illegal (baseTval o c) false))

/-- TRAP takes the trap SOFTWARE and BREAK the trap BREAK, in user mode as in supervisor mode, k.tval being the immediate and the length of
the instruction in words (05 R117; 18 R358).  Where a handler of the context can take BREAK, k.epc is the address of its first word, and
no register is written (05 R117). -/
def Obligations.TrapAndBreakTrap : Prop :=
  ∀ (s : State) (x : Slot) (c : Chain) (v : Word), v = BitVec.ofNat 64 (c.imm.toNat % 2 ^ 16 + c.words * 2 ^ 16) →
    (Turn s opTrap c x → exec (.trap c) s = .next (s.takeTrap s.o.cur x .software v false)) ∧
    (Turn s opBrk c x → exec (.brk c) s = .next (s.takeTrap s.o.cur x .brk v false)) ∧
    (∀ k off, Turn s opBrk c x → x.trapc.getLsbD 13 = false → (s.ctx x.ctx).traptab[18]? = some (true, off) →
      s.sealedFor (s.ctx x.ctx).hkid x.ctx = some k → ∃ y : Slot, exec (.brk c) s = .next (s.setSlot s.o.cur y) ∧
        y.epc = x.pc ∧ y.tval = v ∧ y.trapc.toNat % 2 ^ 8 = 18 ∧ y.file = x.file ∧ y.ofile = x.ofile ∧ y.lat = x.lat ∧
        y.empty = x.empty ∧ y.oEmpty = x.oEmpty)

/-- The trap sequence of 18 R356: k.epc is the address, k.tval the value, k.trapc the cause with LATE, PSUP and HACT as
they were before; then, when no handler is active, the context's table has the cause valid and its handler kernel is
SEALED on the die, HACT and SUP are 1 and pc is the handler's entry; nothing else of the slot that software can read
changes, and nothing else of the die.

A trap that no handler can take faults the context: it is FAULTED with the cause and the slot as its fault data, and
none of its slots is active (18 R351, R356). -/
def Obligations.TrapsTaken : Prop :=
  (∀ (s : State) (sid : Nat) (x : Slot) (k : Kernel) (cause : Cause) (tval : Word) (late : Bool) (off : Nat),
     x.trapc.getLsbD 13 = false → (s.ctx x.ctx).traptab[cause.code]? = some (true, off) →
     s.sealedFor (s.ctx x.ctx).hkid x.ctx = some k →
     ∃ y, s.takeTrap sid x cause tval late = s.setSlot sid y ∧
       y.epc = x.pc ∧ y.tval = tval ∧ y.sup = true ∧ y.pc = BitVec.ofNat 64 (k.kbase + off) ∧ y.status = .ready ∧
       y.trapc.toNat % 2 ^ 8 = cause.code ∧ y.trapc.getLsbD 15 = late ∧ y.trapc.getLsbD 14 = x.sup ∧
       y.trapc.getLsbD 13 = true ∧ y.trapc.getLsbD 12 = (late && x.lmore) ∧ y.trapc.toNat < 2 ^ 16 ∧
       { y with epc := x.epc, tval := x.tval, trapc := x.trapc, sup := x.sup, handler := x.handler, pc := x.pc
                status := x.status, xlat := x.xlat, late := x.late, lmore := x.lmore } = x) ∧
  (∀ (s : State) (sid : Nat) (x : Slot) (cause : Cause) (tval : Word) (late : Bool),
     (x.trapc.getLsbD 13 = true ∨ s.sealedFor (s.ctx x.ctx).hkid x.ctx = none) →
     s.takeTrap sid x cause tval late = s.faultContext x.ctx cause.code sid)

/-- ERET in a supervisor slot returns: pc is k.epc, SUP is PSUP, HACT is 0, and nothing else of the slot changes; an odd
k.epc traps ALIGN (18 R357). -/
def Obligations.TrapReturn : Prop :=
  ∀ (s : State) (x : Slot) (c : Chain), Turn s opEret c x → x.pass = false →
    (x.epc.getLsbD 0 = true → exec (.eret c) s = .next (s.takeTrap s.o.cur x .align x.epc false)) ∧
    (x.epc.getLsbD 0 = false → ∃ y, exec (.eret c) s = .next (s.setSlot s.o.cur y) ∧
      y.pc = x.epc ∧ y.sup = x.trapc.getLsbD 14 ∧ y.trapc = x.trapc &&& ~~~(0x2000#64) ∧
      y.status = stallStatus s.t.cycle c.stall.toNat ∧
      (x.trapc.getLsbD 13 = true → y.handler = false) ∧
      { y with pc := x.pc, sup := x.sup, trapc := x.trapc, handler := x.handler, status := x.status, xlat := x.xlat } = x)

/-- YIELD leaves the slot idle behind it until an event or the 64th rotation; WAITT completes at once with the time base
when its time has come, and else keeps the slot idle at itself until then (05 R115, R116).

The ends of waiting: a stall count of the last cycle leaves the slot READY, a YIELD ends after 64 rotations at the
latest, a WAITT completes at the slot's issue cycle once its time has come, a late fault of a READY slot is taken as a
trap with LATE, and fixed-latency results are written in the cycle in which they are due (03 R60, R61; 04 R83; 05 R115,
R116; 10 R214). -/
def Obligations.Waiting : Prop :=
  (∀ (s : State) (x : Slot) (c : Chain),
     (Turn s opYield c x → exec (.yield c) s = .next (s.setSlot s.o.cur { x with
       pc := Claims.after x c, xlat := []
       status := .stalled (.yield (s.t.cycle + 1024) (if c.stall = 0 then 0 else s.t.cycle + 16 * (1 + c.stall.toNat))) })) ∧
     (Turn s opWaitt c x → Usable x [x.reg .scalar c.a.toNat, x.reg .scalar c.b.toNat] [x.reg .scalar c.b.toNat] [x.reg .scalar c.a.toNat] →
       ((x.operand c.b.toNat).toNat ≤ s.now → exec (.waitt c) s = .next (s.took x c {
         writes := scalarResult x c.a.toNat s.now, ue := x.operandUe c.b.toNat })) ∧
       (s.now < (x.operand c.b.toNat).toNat → exec (.waitt c) s = .next (s.setSlot s.o.cur { x.captureAll (x.operandUe c.b.toNat) with
         status := .stalled (.time (x.operand c.b.toNat).toNat c), xlat := [] })))) ∧
  (∀ (s : State) (sid : Nat) (x : Slot), s.slot sid = some x →
     (∀ u, x.status = .stalled (.count u) → u ≤ s.t.cycle + 1 → (s.core (sid / 16)).sfu = [] →
       exec (.stallEnd sid) s = .next (s.setSlot sid { x with status := .ready })) ∧
     (∀ d, x.status = .stalled (.yield d 0) → d ≤ s.t.cycle + 1 →
       exec (.yieldTimeout sid) s = .next (s.setSlot sid { x with status := .ready })) ∧
     (∀ t c, x.status = .stalled (.time t c) → t ≤ s.now → s.t.cycle % 16 = sid % 16 → s.o.cur = sid →
       exec (.waittComplete sid) s = .next (s.took (x.snapshot s.t.cycle) c { writes := scalarResult x c.a.toNat s.now })) ∧
     (∀ f, x.status = .ready → x.late = some f →
       exec (.lateFault sid) s = .next (s.takeTrap sid x f.cause f.tval true)) ∧
     (∀ p, x.results = [p] → p.sfu = false → p.due ≤ s.t.cycle →
       exec (.resultWrite sid) s = .next (s.setSlot sid { x.writeDue p with results := [] })))

/-! ### The register-only vector instructions of pages 1 and 2 (06, 07) -/

namespace Sys2Proof.Claims

/-- The integer that a code of an integer type stands for (02 R24). -/
def int (t : Ty) (x : Nat) : Int := if t.signed then (BitVec.ofNat t.width x).toInt else ((x % 2 ^ t.width : Nat) : Int)

/-- An exact integer result modulo 2^w (06 R122). -/
def wrapped (t : Ty) (z : Int) : Nat × BitVec 6 := ((z % 2 ^ t.width).toNat, 0)

/-- An exact floating result rounded once; NV only where no operand is a NaN (02 R30, R31). -/
def rounded (t : Ty) (rm : RMode) (z : FVal × Bool) (ops : List FVal) : Nat × BitVec 6 :=
  roundVal t rm z.1 (z.2 && ops.all (fun x => x != .nan))

/-- Carry-less product of two `w`-bit codes (05 R106, 07 R154). -/
def carrylessN (w x y : Nat) : Nat := (List.range w).foldl (fun p i => if y.testBit i then p ^^^ (x <<< i) else p) 0

/-- Fused product and sum of the FMA family: the product with sign `np` and the addend with sign `ns`, rounded once (06
R125, R126 item 1). -/
def fused (np ns : Bool) (t : Ty) (rm : RMode) (p r q : Nat) : Nat × BitVec 6 :=
  if t.isInt then wrapped t ((if np then -(int t p * int t r) else int t p * int t r) + (if ns then -int t q else int t q))
  else
    let z := (fdec t p).mul (fdec t r)
    let y := (if np then z.1.neg else z.1).add rm (if ns then (fdec t q).neg else fdec t q)
    rounded t rm (y.1, z.2 || y.2) [fdec t p, fdec t r, fdec t q]

/-- A lane-wise instruction: whether C names operand b, whether d is read, its latency, and a lane's value with its flags
from the type, the rounding mode and the lanes of a, b and d. -/
structure LaneOp where
  make : Chain → Instr
  op : OpInfo
  three : Bool
  readsD : Bool
  latency : Nat
  lane : Ty → RMode → Nat → Nat → Nat → Nat × BitVec 6

/-- The lane-wise instructions, with the values of 06 R125 and R126 and 07 R148, R154 and R155. -/
def laneOps : List LaneOp := [
  { make := .vmov, op := opVmov, three := false, readsD := false, latency := 1, lane := fun _ _ p _ _ => (p, 0) },
  { make := .vadd, op := opVadd, three := true, readsD := false, latency := 1
    lane := fun t rm p r _ => if t.isInt then wrapped t (int t p + int t r)
      else rounded t rm ((fdec t p).add rm (fdec t r)) [fdec t p, fdec t r] },
  { make := .vsub, op := opVsub, three := true, readsD := false, latency := 1
    lane := fun t rm p r _ => if t.isInt then wrapped t (int t p - int t r)
      else rounded t rm ((fdec t p).add rm (fdec t r).neg) [fdec t p, fdec t r] },
  { make := .vmul, op := opVmul, three := true, readsD := false, latency := 1
    lane := fun t rm p r _ => if t.isInt then wrapped t (int t p * int t r)
      else rounded t rm ((fdec t p).mul (fdec t r)) [fdec t p, fdec t r] },
  { make := .vfma, op := opVfma, three := true, readsD := true, latency := 1, lane := fused false false },
  { make := .vfms, op := opVfms, three := true, readsD := true, latency := 1, lane := fused false true },
  { make := .vfnma, op := opVfnma, three := true, readsD := true, latency := 1, lane := fused true false },
  { make := .vmin, op := opVmin, three := true, readsD := false, latency := 1
    lane := fun t _ p r _ => if t.isInt then (if int t p ≤ int t r then p else r, 0) else (fminmax t false p r, 0) },
  { make := .vmax, op := opVmax, three := true, readsD := false, latency := 1
    lane := fun t _ p r _ => if t.isInt then (if int t p ≤ int t r then r else p, 0) else (fminmax t true p r, 0) },
  { make := .vabs, op := opVabs, three := false, readsD := false, latency := 1
    lane := fun t _ p _ _ => if t.isInt then wrapped t (int t p).natAbs
      else (if fdec t p = .nan then t.nan else p % 2 ^ (t.width - 1), 0) },
  { make := .vneg, op := opVneg, three := false, readsD := false, latency := 1
    lane := fun t _ p _ _ => if t.isInt then wrapped t (-int t p)
      else (if fdec t p = .nan then t.nan else (p + 2 ^ (t.width - 1)) % 2 ^ t.width, 0) },
  { make := .vabsd, op := opVabsd, three := true, readsD := false, latency := 1
    lane := fun t rm p r _ => if t.isInt then wrapped t (int t p - int t r).natAbs
      else
        let z := (fdec t p).add rm (fdec t r).neg
        rounded t rm (z.1.abs, z.2) [fdec t p, fdec t r] },
  { make := .vavg, op := opVavg, three := true, readsD := false, latency := 1
    lane := fun t _ p r _ => wrapped t ((int t p + int t r + 1) / 2) },
  { make := .vand, op := opVand, three := true, readsD := false, latency := 1, lane := fun _ _ p r _ => (p &&& r, 0) },
  { make := .vor, op := opVor, three := true, readsD := false, latency := 1, lane := fun _ _ p r _ => (p ||| r, 0) },
  { make := .vxor, op := opVxor, three := true, readsD := false, latency := 1, lane := fun _ _ p r _ => (p ^^^ r, 0) },
  { make := .vandn, op := opVandn, three := true, readsD := false, latency := 1, lane := fun _ _ p r _ => (p - (p &&& r), 0) },
  { make := .vshl, op := opVshl, three := true, readsD := false, latency := 1
    lane := fun t _ p r _ => (p * 2 ^ (r % t.width), 0) },
  { make := .vshr, op := opVshr, three := true, readsD := false, latency := 1
    lane := fun t _ p r _ => (p / 2 ^ (r % t.width), 0) },
  { make := .vsar, op := opVsar, three := true, readsD := false, latency := 1
    lane := fun t _ p r _ => wrapped t ((BitVec.ofNat t.width p).toInt / 2 ^ (r % t.width)) },
  { make := .vclmul, op := opVclmul, three := true, readsD := false, latency := 1
    lane := fun t _ p r _ => (carrylessN t.width p r % 2 ^ t.width, 0) },
  { make := .vclmulh, op := opVclmulh, three := true, readsD := false, latency := 1
    lane := fun t _ p r _ => (carrylessN t.width p r / 2 ^ t.width, 0) },
  { make := .vpopc, op := opVpopc, three := false, readsD := false, latency := 1
    lane := fun t _ p _ _ => (((List.range t.width).filter (fun i => p.testBit i)).length, 0) },
  { make := .vclz, op := opVclz, three := false, readsD := false, latency := 1
    lane := fun t _ p _ _ => (if p = 0 then t.width else t.width - 1 - p.log2, 0) },
  { make := .vdiv, op := opVdiv, three := true, readsD := false, latency := 5
    lane := fun t rm p r _ => fdiv t rm (fdec t p) (fdec t r) },
  { make := .vsqrt, op := opVsqrt, three := false, readsD := false, latency := 5
    lane := fun t rm p _ _ => fsqrt t rm (fdec t p) }]

/-- No byte that the instruction reads in the slot's registers or its partner's is uncorrectable. -/
def Clean (s : State) (x : Slot) (c : Chain) : Prop :=
  x.ueRegs = [] ∧ ∀ p, s.gangPartner s.o.cur x c = some p → p.view.ueRegs = []

/-- Registers that the slot itself must have full for an operand a that a gang partner may supply (03 R62, 04 R94). -/
def ownA (s : State) (x : Slot) (c : Chain) (a : Reg) : List Reg :=
  match s.gangPartner s.o.cur x c with
  | some _ => []
  | none => [a]

/-- View of the operands of a lane-wise instruction (06 R118, R120). -/
def laneView (c : Chain) : View := if chainL0 c then .scalar else .vector

/-- Registers of a lane-wise instruction are usable, the gang partner's among them. -/
def LaneReady (s : State) (x : Slot) (c : Chain) (three readsD : Bool) : Prop :=
  Usable x ([x.reg (laneView c) c.a.toNat, x.reg (laneView c) c.b.toNat] ++ if three then [x.reg (laneView c) c.c.toNat] else [])
    (ownA s x c (x.reg (laneView c) c.b.toNat) ++ (if three then [x.reg (laneView c) c.c.toNat] else []) ++
      (if readsD then [x.reg (laneView c) c.a.toNat] else []) ++ x.maskReg c)
    [x.reg (laneView c) c.a.toNat] ∧
  PartnerUsable s x c (x.reg (laneView c) c.b.toNat)

/-- Lanes of operands a, b and d with the uncorrectable events of reading them. -/
def laneOperands (s : State) (x : Slot) (c : Chain) (three readsD : Bool) : (Nat × List UeEvent) × (Nat × List UeEvent) × (Nat × List UeEvent) :=
  (readB (s.gangPartner s.o.cur x c) x (x.reg (laneView c) c.b.toNat) (chainTy c).width,
   if three then x.readUe (x.reg (laneView c) c.c.toNat) (chainTy c).width else (0, []),
   if readsD then x.readUe (x.reg (laneView c) c.a.toNat) (chainTy c).width else (0, []))

/-- Effect of a lane-wise instruction: the active lanes of d, or in the lane-0 form the scalar d. -/
def laneEffect (e : LaneOp) (s : State) (x : Slot) (c : Chain) : Effect :=
  let ops := laneOperands s x c e.three e.readsD
  let w := (chainTy c).width
  let m := x.lmaskBits c
  let lane := fun i => e.lane (chainTy c) (chainRm c) (elem ops.1.1 i w) (elem ops.2.1.1 i w) (elem ops.2.2.1 i w)
  let ue := activeEvents m (ops.1.2 ++ ops.2.1.2 ++ ops.2.2.2)
  if chainL0 c then
    { writes := scalarResult x c.a.toNat (if m.testBit 0 then (lane 0).1 else x.readReg (x.reg .scalar c.a.toNat))
      flags := if m.testBit 0 then (lane 0).2 else 0
      ue := ue.filter (fun u => u.col == 0) ++ x.lmaskUe c 1
      latency := e.latency }
  else
    { writes := vectorResult x c.a.toNat (laneMap (4096 / w) w m lane).1 (laneBits (4096 / w) w m.testBit)
      flags := (laneMap (4096 / w) w m lane).2
      ue := ue ++ x.lmaskUe c (4096 / w)
      latency := e.latency }

end Sys2Proof.Claims

/-- The lane-wise instructions of pages 1 and 2 complete, in the vector and the lane-0 form, with and without a gang
partner: every active lane of d has the value of the instruction's table (06 R120, R125, R126; 07 R148, R154 to R157). -/
def Obligations.LaneWiseResults : Prop :=
  ∀ e ∈ Claims.laneOps, ∀ (s : State) (x : Slot) (c : Chain),
    Turn s e.op c x → Claims.LaneReady s x c e.three e.readsD →
    exec (e.make c) s = .next (s.took x c (Claims.laneEffect e s x c))

/-- What a lane-wise evaluation gives: element i of the container is the value of lane i, modulo 2^w, where the mask has
bit i set, and 0 elsewhere; the flags are those of the active lanes together (02 R23, R37; 03 R63). -/
def Obligations.LaneElements : Prop :=
  ∀ (n w mask : Nat) (f : Nat → Nat × BitVec 6) (i : Nat), 0 < w →
    elem (laneMap n w mask f).1 i w = (if i < n ∧ mask.testBit i = true then (f i).1 % 2 ^ w else 0) ∧
    (∀ b, b < 6 → ((laneMap n w mask f).2.getLsbD b = true ↔ ∃ j, j < n ∧ mask.testBit j = true ∧ (f j).2.getLsbD b = true)) ∧
    elem (laneBits n w mask.testBit) i w = (if i < n ∧ mask.testBit i = true then 2 ^ w - 1 else 0)

namespace Sys2Proof.Claims

/-- The relation of two lanes as the number of its row: less, equal, greater, unordered (06 R128; 02 R35). -/
def relation (t : Ty) (p r : Nat) : Nat :=
  if t.isInt then (if int t p < int t r then 0 else if int t r < int t p then 2 else 1)
  else match (fdec t p).cmp (fdec t r) with
    | none => 3
    | some z => if z < 0 then 0 else if z = 0 then 1 else 2

end Sys2Proof.Claims

/-- VCMP completes and sets no flag: in the vector form bit i of row k of d says whether lanes i of a and b are in
relation k, bits from N on are 0 and the bits of inactive lanes stay; in the lane-0 form d is two to the relation (06
R128, R129). -/
def Obligations.VectorCompare : Prop :=
  ∀ (s : State) (x : Slot) (c : Chain) (w : Nat), w = (chainTy c).width → Turn s opVcmp c x → Claims.LaneReady s x c true false →
    (chainL0 c = false → ∃ v m ue, exec (.vcmp c) s = .next (s.took x c { writes := vectorResult x c.a.toNat v m, ue := ue }) ∧
      ∀ k i, k < 4 → i < 1024 →
        (m.testBit (1024 * k + i) = (decide (4096 / w ≤ i) || (x.lmaskBits c).testBit i)) ∧
        (m.testBit (1024 * k + i) = true → (v.testBit (1024 * k + i) = (decide (i < 4096 / w) &&
          Claims.relation (chainTy c) (elem (Claims.laneOperands s x c true false).1.1 i w) (elem (Claims.laneOperands s x c true false).2.1.1 i w) == k)))) ∧
    (chainL0 c = true → ∃ ue, exec (.vcmp c) s = .next (s.took x c {
      writes := scalarResult x c.a.toNat (if (x.lmaskBits c).testBit 0 then
          2 ^ Claims.relation (chainTy c) (elem (Claims.laneOperands s x c true false).1.1 0 w) (elem (Claims.laneOperands s x c true false).2.1.1 0 w)
        else x.readReg (x.reg .scalar c.a.toNat))
      ue := ue }))

namespace Sys2Proof.Claims

/-- Sum or product of two lanes in the wider type of 06 R131. -/
def widened (product : Bool) (t : Ty) (rm : RMode) (p r : Nat) : Nat × BitVec 6 :=
  if t.isInt then (((if product then int t p * int t r else int t p + int t r) % 2 ^ (2 * t.width)).toNat, 0)
  else rounded .f32 rm (if product then (fdec t p).mul (fdec t r) else (fdec t p).add rm (fdec t r)) [fdec t p, fdec t r]

/-- One accumulator of VDOT or VDOTS: the addend and the products of the active lanes `ls`, exact, then wrapped or rounded
once (02 R42; 06 R132 to R134).  `sa` and `sb` are the scale rows of the operands. -/
def accumulated (t : Ty) (rm : RMode) (sc : Bool × Bool × Bool) (sa sb : ScaleRow) (old : Nat) (ls : List Nat) (p r : Nat → Nat) : Nat × BitVec 6 :=
  if t.isInt then (((int .i32 old + (ls.map (fun i => int t (p i) * int t (r i))).foldl (fun z y => z + y) 0) % 2 ^ 32).toNat, 0)
  else
    let term := fun i =>
      let u := scaledVal t sa sc.1 sc.2.1 i (p i)
      let v := scaledVal t sb sc.1 sc.2.2 i (r i)
      ((u.1.mul v.1).1, (u.1.mul v.1).2 || u.2 || v.2)
    -- an operand element that a corrupted scale makes +0 is no NaN (02 R30, R46)
    let isNan := fun (row : ScaleRow) (band : Bool) (i x : Nat) =>
      !((band && row.bandBad) || (sc.1 && row.badBlocks.contains (i / 8))) && (fdec t x == .nan || (band && row.band == .nan))
    let nan := fdec .f32 old == .nan || ls.any (fun i => isNan sa sc.2.1 i (p i) || isNan sb sc.2.2 i (r i))
    let z := exactSum rm (fdec .f32 old) (ls.map term)
    roundVal .f32 rm z.1 (z.2 && !nan)

end Sys2Proof.Claims

/-- A scalar result of latency one is in its register and, zero-extended, in lat when the instruction has taken effect;
every register that shares no byte with it keeps its contents, and so do the slot's other fields, the other slots and
the rest of the die; the flags are only added to, and pc goes behind the instruction (03 R61, R66, R67; 02 R36).

A vector result of latency one: lanes under the mask take the new bits, the others keep what d held, and lat is a
copy of d (03 R63 item 1, R67); every register that shares no byte with d keeps its contents.

A result of a latency above one, as DIV has, changes no register yet: it is due at the end of cycle c + 16 times the
latency - 1 (04 R83; 05 R108).

A group of k vector registers after its result: element i of the group, counted in w-bit elements from register d on,
has the new value where it is under the mask and its old one elsewhere, and lat is the container of the first register
(06 R131; 07 R143). -/
def Obligations.ResultsWritten : Prop :=
  (∀ (s : State) (x : Slot) (c : Chain) (d : Nat) (v : Word) (f : BitVec 6),
     x.space ≤ 65536 → (∀ off, (x.reg .scalar d).loc = .main off → off + 8 ≤ x.space) →
     ∃ y, (s.took x c { writes := scalarResult x d v.toNat, flags := f }).slot s.o.cur = some y ∧
       y.readReg (x.reg .scalar d) = v.toNat ∧ y.lat.toNat = v.toNat ∧
       y.flags = x.flags ||| f ∧ y.pc = x.nextPc c ∧ y.status = stallStatus s.t.cycle c.stall.toNat ∧
       (∀ (w : View) (n : Nat), n ≠ 0 → overlaps (x.reg w n).loc w.size (x.reg .scalar d).loc 8 = false →
         y.readReg (x.reg w n) = x.readReg (x.reg w n)) ∧
       ({ y with file := x.file, ofile := x.ofile, lat := x.lat, flags := x.flags, pc := x.pc, status := x.status
                 xlat := x.xlat, results := x.results, ueRegs := x.ueRegs, longer := x.longer } = x) ∧
       (∀ k, k ≠ s.o.cur →
         (s.took x c { writes := scalarResult x d v.toNat, flags := f }).slot k = s.slot k) ∧
       { s.took x c { writes := scalarResult x d v.toNat, flags := f } with slots := s.slots } = s) ∧
  (∀ (s : State) (x : Slot) (c : Chain) (d v m : Nat) (f : BitVec 6),
     x.space ≤ 65536 → (∀ off, (x.reg .vector d).loc = .main off → off + 512 ≤ x.space) → v < 2 ^ 4096 → m < 2 ^ 4096 →
     ∃ y, (s.took x c { writes := vectorResult x d v m, flags := f }).slot s.o.cur = some y ∧
       (∀ i, i < 4096 → (y.readReg (x.reg .vector d)).testBit i =
         if m.testBit i then v.testBit i else (x.readReg (x.reg .vector d)).testBit i) ∧
       y.lat.toNat = y.readReg (x.reg .vector d) ∧
       y.flags = x.flags ||| f ∧ y.pc = x.nextPc c ∧ y.status = stallStatus s.t.cycle c.stall.toNat ∧
       (∀ (w : View) (n : Nat), n ≠ 0 → overlaps (x.reg w n).loc w.size (x.reg .vector d).loc 512 = false →
         y.readReg (x.reg w n) = x.readReg (x.reg w n)) ∧
       { s.took x c { writes := vectorResult x d v m, flags := f } with slots := s.slots } = s) ∧
  (∀ (s : State) (x : Slot) (c : Chain) (e : Effect), 1 < e.latency → e.sfu = none → e.ue = [] →
     ∃ y, (s.took x c e).slot s.o.cur = some y ∧ y.file = x.file ∧ y.ofile = x.ofile ∧ y.lat = x.lat ∧ y.flags = x.flags ∧
       ({ due := s.t.cycle + 16 * e.latency - 1, sfu := false, writes := e.writes, flags := e.flags, ue := [] } : Pending) ∈ y.results) ∧
  (∀ (s : State) (x : Slot) (c : Chain) (d k v m : Nat) (f : BitVec 6),
     x.space ≤ 65536 → 8 ≤ d → 0 < k → (∀ j off, j < k → (x.reg .vector (d + j)).loc = .main off → off + 512 ≤ x.space) →
     ∃ y, (s.took x c { writes := groupResult x d k v m, flags := f }).slot s.o.cur = some y ∧
       (∀ j i, j < k → i < 4096 → (y.readReg (x.reg .vector (d + j))).testBit i =
         if m.testBit (4096 * j + i) then v.testBit (4096 * j + i) else (x.readReg (x.reg .vector (d + j))).testBit i) ∧
       y.lat.toNat = y.readReg (x.reg .vector d) ∧ y.flags = x.flags ||| f)

/-- VADDW and VMULW complete: source lane i gives element i of the two or four registers from d on, twice as wide for an
integer type and f32 for a floating one (06 R131).

VDOT and VDOTS complete: VDOT leaves the sum over all active lanes in 32-bit lane 0 of d and 0 in the others, VDOTS
one sum of 4096 / (128 w) lanes in each of the 128 lanes (06 R132 to R134). -/
def Obligations.WideningAndDotProducts : Prop :=
  (∀ e ∈ ([(.vaddw, opVaddw, false), (.vmulw, opVmulw, true)] : List ((Chain → Instr) × OpInfo × Bool)),
     ∀ (s : State) (x : Slot) (c : Chain) (t : Ty) (wide k : Nat), t = chainTy c →
       wide = (if t.isInt then 2 * t.width else 32) → k = wide / t.width → Turn s e.2.1 c x →
       Usable x (x.regs .vector c.a.toNat k ++ [x.reg .vector c.b.toNat, x.reg .vector c.c.toNat])
         (Claims.ownA s x c (x.reg .vector c.b.toNat) ++ [x.reg .vector c.c.toNat] ++ x.maskReg c) (x.regs .vector c.a.toNat k) →
       PartnerUsable s x c (x.reg .vector c.b.toNat) →
       exec (e.1 c) s = .next (s.took x c (groupEffect x c.a.toNat k (4096 / t.width) wide (x.lmaskBits c)
         (laneMap (4096 / t.width) wide (x.lmaskBits c) (fun i => Claims.widened e.2.2 t (chainRm c)
           (elem (Claims.laneOperands s x c true false).1.1 i t.width) (elem (Claims.laneOperands s x c true false).2.1.1 i t.width)))
         (activeEvents (x.lmaskBits c) ((Claims.laneOperands s x c true false).1.2 ++ (Claims.laneOperands s x c true false).2.1.2) ++
           x.lmaskUe c (4096 / t.width))))) ∧
  (∀ e ∈ ([(.vdot, opVdot, true), (.vdots, opVdots, false)] : List ((Chain → Instr) × OpInfo × Bool)),
     ∀ (s : State) (x : Slot) (c : Chain) (t : Ty) (n a : Nat) (g : Nat → Nat × BitVec 6), t = chainTy c → n = 4096 / t.width → Turn s e.2.1 c x →
       a = (readB (s.gangPartner s.o.cur x c) x (x.reg .vector c.b.toNat) t.width).1 →
       (∀ j, g j = Claims.accumulated t (chainRm c) (dotScales x t) (scaleRow x (x.reg .vector 6)) (scaleRow x (x.reg .vector 7))
         (elem (x.readUe (x.reg .vector c.a.toNat) 32).1 j 32)
         ((if e.2.2 then List.range n else (List.range (n / 128)).map (fun i => j * (n / 128) + i)).filter (fun i => (x.lmaskBits c).testBit i))
         (fun i => elem a i t.width) (fun i => elem (x.readUe (x.reg .vector c.c.toNat) t.width).1 i t.width)) →
       Usable x [x.reg .vector c.a.toNat, x.reg .vector c.b.toNat, x.reg .vector c.c.toNat]
         (Claims.ownA s x c (x.reg .vector c.b.toNat) ++ [x.reg .vector c.c.toNat, x.reg .vector c.a.toNat] ++ x.maskReg c ++
           (if (dotScales x t).2.1 then [x.reg .vector 6] else []) ++ (if (dotScales x t).2.2 then [x.reg .vector 7] else []))
         [x.reg .vector c.a.toNat] →
       PartnerUsable s x c (x.reg .vector c.b.toNat) →
       ∃ z f ue, exec (e.1 c) s = .next (s.took x c { writes := vectorResult x c.a.toNat z (ones 4096), flags := f, ue := ue }) ∧
         (Claims.Clean s x c → ue = []) ∧
         (∀ j, j < 128 → elem z j 32 = if e.2.2 && j != 0 then 0 else (g j).1) ∧
         (∀ b, b < 6 → (f.getLsbD b = true ↔ ∃ j, j < (if e.2.2 then 1 else 128) ∧ (g j).2.getLsbD b = true)))

/-- VCVT, VDEQ, VSCALE and VQUANT complete with the conversions of 02 R33 and 07 R144 to R148. -/
def Obligations.ConversionsComplete : Prop :=
  ∀ (s : State) (x : Slot) (c : Chain) (t dt : Ty) (m : Nat), t = chainTy c → dt = Ty.ofCode c.c.toNat → m = x.lmaskBits c →
    (Turn s opVcvt c x → chainL0 c = true → Usable x [x.reg .scalar c.a.toNat, x.reg .scalar c.b.toNat]
        (x.reg .scalar c.b.toNat :: x.maskReg c) [x.reg .scalar c.a.toNat] →
      ∃ ue, exec (.vcvt c) s = .next (s.took x c (Effect.mk
        (scalarResult x c.a.toNat (if m.testBit 0 then (convertElem t dt (chainRm c) (elem (x.readUe (x.reg .scalar c.b.toNat) t.width).1 0 t.width)).1
          else x.readReg (x.reg .scalar c.a.toNat)))
        (if m.testBit 0 then (convertElem t dt (chainRm c) (elem (x.readUe (x.reg .scalar c.b.toNat) t.width).1 0 t.width)).2 else 0) ue 1 none none))) ∧
    (Turn s opVcvt c x → chainL0 c = false → Usable x (x.regs .vector c.a.toNat (max 1 (dt.width / t.width)) ++ x.regs .vector c.b.toNat (max 1 (t.width / dt.width)))
        (Claims.ownA s x c (x.reg .vector c.b.toNat) ++ (x.regs .vector c.b.toNat (max 1 (t.width / dt.width))).drop 1 ++ x.maskReg c)
        (x.regs .vector c.a.toNat (max 1 (dt.width / t.width))) →
      PartnerUsable s x c (x.reg .vector c.b.toNat) →
      ∃ ue, exec (.vcvt c) s = .next (s.took x c (groupEffect x c.a.toNat (max 1 (dt.width / t.width)) (4096 / min t.width dt.width) dt.width m
        (laneMap (4096 / min t.width dt.width) dt.width m (fun i => convertElem t dt (chainRm c)
          (elem (if t.width ≤ dt.width then readB (s.gangPartner s.o.cur x c) x (x.reg .vector c.b.toNat) t.width
            else readGroup x (x.regs .vector c.b.toNat (t.width / dt.width)) t.width).1 i t.width))) ue))) ∧
    (Turn s opVdeq c x → Usable x (x.regs .vector c.a.toNat (t.width / 4) ++ [x.reg .vector c.b.toNat, x.reg .vector c.c.toNat])
        (Claims.ownA s x c (x.reg .vector c.b.toNat) ++ [x.reg .vector c.c.toNat] ++ x.maskReg c) (x.regs .vector c.a.toNat (t.width / 4)) →
      PartnerUsable s x c (x.reg .vector c.b.toNat) →
      ∃ ue, exec (.vdeq c) s = .next (s.took x c (groupEffect x c.a.toNat (t.width / 4) 1024 t.width m
        (laneMap 1024 t.width m (fun i => Claims.rounded t (chainRm c)
          (scaledVal .f4 (scaleRow x (x.reg .vector c.c.toNat)) true true i (elem (readB (s.gangPartner s.o.cur x c) x (x.reg .vector c.b.toNat) 4).1 i 4))
          [(scaleRow x (x.reg .vector c.c.toNat)).band])) ue))) ∧
    (Turn s opVscale c x → Claims.LaneReady s x c true false →
      ∃ ue, exec (.vscale c) s = .next (s.took x c { Claims.laneEffect (Claims.LaneOp.mk .vscale opVscale true false 1 (fun t rm p r _ =>
        scaleLane t rm p (if chainL0 c then (x.operand c.c.toNat).toInt else (BitVec.ofNat t.width r).toInt))) s x c with ue := ue })) ∧
    (Turn s opVquant c x → Usable x (x.regs .vector c.a.toNat 2 ++ x.regs .vector c.b.toNat (t.width / 4) ++ [x.reg .scalar c.c.toNat])
        (x.reg .scalar c.c.toNat :: x.regs .vector c.b.toNat (t.width / 4)) (x.regs .vector c.a.toNat 2) →
      exec (.vquant c) s = .next (s.took x c (Effect.mk
        (groupResult x c.a.toNat 2 ((quantize t (chainRm c) (elem (x.operand c.c.toNat).toNat 0 t.width) (fun i => elem (readGroup x (x.regs .vector c.b.toNat (t.width / 4)) t.width).1 i t.width)).1 |||
          ((quantize t (chainRm c) (elem (x.operand c.c.toNat).toNat 0 t.width) (fun i => elem (readGroup x (x.regs .vector c.b.toNat (t.width / 4)) t.width).1 i t.width)).2.1 <<< 4096)) (ones 8192))
        (quantize t (chainRm c) (elem (x.operand c.c.toNat).toNat 0 t.width) (fun i => elem (readGroup x (x.regs .vector c.b.toNat (t.width / 4)) t.width).1 i t.width)).2.2
        ((readGroup x (x.regs .vector c.b.toNat (t.width / 4)) t.width).2 ++ x.operandUe c.c.toNat) 1 none none)))

/-- VBCAST, VINS, VEXTR and VSEL complete with the lanes of 06 R127 and R130.

VPERM, VSHUF, VZIP, VUNZIP and VROTL complete with the lanes of 07 R149 to R151. -/
def Obligations.LaneMovesAndPermutations : Prop :=
  (∀ (s : State) (x : Slot) (c : Chain) (w n j m : Nat), w = (chainTy c).width → n = 4096 / w → m = x.lmaskBits c →
     j = (x.operand c.c.toNat).toNat % n →
     (Turn s opVbcast c x → Usable x [x.reg .vector c.a.toNat, x.reg .scalar c.b.toNat] (x.reg .scalar c.b.toNat :: x.maskReg c) [x.reg .vector c.a.toNat] →
       exec (.vbcast c) s = .next (s.took x c {
         writes := vectorResult x c.a.toNat (ofLanes n w (fun _ => (x.operand c.b.toNat).toNat)) (laneBits n w m.testBit)
         ue := x.operandUe c.b.toNat ++ x.lmaskUe c n })) ∧
     (Turn s opVins c x → Usable x [x.reg .vector c.a.toNat, x.reg .scalar c.b.toNat, x.reg .scalar c.c.toNat]
         ([x.reg .scalar c.b.toNat, x.reg .scalar c.c.toNat, x.reg .vector c.a.toNat] ++ x.maskReg c) [x.reg .vector c.a.toNat] →
       exec (.vins c) s = .next (s.took x c {
         writes := vectorResult x c.a.toNat (if m.testBit j then setBits ((j + 1) * w - 1) (j * w) (x.readUe (x.reg .vector c.a.toNat) w).1 (x.operand c.b.toNat).toNat
           else (x.readUe (x.reg .vector c.a.toNat) w).1) (ones 4096)
         ue := x.operandUe c.b.toNat ++ x.operandUe c.c.toNat ++ (x.readUe (x.reg .vector c.a.toNat) w).2 ++ x.lmaskUe c n })) ∧
     (Turn s opVextr c x → Usable x [x.reg .scalar c.a.toNat, x.reg .vector c.b.toNat, x.reg .scalar c.c.toNat]
         (Claims.ownA s x c (x.reg .vector c.b.toNat) ++ [x.reg .scalar c.c.toNat]) [x.reg .scalar c.a.toNat] →
       PartnerUsable s x c (x.reg .vector c.b.toNat) →
       exec (.vextr c) s = .next (s.took x c {
         writes := scalarResult x c.a.toNat (BitVec.ofInt 64 (Claims.int (chainTy c) (elem (readB (s.gangPartner s.o.cur x c) x (x.reg .vector c.b.toNat) w).1 j w))).toNat
         ue := (readB (s.gangPartner s.o.cur x c) x (x.reg .vector c.b.toNat) w).2.filter (fun u => u.col == j) ++ x.operandUe c.c.toNat })) ∧
     (Turn s opVsel c x → Usable x [x.reg .vector c.a.toNat, x.reg .vector c.b.toNat, x.reg .vector c.c.toNat]
         (Claims.ownA s x c (x.reg .vector c.b.toNat) ++ [x.reg .vector c.c.toNat] ++ x.maskReg c) [x.reg .vector c.a.toNat] →
       PartnerUsable s x c (x.reg .vector c.b.toNat) →
       ∃ z ue, exec (.vsel c) s = .next (s.took x c { writes := vectorResult x c.a.toNat z (ones 4096), ue := ue }) ∧
         ∀ i, i < n → elem z i w = if m.testBit i then elem (readB (s.gangPartner s.o.cur x c) x (x.reg .vector c.b.toNat) w).1 i w
           else elem (x.readUe (x.reg .vector c.c.toNat) w).1 i w)) ∧
  (∀ (s : State) (x : Slot) (c : Chain) (w n a b m : Nat), w = (chainTy c).width → n = 4096 / w → m = x.lmaskBits c →
     a = (readB (s.gangPartner s.o.cur x c) x (x.reg .vector c.b.toNat) w).1 → b = (x.readUe (x.reg .vector c.c.toNat) w).1 →
     PartnerUsable s x c (x.reg .vector c.b.toNat) →
     (Turn s opVperm c x → Claims.LaneReady s x c true false →
       ∃ ue, exec (.vperm c) s = .next (s.took x c (Effect.mk (vectorResult x c.a.toNat
         (ofLanes n w (fun i => elem a (elem b i w % n) w)) (laneBits n w m.testBit)) 0 ue 1 none none)) ∧ (Claims.Clean s x c → ue = [])) ∧
     (Turn s opVshuf c x → Claims.LaneReady s x c true true →
       ∃ ue, exec (.vshuf c) s = .next (s.took x c (Effect.mk (vectorResult x c.a.toNat
         (ofLanes n w (fun i => elem (a + b * 2 ^ 4096) (elem (x.readUe (x.reg .vector c.a.toNat) w).1 i w % (2 * n)) w)) (laneBits n w m.testBit)) 0 ue 1 none none)) ∧
         (Claims.Clean s x c → ue = [])) ∧
     (Turn s opVrotl c x → Usable x [x.reg .vector c.a.toNat, x.reg .vector c.b.toNat, x.reg .scalar c.c.toNat]
         (Claims.ownA s x c (x.reg .vector c.b.toNat) ++ [x.reg .scalar c.c.toNat] ++ x.maskReg c) [x.reg .vector c.a.toNat] →
       ∃ ue, exec (.vrotl c) s = .next (s.took x c (Effect.mk (vectorResult x c.a.toNat
         (ofLanes n w (fun i => elem a ((i + (x.operand c.c.toNat).toNat) % n) w)) (laneBits n w m.testBit)) 0 ue 1 none none)) ∧ (Claims.Clean s x c → ue = [])) ∧
     (∀ e ∈ ([(.vzip, opVzip, true), (.vunzip, opVunzip, false)] : List ((Chain → Instr) × OpInfo × Bool)),
       Turn s e.2.1 c x → Usable x (x.regs .vector c.a.toNat 2 ++ [x.reg .vector c.b.toNat, x.reg .vector c.c.toNat])
         (Claims.ownA s x c (x.reg .vector c.b.toNat) ++ [x.reg .vector c.c.toNat] ++ x.maskReg c) (x.regs .vector c.a.toNat 2) →
       ∃ z q ue, exec (e.1 c) s = .next (s.took x c (Effect.mk (groupResult x c.a.toNat 2 z q) 0 ue 1 none none)) ∧ (Claims.Clean s x c → ue = []) ∧
         ∀ i, i < n →
           (m.testBit i = true →
             (if e.2.2 then elem z (2 * i) w = elem a i w ∧ elem z (2 * i + 1) w = elem b i w
              else elem z i w = elem (a + b * 2 ^ 4096) (2 * i) w ∧ elem z (n + i) w = elem (a + b * 2 ^ 4096) (2 * i + 1) w)) ∧
           (∀ j, j = (if e.2.2 then 2 * i else i) ∨ j = (if e.2.2 then 2 * i + 1 else n + i) →
             elem q j w = if m.testBit i then 2 ^ w - 1 else 0)))

namespace Sys2Proof.Claims

/-- Least and greatest number of an integer type. -/
def least (t : Ty) : Int := if t.signed then -(2 ^ (t.width - 1)) else 0
def greatest (t : Ty) : Int := if t.signed then 2 ^ (t.width - 1) - 1 else 2 ^ t.width - 1

/-- The selections of 07 R152 other than .add, over a list of codes, as VRED writes them (R153). -/
def selected (sel : Nat) (t : Ty) (xs : List Nat) : Nat :=
  if sel = 1 ∧ t.isInt = true then (BitVec.ofInt 64 ((xs.map (int t)).foldl min (greatest t))).toNat
  else if sel = 2 ∧ t.isInt = true then (BitVec.ofInt 64 ((xs.map (int t)).foldl max (least t))).toNat
  else if sel = 1 ∨ sel = 2 then
    if xs ≠ [] ∧ xs.all (fun x => fdec t x == .nan) = true then t.nan else xs.foldl (fminmax t (sel == 2)) (infCode t (sel == 2))
  else if sel = 3 then xs.foldl (fun z x => match fdec t x with | .fin _ _ _ => max z (x % 2 ^ (t.width - 1)) | _ => z) 0
  else if sel = 4 then xs.foldl (fun z x => z &&& x) (2 ^ t.width - 1)
  else if sel = 5 then xs.foldl (fun z x => z ||| x) 0
  else xs.foldl (fun z x => z ^^^ x) 0

/-- The sum of integer codes. -/
def total (t : Ty) (xs : List Nat) : Int := (xs.map (int t)).foldl (fun z y => z + y) 0

end Sys2Proof.Claims

/-- VRED and VSCAN complete with the reduction over the active lanes and over their prefixes (07 R152, R153). -/
def Obligations.ReductionsComplete : Prop :=
  ∀ (s : State) (x : Slot) (c : Chain) (t : Ty) (n m sel : Nat) (el : Nat → Nat) (ue : List UeEvent), t = chainTy c → n = 4096 / t.width →
    m = x.lmaskBits c → sel = c.c.toNat % 8 → (∀ i, el i = elem (x.readUe (x.reg .vector c.b.toNat) t.width).1 i t.width) →
    ue = activeEvents m (x.readUe (x.reg .vector c.b.toNat) t.width).2 ++ x.lmaskUe c n →
    (Turn s opVred c x → Usable x [x.reg .scalar c.a.toNat, x.reg .vector c.b.toNat] (x.reg .vector c.b.toNat :: x.maskReg c) [x.reg .scalar c.a.toNat] →
      ∀ xs, xs = ((List.range n).filter (fun i => m.testBit i)).map el →
      exec (.vred c) s = .next (s.took x c (Effect.mk
        (scalarResult x c.a.toNat (if sel ≠ 0 then Claims.selected sel t xs
          else if t.isInt then (Claims.total t xs % 2 ^ 64).toNat
          else (roundVal .f32 (chainRm c) (floatSum t (chainRm c) xs).1 (floatSum t (chainRm c) xs).2).1))
        (if sel ≠ 0 ∨ t.isInt = true then 0 else (roundVal .f32 (chainRm c) (floatSum t (chainRm c) xs).1 (floatSum t (chainRm c) xs).2).2)
        ue 1 none none))) ∧
    (Turn s opVscan c x → Usable x [x.reg .vector c.a.toNat, x.reg .vector c.b.toNat] (x.reg .vector c.b.toNat :: x.maskReg c) [x.reg .vector c.a.toNat] →
      ∀ (xs : Nat → List Nat) (z : Nat × BitVec 6),
      (∀ i, xs i = ((List.range (if c.c.toNat.testBit 3 then i else i + 1)).filter (fun j => m.testBit j)).map el) →
      z = laneMap n t.width m (fun i => if sel ≠ 0 then (Claims.selected sel t (xs i) % 2 ^ t.width, 0)
        else if t.isInt then Claims.wrapped t (Claims.total t (xs i))
        else roundVal t (chainRm c) (floatSum t (chainRm c) (xs i)).1 (floatSum t (chainRm c) (xs i)).2) →
      exec (.vscan c) s = .next (s.took x c (Effect.mk (vectorResult x c.a.toNat z.1 (laneBits n t.width m.testBit)) z.2 ue 1 none none)))

/-! ### Memory as a slot reaches it (06 R135 to R139; 08; 09) -/

namespace Sys2Proof.Claims

/-- A memory instruction is not held at issue: no acquire of the slot is outstanding, and there is room for a deposit (09
R186; 18 R360). -/
def Unheld (s : State) (x : Slot) : Prop :=
  x.acqHold = [] ∧ (s.deps.filter (fun (p : Nat × Dep) => p.2.sid == s.o.cur && p.2.len != 0)).length < 512

/-- A virtual address is translated for the slot, by the walk that the instruction itself has made or by a TLB of its core (06
R135 item 2; 08 R169). -/
def Translated (s : State) (x : Slot) (va : Nat) (leaf : Word) : Prop :=
  (∃ e, x.xlat.find? (fun e => e.vpn == va / 4096) = some e ∧ e.fault = none ∧ e.leaf = leaf) ∨
  (x.xlat.find? (fun e => e.vpn == va / 4096) = none ∧ s.tlbFind (s.coreTlbs (s.o.cur / 16) va) x.ctx va = some leaf)

/-- The die after an access has found its pages: the TLBs nearer to the core hold them too (08 R169). -/
def found (s : State) (x : Slot) (ls : List Located) : State :=
  ls.foldl (fun s q => s.tlbTouch x.ctx q.l.va (s.coreTlbs (s.o.cur / 16) q.l.va)) s

/-- Every lane of an access is aligned, translated, permitted and not watched; `ls` are the lanes with their physical
addresses and leaves (06 R135 items 1 to 3; 08 R161, R166; 21 R417). -/
structure Reaches (s : State) (x : Slot) (a : Access) (align : Nat) (lanes : List Lane) (ls : List Located) : Prop where
  same : ls.map Located.l = lanes
  aligned : ∀ q ∈ lanes, q.va % align = 0
  translated : ∀ q ∈ ls, Translated s x q.l.va q.leaf ∧ q.pa = leafPa q.leaf q.l.va
  permitted : ∀ q ∈ ls, s.checkLeaf q.leaf (!x.sup) true a q.pa = .ok
  unwatched : s.watchHit x.ctx a lanes = none

/-- Width in bytes of WD (09 R188). -/
def width (wd : Nat) : Nat := 8 / 2 ^ (wd % 4)

/-- Sign extension of WD to 64 bits. -/
def extended (wd v : Nat) : Nat := if 4 < wd then (BitVec.ofInt 64 (BitVec.ofNat (8 * width wd) v).toInt).toNat else v

/-- Address of a scalar access (09 R189). -/
def address (x : Slot) (c : Chain) : Nat := (x.operand c.b.toNat + BitVec.ofInt 64 c.imm).toNat

/-- A slot behind a memory instruction: events of its sources captured, pc advanced, stall count counted. -/
def left (s : State) (x y : Slot) (c : Chain) (ue : List UeEvent) : Slot :=
  { (y.captureAll ue) with
    pc := after x c
    status := stallStatus s.t.cycle c.stall.toNat
    xlat := [] }

/-- The die after a load has left: its pages have been found, and the requests are on their way. -/
def loading (s : State) (x : Slot) (c : Chain) (k : Kind) (vector : Bool) (d : Reg) (mask : Nat) (sx : Option Nat) (ls : List Located)
    (ue : List UeEvent) : State :=
  let r := (found s x ls).sendLoad s.o.cur x k vector d mask sx ls
  r.1.setSlot s.o.cur (left s x r.2 c ue)

/-- The die after a store has left. -/
def storing (s : State) (x : Slot) (c : Chain) (k : Kind) (vector : Bool) (data : Nat) (ls : List Located) (ue : List UeEvent) : State :=
  ((found s x ls).sendStore s.o.cur x k vector data ls).setSlot s.o.cur (left s x x c ue)

/-- Lanes of a vector access: number, address, bytes and place of the bits of every active lane (06 R135, R136). -/
def lanes (w mask : Nat) (ea : Nat → Word) : List Lane :=
  ((List.range (4096 / w)).filter (fun i => mask.testBit i)).map (fun i =>
    { lane := i, va := (ea i).toNat, len := (w + 7) / 8, bit := i * w, bits := w, high := w == 4 && i % 2 == 1 })

/-- Base of a vector access. -/
def base (x : Slot) (c : Chain) : Word := x.operand c.b.toNat + BitVec.ofInt 64 c.imm

/-- The further operand of a vector access, as its register and as a number. -/
def third (x : Slot) (c : Chain) (kind : Nat) : List Reg :=
  if kind = 0 then [] else if kind = 1 then [x.reg .vector c.c.toNat] else [x.reg .scalar c.c.toNat]

/-- Address of lane i: contiguous (kind 0, R136), by the 32-bit signed index in lane i of b (kind 1, R138), or by the stride
b (kind 2, R139). -/
def laneAddress (x : Slot) (c : Chain) (kind i : Nat) : Word :=
  if kind = 0 then base x c + BitVec.ofNat 64 (i * (chainTy c).width / 8)
  else if kind = 1 then
    base x c + BitVec.ofInt 64 ((BitVec.ofNat 32 (elem (x.readUe (x.reg .vector c.c.toNat) 32).1 i 32)).toInt * ((chainTy c).width / 8 : Nat))
  else base x c + BitVec.ofNat 64 i * x.operand c.c.toNat

/-- Events of reading the further operand: of an index, those of the lanes that are active. -/
def thirdUe (x : Slot) (c : Chain) (kind : Nat) : List UeEvent :=
  if kind = 0 then [] else if kind = 1 then activeEvents (x.lmaskBits c) (x.readUe (x.reg .vector c.c.toNat) 32).2 else x.operandUe c.c.toNat

/-- A request that was on its way is as it was, but that the line a load brings may not be installed (09 R175). -/
def Kept (a b : Option Msg) : Prop :=
  b = a ∨ ∃ m ps f, a = some m ∧ m.op = .load ps f ∧ b = some { m with noFill := true }

end Sys2Proof.Claims

/-- LDL, STL, VLDL and VSTL inside the core's local limits complete: a load gives the bytes at the address, an uncorrectable
lane 0; a store leaves the data there and every other nibble as it was (06 R137; 09 R190). -/
def Obligations.LocalMemoryInstructions : Prop :=
  ∀ (s : State) (x : Slot) (c : Chain) (k : CoreSt) (wd ea : Nat), k = s.core (s.o.cur / 16) → wd = c.mod.toNat % 8 → x.acqHold = [] →
    ea = Claims.address x c →
    (ea % Claims.width wd = 0 → k.xbound ≤ ea → ea + Claims.width wd ≤ k.ltop →
      (Turn s opLdl c x → Usable x [x.reg .scalar c.a.toNat, x.reg .scalar c.b.toNat] [x.reg .scalar c.b.toNat] [x.reg .scalar c.a.toNat] →
        marked k.ueLoc ea (Claims.width wd) = false →
        exec (.ldl c) s = .next (s.took x c {
          writes := scalarResult x c.a.toNat (Claims.extended wd (k.loc.readN ea (Claims.width wd)))
          ue := x.operandUe c.b.toNat })) ∧
      (Turn s opStl c x → Usable x [x.reg .scalar c.a.toNat, x.reg .scalar c.b.toNat] [x.reg .scalar c.a.toNat, x.reg .scalar c.b.toNat] [] →
        exec (.stl c) s = .next ((s.locWrite (s.o.cur / 16) ea (bytesOf (Claims.width wd) (x.operand c.a.toNat).toNat)).took x c {
          ue := x.operandUe c.b.toNat ++ x.operandUe c.a.toNat }))) ∧
    (∀ w m, w = (chainTy c).width → m = x.lmaskBits c →
      (∀ i, i < 4096 / w → m.testBit i = true → (Claims.laneAddress x c 0 i).toNat % ((w + 7) / 8) = 0 ∧
        k.xbound ≤ (Claims.laneAddress x c 0 i).toNat ∧ (Claims.laneAddress x c 0 i).toNat + (w + 7) / 8 ≤ k.ltop) →
      (Turn s opVldl c x → Usable x [x.reg .vector c.a.toNat, x.reg .scalar c.b.toNat] (x.reg .scalar c.b.toNat :: x.maskReg c) [x.reg .vector c.a.toNat] →
        ∃ v ue, exec (.vldl c) s = .next (s.took x c {
            writes := vectorResult x c.a.toNat v (laneBits (4096 / w) w m.testBit)
            ue := x.operandUe c.b.toNat ++ ue }) ∧
          ∀ i, i < 4096 / w → m.testBit i = true →
            elem v i w = if marked k.ueLoc (Claims.laneAddress x c 0 i).toNat ((w + 7) / 8) then 0
              else k.loc.readN (Claims.laneAddress x c 0 i).toNat ((w + 7) / 8) / (if w = 4 ∧ i % 2 = 1 then 16 else 1) % 2 ^ w) ∧
      (Turn s opVstl c x → Usable x [x.reg .vector c.a.toNat, x.reg .scalar c.b.toNat]
          ([x.reg .vector c.a.toNat, x.reg .scalar c.b.toNat] ++ x.maskReg c) [] →
        ∃ t : State, exec (.vstl c) s = .next (t.took x c {
            ue := x.operandUe c.b.toNat ++ activeEvents m (x.readUe (x.reg .vector c.a.toNat) w).2 ++ x.lmaskUe c (4096 / w) }) ∧
          (∀ b h, b < 2 ^ 64 → h < 2 → ((t.core (s.o.cur / 16)).loc.read b).toNat / 16 ^ h % 16 =
            let o := (b + 2 ^ 64 - (Claims.base x c).toNat) % 2 ^ 64
            if o < 512 ∧ m.testBit ((8 * o + 4 * h) / w) = true then (x.readUe (x.reg .vector c.a.toNat) w).1 / 2 ^ (8 * o + 4 * h) % 16
            else (k.loc.read b).toNat / 16 ^ h % 16) ∧
          { t with cores := s.cores } = s ∧ ∀ i, i ≠ s.o.cur / 16 → t.core i = s.core i))

/-- LD, ST and the vector loads and stores complete when their lanes are reachable: the slot goes on behind the instruction,
and the loads and stores of the lanes are on their way; address, width, order and scope are those of the instruction's
fields (06 R135 to R139; 09 R186 to R189). -/
def Obligations.LoadsAndStoresLeave : Prop :=
  ∀ (s : State) (x : Slot) (c : Chain) (m : Nat) (q : Located) (ls : List Located), m = c.mod.toNat → Claims.Unheld s x →
    (Turn s opLd c x → Usable x [x.reg .scalar c.a.toNat, x.reg .scalar c.b.toNat] [x.reg .scalar c.b.toNat] [x.reg .scalar c.a.toNat] →
      Claims.Reaches s x .load (Claims.width (m % 8)) [scalarLane (Claims.address x c) (Claims.width (m % 8))] [q] →
      exec (.ld c) s = .next (Claims.loading s x c
        (Kind.mk (m / 16 % 4 != 0) (m / 16 % 4 == 2) false (m.testBit 6) (m.testBit 3)) false (x.reg .scalar c.a.toNat) (ones 64)
        (if 4 < m % 8 then some (8 * Claims.width (m % 8)) else none) [q] (x.operandUe c.b.toNat))) ∧
    (Turn s opSt c x → Usable x [x.reg .scalar c.a.toNat, x.reg .scalar c.b.toNat] [x.reg .scalar c.a.toNat, x.reg .scalar c.b.toNat] [] →
      Claims.Reaches s x .store (Claims.width (m % 8)) [scalarLane (Claims.address x c) (Claims.width (m % 8))] [q] →
      exec (.st c) s = .next (Claims.storing s x c
        (Kind.mk (m / 16 % 4 != 0) false (m / 16 % 4 == 2) (m.testBit 6) false) false (x.operand c.a.toNat).toNat [q]
        (x.operandUe c.b.toNat ++ x.operandUe c.a.toNat))) ∧
    (∀ e ∈ ([(.vld, opVld, 0), (.vgath, opVgath, 1), (.vlds, opVlds, 2)] : List ((Chain → Instr) × OpInfo × Nat)), ∀ w, w = (chainTy c).width →
      Turn s e.2.1 c x → Usable x ([x.reg .vector c.a.toNat, x.reg .scalar c.b.toNat] ++ Claims.third x c e.2.2)
        ([x.reg .scalar c.b.toNat] ++ Claims.third x c e.2.2 ++ x.maskReg c) [x.reg .vector c.a.toNat] →
      Claims.Reaches s x .load ((w + 7) / 8) (Claims.lanes w (x.lmaskBits c) (Claims.laneAddress x c e.2.2)) ls →
      exec (e.1 c) s = .next (Claims.loading s x c {} true (x.reg .vector c.a.toNat) (laneBits (4096 / w) w (x.lmaskBits c).testBit) none ls
        (x.operandUe c.b.toNat ++ Claims.thirdUe x c e.2.2 ++ x.lmaskUe c (4096 / w)))) ∧
    (∀ e ∈ ([(.vst, opVst, 0), (.vscat, opVscat, 1), (.vsts, opVsts, 2)] : List ((Chain → Instr) × OpInfo × Nat)), ∀ w, w = (chainTy c).width →
      Turn s e.2.1 c x → Usable x ([x.reg .vector c.a.toNat, x.reg .scalar c.b.toNat] ++ Claims.third x c e.2.2)
        ([x.reg .vector c.a.toNat, x.reg .scalar c.b.toNat] ++ Claims.third x c e.2.2 ++ x.maskReg c) [] →
      Claims.Reaches s x .store ((w + 7) / 8) (Claims.lanes w (x.lmaskBits c) (Claims.laneAddress x c e.2.2)) ls →
      exec (e.1 c) s = .next (Claims.storing s x c {} true (x.readUe (x.reg .vector c.a.toNat) w).1 ls
        (x.operandUe c.b.toNat ++ Claims.thirdUe x c e.2.2 ++ activeEvents (x.lmaskBits c) (x.readUe (x.reg .vector c.a.toNat) w).2 ++
          x.lmaskUe c (4096 / w))))

/-- What leaves with a load: one deposit for the destination, which is empty until then, and requests that hold every lane
that the L1 does not serve; memory, local memory and the slots are as they were, and so is every earlier request (04 R88;
06 R135 items 5 and 6; 09 R173, R186).

What leaves with a store: requests that hold every lane with its bits of the data; nothing is in memory yet, the core's L1
holds no line with a stored byte, and earlier requests are as they were (06 R135 items 4 and 8; 09 R175, R186). -/
def Obligations.AccessesAreRequested : Prop :=
  (∀ (s : State) (sid : Nat) (x : Slot) (k : Kind) (vector : Bool) (d : Reg) (mask : Nat) (sx : Option Nat) (ls : List Located),
     ∀ (t : State) (y : Slot), s.sendLoad sid x k vector d mask sx ls = (t, y) →
     (∃ z, kget t.deps s.o.nextId = some z ∧ z.sid = sid ∧ z.dst = d.loc ∧ z.len = d.size ∧ z.mask = mask ∧ z.sx = sx ∧
       z.acq = (k.acquire || ls.any (fun q => leafE q.leaf)) ∧ z.isLoad = true ∧ z.nack = none ∧ z.fault = none ∧
       (((s.core (sid / 16)).l1 = [] ∨ k.ordered = true ∨ k.byp = true) → z.value = 0 ∧ z.outstanding = (requestGroups ls).length)) ∧
     (((s.core (sid / 16)).l1 = [] ∨ k.ordered = true ∨ k.byp = true) → ∀ q ∈ ls,
       ∃ r m, s.o.nextId < r ∧ kget t.msgs r = some m ∧ m.sid = some sid ∧ m.dep = some s.o.nextId ∧ m.isLoad = true ∧ m.ordered = k.ordered ∧
         m.rel = k.release ∧ m.port.isSome = true ∧
         (m.op = .pop q.pa true false ∨ ∃ ps fill, m.op = .load ps fill ∧ q.piece (s.readPa x.ctx q.pa q.leaf) ∈ ps)) ∧
     (∀ r, r < s.o.nextId → Claims.Kept (kget s.msgs r) (kget t.msgs r) ∧ kget t.deps r = kget s.deps r) ∧
     t.mem = s.mem ∧ t.ueMem = s.ueMem ∧ t.slots = s.slots ∧ (∀ i, (t.core i).loc = (s.core i).loc) ∧
     y = { (x.markEmpty d.loc d.size) with acqHold := if k.acquire || ls.any readsPointer then x.acqHold ++ [s.o.nextId] else x.acqHold }) ∧
  (∀ (s : State) (sid : Nat) (x : Slot) (k : Kind) (vector : Bool) (data : Nat) (ls : List Located),
     ∀ t : State, t = s.sendStore sid x k vector data ls →
     (∀ q ∈ ls, ∃ r m, s.o.nextId < r ∧ kget t.msgs r = some m ∧ m.sid = some sid ∧ m.isStore = true ∧ m.isLoad = false ∧ m.ordered = k.ordered ∧
       (k.release = true → m.rel = true) ∧ (k.fab = true → m.fab = true) ∧ m.port.isSome = true ∧
       (m.op = .push q.pa (BitVec.ofNat 64 ((data >>> q.l.bit) % 2 ^ 64)) ∨ ∃ ps, m.op = .store ps data ∧ q.piece q.pa ∈ ps)) ∧
     (∀ r, r < s.o.nextId → Claims.Kept (kget s.msgs r) (kget t.msgs r)) ∧
     t.mem = s.mem ∧ t.ueMem = s.ueMem ∧ t.slots = s.slots ∧ (∀ i, (t.core i).loc = (s.core i).loc) ∧
     ∀ line ∈ (t.core (sid / 16)).l1, ∀ q ∈ ls, meet [(line.line * 32, 32)] [(q.pa, q.l.len)] = false)

/-- AMO and CAS on a reachable 4- or 8-byte place outside the apertures complete: the destination is empty, a deposit awaits
the old value, and one request carries the operation, the operand and what CAS expects, ordered at fabric scope; memory is
as it was.  FENCE completes when nothing that it waits for is outstanding, and at once without a scope, and else stays (09
R186, R191 to R193). -/
def Obligations.AtomicsAndFences : Prop :=
  ∀ (s : State) (x : Slot) (c : Chain) (m w : Nat) (q : Located), m = c.mod.toNat → w = (if m.testBit 4 then 4 else 8) → Claims.Unheld s x →
    (∀ cas : Bool, Turn s (if cas then opCas else opAmo) c x →
      Usable x [x.reg .scalar c.a.toNat, x.reg .scalar c.b.toNat, x.reg .scalar c.c.toNat]
        ([x.reg .scalar c.b.toNat, x.reg .scalar c.c.toNat] ++ if cas then [x.reg .scalar c.a.toNat] else []) [x.reg .scalar c.a.toNat] →
      Claims.Reaches s x .atomic w [scalarLane (Claims.address x c) w] [q] → leafE q.leaf = false →
      ∃ t y z n, exec (if cas then .cas c else .amo c) s = .next t ∧ t.slot s.o.cur = some y ∧
        y = Claims.left s x { (x.markEmpty (x.reg .scalar c.a.toNat).loc 8) with
              acqHold := if (m / 32).testBit 0 then [s.o.nextId] else [] } c
            (x.operandUe c.b.toNat ++ x.operandUe c.c.toNat ++ if cas then x.operandUe c.a.toNat else []) ∧
        kget t.deps s.o.nextId = some z ∧ z.sid = s.o.cur ∧ z.dst = (x.reg .scalar c.a.toNat).loc ∧ z.len = 8 ∧ z.mask = 2 ^ 64 - 1 ∧ z.outstanding = 1 ∧
        kget t.msgs (s.o.nextId + 1) = some n ∧ n.dep = some s.o.nextId ∧ n.pa = q.pa ∧ n.rel = (m / 32).testBit 1 ∧ n.ordered = true ∧ n.fab = true ∧
        n.op = .amo (if cas then .cas ((x.operand c.a.toNat).toNat % 2 ^ (8 * w))
          else ([.add, .and, .or, .xor, .min, .max, .minn, .maxn, .swap][m % 16]?).getD .swap) w ((x.operand c.c.toNat).toNat % 2 ^ (8 * w)) ∧
        t.mem = s.mem ∧ (∀ i, (t.core i).loc = (s.core i).loc) ∧ (∀ k, k ≠ s.o.cur → t.slot k = s.slot k) ∧
        ∀ r, r < s.o.nextId → Claims.Kept (kget s.msgs r) (kget t.msgs r)) ∧
    (Turn s opFence c x → ∀ (kind : Nat) (t : State), kind = m / 8 % 4 → t = (if m % 8 ≠ 0 ∧ kind ≠ 2 then s.dropWritable (s.o.cur / 16) else s) →
      ((m % 8 = 0 ∨ s.fenceWaits s.o.cur kind (m % 8) = false) → exec (.fence c) s = .next (t.took x c {})) ∧
      (m % 8 ≠ 0 → s.fenceWaits s.o.cur kind (m % 8) = true →
        exec (.fence c) s = .next (t.setSlot s.o.cur { x with status := .stalled .fence })))

/-- Accesses that trap and have no other effect: a misaligned LD, ST, AMO or CAS traps
ALIGN, and a misaligned or out-of-range LDL or STL traps ALIGN or PROT, with the address as k.tval (06 R135 items 2 and 3; 09
R189, R190). -/
def Obligations.AccessesTrap : Prop :=
  ∀ (s : State) (x : Slot) (c : Chain) (wd w ea : Nat), wd = c.mod.toNat % 8 → w = (if c.mod.toNat.testBit 4 then 4 else 8) → Claims.Unheld s x →
    ea = Claims.address x c →
    (∀ e ∈ ([(.ld, opLd, Claims.width wd, [], [x.reg .scalar c.a.toNat]), (.st, opSt, Claims.width wd, [x.reg .scalar c.a.toNat], []),
        (.amo, opAmo, w, [x.reg .scalar c.c.toNat], [x.reg .scalar c.a.toNat]),
        (.cas, opCas, w, [x.reg .scalar c.c.toNat, x.reg .scalar c.a.toNat], [x.reg .scalar c.a.toNat])] :
          List ((Chain → Instr) × OpInfo × Nat × List Reg × List Reg)),
      Turn s e.2.1 c x → Usable x (x.reg .scalar c.b.toNat :: (e.2.2.2.1 ++ e.2.2.2.2)) (x.reg .scalar c.b.toNat :: e.2.2.2.1) e.2.2.2.2 →
      ea % e.2.2.1 ≠ 0 → exec (e.1 c) s = .next (s.takeTrap s.o.cur x .align (BitVec.ofNat 64 ea) false)) ∧
    (∀ e ∈ ([(.ldl, opLdl, [], [x.reg .scalar c.a.toNat]), (.stl, opStl, [x.reg .scalar c.a.toNat], [])] :
          List ((Chain → Instr) × OpInfo × List Reg × List Reg)), ∀ k, k = s.core (s.o.cur / 16) →
      Turn s e.2.1 c x → Usable x (x.reg .scalar c.b.toNat :: (e.2.2.1 ++ e.2.2.2)) (x.reg .scalar c.b.toNat :: e.2.2.1) e.2.2.2 →
      (ea % Claims.width wd ≠ 0 → exec (e.1 c) s = .next (s.takeTrap s.o.cur x .align (BitVec.ofNat 64 ea) false)) ∧
      (ea % Claims.width wd = 0 → ea < k.xbound → exec (e.1 c) s = .next (s.takeTrap s.o.cur x .prot (BitVec.ofNat 64 ea) false)) ∧
      (ea % Claims.width wd = 0 → k.xbound ≤ ea → k.ltop < ea + Claims.width wd →
        exec (e.1 c) s = .next (s.takeTrap s.o.cur x .prot (BitVec.ofNat 64 (max ea k.ltop)) false)))

/-! ### Tile versions (10) -/

namespace Sys2Proof.Claims

/-- A version request of the slot that it does not wait for: message, order behind the slot's earlier requests, and the slot
behind the instruction. -/
def sentOff (s : State) (x : Slot) (c : Chain) (m : Msg) (release : Bool) (bytes : Nat) (ue : List UeEvent) : State :=
  (s.request s.o.cur m release bytes).2.setSlot s.o.cur (left s x x c ue)

/-- A request for a value: one deposit for the destination, empty until then, one message for it, and the slot behind the
instruction; memory and the other slots are as they were. -/
def Asked (s t : State) (x : Slot) (c : Chain) (d : Reg) (op : MsgOp) (isLoad : Bool) (ue : List UeEvent) : Prop :=
  t.slot s.o.cur = some (left s x (x.markEmpty d.loc d.size) c ue) ∧
  (∃ z, kget t.deps s.o.nextId = some z ∧ z.sid = s.o.cur ∧ z.dst = d.loc ∧ z.len = d.size ∧ z.mask = ones (8 * d.size) ∧ z.outstanding = 1 ∧
    z.nack = none ∧ z.fault = none ∧ z.done = false) ∧
  (∃ m, kget t.msgs (s.o.nextId + 1) = some m ∧ m.sid = some s.o.cur ∧ m.ctx = x.ctx ∧ m.op = op ∧ m.dep = some s.o.nextId ∧ m.isLoad = isLoad ∧
    m.sent = false ∧ m.answer = none) ∧
  (∀ r, r < s.o.nextId → kget t.msgs r = kget s.msgs r ∧ kget t.deps r = kget s.deps r) ∧
  t.mem = s.mem ∧ t.vs = s.vs ∧ (∀ i, (t.core i).loc = (s.core i).loc) ∧ ∀ k, k ≠ s.o.cur → t.slot k = s.slot k

end Sys2Proof.Claims

/-- The version instructions complete.  VOPEN of a handle other than the reserved name sends its request and leaves the slot
STALLED until the answer; STV, VSEAL, VACC, VREF and VREL send theirs and go on; LDV, LDVL, VPROBE and VNAME ask for a value
(10 R198, R207 to R209, R213, R216, R218). -/
def Obligations.VersionInstructionsLeave : Prop :=
  ∀ (s : State) (x : Slot) (c : Chain) (m : Nat) (a b n : Reg), m = c.mod.toNat → Claims.Unheld s x →
    a = x.reg .scalar c.a.toNat → b = x.reg .scalar c.b.toNat → n = x.reg .scalar c.c.toNat →
    (Turn s opVopen c x → Usable x [a, b, n] [a, b, n] [] → (x.operand c.a.toNat).toNat % 2 ^ 32 ≠ 0xFFFFFFFF →
      ∃ r t, s.request s.o.cur { s.versionMsg s.o.cur x (x.operand c.a.toNat)
          (.vopen (x.operand c.a.toNat) (x.operand c.b.toNat) (x.operand c.c.toNat) (m.testBit 0) (m / 2 % 8) x.replay) with stalls := true } false 32 = (r, t) ∧
        exec (.vopen c) s = .next (t.settleSlot s.o.cur x c (.answer r {
          ue := x.operandUe c.a.toNat ++ x.operandUe c.b.toNat ++ x.operandUe c.c.toNat }))) ∧
    (∀ v : Reg, v = x.reg (if m.testBit 0 then .tile else .vector) c.a.toNat →
      Turn s opStv c x → Usable x [v, b, n] [v, b, n] [] → (x.operand c.c.toNat).toNat % v.size = 0 →
      exec (.stv c) s = .next (Claims.sentOff s x c { s.versionMsg s.o.cur x (x.operand c.b.toNat)
        (.vstore (x.operand c.b.toNat) (x.operand c.c.toNat).toNat v.size (x.readUe v 8).1 x.replay) with isStore := true } false v.size
        ((x.readUe v 8).2 ++ x.operandUe c.b.toNat ++ x.operandUe c.c.toNat))) ∧
    (Turn s opVseal c x → Usable x [a] [a] [] →
      exec (.vseal c) s = .next (Claims.sentOff s x c { s.versionMsg s.o.cur x (x.operand c.a.toNat)
        (.vseal (x.operand c.a.toNat) x.replay false 0) with isStore := true, fab := true } true 32 (x.operandUe c.a.toNat))) ∧
    (∀ v : Reg, v = x.reg .vector c.a.toNat → Turn s opVacc c x → Usable x [v, b, n] [v, b, n] [] →
      exec (.vacc c) s = .next (Claims.sentOff s x c { s.versionMsg s.o.cur x (x.operand c.b.toNat)
        (.vacc (x.operand c.b.toNat) ((x.operand c.c.toNat).toNat % 1024) ((x.operand c.c.toNat).toNat / 2 ^ 16 % 512) (x.readUe v 32).1 x.replay) with
          isStore := true, fab := true } true 512 ((x.readUe v 32).2 ++ x.operandUe c.b.toNat ++ x.operandUe c.c.toNat))) ∧
    (∀ e ∈ ([(.vref, opVref, .vref), (.vrel, opVrel, .vrel)] : List ((Chain → Instr) × OpInfo × (Word → Nat → Bool → MsgOp))),
      Turn s e.2.1 c x → Usable x [a, b] [a, b] [] →
      exec (e.1 c) s = .next (Claims.sentOff s x c { s.versionMsg s.o.cur x (x.operand c.a.toNat)
        (e.2.2 (x.operand c.a.toNat) ((x.operand c.b.toNat).toNat % 4096) x.replay) with isStore := true, ordered := true } false 32
        (x.operandUe c.a.toNat ++ x.operandUe c.b.toNat))) ∧
    (∀ d : Reg, d = x.reg (if m.testBit 0 then .tile else .vector) c.a.toNat →
      Turn s opLdv c x → Usable x [d, b, n] [b, n] [d] → (x.operand c.c.toNat).toNat % d.size = 0 →
      ∃ t, exec (.ldv c) s = .next t ∧ Claims.Asked s t x c d
        (.vload (x.operand c.b.toNat) { off := (x.operand c.c.toNat).toNat, size := d.size, cons := m.testBit 1, pt := m.testBit 2, replay := x.replay } 0) true
        (x.operandUe c.b.toNat ++ x.operandUe c.c.toNat)) ∧
    (Turn s opLdvl c x → Usable x [a, b, n] [b, n] [a] → (x.operand c.c.toNat).toNat % 512 = 0 →
      ∃ t, exec (.ldvl c) s = .next t ∧ Claims.Asked s t x c a
        (.vload (x.operand c.b.toNat) { off := (x.operand c.c.toNat).toNat, size := 0, cons := m.testBit 1, pt := m.testBit 2, replay := x.replay }
          (x.operand c.c.toNat).toNat) true
        (x.operandUe c.b.toNat ++ x.operandUe c.c.toNat)) ∧
    (Turn s opVprobe c x → Usable x [a, b] [b] [a] →
      ∃ t, exec (.vprobe c) s = .next t ∧ Claims.Asked s t x c a (.vprobe (x.operand c.b.toNat)) true (x.operandUe c.b.toNat)) ∧
    (Turn s opVname c x → Usable x [a, b] [b] [a] →
      ∃ t, exec (.vname c) s = .next t ∧ Claims.Asked s t x c a
        (.vname ((x.operand c.b.toNat).toNat % 4096 + 1) ((x.operand c.b.toNat).toNat / 2 ^ 16 % 16)) false (x.operandUe c.b.toNat))

namespace Sys2Proof.Claims

/-- A request of the die that is on its way and whose turn it is. -/
def Due (s : State) (rid : Nat) (m : Msg) : Prop := s.ready rid = some m

/-- The version is OPEN at this die. -/
def Open (s : State) (ctx : Nat) (h : Word) (v : Version) : Prop := s.version ctx h = some v ∧ v.state = .vopen

end Sys2Proof.Claims

/-- Requests at the home of their version, on this die: VOPEN makes an absent version OPEN with the shape, type, count and
combination that its operands give; a store puts its bytes into an OPEN version; a seal of one that does not combine, and the
last contribution to one that does, seal it; VREF and VREL change the count; VPROBE answers the status word (10 R199, R204 to
R209, R215, R216, R218). -/
def Obligations.VersionRequestsAtHome : Prop :=
  ∀ (s : State) (rid : Nat) (m : Msg) (h : Word), Claims.Due s rid m → s.nameHome m.ctx h = .own →
    (∀ desc cnt acc op replay v, m.op = .vopen h desc cnt acc op replay → v = s.versionOrNew m.ctx h → v.state = .absent →
      s.granulesUsed (slotSlice v.slot) + (desc.toNat % 64 + 1) ≤ s.wayGranules (slotSlice v.slot) → s.entryNeed m.ctx h = 0 → m.stalls = true →
      ∃ t w z, exec (.versionOpenAtHome rid) s = .next t ∧ t.version m.ctx h = some w ∧ w.state = .vopen ∧ w.g = desc.toNat % 64 + 1 ∧
        w.ty = desc.toNat / 64 % 16 ∧ w.rows = desc.toNat / 2 ^ 10 % 4096 + 1 ∧ w.cols = desc.toNat / 2 ^ 22 % 4096 + 1 ∧
        w.count = cnt.toNat % 4096 ∧ w.manual = (cnt.toNat % 4096 == 0) ∧ w.n = cnt.toNat / 2 ^ 16 % 1024 + 1 ∧ w.acc = acc ∧ w.op = op ∧
        w.sealed = false ∧ w.data = 0 ∧ w.arrived = [] ∧ w.aflags = 0 ∧ w.rpl = replay ∧ w.waiters = v.waiters ∧
        kget t.msgs rid = some z ∧ z.answer = some 0) ∧
    (∀ off size data replay v, m.op = .vstore h off size data replay → Claims.Open s m.ctx h v → v.acc = false → off + size ≤ 4096 * v.g → 0 < size →
      exec (.versionStoreAtHome rid) s = .next ((s.setVersion { v with
        data := setBits (8 * (off + size) - 1) (8 * off) v.data data, rpl := v.rpl || replay }).ackMsg rid m 0)) ∧
    (∀ replay poison fl v, m.op = .vseal h replay poison fl → Claims.Open s m.ctx h v → v.acc = false →
      exec (.versionSealAtHome rid) s = .next ((s.sealVersion { v with
        rpl := v.rpl || replay, state := if poison then .poisoned else .vopen, aflags := v.aflags ||| BitVec.ofNat 6 fl }).ackMsg rid m 0)) ∧
    (∀ j w data replay v, m.op = .vacc h j w data replay → Claims.Open s m.ctx h v → v.acc = true → j < v.n → v.arrived.contains j = false →
      512 * (w + 1) ≤ 4096 * v.g →
      exec (.versionContribution rid) s = .next ((if v.arrived.length + 1 = v.n then (s.setVersion (v.contribute j w data replay)).sealVersion (v.contribute j w data replay)
        else s.setVersion (v.contribute j w data replay)).ackMsg rid m 0)) ∧
    (∀ n v, m.op = .vref h n false → s.version m.ctx h = some v → v.state ≠ .absent → v.state ≠ .dead → v.manual = false → 0 < n → v.count + n ≤ 4095 →
      exec (.versionCountChange rid) s = .next ((s.setVersion { v with count := v.count + n }).ackMsg rid m 0)) ∧
    (∀ n v, m.op = .vrel h n false → s.version m.ctx h = some v → v.state = .complete → v.manual = false →
      exec (.versionCountChange rid) s = .next ((if v.count ≤ n then s.reclaimStart { v with count := 0 }
        else s.setVersion { v with count := v.count - n }).ackMsg rid m 0)) ∧
    (m.op = .vprobe h →
      exec (.versionProbeAtHome rid) s = .next (s.answerMsg rid m (match s.version m.ctx h with | some v => v.status | none => 0) []))

/-- What a version request meets that its version does not take, as the reason of a late fault: 2 for a version that is not
open, 3 for one that is sealed, 4 for a store of the wrong kind, 5 for an index that is out of range or has come, 6 for a
count above 4095, 7 for a VREF of a DEAD version, 8 for a window outside the data; a replayed request that another run has
made already is acknowledged (10 R204, R210, R214).

Loads of versions at the home: of an OPEN version they register, and the seal serves them; of a COMPLETE one they are
served with the window's bytes at once, and a consuming load takes one from the count, which at 0 makes the version DEAD; a
window outside the data is a late fault (10 R204, R205, R211, R213, R216). -/
def Obligations.VersionLoadsAndRefusals : Prop :=
  (∀ (s : State) (rid : Nat) (m : Msg) (h : Word) (replay : Bool), Claims.Due s rid m → s.nameHome m.ctx h = .own →
     (∀ off size data, m.op = .vstore h off size data replay →
       (s.version m.ctx h = none → exec (.versionStoreAtHome rid) s = .next (s.failMsg rid m (versionFault h 2))) ∧
       (∀ v, s.version m.ctx h = some v → v.state = .complete →
         exec (.versionStoreAtHome rid) s = .next (if replay then s.ackMsg rid m 0 else s.failMsg rid m (versionFault h 3))) ∧
       (∀ v, Claims.Open s m.ctx h v → v.acc = true → exec (.versionStoreAtHome rid) s = .next (s.failMsg rid m (versionFault h 4))) ∧
       (∀ v, Claims.Open s m.ctx h v → v.acc = false → 4096 * v.g < off + size →
         exec (.versionStoreAtHome rid) s = .next (s.failMsg rid m (versionFault h 8)))) ∧
     (∀ poison fl, m.op = .vseal h replay poison fl →
       (s.version m.ctx h = none → exec (.versionSealAtHome rid) s = .next (s.failMsg rid m (versionFault h 2))) ∧
       (∀ v, Claims.Open s m.ctx h v → v.acc = true → exec (.versionSealAtHome rid) s = .next (s.failMsg rid m (versionFault h 4)))) ∧
     (∀ j w data v, m.op = .vacc h j w data replay → Claims.Open s m.ctx h v → v.acc = true →
       ((v.n ≤ j ∨ (v.arrived.contains j = true ∧ replay = false)) → (replay = false ∨ v.arrived.contains j = false) →
         exec (.versionContribution rid) s = .next (s.failMsg rid m (versionFault h 5))) ∧
       (v.arrived.contains j = true → replay = true → exec (.versionContribution rid) s = .next (s.ackMsg rid m 0))) ∧
     (∀ n v, m.op = .vref h n false → s.version m.ctx h = some v → v.state ≠ .absent → 0 < n →
       (v.state = .dead → exec (.versionCountChange rid) s = .next (s.failMsg rid m (versionFault h 7))) ∧
       (v.state ≠ .dead → v.manual = false → 4095 < v.count + n → exec (.versionCountChange rid) s = .next (s.failMsg rid m (versionFault h 6)))) ∧
     (∀ desc cnt acc op v, m.op = .vopen h desc cnt acc op replay → s.version m.ctx h = some v → v.state ≠ .absent →
       exec (.versionOpenAtHome rid) s = .next ((s.unholdFull m.ctx h).ackMsg rid m (if replay then 0 else 1)))) ∧
  (∀ (s : State) (rid d : Nat) (m : Msg) (h : Word) (l : VLoad) (v : Version) (z : Dep), Claims.Due s rid m → s.nameHome m.ctx h = .own →
     m.op = .vload h l 0 → m.dep = some d → s.version m.ctx h = some v → kget s.deps d = some z →
     s.loadRoom m.ctx h = true →
     (v.state = .vopen → exec (.versionLoadAtHome rid) s = .next (((s.unholdFull m.ctx h).unpost rid).setVersion { v with waiters := v.waiters ++ [{ who := .dep d, load := l }] })) ∧
     (v.state = .complete → v.poisonDead = false → 0 < l.size → l.off + l.size ≤ 4096 * v.g →
       ∃ t y, exec (.versionLoadAtHome rid) s = .next t ∧
         kget t.deps d = some y ∧ y = z.answer (v.data / 2 ^ (8 * l.off) % 2 ^ (8 * l.size)) [] ∧
         (l.cons = false → t.version m.ctx h = some v ∧ kget t.msgs rid = none) ∧
         (l.cons = true → l.replay = false → v.manual = false → ∃ w, t.version m.ctx h = some w ∧ w.count = v.count - 1 ∧ w.data = v.data ∧
           w.state = (if v.count ≤ 1 then .dead else .complete))) ∧
     (v.state = .complete → v.poisonDead = false → 0 < l.size → 4096 * v.g < l.off + l.size →
       ∃ t y, exec (.versionLoadAtHome rid) s = .next t ∧ kget t.deps d = some y ∧ y = z.fail (versionFault h 8) ∧ t.version m.ctx h = some v))

/-- The seal of an OPEN version with nobody waiting: it is COMPLETE, or DEAD when it counts consumers and none is left, and
its data and shape are kept; every other version is as it was (10 R205).

VNAME at the home of its range allots the next names of the range, and answers 0xFFFFFFFF when they do not suffice; the
end of a reclaim frees the entry and raises its slot's generation; an uncorrectable error poisons a version that is not DEAD
and is logged (10 R198, R200, R217, R219; 21 R418). -/
def Obligations.VersionSteps : Prop :=
  (∀ (s : State) (v : Version), v.state = .vopen → v.waiters = [] → s.version v.ctx v.handle = some v →
     (∃ w, (s.sealVersion v).version v.ctx v.handle = some w ∧ w.sealed = true ∧ w.data = v.data ∧ w.g = v.g ∧ w.count = v.count ∧ w.gen = v.gen ∧
       w.slot = v.slot ∧ w.state = if v.manual = false ∧ v.count = 0 then .dead else .complete) ∧
     (∀ ctx h, ¬(ctx = v.ctx ∧ h = v.handle) → (s.sealVersion v).version ctx h = s.version ctx h) ∧
     (s.sealVersion v).mem = s.mem ∧ (s.sealVersion v).slots = s.slots) ∧
  (∀ (s : State),
     (∀ rid m n r k, Claims.Due s rid m → m.op = .vname n r → s.rangeHome m.ctx r = .own → k = kgetD s.vs.names (m.ctx * 16 + r) 0 →
       (k + n ≤ 0x0FFFFFFF → ∃ t : State, exec (.nameAllocation rid) s = .next (t.answerMsg rid m (r * 2 ^ 28 + k) []) ∧
         kgetD t.vs.names (m.ctx * 16 + r) 0 = k + n ∧ { t with vs := { t.vs with names := s.vs.names } } = s) ∧
       (0x0FFFFFFF < k + n → exec (.nameAllocation rid) s = .next (s.answerMsg rid m 0xFFFFFFFF []))) ∧
     (∀ ctx h v, s.version ctx h = some v → v.state = .dead → s.reclaimDone ctx h = true →
       ∃ t : State, exec (.versionReclaimEnd ctx h) s = .next t ∧ t.version ctx h = none ∧ kgetD t.vs.vgens v.slot 0 = (v.gen + 1) % 2 ^ 16 ∧
         (∀ c g, ¬(c = v.ctx ∧ g = v.handle) → t.version c g = s.version c g) ∧ { t with vs := s.vs } = s) ∧
     (∀ ctx h v off, s.version ctx h = some v → v.state = .vopen ∨ v.state = .complete → v.poisonDead = false → off < 4096 * v.g →
       ∃ (t : State) (w : _), exec (.versionPoison ctx h off) s = .next t ∧ t.version ctx h = some w ∧ w.state = .poisoned ∧ w.sealed = (v.state == .complete) ∧
         w.data = v.data ∧ t.hl.mlogNew = s.hl.mlogNew ++ [(h, BitVec.ofNat 64 ((slotSlice v.slot % 2 ^ 16) * 2 ^ 48 + (off / 32 % 2 ^ 24) * 2 ^ 24 + ctx % 16 * 2 ^ 20 + 2))]))

/-! ### Tasks, packets, engines, the fabric (12, 13, 15, 19) -/

namespace Sys2Proof.Claims

/-- A value given at once to a scalar destination: its deposit is complete and is written at the end of the cycle. -/
def Given (s t : State) (x y : Slot) (c : Chain) (d : Reg) (v : Nat) (ue : List UeEvent) : Prop :=
  t.slot s.o.cur = some (left s x (y.markEmpty d.loc 8) c ue) ∧
  (∃ z, kget t.deps s.o.nextId = some z ∧ z.sid = s.o.cur ∧ z.dst = d.loc ∧ z.len = 8 ∧ z.mask = ones 64 ∧ z.value = v ∧ z.outstanding = 0 ∧
    z.nack = none ∧ z.fault = none ∧ z.sx = none) ∧
  (∀ r, r < s.o.nextId → kget t.deps r = kget s.deps r) ∧
  t.msgs = s.msgs ∧ t.mem = s.mem ∧ ∀ k, k ≠ s.o.cur → t.slot k = s.slot k

/-- A request with a destination, as `Asked` says it, whose acquire may have dropped writable lines of the core's L1. -/
def Acquired (s t : State) (x y : Slot) (c : Chain) (d : Reg) (p : Msg → Prop) (ue : List UeEvent) : Prop :=
  t.slot s.o.cur = some (left s x (y.markEmpty d.loc 8) c ue) ∧
  (∃ z, kget t.deps s.o.nextId = some z ∧ z.sid = s.o.cur ∧ z.dst = d.loc ∧ z.len = 8 ∧ z.mask = ones 64 ∧ z.outstanding = 1 ∧
    z.nack = none ∧ z.fault = none) ∧
  (∃ m, kget t.msgs (s.o.nextId + 1) = some m ∧ m.sid = some s.o.cur ∧ m.ctx = x.ctx ∧ m.dep = some s.o.nextId ∧ m.sent = false ∧
    m.answer = none ∧ p m) ∧
  (∀ r, r < s.o.nextId → Kept (kget s.msgs r) (kget t.msgs r) ∧ kget t.deps r = kget s.deps r) ∧
  t.mem = s.mem ∧ (∀ i, (t.core i).loc = (s.core i).loc) ∧ ∀ k, k ≠ s.o.cur → t.slot k = s.slot k

/-- A request for whose answer the slot is STALLED at the instruction. -/
def Stalled (s t : State) (x : Slot) (c : Chain) (ue : List UeEvent) (p : Msg → Prop) : Prop :=
  ∃ r, t.slot s.o.cur = some { (x.captureAll ue) with
      status := .stalled (.answer r (after x c) (s.t.cycle + 16 * (1 + c.stall.toNat))), xlat := [] } ∧
    (∃ m, kget t.msgs r = some m ∧ m.sid = some s.o.cur ∧ m.ctx = x.ctx ∧ m.stalls = true ∧ m.answer = none ∧ m.sent = false ∧ p m) ∧
    t.mem = s.mem ∧ (∀ i, (t.core i).loc = (s.core i).loc) ∧ ∀ k, k ≠ s.o.cur → t.slot k = s.slot k

/-- What NEXT does first: the tasks that the slot has pulled retire, and their shadow registers go with them (12 R247, R249). -/
def Dropped (s : State) (x : Slot) (s' : State) (x' : Slot) : Prop :=
  s' = s.retireAll (heldTasks x.tasks x.pulled x.task) ∧
  x' = if x.pulled then { x with pulled := false, tasks := [], task := 0, fmt := 0, band := 0, sca := 0, scb := 0 } else x

/-- An earlier NEXT of the context waits for a task (12 R249 item 1). -/
def Queued (s : State) (ctx : Nat) : Prop := ∃ r ∈ s.pl.nexts, ∃ m, kget s.msgs r = some m ∧ m.ctx = ctx

/-- The lane by which a spill thread reaches image `i` of a context's heap (12 R258 item 4). -/
def heapLane (s : State) (x : Slot) (i : Nat) : Lane :=
  { lane := 0, va := (s.ctx x.ctx).heapVa (s.o.cur / 16) i, len := 256, bit := 0, bits := 2048 }

end Sys2Proof.Claims

/-- TASK sends a valid record and asks for its handle, and gives bit 63 and the reason for an invalid one.  NEXT retires the tasks
that the slot had pulled; it takes a pulled entry that is READY and may be taken and gives its handle, unless an earlier NEXT of the
context waits; else it gives 0 in the form that does not wait, and in the other waits behind them (12 R239, R248, R249).

EXIT retires the tasks of the thread, and its deposits are forgotten.  Of the last live member of its group: every slot of the group
is gone, and the group.  Of another member: the slot is HELD with its registers full and as they were, and the group has one live
member less (04 R79; 12 R247, R251). -/
def Obligations.TaskInstructions : Prop :=
  (∀ (s : State) (x : Slot) (c : Chain) (d a : Reg) (r : Nat) (ue : List UeEvent), Claims.Unheld s x →
     d = x.reg .scalar c.a.toNat → a = x.reg .vector c.b.toNat → r = (x.readUe a 64).1 % 2 ^ 512 →
     ue = (x.readUe a 64).2.filter (fun e => decide (e.col < 8)) →
     (Turn s opTask c x → Usable x [d, a] [a] [d] →
       (s.recordBad x.ctx r = none → ∃ t : State, exec (.task c) s = .next t ∧ Claims.Asked s t x c d (.task r) false ue) ∧
       (∀ n, s.recordBad x.ctx r = some n → ∃ t : State, exec (.task c) s = .next t ∧ Claims.Given s t x x c d (2 ^ 63 + n) ue)) ∧
     (Turn s opNext c x → Usable x [d] [] [d] → ∀ s' x', Claims.Dropped s x s' x' →
       (¬ Claims.Queued s' x.ctx → s'.qualifying x.ctx true ≠ [] →
         ∃ (t : State) (i : Nat) (e : PoolEntry) (z : Dep), exec (.next c) s = .next t ∧ i ∈ s'.qualifying x.ctx true ∧ s'.entry i = some e ∧
           t.slot s.o.cur = some (Claims.left s x (x'.markEmpty d.loc 8) c []) ∧
           t.entry i = some { e with state := .running } ∧ kget t.deps s.o.nextId = some z ∧ z.sid = s.o.cur ∧ z.dst = d.loc ∧ z.outstanding = 0 ∧
           z.value = (s'.taskHandle i).toNat ∧ z.task = some (e.record, s'.taskHandle i) ∧ z.acq = true) ∧
       (Claims.Queued s' x.ctx ∨ s'.qualifying x.ctx true = [] → c.mod.getLsbD 0 = true →
         ∃ t : State, exec (.next c) s = .next t ∧ Claims.Given s t x x' c d 0 []) ∧
       (Claims.Queued s' x.ctx ∨ s'.qualifying x.ctx true = [] → c.mod.getLsbD 0 = false →
         ∃ (t : State) (z : Dep), exec (.next c) s = .next t ∧
           t.slot s.o.cur = some { Claims.left s x (x'.markEmpty d.loc 8) c [] with nextRid := some s.o.nextId } ∧
           kget t.deps s.o.nextId = some z ∧ z.sid = s.o.cur ∧ z.dst = d.loc ∧ z.outstanding = 1 ∧ z.acq = true ∧
           t.pl.nexts = s.pl.nexts ++ [s.o.nextId + 1]))) ∧
  (∀ (s : State) (x : Slot) (c : Chain) (g : Group), Turn s opExit c x → x.acqHold = [] → kget s.gr.groups x.group = some g →
     ∃ t : State, exec (.exit c) s = .next t ∧ t.mem = s.mem ∧ (∀ r z, kget t.deps r = some z → z.sid ≠ s.o.cur) ∧
       (∀ h ∈ x.handles, ∀ i, s.entryOf h = some i → t.entry i = none) ∧
       (g.live ≤ 1 → kget t.gr.groups x.group = none ∧ t.slot s.o.cur = none ∧ ∀ k y, s.slot k = some y → y.group = x.group → t.slot k = none) ∧
       (2 ≤ g.live → kget t.gr.groups x.group = some { g with live := g.live - 1, left := g.left ++ s.leftBehind s.o.cur } ∧
         t.slot s.o.cur = some { x with status := .held, empty := 0, oEmpty := 0, late := none, openPkt := none, owned := none, nextRid := none
                                        recvs := [], acqHold := [], xlat := [] }))

/-- SEND adds its word to the slot's open packet, or opens one; with E, or at the sixteenth word, the packet is closed with its
length and the slot is STALLED until it has left.  SEND.lb of a spill thread asks for the oldest packet of its context's heap and is
STALLED until that has come back, and does nothing with an empty heap; in another slot it traps PRIV (12 R254, R255, R258).

RECV: .h gives the header of the oldest packet of the context and makes it the slot's; with none it gives 0 in the form that does
not wait, and in the other waits; .w gives the next word of the slot's packet and lets it go with the last one, and 0 without one; .sp
of a spill thread stores the oldest entry of its context into the heap and gives how many are left, 0 with none, and traps INBOX_HEAP
when the heap is full, and PRIV in another slot; .st gives the counts of inbox and heap, and the reason of a spill thread's start (12
R256, R258). -/
def Obligations.PacketInstructions : Prop :=
  (∀ (s : State) (x : Slot) (c : Chain) (t w : Reg) (p : OpenPacket) (ue : List UeEvent), x.acqHold = [] →
     t = x.reg .scalar c.a.toNat → w = x.reg .scalar c.b.toNat → ue = x.operandUe c.a.toNat ++ x.operandUe c.b.toNat →
     (Turn s opSend c x → Usable x [t, w] [t, w] [] →
       p = (match x.openPkt with
         | some q => { q with words := q.words ++ [x.operand c.b.toNat] }
         | none => { target := x.operand c.a.toNat, words := [x.operand c.b.toNat], since := none
                     header := BitVec.ofNat 64 ((x.operand c.a.toNat).toNat / 2 ^ 48 * 2 ^ 48 + x.ctx % 16 * 2 ^ 38 + s.ownAgent * 2 ^ 28 +
                       s.o.cur / 16 * 2 ^ 20 + s.o.cur % 16 * 2 ^ 16) }) →
       (c.mod.getLsbD 0 = false → p.words.length < 16 →
         exec (.send c) s = .next (s.setSlot s.o.cur { Claims.left s x x c ue with openPkt := some p })) ∧
       (c.mod.getLsbD 0 = true ∨ 16 ≤ p.words.length →
         ∃ u : State, exec (.send c) s = .next u ∧ Claims.Stalled s u { x with openPkt := none, xlat := [] } c ue (fun m =>
           m.op = .packet p.target (BitVec.ofNat 64 (p.header.toNat + p.words.length * 2 ^ 43)) p.words))) ∧
     (Turn s opSendLb c x → s.isSpill s.o.cur x = true →
       ((s.core (s.o.cur / 16)).heapLen x.ctx = 0 → exec (.sendLb c) s = .next (s.took x c {})) ∧
       (∀ q, (s.core (s.o.cur / 16)).heapLen x.ctx ≠ 0 →
         Claims.Reaches s x .load 1 [Claims.heapLane s x ((s.core (s.o.cur / 16)).heapOf x.ctx).1] [q] →
         ∃ u : State, exec (.sendLb c) s = .next u ∧ Claims.Stalled s u x c [] (fun m =>
           m.op = .heapRead (s.o.cur / 16) ∧ m.pa = s.readPa x.ctx q.pa q.leaf))) ∧
     (Turn s opSendLb c x → s.isSpill s.o.cur x = false →
       exec (.sendLb c) s = .next (s.takeTrap s.o.cur x .priv (baseTval opSendLb c) false))) ∧
  (∀ (s : State) (x : Slot) (c : Chain) (d : Reg) (k : CoreSt), Claims.Unheld s x → d = x.reg .scalar c.a.toNat →
     k = s.core (s.o.cur / 16) →
     (Turn s opRecvH c x → Usable x [d] [] [d] →
       (∀ e l, k.oldest x.ctx (fun e => !e.isDesc) = some (e, l) → ∃ t : State, exec (.recvH c) s = .next t ∧
         Claims.Given s t x { x with owned := some e, ownedPos := 0 } c d e.header.toNat [] ∧ (t.core (s.o.cur / 16)).inbox = l) ∧
       (k.oldest x.ctx (fun e => !e.isDesc) = none → c.mod.getLsbD 2 = true → ∃ t : State, exec (.recvH c) s = .next t ∧
         Claims.Given s t x { x with owned := none, ownedPos := 0 } c d 0 []) ∧
       (k.oldest x.ctx (fun e => !e.isDesc) = none → c.mod.getLsbD 2 = false →
         ∃ (t : State) (z : Dep), exec (.recvH c) s = .next t ∧
           t.slot s.o.cur = some { Claims.left s x ({ x with owned := none, ownedPos := 0 }.markEmpty d.loc 8) c [] with recvs := x.recvs ++ [s.o.nextId] } ∧
           kget t.deps s.o.nextId = some z ∧ z.sid = s.o.cur ∧ z.dst = d.loc ∧ z.outstanding = 1)) ∧
     (Turn s opRecvW c x → Usable x [d] [] [d] →
       ((∀ e, x.owned = some e → e.words[x.ownedPos]? = none) → ∃ t : State, exec (.recvW c) s = .next t ∧ Claims.Given s t x x c d 0 []) ∧
       (∀ e w, x.owned = some e → e.words[x.ownedPos]? = some w → ∃ t : State, exec (.recvW c) s = .next t ∧
         Claims.Given s t x (if x.ownedPos + 1 = e.words.length then { x with owned := none, ownedPos := 0 } else { x with ownedPos := x.ownedPos + 1 })
           c d w.toNat [])) ∧
     (Turn s opRecvSp c x → s.isSpill s.o.cur x = true → Usable x [d] [] [d] →
       (k.oldest x.ctx (fun _ => true) = none → ∃ t : State, exec (.recvSp c) s = .next t ∧ Claims.Given s t x x c d 0 []) ∧
       (∀ e l, k.oldest x.ctx (fun _ => true) = some (e, l) →
         ((s.ctx x.ctx).ihsize ≤ k.heapLen x.ctx → exec (.recvSp c) s = .next (s.takeTrap s.o.cur x .inboxHeap 0 false)) ∧
         (∀ q, k.heapLen x.ctx < (s.ctx x.ctx).ihsize → Claims.Reaches s x .store 1 [Claims.heapLane s x (k.heapOf x.ctx).2] [q] →
           ∃ (t : State) (r n : Nat) (z : Dep) (m : Msg) (ps : List Piece), exec (.recvSp c) s = .next t ∧
             t.slot s.o.cur = some (Claims.left s x (x.markEmpty d.loc 8) c []) ∧
             (t.core (s.o.cur / 16)).inbox = l ∧ (t.core (s.o.cur / 16)).heapOf x.ctx = ((k.heapOf x.ctx).1, (k.heapOf x.ctx).2 + 1) ∧
             kget t.deps r = some z ∧ z.sid = s.o.cur ∧ z.dst = d.loc ∧ z.outstanding = 0 ∧ z.value = (l.filter (fun e => e.ctx == x.ctx)).length ∧
             kget t.msgs n = some m ∧ m.sid = some s.o.cur ∧ m.op = .store ps e.image ∧ q.piece q.pa ∈ ps ∧ t.mem = s.mem))) ∧
     (Turn s opRecvSp c x → s.isSpill s.o.cur x = false →
       exec (.recvSp c) s = .next (s.takeTrap s.o.cur x .priv (baseTval opRecvSp c) false)) ∧
     (Turn s opRecvSt c x → Usable x [d] [] [d] → ∃ t : State, exec (.recvSt c) s = .next t ∧
       Claims.Given s t x x c d (s.inboxHeld (s.o.cur / 16) % 256 + k.heapLen x.ctx % 2 ^ 16 * 2 ^ 8 +
         if s.isSpill s.o.cur x then k.spillReason * 2 ^ 24 else 0) []))

/-- PUSHE, POPE, RLD, RST, RAMO, MCST and GETT complete when their addresses are aligned and, for the first two and MCST,
reachable: their requests are on their way, but MCST with an empty list of agents sends nothing; GETT gives the time base of this
die at once or asks another agent for its own, and GETT.ord waits until the slot's earlier loads and stores are performed (13 R281;
19 R391 to R394). -/
def Obligations.EngineAndFabricInstructionsLeave : Prop :=
  ∀ (s : State) (x : Slot) (c : Chain) (a b d : Reg) (m wd off : Nat) (q : Located), Claims.Unheld s x → m = c.mod.toNat →
    a = x.reg .scalar c.a.toNat → b = x.reg .scalar c.b.toNat → d = x.reg .scalar c.c.toNat → wd = Claims.width (m % 8) →
    off = (BitVec.ofNat 64 ((x.operand c.b.toNat).toNat % 2 ^ 17) + BitVec.ofInt 64 c.imm).toNat →
    (Turn s opPushe c x → Usable x [a, b] [a, b] [] → Claims.Reaches s x .store 8 [scalarLane (x.operand c.a.toNat).toNat 8] [q] → leafE q.leaf = true →
      ∃ t : State, exec (.pushe c) s = .next t ∧ Claims.Stalled s t x c (x.operandUe c.a.toNat ++ x.operandUe c.b.toNat)
        (fun z => z.op = .push q.pa (x.operand c.b.toNat) ∧ z.isStore = true ∧ z.rel = true)) ∧
    (Turn s opPope c x → Usable x [a, b] [b] [a] → Claims.Reaches s x .load 8 [scalarLane (x.operand c.b.toNat).toNat 8] [q] → leafE q.leaf = true →
      ∃ t : State, exec (.pope c) s = .next t ∧ Claims.Acquired s t x x c a (fun z => z.op = .pop q.pa (m.testBit 0) true) (x.operandUe c.b.toNat)) ∧
    (Turn s opRld c x → Usable x [a, b] [b] [a] → off % wd = 0 →
      ∃ t : State, exec (.rld c) s = .next t ∧ Claims.Acquired s t x x c a (fun z =>
        ∃ o, z.op = .remote 0 (x.operand c.b.toNat) off wd o 0) (x.operandUe c.b.toNat)) ∧
    (Turn s opRst c x → Usable x [a, b] [a, b] [] → off % wd = 0 →
      ∃ t : State, exec (.rst c) s = .next t ∧ t.slot s.o.cur = some (Claims.left s x x c (x.operandUe c.b.toNat ++ x.operandUe c.a.toNat)) ∧
        (∃ z, kget t.msgs s.o.nextId = some z ∧ z.isStore = true ∧ z.dep = none ∧ z.ordered = m.testBit 4 ∧ z.rel = m.testBit 4 ∧
          z.op = .remote 1 (x.operand c.b.toNat) off wd .swap ((x.operand c.a.toNat).toNat % 2 ^ (8 * wd))) ∧
        t.mem = s.mem ∧ ∀ k, k ≠ s.o.cur → t.slot k = s.slot k) ∧
    (∀ w acq, w = (if m.testBit 4 then 4 else 8) → acq = m.testBit 5 → Turn s opRamo c x → Usable x [a, b, d] [b, d] [a] → off % w = 0 →
      ∃ t : State, exec (.ramo c) s = .next t ∧
        Claims.Acquired s t x { x with acqHold := if acq then x.acqHold ++ [s.o.nextId] else x.acqHold } c a (fun z => z.isStore = true ∧ z.rel = m.testBit 6 ∧
          z.op = .remote 2 (x.operand c.b.toNat) off w (amoOpOf (m % 16)) ((x.operand c.c.toNat).toNat % 2 ^ (8 * w)))
          (x.operandUe c.b.toNat ++ x.operandUe c.c.toNat)) ∧
    (∀ v, v = x.reg .vector c.a.toNat → Turn s opMcst c x → Usable x [v, b, d] [v, b, d] [] → leafE q.leaf = false →
      0 < (x.operand c.c.toNat).toNat / 2 ^ 60 % 8 →
      Claims.Reaches s x .store 512 [{ lane := 0, va := (x.operand c.b.toNat).toNat, len := 512, bit := 0, bits := 4096 }] [q] →
      ∃ (t : State) (r : Nat), exec (.mcst c) s = .next t ∧
        t.slot s.o.cur = some (Claims.left s x x c ((x.readUe v 8).2 ++ x.operandUe c.b.toNat ++ x.operandUe c.c.toNat)) ∧
        (∃ z, kget t.msgs r = some z ∧ z.isStore = true ∧ z.op = .mcst (q.pa % 2 ^ 42) (x.readUe v 8).1
          ((List.range (min 6 ((x.operand c.c.toNat).toNat / 2 ^ 60 % 8))).map (fun j => (x.operand c.c.toNat).toNat / 2 ^ (10 * j) % 1024))) ∧
        t.mem = s.mem ∧ ∀ k, k ≠ s.o.cur → t.slot k = s.slot k) ∧
    (∀ v, v = x.reg .vector c.a.toNat → Turn s opMcst c x → Usable x [v, b, d] [v, b, d] [] → leafE q.leaf = false →
      (x.operand c.c.toNat).toNat / 2 ^ 60 % 8 = 0 →
      Claims.Reaches s x .store 512 [{ lane := 0, va := (x.operand c.b.toNat).toNat, len := 512, bit := 0, bits := 4096 }] [q] →
      ∃ t : State, exec (.mcst c) s = .next t ∧
        t.slot s.o.cur = some (Claims.left s x x c ((x.readUe v 8).2 ++ x.operandUe c.b.toNat ++ x.operandUe c.c.toNat)) ∧
        (∀ r, Claims.Kept (kget s.msgs r) (kget t.msgs r)) ∧ t.mem = s.mem ∧ ∀ k, k ≠ s.o.cur → t.slot k = s.slot k) ∧
    (∀ y, y = { x with acqHold := if m.testBit 0 then x.acqHold ++ [s.o.nextId] else x.acqHold } → Turn s opGett c x → Usable x [a, b] [b] [a] →
      ((m.testBit 0 = true → s.fenceWaits s.o.cur 2 4 = false) → (x.operand c.b.toNat).getLsbD 16 = false →
        ∃ t : State, exec (.gett c) s = .next t ∧ Claims.Given s t x y c a s.now (x.operandUe c.b.toNat)) ∧
      ((m.testBit 0 = true → s.fenceWaits s.o.cur 2 4 = false) → (x.operand c.b.toNat).getLsbD 16 = true →
        ∃ t : State, exec (.gett c) s = .next t ∧
          Claims.Acquired s t x y c a (fun z => z.op = .gett ((x.operand c.b.toNat).toNat % 1024)) (x.operandUe c.b.toNat)) ∧
      (m.testBit 0 = true → s.fenceWaits s.o.cur 2 4 = true →
        exec (.gett c) s = .next (s.setSlot s.o.cur { x with status := .stalled .fence })))

/-! ### Passage, barriers, the supervisor's instructions (15, 17, 18, 20, 21) -/

namespace Sys2Proof.Claims

/-- The slot has room for one more deposit (18 R360). -/
def Roomy (s : State) : Prop := (s.deps.filter (fun (p : Nat × Dep) => p.2.sid == s.o.cur && p.2.len != 0)).length < 512

end Sys2Proof.Claims

/-- PASS: inside its segment a jump, with the address behind itself in d in the linking form; to another segment a departure,
whose RESERVE carries the target's segment, the live bytes and the link, when every live register is full and written; with an
empty one the slot parks on it, with an unwritten one and k.chk set it traps STALL_SHORT; in a slot that is not of a passage kernel,
and to an address in no segment, the trap PASSAGE_MAP, to an odd address ALIGN (15 R294, R295, R304; 04 R93). -/
def Obligations.PassComplete : Prop :=
  ∀ (s : State) (x : Slot) (c : Chain) (t : Word) (link : List Reg) (w : List RegWrite), Turn s opPass c x → t = x.operand c.a.toNat →
    link = (if c.mod.getLsbD 0 then [x.reg .scalar c.c.toNat] else []) →
    w = (if c.mod.getLsbD 0 then scalarResult x c.c.toNat (Claims.after x c).toNat else []) →
    Usable x (link ++ [x.reg .scalar c.a.toNat]) [x.reg .scalar c.a.toNat] link →
    (x.pass = false → exec (.pass c) s = .next (s.takeTrap s.o.cur x .passageMap t false)) ∧
    (x.pass = true → t.getLsbD 0 = true → exec (.pass c) s = .next (s.takeTrap s.o.cur x .align t false)) ∧
    (x.pass = true → t.getLsbD 0 = false → s.leaves x t = none →
      exec (.pass c) s = .next (s.took x c { writes := w, ue := x.operandUe c.a.toNat, jump := some t })) ∧
    (∀ k g a, x.pass = true → t.getLsbD 0 = false → s.leaves x t = some k → k.segmentAt t.toNat = some g →
      x.firstOpen (8 * c.imm.toNat) = some a →
      exec (.pass c) s = .next (s.setSlot s.o.cur { x with status := if s.filledNow a then .ready else .parked a })) ∧
    (∀ k g v, x.pass = true → t.getLsbD 0 = false → s.leaves x t = some k → k.segmentAt t.toNat = some g →
      x.firstOpen (8 * c.imm.toNat) = none → x.shortShip (8 * c.imm.toNat) = some v →
      exec (.pass c) s = .next (s.takeTrap s.o.cur x .stallShort (BitVec.ofNat 64 v) false)) ∧
    (∀ k g, x.pass = true → t.getLsbD 0 = false → s.leaves x t = some k → k.segmentAt t.toNat = some g →
      x.firstOpen (8 * c.imm.toNat) = none → x.shortShip (8 * c.imm.toNat) = none →
      ∃ u : State, exec (.pass c) s = .next u ∧ Claims.Stalled s u x c [] (fun m =>
        m.op = .reserve k.kid g (8 * c.imm.toNat) t w (x.operandUe c.a.toNat))) ∧
    (∀ k, x.pass = true → t.getLsbD 0 = false → s.leaves x t = some k → k.segmentAt t.toNat = none →
      exec (.pass c) s = .next (s.takeTrap s.o.cur x .passageMap t false))

/-- The barrier instructions: with a handle of a barrier that the slot's group has, or of a die barrier, BARI and BARI.clr send
their request and leave the slot STALLED, BARA, BARW, BARQ and BARX ask for a value, the arrivals as releases, and wait before
that while the slot has 512 deposits outstanding; any other handle, and a die barrier for BARX, traps BARRIER_BROKEN with NOBAR
(17 R328, R334 to R340; 18 R360). -/
def Obligations.BarrierInstructionsLeave : Prop :=
  ∀ (s : State) (x : Slot) (c : Chain) (a b n : Reg),
    a = x.reg .scalar c.a.toNat → b = x.reg .scalar c.b.toNat → n = x.reg .scalar c.c.toNat →
    (Turn s opBari c x → Usable x [a, b, n] [a, b, n] [] →
      (x.noBarrier (x.operand c.a.toNat) = true →
        exec (.bari c) s = .next (s.takeTrap s.o.cur x .barrierBroken (barrierTval (x.operand c.a.toNat) 6) false)) ∧
      (x.noBarrier (x.operand c.a.toNat) = false → ∃ t : State, exec (.bari c) s = .next t ∧
        Claims.Stalled s t x c (x.operandUe c.a.toNat ++ x.operandUe c.b.toNat ++ x.operandUe c.c.toNat) (fun m =>
          m.op = .barrier 0 (x.operand c.a.toNat) (x.operand c.b.toNat) (BitVec.ofNat 64 ((x.operand c.c.toNat).toNat % 256)) x.group x.gthr.toNat))) ∧
    (Turn s opBariClr c x → Usable x [a] [a] [] →
      (x.noBarrier (x.operand c.a.toNat) = true →
        exec (.bariClr c) s = .next (s.takeTrap s.o.cur x .barrierBroken (barrierTval (x.operand c.a.toNat) 6) false)) ∧
      (x.noBarrier (x.operand c.a.toNat) = false → ∃ t : State, exec (.bariClr c) s = .next t ∧
        Claims.Stalled s t x c (x.operandUe c.a.toNat) (fun m => m.op = .barrier 1 (x.operand c.a.toNat) 0 0 x.group x.gthr.toNat))) ∧
    (∀ e ∈ ([(.bara, opBara, 2, true), (.barw, opBarw, 3, false), (.barq, opBarq, 4, false), (.barx, opBarx, 5, true)] :
        List ((Chain → Instr) × OpInfo × Nat × Bool)), ∀ (src : List Reg) (w : Nat) (ue : List UeEvent),
      src = (if e.2.2.1 = 3 then [b, a] else [b]) → w = (if e.2.2.1 = 3 then (x.operand c.a.toNat).toNat % 2 ^ 32 else 0) →
      ue = x.operandUe c.b.toNat ++ (if e.2.2.1 = 3 then x.operandUe c.a.toNat else []) → Turn s e.2.1 c x →
      (¬ Claims.Roomy s → exec (e.1 c) s = .next (s.setSlot s.o.cur { x with status := .stalled .again })) ∧
      (Claims.Roomy s → Usable x [a, b] src [a] → x.noBarrier (x.operand c.b.toNat) = false →
        (e.2.2.1 = 5 → bhDie (x.operand c.b.toNat) = false) →
        ∃ t : State, exec (e.1 c) s = .next t ∧ Claims.Acquired s t x x c a (fun m =>
          m.op = .barrier e.2.2.1 (x.operand c.b.toNat) (BitVec.ofNat 64 w) 0 x.group x.gthr.toNat ∧ m.rel = e.2.2.2) ue) ∧
      (Claims.Roomy s → Usable x [a, b] src [a] → x.noBarrier (x.operand c.b.toNat) = true ∨ e.2.2.1 = 5 ∧ bhDie (x.operand c.b.toNat) = true →
        exec (e.1 c) s = .next (s.takeTrap s.o.cur x .barrierBroken (barrierTval (x.operand c.b.toNat) 6) false)))

/-- TLBI sends its request behind the slot's stores and leaves the slot STALLED; SAVES and RESTS start a DRAIN and a RESTORE of
another context, which are under way while a slot is left to save or an image to restore, and which end at once with 0 slots when
there is none and no inbox holds a packet of the context; or they give bit 63 and the reason of their refusal; PAIR gives the former setting and writes the new one; THINT sets
the thermal class (08 R172; 18 R365; 20 R405; 21 R410). -/
def Obligations.SupervisorInstructionsComplete : Prop :=
  ∀ (s : State) (x : Slot) (c : Chain) (a b : Reg) (m k : Nat), m = c.mod.toNat → a = x.reg .scalar c.a.toNat → b = x.reg .scalar c.b.toNat →
    k = (x.operand c.b.toNat).toNat % 16 →
    (∀ rs va q ue, Turn s opTlbi c x → x.acqHold = [] → rs = (if m % 4 = 0 then [a] else []) ++ (if m % 4 = 2 then [] else [b]) → Usable x rs rs [] →
      va = (if m % 4 = 0 then x.operand c.a.toNat else 0) → q = (if m % 4 = 2 then 0 else k) →
      ue = (if m % 4 = 0 then x.operandUe c.a.toNat else []) ++ (if m % 4 = 2 then [] else x.operandUe c.b.toNat) →
      ∃ (t : State) (z : Msg), exec (.tlbi c) s = .next t ∧ kget t.msgs s.o.nextId = some z ∧
        z.op = .tlbi (m % 4 + if m.testBit 2 then 4 else 0) va q ∧ z.stalls = true ∧ z.answer = none ∧
        (∀ r y, (r, y) ∈ s.msgs → y.sid = some s.o.cur → y.isStore = true → r ∈ z.after) ∧
        t.slot s.o.cur = some { (x.captureAll ue) with
          status := .stalled (.answer s.o.nextId (Claims.after x c) (s.t.cycle + 16 * (1 + c.stall.toNat))), xlat := [] } ∧
        t.mem = s.mem ∧ t.pg = s.pg) ∧
    (∀ e ∈ ([(.saves, opSaves, .resident, .draining), (.rests, opRests, .saved, .resident)] : List ((Chain → Instr) × OpInfo × CState × CState)),
      Turn s e.2.1 c x → Claims.Unheld s x → Usable x [a, b] [b] [a] →
      (∀ r, s.ctxRefusal x.ctx k e.2.2.1 = some r → ∃ t : State, exec (e.1 c) s = .next t ∧ Claims.Given s t x x c a r (x.operandUe c.b.toNat)) ∧
      (k ≠ x.ctx → (s.ctx k).busy = false → (s.ctx k).state = e.2.2.1 →
        (e.2.2.1 = .resident → s.slots.any (fun (p : Nat × Slot) => p.2.ctx == k) = true) →
        (e.2.2.1 = .saved → s.cx.saved.any (fun v => v.ctx == k) = true) →
        ∃ (t : State) (z : Dep), exec (e.1 c) s = .next t ∧ t.slot s.o.cur = some (Claims.left s x (x.markEmpty a.loc 8) c (x.operandUe c.b.toNat)) ∧
          (t.ctx k).state = e.2.2.2 ∧ (t.ctx k).busy = true ∧ (t.ctx k).cmdRid = some s.o.nextId ∧ kget t.deps s.o.nextId = some z ∧
          z.dst = a.loc ∧ z.outstanding = 1 ∧ t.mem = s.mem ∧ ∀ j, j ≠ k → t.ctx j = s.ctx j) ∧
      (k ≠ x.ctx → (s.ctx k).busy = false → (s.ctx k).state = e.2.2.1 →
        s.slots.any (fun (p : Nat × Slot) => p.2.ctx == k) = false → s.cx.saved.any (fun v => v.ctx == k) = false →
        (∀ i, (s.core i).oldest k (fun _ => true) = none) →
        ∃ (t : State) (z : Dep), exec (e.1 c) s = .next t ∧ t.slot s.o.cur = some (Claims.left s x (x.markEmpty a.loc 8) c (x.operandUe c.b.toNat)) ∧
          (t.ctx k).state = (if e.2.2.1 = .resident then .saved else .resident) ∧ (t.ctx k).busy = false ∧ kget t.deps s.o.nextId = some z ∧
          z.dst = a.loc ∧ z.outstanding = 0 ∧ z.value = 0 ∧ t.mem = s.mem)) ∧
    (∀ n old, n = (x.operand c.b.toNat).toNat / 2 ^ 16 % 128 → old = kgetD s.hl.pairCtx k (4, false) →
      Turn s opPair c x → Claims.Unheld s x → Usable x [a, b] [b] [a] →
      (64 < n → ∃ t : State, exec (.pair c) s = .next t ∧ Claims.Given s t x x c a (2 ^ 63 + 1) (x.operandUe c.b.toNat) ∧ t.hl = s.hl) ∧
      (n ≤ 64 → (s.ctx k).state = .free ∨ (s.ctx k).state = .retired → ∃ t : State, exec (.pair c) s = .next t ∧
        Claims.Given s t x x c a (2 ^ 63 + 2) (x.operandUe c.b.toNat)) ∧
      (n ≤ 64 → (s.ctx k).state ≠ .free → (s.ctx k).state ≠ .retired → ∃ t : State, exec (.pair c) s = .next t ∧
        Claims.Given s t x x c a (old.1 * 2 ^ 16 + if old.2 then 1 else 0) (x.operandUe c.b.toNat) ∧
        kgetD t.hl.pairCtx k (4, false) = (if n = 0 then old.1 else n, (x.operand c.b.toNat).getLsbD 4) ∧
        ∀ j, j ≠ k → kgetD t.hl.pairCtx j (4, false) = kgetD s.hl.pairCtx j (4, false))) ∧
    (Turn s opThint c x → exec (.thint c) s = .next (s.setSlot s.o.cur { x with
      thermal := c.imm.toNat, pc := Claims.after x c, status := stallStatus s.t.cycle c.stall.toNat, xlat := [] }))

/-! ### Steps of the die: requests at their home, deposits, walks, results of the SFU (04, 07, 08, 09) -/

namespace Sys2Proof.Claims

/-- Sum of an atomic's old value and operand and the like (09 R191, R192): the value left in memory, on `w` bytes. -/
def atomic (code w old y : Nat) : Nat :=
  if code = 0 then (old + y) % 2 ^ (8 * w) else if code = 1 then old &&& y else if code = 2 then old ||| y
  else if code = 3 then old ^^^ y
  else if code = 4 then (if (BitVec.ofNat (8 * w) y).toInt < (BitVec.ofNat (8 * w) old).toInt then y else old)
  else if code = 5 then (if (BitVec.ofNat (8 * w) old).toInt < (BitVec.ofNat (8 * w) y).toInt then y else old)
  else if code = 6 then min old y else if code = 7 then max old y else y

/-- One naturally sized piece of the die's own HBM4: `n` bytes at offset `off` of the window. -/
def Plain (s : State) (p : Piece) (off n : Nat) : Prop :=
  0 < n ∧ p.bits = 8 * n ∧ p.high = false ∧ p.poison = false ∧ off = p.pa % 2 ^ 42 ∧ off + n ≤ s.memBytes ∧ s.lineHeld p.pa = false

end Sys2Proof.Claims

/-- HOME_ACCESS on the die's own memory: a load answers its deposit with the bytes at its address, a store leaves its bytes
there and is acknowledged, an atomic answers the old value and leaves the new one, CAS only where the old value is the one it expects
(08 R167; 09 R178, R192). -/
def Obligations.MemoryRequestsAtHome : Prop :=
  ∀ (s : State) (rid off n : Nat) (m : Msg) (p : Piece), Claims.Due s rid m → s.isOwn (m.pa / 2 ^ 42) = true → m.replicated = false →
    Claims.Plain s p off n →
    (m.op = .load [p] none → m.after = [] → marked s.ueMem off n = false →
      exec (.homeAccess rid) s = .next (s.answerMsg rid m (s.mem.readN off n * 2 ^ p.bit) [])) ∧
    (∀ data, m.op = .store [p] data →
      exec (.homeAccess rid) s = .next ((s.memWrite off (bytesOf n (data / 2 ^ p.bit % 2 ^ (8 * n)))).ackMsg rid m 0)) ∧
    (∀ code y d z, m.op = .amo (amoOpOf code) n y → code ≤ 8 → (n = 4 ∨ n = 8) → y < 2 ^ (8 * n) → m.pa = p.pa → m.stalls = false →
      marked s.ueMem off n = false → m.dep = some d → kget s.deps d = some z →
      ∃ t : State, exec (.homeAccess rid) s = .next t ∧ kget t.msgs rid = none ∧ kget t.deps d = some (z.answer (s.mem.readN off n) []) ∧
        t.mem = s.mem.write off (bytesOf n (Claims.atomic code n (s.mem.readN off n) y)) ∧ t.slots = s.slots) ∧
    (∀ e y d z, m.op = .amo (.cas e) n y → (n = 4 ∨ n = 8) → y < 2 ^ (8 * n) → m.pa = p.pa → m.stalls = false →
      marked s.ueMem off n = false → m.dep = some d → kget s.deps d = some z →
      ∃ t : State, exec (.homeAccess rid) s = .next t ∧ kget t.msgs rid = none ∧ kget t.deps d = some (z.answer (s.mem.readN off n) []) ∧
        t.mem = (if s.mem.readN off n = e then s.mem.write off (bytesOf n y) else s.mem) ∧ t.slots = s.slots)

/-- Memory in canonical form gives back what was written, a byte inside the bytes written being the one written and any other as it was, and
stays in canonical form (00 R3). -/
def Obligations.MemoryReadsBack : Prop :=
  ∀ (m : Memory) (a b : Nat) (bs : List Byte), m.wf = true →
    (m.write a bs).wf = true ∧ (m.write a bs).read b = if a ≤ b ∧ b < a + bs.length then bs[b - a]?.getD 0 else m.read b

/-- DEPOSIT of a complete reply: its destination, in the main file or an o-register, is full again and holds the value under the
reply's mask, a scalar in an o-register with zeros above it, and the flags are only added to; a negative acknowledgement or a late fault leaves the destination as it was and falls due in the slot (04 R88; 06
R135; 10 R214); memory is as it was, and other slots change in nothing but that they wake.

A request on whose answer a slot is STALLED is acknowledged: with success the slot goes on behind the instruction, with a
reason or a negative acknowledgement it traps at the instruction (01 R18; 10 R207; 17 R337). -/
def Obligations.AnswersArrive : Prop :=
  (∀ (s : State) (rid : Nat) (z : Dep) (x : Slot), kget s.deps rid = some z → s.slot z.sid = some x → z.outstanding = 0 → z.sid < 2304 →
     (∃ off, z.dst = .main off ∧ 0 < z.len ∧ off + z.len ≤ 65536) ∨ (∃ k, z.dst = .o k ∧ k < 8 ∧ (z.len = 8 ∨ z.len = 512)) →
     ∃ (t : State) (y : Slot), exec (.deposit rid none) s = .next t ∧ kget t.deps rid = none ∧ t.slot z.sid = some y ∧ t.mem = s.mem ∧
       (∀ off, z.dst = .main off → y.empty.toNat &&& granuleMask off z.len = 0) ∧ (∀ k, z.dst = .o k → y.oEmpty.getLsbD k = false) ∧
       (∀ k, k ≠ z.sid → (t.slot k).map (fun q => { q with status := .ready }) = (s.slot k).map (fun q => { q with status := .ready })) ∧
       (z.nack = none → z.fault = none → z.sx = none → z.task = none → y.flags = x.flags ||| z.flags ∧
         (∀ i, i < 8 * z.len → ((∀ k, z.dst = .o k → z.len = 512) → (y.readLoc z.dst z.len).testBit i =
           if z.mask.testBit i then z.value.testBit i else (x.readLoc z.dst z.len).testBit i)) ∧
         (∀ k, z.dst = .o k → z.len = 8 → z.mask ≠ 0 → readAt y.ofile (512 * k) 512 = z.value % 2 ^ 4096)) ∧
       (∀ lane v, z.nack = some (lane, v) → x.late = none →
         y.late = some { cause := .remoteNack, tval := BitVec.ofNat 64 v } ∧ y.file = x.file ∧ y.ofile = x.ofile ∧ y.flags = x.flags) ∧
       (∀ f, z.nack = none → z.fault = some f → x.late = none → y.late = some f ∧ y.file = x.file ∧ y.ofile = x.ofile ∧ y.flags = x.flags)) ∧
  (∀ (s : State) (rid sid u code : Nat) (m : Msg) (x : Slot) (next : Word), kget s.msgs rid = some m → m.sid = some sid → m.answer = some code →
     s.slot sid = some x → x.status = .stalled (.answer rid next u) → x.pairMode = false → x.xlat = [] →
     (code = 0 → exec (.acknowledgement rid 0) s = .next ((s.unpost rid).setSlot sid { x with
       pc := next, status := if u ≤ s.t.cycle + 16 then .ready else .stalled (.count u) })) ∧
     (code = 255 → ∀ t, (s.unpost rid).takeTrap sid x .remoteNack m.nackVal false = t →
       (∀ y, t.slot sid = some y → y.pairMode = false) → exec (.acknowledgement rid 0) s = .next t) ∧
     (∀ h desc cnt acc op r t, m.op = .vopen h desc cnt acc op r → code = 1 →
       (s.unpost rid).takeTrap sid x .versionExists (versionTval h 1) false = t → (∀ y, t.slot sid = some y → y.pairMode = false) →
       exec (.acknowledgement rid 0) s = .next t))

/-- The eight instructions of the SFU: with no earlier SFU result of the slot outstanding the request is queued with its
result, of latency four behind its start, and an occupancy of 4 cycles, or 1 in the lane-0 form; the slot stays at the
instruction while an earlier one is outstanding (07 R155, R156, R158).

The SFU: a waiting request starts when the unit is free, is written 64 cycles later and keeps the unit for its occupancy; the
result then goes to its destination (07 R158). -/
def Obligations.SpecialFunctionResults : Prop :=
  (∀ e ∈ ([(.vrcp, opVrcp, .rcp), (.vrsq, opVrsq, .rsq), (.vexp2, opVexp2, .exp2), (.vlog2, opVlog2, .log2),
           (.vsin, opVsin, .sin), (.vcos, opVcos, .cos), (.vtanh, opVtanh, .tanh), (.vsigm, opVsigm, .sigm)] :
           List ((Chain → Instr) × OpInfo × SfuFn)),
     ∀ (s : State) (x : Slot) (c : Chain), Turn s e.2.1 c x → Claims.LaneReady s x c false false →
     (x.results.any (fun p => p.sfu) = false →
       exec (e.1 c) s = .next (s.took x c { Claims.laneEffect (Claims.LaneOp.mk e.1 e.2.1 false false 4 (fun t rm p _ _ => sfuFn e.2.2 t rm p)) s x c with
         sfu := some (if chainL0 c then 1 else 4) })) ∧
     (x.results.any (fun p => p.sfu) = true →
       exec (e.1 c) s = .next (s.setSlot s.o.cur { x with status := .stalled .sfu }))) ∧
  (∀ (s : State) (core occ : Nat) (q : SfuEntry) (x : Slot) (p : Pending), (s.core core).sfu = [q] → q.image = none → q.occ = occ →
     s.slot q.sid = some x → x.results = [p] → p.sfu = true →
     (q.start = none → (s.core core).sfuFree ≤ s.t.cycle →
       ∃ (t : State) (y : Slot), exec (.sfuStart core) s = .next t ∧ (t.core core).sfuFree = s.t.cycle + occ ∧
         (t.core core).sfu = [{ q with start := some s.t.cycle }] ∧ t.slot q.sid = some y ∧ y.results = [{ p with due := s.t.cycle + 63 }] ∧
         { y with results := x.results, status := x.status, longer := x.longer } = x ∧ t.mem = s.mem) ∧
     (∀ c, q.start = some c → c + 63 ≤ s.t.cycle →
       ∃ t : State, exec (.sfuResult core) s = .next t ∧ (t.core core).sfu = [] ∧
         t.slot q.sid = some { (x.writeDue p) with results := [] } ∧ t.mem = s.mem ∧ ∀ k, k ≠ q.sid → t.slot k = s.slot k))

/-- The end of a walk asked for by one slot: the leaf is cached and kept for the instruction, which issues again; a fault code is
kept for it and enters the fault queue.  A pop of the fault queue takes its head away; with REPLAY the requests that it held
are held no more (08 R169 to R171).

Writes that divide the slices, local memory and the instruction store: in the states that allow them the new limits stand,
any other leaves all as it was; a change of the ways completes, a lowering once nothing is pinned and what is returned has room in
the extension region, until when it waits (09 R180, R182; 13 R270; 14 R286). -/
def Obligations.WalksAndDivision : Prop :=
  (∀ (s : State),
     (∀ wid sid va kind w x, s.pg.walks = [(wid, w)] → w.who = [.slot sid va kind] → w.stale = false → w.vpn = w.va / 4096 → sid < 2304 →
       s.slot sid = some x → x.status = .stalled (.walk [wid]) →
       (∀ l, s.walkTables w.got w.ctx w.va = .leaf l → ∃ t : State, exec (.walkEnd wid) s = .next t ∧ kget t.pg.walks wid = none ∧
         (∀ n ∈ s.coreTlbs (sid / 16) va, tlbEntry w.ctx va l ∈ t.tlbAt n) ∧ t.pg.fq = s.pg.fq ∧ t.mem = s.mem ∧
         t.slot sid = some { x with xlat := x.xlat ++ [{ vpn := w.vpn, fault := none, leaf := l }], status := .ready }) ∧
       (∀ code, s.walkTables w.got w.ctx w.va = .fault code → s.pg.fq.length < 64 → ∃ t : State, exec (.walkEnd wid) s = .next t ∧
         kget t.pg.walks wid = none ∧ t.pg.tlb = s.pg.tlb ∧ t.mem = s.mem ∧
         t.pg.fq = s.pg.fq ++ [{ va := BitVec.ofNat 64 va, src := sid, ctx := w.ctx, code := code, kind := kind }] ∧
         t.slot sid = some { x with xlat := x.xlat ++ [{ vpn := w.vpn, fault := some code, leaf := 0 }], status := .ready })) ∧
     (s.pg.fqWait = [] → exec .fqPop s = .next { s with pg := { s.pg with fq := s.pg.fq.drop 1 } }) ∧
     (∀ r l, s.pg.fq = r :: l → s.pg.fqWait = [] → ∃ t : State, exec .fqReplay s = .next t ∧ t.pg.fq = l ∧
       (∀ q, q ∈ t.pg.fqHeld ↔ (q ∈ s.pg.fqHeld ∧ q ≠ r)) ∧ t.mem = s.mem ∧ t.slots = s.slots)) ∧
  (∀ (s : State) (core v : Nat) (k : CoreSt), k = s.core core →
     (s.vs.splitBusy = false → exec (.sliceSplitWrite v) s =
       .next (if v % 16 ≤ 12 then { s with vs := { s.vs with splitTo := v % 16, splitBusy := v % 16 != s.vs.vways } } else s)) ∧
     (s.vs.splitBusy = true → s.vs.vways ≤ s.vs.splitTo ∨ s.splitPinned = false ∧ s.splitStuck = false →
       ∃ t : State, exec .sliceSplitDone s = .next t ∧ t.vs.vways = s.vs.splitTo ∧ t.vs.splitBusy = false ∧ t.mem = s.mem ∧ t.slots = s.slots) ∧
     (s.vs.splitBusy = true → s.vs.splitTo < s.vs.vways → s.splitPinned = true → exec .sliceSplitDone s = .next s) ∧
     (s.vs.splitBusy = true → s.vs.splitTo < s.vs.vways → s.splitPinned = false → s.splitStuck = true →
       exec .sliceSplitDone s = .next (s.holdFull 16 0)) ∧
     (core < 144 → s.slots.any (fun (p : Nat × Slot) => p.1 / 16 == core) = false → s.cx.saved.any (fun x => x.sid / 16 == core) = false →
       s.coreLoaded core = false → exec (.lmapWrite core v) s =
         .next (if v / 256 % 256 ≤ 32 ∧ 16 ≤ v % 256 ∧ v % 256 ≤ 128 then s.setCore core { k with shad := v / 256 % 256, save := v % 256 } else s)) ∧
     (s.slots.any (fun (p : Nat × Slot) => p.1 / 16 == core) = true → exec (.lmapWrite core v) s = .next s) ∧
     (core < 144 → s.coreLoaded core = false → exec (.xtopWrite core v) s =
       .next (if v % 256 ≠ 0 ∧ 4096 * (v % 256) ≤ k.ltop - 4096 * k.shad then s.setCore core { k with xtop := v % 256 } else s)) ∧
     (s.coreLoaded core = true → exec (.xtopWrite core v) s = .next s))

/-! ### Steps of the pool, of packets and of stealing (12, 17) -/

namespace Sys2Proof.Claims

/-- What the die knows when it acts on a packet that is not passed on: the sender has been heard, but for itself (19 R383, R387). -/
def heard (s : State) (p : Packet) : State := if p.src == s.ownAgent && s.idn.agv then s else s.hear p.src

/-- A core on which no RECV waits and whose inbox has room takes packets of an admitted context (12 R253). -/
def Takes (s : State) (core ctx : Nat) : Prop :=
  s.inboxTakes core ctx = true ∧ s.inboxHeld core < 64 ∧ ∀ j x, s.slot (16 * core + j) = some x → j < 16 → x.recvs = []

end Sys2Proof.Claims

/-- Steps of the pool: an entry whose counter is 0 and whose release time has passed becomes READY; a READY record of kind thread
starts on its core's lowest free slot with the record's pc, context and handle, one of kind group as a group of its shape; a valid
host post enters the pool, an invalid one or one that finds it full sets BAD, and the latter FULL, with the pool's vector when a bit
was clear; a decrement takes one from a WAITING entry's
counter, and is counted as dropped where it names none (12 R240 to R250; 16 R325). -/
def Obligations.PoolSteps : Prop :=
  ∀ (s : State) (i : Nat) (e : PoolEntry), s.entry i = some e →
    (e.state = .waiting → e.counter = 0 → s.released (recRelease e.record) = true → recPull e.record = false →
      ∃ t : State, exec (.taskReleaseTime i) s = .next t ∧ t.entry i = some { e with state := .ready, readyAt := s.t.cycle } ∧
        t.mem = s.mem ∧ t.slots = s.slots ∧ ∀ j, j ≠ i → t.entry j = s.entry j) ∧
    (e.state = .waiting → (e.counter ≠ 0 ∨ s.released (recRelease e.record) = false ∧ e.stolen = none) → exec (.taskReleaseTime i) s = .next s) ∧
    (∀ k o, s.mayDispatch i = some e → recKind e.record = 0 → s.loadedFor (recKid e.record) e.ctx = some k →
      s.threadCore e.ctx k (recPc e.record) (recTherm e.record) = some o →
      ∃ (t : State) (y : Slot), exec (.taskDispatch i) s = .next t ∧ t.slot (16 * o.core + o.slots.headD 0) = some y ∧ y.ctx = e.ctx ∧
        y.kid = k.kid ∧ y.pc = BitVec.ofNat 64 (recPc e.record) ∧ y.task = s.taskHandle i ∧ y.status = .ready ∧ y.space = k.space ∧
        y.thermal = recTherm e.record ∧ y.dealt = some (s.taskHandle i) ∧ y.empty = 0 ∧ t.entry i = some { e with state := .running } ∧
        ∀ j, j ≠ 16 * o.core + o.slots.headD 0 → t.slot j = s.slot j) ∧
    (∀ k g place, s.mayDispatch i = some e → recKind e.record = 1 → s.loadedFor (recKid e.record) e.ctx = some k → k.pass = false →
      s.groupGrotto e.ctx (recShape e.record) k.space (recTherm e.record) = some g →
      s.room g e.ctx (recShape e.record) k.space (recTherm e.record) ≠ 0 →
      placeGroup (s.offers g (s.pairOn e.ctx)) (recShape e.record % 8) (recShape e.record / 16 % 32) k.space ((recShape e.record).testBit 9) = some place →
      ∃ (t : State) (key : Nat) (q : Group), exec (.groupTaskDispatch i) s = .next t ∧ t.entry i = some { e with state := .running } ∧
        kget t.gr.groups key = some q ∧ q.ctx = e.ctx ∧ q.kid = k.kid ∧ q.shape = recShape e.record ∧ q.task = some (s.taskHandle i) ∧
        q.cores = place.map (fun p => p.1) ∧ q.slots = place.map (fun p => p.2) ∧
        q.live = recShape e.record % 8 * (recShape e.record / 16 % 32)) ∧
    (∀ ctx bs, ctx < 16 → bs.length = 64 →
      ((s.ctx ctx).state.admitted' = false ∨ s.recordBad ctx (ofBytes bs) ≠ none →
        ∃ t : State, exec (.hostPost (0x400000 + 64 * ctx) bs) s = .next t ∧ t.pl = { s.pl with poolBad := true } ∧ t.slots = s.slots ∧ t.mem = s.mem ∧
          t.o.irqs = if s.pl.poolBad then s.o.irqs else s.o.irqs ++ [s.pl.poolVec]) ∧
      (∀ rot, (s.ctx ctx).state.admitted' = true → s.recordBad ctx (ofBytes bs) = none → s.placeRecord (recOut (ofBytes bs)) = (none, rot) →
        ∃ t : State, exec (.hostPost (0x400000 + 64 * ctx) bs) s = .next t ∧ t.pl = { s.pl with rotation := rot, poolBad := true, poolFull := true } ∧
          t.slots = s.slots ∧ t.mem = s.mem ∧
          t.o.irqs = if s.pl.poolBad && s.pl.poolFull then s.o.irqs else s.o.irqs ++ [s.pl.poolVec]) ∧
      (∀ j rot, (s.ctx ctx).state.admitted' = true → s.recordBad ctx (ofBytes bs) = none → s.placeRecord (recOut (ofBytes bs)) = (some j, rot) →
        exec (.hostPost (0x400000 + 64 * ctx) bs) s = .next (s.enterRecord ctx (ofBytes bs) j rot none false))) ∧
    (∀ ctx r rot, recNin r = 0 → 0 < recExtra r → (s.enterRecord ctx r i rot none false).entry i =
      some { state := .waiting, ctx := ctx, record := r, counter := recExtra r }) ∧
    (∀ h, s.entryOf h = some i → e.state = .waiting → 2 ≤ e.counter →
      exec (.taskDecrement h) s = .next (s.setEntry i { e with counter := e.counter - 1 })) ∧
    (∀ h, s.entryOf h = none →
      exec (.taskDecrement h) s = .next { s with pl := { s.pl with poolDrop := min 0xFFFF (s.pl.poolDrop + 1) } })

/-- Packets between slots: a closed packet leaves and its slot goes on; a packet kept open 1,024 rotations after a save was
requested is closed with TRUNC; a packet on its way to a core of this die enters the inbox, one for a core that does not take
packets of its context is refused (12 R253, R255, R257).

Stealing: a thief asks the straggler of lowest list position for at most MAXT entries; the owner gives READY entries that it
holds itself, at most 15, and counts them; a granted record enters the thief's pool READY and is counted (17 R344 to R347). -/
def Obligations.PacketAndStealSteps : Prop :=
  (∀ (s : State),
     (∀ sid x r m next u t h ws, s.slot sid = some x → x.status = .stalled (.answer r next u) → kget s.msgs r = some m → m.op = .packet t h ws →
       exec (.packetLeave sid) s = .next ((s.modMsg r (fun m => { m with stalls := false })).setSlot sid { x with
         pc := next, status := if u ≤ s.t.cycle + 16 then .ready else .stalled (.count u) })) ∧
     (∀ sid x p c, s.slot sid = some x → x.openPkt = some p → p.since = some c → c + 16384 ≤ s.t.cycle →
       ∃ (t : State) (m : Msg), exec (.sendTruncTimeout sid) s = .next t ∧ t.slot sid = some { x with openPkt := none } ∧
         kget t.msgs s.o.nextId = some m ∧
         m.op = .packet p.target (BitVec.ofNat 64 (p.header.toNat + p.words.length * 2 ^ 43 + 2 ^ 42)) p.words) ∧
     (∀ rid m target h ws core, kget s.msgs rid = some m → m.op = .packet target h ws → m.stalls = false → m.sent = false →
       core = target.toNat / 2 ^ 10 % 256 → s.isOwn (target.toNat % 1024) = true →
       (s.inboxTakes core m.ctx = false → exec (.packetAccept (.inNetwork rid)) s = .next (s.nackMsg rid m)) ∧
       (Claims.Takes s core m.ctx → ihLen h ≠ 0 →
         (∀ r z t g us, kget s.msgs r = some z → z.op = .packet t g us → r = rid ∨ ihSource g ≠ ihSource h ∨ t.toNat / 2 ^ 10 % 256 ≠ core) →
         (∀ r z, (r, z) ∈ s.msgs → kget s.msgs r = some z) →
         ∃ t : State, exec (.packetAccept (.inNetwork rid)) s = .next t ∧ kget t.msgs rid = none ∧
           (t.core core).inbox = (s.core core).inbox ++ [{ ctx := m.ctx, header := h, words := ws }] ∧ t.mem = s.mem)) ∧
     (∀ core h ws, Claims.Takes s core (ihCtx h) → ihLen h ≠ 0 → s.lk.inHeld = [] →
       ∃ t : State, exec (.packetAccept (.fromDie core h ws)) s = .next t ∧
         (t.core core).inbox = (s.core core).inbox ++ [{ ctx := ihCtx h, header := h, words := ws.take 16 }] ∧ t.mem = s.mem)) ∧
  (∀ (s : State),
     (∀ ctx pulled i a, s.br.echoCtx.testBit ctx = true → (s.view ctx).testBit (s.ownPos ctx) = false → s.stealing ctx pulled = false →
       (pulled = true ∨ s.dealtIdle ctx = true) → (List.range 8).find? (fun j => (s.view ctx).testBit j) = some i →
       ((s.ctx ctx).dies[i]?).join = some a → s.isOwn a = false → s.agentUp a = true →
       ∃ (t : State) (m : Msg), exec (.stealSend ctx pulled) s = .next t ∧ kget t.msgs s.o.nextId = some m ∧ m.op = .steal pulled ∧ m.ctx = ctx ∧
         m.sent = true ∧ m.dsts = [a] ∧
         ∃ l r, t.link l = { s.link l with queue := (s.link l).queue ++ [r] } ∧ r.typ = 0x08 ∧ r.dst = a ∧ r.tag = s.o.nextId ∧ r.ctx = ctx ∧
           r.op = min s.br.echoMaxT s.poolFree) ∧
     (∀ p u given, u = Claims.heard s p → s.transit p = false → u.admits p.ctx = true → u.br.echoCtx.testBit p.ctx = true →
       (u.ctx p.ctx).state = .resident → p.arg2.toNat.testBit (u.ownPos p.ctx) = true → given = (u.grantable p.ctx (p.arg1.toNat % 2 == 1)).take (min 15 p.op) → u.agentUp p.src = true →
       u.kn.kernels = [] →
       ∃ t : State, exec (.steal p) s = .next t ∧ (∀ q ∈ given, t.entry q.1 = none) ∧
         t.br.stealCnt = u.br.stealCnt.set 1 (min 0xFFFF ((u.br.stealCnt[1]?.getD 0) + given.length)) ∧
         (∀ j, (∀ q ∈ given, q.1 ≠ j) → t.entry j = s.entry j) ∧ t.mem = s.mem) ∧
     (∀ p u m pulled j rot r, u = Claims.heard s p → s.transit p = false → kget u.msgs p.tag = some m → m.op = .steal pulled → p.data.length = 64 →
       r = ofBytes p.data → recKind r = 2 → recPull r = false → (u.unpost p.tag).placeRecord (recOut r) = (some j, rot) →
       ∃ (t : State) (e : PoolEntry), exec (.grant p) s = .next t ∧ kget t.msgs p.tag = none ∧ t.entry j = some e ∧ e.state = .ready ∧
         e.record = r ∧ e.ctx = m.ctx ∧ e.stolen = some p.src ∧
         t.br.stealCnt = u.br.stealCnt.set 0 (min 0xFFFF ((u.br.stealCnt[0]?.getD 0) + 1))))

/-! ### Steps of barriers (17) -/

namespace Sys2Proof.Claims

/-- A barrier request of this die for a named barrier, due at its home. -/
def NamedDue (s : State) (rid : Nat) (m : Msg) (op : Nat) (h a b : Word) (group member : Nat) : Prop :=
  Due s rid m ∧ m.op = .barrier op h a b group member ∧ bhDie h = false

end Sys2Proof.Claims

/-- Named barriers at their home: arming a FREE one makes it ARMED with its count, arming it again alike changes nothing and otherwise
breaks it; clearing frees it; an arrival of BARA before the last is answered with the episode and counted, and a second one of a member
breaks the barrier; one of BARX before the last is counted and joins the waiters; the last one of BARA, with no BARX in the episode,
releases it: the waiters of the episode receive the time, and the next episode begins; a wait for an episode that has ended is answered at once, any other joins the waiters; a query answers the status word; a release packet
answers the waits of this die (17 R330, R331, R335 to R338). -/
def Obligations.BarrierSteps : Prop :=
  (∀ (s : State) (rid op n g member : Nat) (m : Msg) (h a b : Word), Claims.NamedDue s rid m op h a b g member → n = 128 * g + bhN h →
    (op = 0 → a.toNat / 2 ^ 20 % 2 = 0 → m.stalls = true →
      (kget s.br.barriers n = none → ∃ (t : State) (z : Barrier) (y : Msg), exec (.barrierArm (.own rid)) s = .next t ∧
        kget t.br.barriers n = some z ∧ z.state = .armed ∧ z.t = a.toNat % 4096 + 1 ∧ z.e = 1 ∧ z.k = 0 ∧ z.ctx = m.ctx ∧ z.group = g ∧ z.waiters = [] ∧
        kget t.msgs rid = some y ∧ y.answer = some 0 ∧ ∀ i, i ≠ n → kget t.br.barriers i = kget s.br.barriers i) ∧
      (∀ z, kget s.br.barriers n = some z → z.waiters = [] → ∃ (t : State) (y : Msg), exec (.barrierArm (.own rid)) s = .next t ∧ kget t.msgs rid = some y ∧
        (z.t = a.toNat % 4096 + 1 → z.mask = 0 → z.cfgEcho = none → y.answer = some 0 ∧ t.br = s.br) ∧
        (z.t ≠ a.toNat % 4096 + 1 → y.answer = some 3 ∧ kget t.br.barriers n = some { z with state := .broken, reason := 3, waiters := [] }))) ∧
    (∀ z, op = 1 → m.stalls = true → kget s.br.barriers n = some z → z.waiters = [] →
      ∃ (t : State) (y : Msg), exec (.barrierClear (.own rid)) s = .next t ∧ kget t.br.barriers n = none ∧ kget t.msgs rid = some y ∧ y.answer = some 0) ∧
    (∀ z d y, op = 2 → m.dep = some d → kget s.deps d = some y → kget s.br.barriers n = some z → z.state ≠ .broken →
      (z.state = .collecting → z.arrivals.any (fun q => q.1 == member) = false) →
      (z.k + 1 ≠ z.t → ∃ (t : State) (w : Barrier), exec (.barrierArrival (.own rid)) s = .next t ∧ kget t.deps d = some (y.answer z.e []) ∧
        kget t.br.barriers n = some w ∧ w.state = .collecting ∧ w.k = z.k + 1 ∧ w.e = z.e ∧ w.waiters = z.waiters ∧
        w.arrivals = z.arrivals.filter (fun q => q.1 != member) ++ [(member, s.now)]) ∧
      (z.k + 1 = z.t → z.barx = false → z.echo = none → (∀ v ∈ z.waiters, v.episode = z.e ∧ ∃ r, v.who = .own r ∧ r ≠ d) →
        ∃ (t : State) (w : Barrier), exec (.barrierArrival (.own rid)) s = .next t ∧ kget t.deps d = some (y.answer z.e []) ∧
        kget t.br.barriers n = some w ∧ w.state = .released ∧ w.k = 0 ∧ w.e = (z.e + 1) % 2 ^ 32 ∧ w.waiters = [] ∧ w.arrivals = [] ∧ w.lastRelease = s.now ∧
        ((z.waiters.map (fun v => v.who)).Nodup → ∀ v ∈ z.waiters, ∀ r x, v.who = .own r → kget s.deps r = some x →
          kget t.deps r = some (x.answer s.now [])))) ∧
    (∀ z d, op = 5 → m.dep = some d → kget s.br.barriers n = some z → z.state ≠ .broken →
      (z.state = .collecting → z.arrivals.any (fun q => q.1 == member) = false) → z.k + 1 ≠ z.t →
      ∃ (t : State) (w : Barrier), exec (.barrierArrival (.own rid)) s = .next t ∧ kget t.deps d = kget s.deps d ∧
        kget t.br.barriers n = some w ∧ w.state = .collecting ∧ w.k = z.k + 1 ∧ w.e = z.e ∧ w.barx = true ∧
        w.waiters = z.waiters ++ [{ who := .own d, h := h, episode := z.e }]) ∧
    (∀ z d y, op = 2 → m.dep = some d → kget s.deps d = some y → kget s.br.barriers n = some z → z.state = .collecting → z.waiters = [] →
      z.arrivals.any (fun q => q.1 == member) = true → ∃ t : State, exec (.barrierArrival (.own rid)) s = .next t ∧
        kget t.br.barriers n = some { z with state := .broken, reason := 4, waiters := [] } ∧ kget t.deps d = some (y.fail (barrierFault h 4))) ∧
    (∀ z d y, op = 3 → m.dep = some d → kget s.deps d = some y → kget s.br.barriers n = some z → z.state ≠ .broken → z.e < 2 ^ 32 → a.toNat < 2 ^ 32 →
      ((z.e + 2 ^ 32 - a.toNat) % 2 ^ 32 = 0 ∨ 2 ^ 31 < (z.e + 2 ^ 32 - a.toNat) % 2 ^ 32 →
        ∃ t : State, exec (.barrierWait (.own rid)) s = .next t ∧ kget t.msgs rid = none ∧ kget t.deps d = some y ∧
          kget t.br.barriers n = some { z with waiters := z.waiters ++ [{ who := .own d, h := h, episode := a.toNat }] }) ∧
      (1 ≤ (z.e + 2 ^ 32 - a.toNat) % 2 ^ 32 → (z.e + 2 ^ 32 - a.toNat) % 2 ^ 32 ≤ 2 ^ 31 →
        ∃ t : State, exec (.barrierWait (.own rid)) s = .next t ∧ kget t.deps d = some (y.answer z.lastRelease []) ∧ t.br = s.br)) ∧
    (op = 4 → exec (.barrierQuery (.own rid)) s = .next (s.answerMsg rid m (match kget s.br.barriers n with
      | none => 0
      | some z => z.e * 2 ^ 32 + z.state.num * 2 ^ 29 + (if z.state = .broken then z.reason else 0) * 2 ^ 25 + z.k % 8192 * 2 ^ 12 + (z.t - 1)) []))) ∧
  ∀ (s : State) (p : Packet) (rid d g member : Nat) (b : Word) (m : Msg) (y : Dep), s.transit p = false → ksorted s.msgs = true →
    kget s.msgs rid = some m → m.op = .barrier 3 p.addr p.arg1 b g member → m.sent = true → m.ctx = p.ctx → m.dep = some d →
    kget s.deps d = some y → (∀ r z, kget s.msgs r = some z → z.dep = some d → r = rid) →
    ∃ t : State, exec (.barrierReleasePacket p) s = .next t ∧ kget t.deps d = some (y.answer p.arg2.toNat []) ∧ kget t.msgs rid = none

/-! ### Steps of launches (16) -/

/-- Steps of launches: a valid post enters the table, READY when it awaits nothing, an invalid one sets BAD, one that finds the table
full FULL; an immediate count of 0 ends a READY launch, with its completion action, and any other makes it DEALING; a launch over this
die alone whose shape no grotto could hold sets BAD, and so does one over several once the last of them has reported so; a round deals
indices in order and remembers whom it dealt them to; a deal waits to be placed; a placed group starts its threads with the deal's
index; the last exit report frees the launch and decrements FIN, an index that was lost is dealt again; the deputy keeps a mirror, and
a survivor of a lost leader turns to the new one (16 R315 to R324).  What travels between dies has the packet forms that the log names
(TASKPOST, UNVERIFIED). -/
def Obligations.LaunchSteps : Prop :=
  ∀ (s : State),
    (∀ v ctx bs ue u r, (s.postKey v ctx).isSome = true →
      s.engRead (0x7000 + ctx) ctx (v.toNat / 64 % 2 ^ 51 * 64) 64 0 false false = (.ok (bs, ue), u) → r = ofBytes bs →
      (laBad r = true ∨ ue ≠ [] → exec (.launchPost v ctx) s = .next (u.endPost v ctx).launchBad) ∧
      (∀ w, laBad r = false → ue = [] → (u.endPost v ctx).launchInvalid ctx r = (true, w) → exec (.launchPost v ctx) s = .next w.launchBad) ∧
      (∀ w l, laBad r = false → ue = [] → (u.endPost v ctx).launchInvalid ctx r = (false, w) → w.freeLaunchIndex = some l →
        exec (.launchPost v ctx) s = .next (w.enterLaunch l ctx r)) ∧
      (∀ w, laBad r = false → ue = [] → (u.endPost v ctx).launchInvalid ctx r = (false, w) → w.freeLaunchIndex = none →
        exec (.launchPost v ctx) s = .next w.launchFull)) ∧
    (s.launchBad.gr.lbad = true ∧ s.launchFull.gr.lfull = true) ∧
    (∀ l ctx r, laIn r = 0 → laInd r ≠ 2 → ∃ x, kget (s.enterLaunch l ctx r).gr.launches l = some x ∧ x.ctx = ctx ∧ x.record = r ∧
      x.state = (if s.released (recRelease r) then .ready else .waiting) ∧ x.total = 0 ∧ x.next = 0 ∧ x.out = []) ∧
    (∀ l x, kget s.gr.launches l = some x → x.state = .waiting → x.waits = 0 → s.released (recRelease x.record) = true →
      exec (.launchReleaseTime l) s = .next { s with gr := { s.gr with launches := kset s.gr.launches l { x with state := .ready } } }) ∧
    (∀ l x, kget s.gr.launches l = some x → x.state = .ready → (s.ctx x.ctx).state = .resident → laInd x.record = 0 →
      (laCsrc x.record = 0 → x.deputy = none → ∃ t : State, exec (.launchCountRead l) s = .next t ∧ kget t.gr.launches l = none ∧
        t.o.agenda = (if laFin x.record = 0 then [] else [.taskDecrement (BitVec.ofNat 64 (laFin x.record))]) ++ s.o.agenda) ∧
      (laCsrc x.record ≠ 0 → (laDies x.record).all s.isOwn = true → x.next = 0 → x.out = [] → x.redeal = [] → x.queries = [] →
        (s.everFits x.ctx x.record = true → ∃ t : State, exec (.launchCountRead l) s = .next t ∧
          kget t.gr.launches l = some { x with state := .dealing, total := laCsrc x.record, reports := [], fits := true }) ∧
        (s.everFits x.ctx x.record = false → ∃ t : State, exec (.launchCountRead l) s = .next t ∧ kget t.gr.launches l = none ∧
          t.gr.lbad = true))) ∧
    (∀ l x deals left redeal next cursor, kget s.gr.launches l = some x → s.nextRound = some l → deals ≠ [] →
      dealRound ((s.launchRooms x).foldl (fun n k => n + k) 0) (s.launchRooms x) x.redeal x.next x.total x.cursor = (deals, left, redeal, next, cursor) →
      ∃ (t : State) (y : Launch), exec (.launchDealRound l) s = .next t ∧ t.gr.lastRound = x.ctx ∧ kget t.gr.launches l = some y ∧ y.redeal = redeal ∧
        y.next = next ∧ y.cursor = cursor ∧ y.out = x.out ++ deals.map (fun d => (d.1, ((laDies x.record)[d.2.1 / 36]?).getD 0))) ∧
    (∀ p u, u = Claims.heard s p → s.transit p = false →
      (u.admits p.ctx = false → exec (.launchDeal p) s = .next (u.refusePacket p 4)) ∧
      (u.admits p.ctx = true → s.gr.replaced.contains (p.src, p.arg1.toNat) = false →
        ∃ t : State, exec (.launchDeal p) s = .next t ∧ kget t.gr.deals s.o.nextId = some {
          ctx := p.ctx, leader := p.src, launch := p.arg1.toNat, index := p.arg2.toNat, grotto := p.op / 2 ^ 8 % 64, replay := p.op.testBit 0
          record := ofBytes (p.data.take 64) } ∧ t.gr.launches = s.gr.launches ∧ t.mem = s.mem ∧ t.slots = s.slots)) ∧
    (∀ n d k, kget s.gr.deals n = some d → s.dealReady d = true → s.loadedFor (recKid d.record) d.ctx = some k →
      (∀ g place, s.dealGrotto d k.space = some g →
        placeGroup (s.offers g (s.pairOn d.ctx)) (laShape d.record % 8) (laShape d.record / 16 % 32) k.space ((laShape d.record).testBit 9) = some place →
        ∃ (t : State) (key : Nat) (q : Group), exec (.groupPlace n) s = .next t ∧ kget t.gr.deals n = none ∧ kget t.gr.groups key = some q ∧
          q.launch = some (d.leader, d.launch, laDies d.record, d.index) ∧ q.shape = laShape d.record ∧ q.ctx = d.ctx ∧ q.kid = k.kid ∧
          q.cores = place.map (fun z => z.1) ∧ q.slots = place.map (fun z => z.2) ∧ q.live = laShape d.record % 8 * (laShape d.record / 16 % 32) ∧
          ∀ c ks, (c, ks) ∈ place → ∀ j ∈ ks, ∃ y, t.slot (16 * c + j) = some y ∧ y.group = key ∧ y.gid = BitVec.ofNat 64 d.index ∧ y.ctx = d.ctx ∧
            y.pc = BitVec.ofNat 64 (recPc d.record) ∧ y.replay = d.replay ∧ y.thermal = laTherm d.record) ∧
      (s.dealGrotto d k.space = none → exec (.groupPlace n) s =
        .next { s with gr := { s.gr with deals := kset s.gr.deals n { d with waited := true } } })) ∧
    (∀ p u, u = Claims.heard s p → s.transit p = false → p.rsp = false →
      (p.op = 0 → u.admits p.ctx = true → ∃ (t : State) (q : Part), exec (.roomReport p) s = .next t ∧ q ∈ t.gr.parts ∧ q.leader = p.src ∧
        q.launch = p.arg1.toNat ∧ q.ctx = p.ctx ∧ q.record = ofBytes (p.data.take 64) ∧ q.last = u.roomsFor p.ctx q.record) ∧
      (∀ x, p.op ≠ 0 → kget s.gr.launches p.arg1.toNat = some x → x.state = .dealing → x.next < x.total → x.fits = false → p.arg2 = 0 →
        x.reports.filter (fun a => a != p.src) = [] → x.queries = [] → x.next = 0 → x.out = [] → x.redeal = [] →
        ∃ t : State, exec (.roomReport p) s = .next t ∧ kget t.gr.launches p.arg1.toNat = none ∧ t.gr.lbad = true) ∧
      (∀ x, p.op ≠ 0 → kget s.gr.launches p.arg1.toNat = some x → x.state = .dealing → x.next < x.total → x.fits = true ∨ p.arg2 ≠ 0 →
        ∃ (t : State) (y : Launch), exec (.roomReport p) s = .next t ∧
        kget t.gr.launches p.arg1.toNat = some y ∧ y.reports = x.reports.filter (fun a => a != p.src) ∧ y.out = x.out ∧ y.next = x.next ∧
        ∀ g, g < 36 → (p.src, g, ((p.data[g]?).map BitVec.toNat).getD 0) ∈ y.rooms)) ∧
    (∀ p l i x, s.transit p = false → s.isOwn (p.arg1.toNat % 2 ^ 16) = true → l = p.arg1.toNat / 2 ^ 16 → i = p.arg2.toNat →
      kget s.gr.launches l = some x → x.out.any (fun q => q.1 == i) = true →
      (p.op ≠ 1 → x.redeal = [] → x.total ≤ x.next → x.queries = [] → x.state = .dealing ∨ x.state = .draining → (∀ q ∈ x.out, q.1 = i) →
        ∃ t : State, exec (.exitReport p) s = .next t ∧ kget t.gr.launches l = none ∧
          t.o.agenda = (if laFin x.record = 0 then [] else [.taskDecrement (BitVec.ofNat 64 (laFin x.record))]) ++ s.o.agenda) ∧
      (p.op ≠ 1 → x.out.any (fun q => q.1 != i) = true → ∃ (t : State) (y : Launch), exec (.exitReport p) s = .next t ∧
        kget t.gr.launches l = some y ∧ y.out = x.out.filter (fun q => q.1 != i) ∧ y.redeal = x.redeal ∧ y.next = x.next) ∧
      (p.op = 1 → ∃ (t : State) (y : Launch), exec (.exitReport p) s = .next t ∧ kget t.gr.launches l = some y ∧
        y.out = x.out.filter (fun q => q.1 != i) ∧ i ∈ y.redeal ∧ y.next = x.next)) ∧
    (∀ p u l lo hi, u = Claims.heard s p → s.transit p = false → u.admits p.ctx = true → l = p.arg1.toNat → lo = p.arg2.toNat % 2 ^ 32 →
      hi = p.arg2.toNat / 2 ^ 32 →
      (p.op = 1 → ∃ (t : State) (y : Launch), exec (.mirrorUpdate p) s = .next t ∧ t.mirrorOf p.src l = some y ∧ y.ctx = p.ctx ∧
        y.record = ofBytes (p.data.take 64) ∧ y.next = lo ∧ y.total = hi) ∧
      (p.op = 2 → ∃ t : State, exec (.mirrorUpdate p) s = .next t ∧ t.mirrorOf p.src l = none) ∧
      (∀ x, p.op ≠ 1 → p.op ≠ 2 → s.mirrorOf p.src l = some x → ∃ t : State, exec (.mirrorUpdate p) s = .next t ∧
        t.mirrorOf p.src l = some { x with next := max x.next (lo + 1), out := x.out.filter (fun q => q.1 != lo) ++ [(lo, hi)] })) ∧
    (∀ p old ol, s.transit p = false → p.rsp = false → old = p.arg1.toNat % 2 ^ 16 → ol = p.arg1.toNat / 2 ^ 16 →
      ∃ t : State, exec (.leaderQuery p) s = .next t ∧ (old, ol) ∈ t.gr.replaced ∧ t.gr.launches = s.gr.launches ∧
        (∀ key g dies i, kget s.gr.groups key = some g → g.launch = some (old, ol, dies, i) →
          kget t.gr.groups key = some { g with launch := some (p.src, p.arg2.toNat, dies, i) }) ∧
        (∀ n d, kget s.gr.deals n = some d → d.leader = old → d.launch = ol →
          kget t.gr.deals n = some { d with leader := p.src, launch := p.arg2.toNat }))

/-! ### Steps of the FIFOs, the channels and the matrix engines (13) -/

namespace Sys2Proof.Claims

/-- Addresses of the aperture of the engine FIFOs and of the channels' ports on this die: unit and port (01 R17). -/
def AtFifo (s : State) (pa f port : Nat) : Prop :=
  s.isOwn (pa / 2 ^ 42) = true ∧ pa % 2 ^ 42 = 0x20002000000 + 0x10000 * f + port ∧ port < 0x10000
def AtChannel (s : State) (pa n port : Nat) : Prop :=
  s.isOwn (pa / 2 ^ 42) = true ∧ pa % 2 ^ 42 = 0x20001000000 + 0x1000 * n + port ∧ port < 0x1000 ∧ n < 64

/-- Nothing but the engines differs. -/
def EnginesOnly (s t : State) : Prop := { t with en := s.en } = s

end Sys2Proof.Claims

namespace Sys2Proof.Claims

/-- `n` bytes of one 256-byte line at a virtual address, as a unit of the die reaches them: the last-level TLB maps them to plain
memory of this die that the unit may access (08 R165, R166, R169). -/
structure UnitReaches (s : State) (src ctx va n : Nat) (a : Access) (pa : Nat) (l : Word) : Prop where
  inLine : 0 < n ∧ va % 256 + n ≤ 256
  unheld : s.isHeld src ctx va = false
  fresh : ∀ p ∈ s.pg.unitTlb, p.1 ≠ src
  mapped : s.tlbFind (s.unitTlbs va) ctx va = some l
  place : pa = leafPa l va
  permitted : s.checkLeaf l false false a pa = .ok
  plain : leafE l = false ∧ leafState l = 0
  here : s.isOwn (pa / 2 ^ 42) = true ∧ pa % 2 ^ 42 + n ≤ s.memBytes
  unlocked : s.lineHeld pa = false

end Sys2Proof.Claims

/-- FIFOs: a push joins the items, or waits while 64 are held, a pop takes the oldest, waits for one or answers 0, offset 16 answers
the count, and a FIFO that is off or of another context refuses.  Channels: a push joins the queue of at most 16 and makes an idle
channel READY, a full queue lets it wait, a channel that is off refuses it; EN, FLUSH and RESUME change the state; a copy task
joins the queue of its channel (13 R271, R272, R277 to R281).

Copies of a channel: the queued push at the head becomes the copy in progress, and its template is read; a template of one row
whose bytes lie in one line moves them from its source to its destination, every other byte of memory stays, and DONE counts the
copy; a push of another context or beyond the table fails with its code, and a failed copy leaves the channel in ERROR with the
code, the argument and a record in the log (13 R272 to R277). -/
def Obligations.PortAndCopySteps : Prop :=
  ((∀ (s : State) (rid pa f port : Nat) (m : Msg) (q : EFifo), Claims.Due s rid m → Claims.AtFifo s pa f port → q = s.fifo f →
     (∀ v, m.op = .push pa v → q.en = true → q.ctx = m.ctx → port = 0 → q.pushes = [] → q.pops = [] →
       (q.items.length < 64 → ∃ t : State, exec (.fifoPush rid) s = .next (t.ackMsg rid m 0) ∧ t.fifo f = { q with items := q.items ++ [v] } ∧
         (∀ g, g ≠ f → t.fifo g = s.fifo g) ∧ Claims.EnginesOnly s t) ∧
       (64 ≤ q.items.length → exec (.fifoPush rid) s = .next (s.setFifo f { q with pushes := [.own rid] }))) ∧
     (∀ v, m.op = .push pa v → (q.en = false ∨ q.ctx ≠ m.ctx ∨ port ≠ 0) → exec (.fifoPush rid) s = .next (s.nackMsg rid m)) ∧
     (∀ nw pope, m.op = .pop pa nw pope → q.en = true → q.ctx = m.ctx → q.pushes = [] → q.pops = [] →
       (∀ v l, port = 8 → q.items = v :: l → ∃ t : State, exec (.fifoPop rid) s = .next (t.answerMsg rid m v.toNat []) ∧
         t.fifo f = { q with items := l } ∧ Claims.EnginesOnly s t) ∧
       (port = 8 → q.items = [] → (nw = true ∨ pope = false) → exec (.fifoPop rid) s = .next (s.answerMsg rid m 0 [])) ∧
       (port = 8 → q.items = [] → nw = false → pope = true → exec (.fifoPop rid) s = .next (s.setFifo f { q with pops := [.own rid] })) ∧
       (port = 16 → pope = false → exec (.fifoPop rid) s = .next (s.answerMsg rid m q.items.length []))) ∧
     (∀ nw pope, m.op = .pop pa nw pope → (q.en = false ∨ q.ctx ≠ m.ctx) → exec (.fifoPop rid) s = .next (s.nackMsg rid m))) ∧
   (∀ (s : State) (rid pa n : Nat) (m : Msg) (v : Word) (c : Channel), Claims.Due s rid m → Claims.AtChannel s pa n 0 → m.op = .push pa v →
     c = s.channel n → c.pending = [] →
     (c.en = true → c.queue.length < 16 → ∃ t : State, exec (.channelPush rid) s = .next (t.ackMsg rid m 0) ∧ t.channel n = { c with
         queue := c.queue ++ [{ arg := v.toNat / 2 ^ 16, template := v.toNat % 2 ^ 16, ctx := m.ctx, task := none }]
         state := if c.state = .idle then .ready else c.state } ∧ Claims.EnginesOnly s t) ∧
     (c.en = true → 16 ≤ c.queue.length → exec (.channelPush rid) s = .next (s.setChannel n { c with pending := [.own rid] })) ∧
     (c.en = false → exec (.channelPush rid) s = .next (s.nackMsg rid m))) ∧
   ∀ (s : State) (n : Nat) (v : Word) (c : Channel), c = s.channel n →
     ((s.fifo n).pushes = [] → (s.fifo n).pops = [] → exec (.fifoConfigWrite n v) s = .next (s.setFifo n { s.fifo n with
       en := v.getLsbD 63, ctx := v.toNat % 16, items := if v.getLsbD 63 then (s.fifo n).items else [] })) ∧
     (c.en = false → exec (.bteChannelEnable n) s = .next (s.setChannel n { c with en := true, state := .idle })) ∧
     (c.en = true → ∃ t : State, exec (.bteChannelDisable n) s = .next t ∧ (t.channel n).en = false ∧ (t.channel n).queue = [] ∧ (t.channel n).cur = none ∧
       (t.channel n).doneCnt = c.doneCnt ∧ t.mem = s.mem ∧ (∀ g, g ≠ n → t.channel g = s.channel g) ∧
       ∀ p i, p ∈ c.queue → p.task = some i → t.entry i = none) ∧
     (∀ kept, c.en = true → c.pending = [] → kept = (if c.state = .ready then 1 else 0) → ∃ t : State, exec (.flush n) s = .next t ∧
       t.channel n = { c with queue := c.queue.take kept, state := if c.state = .error then .idle else c.state } ∧ t.mem = s.mem ∧
       ∀ p i, p ∈ c.queue.drop kept → p.task = some i → t.entry i = none) ∧
     (c.en = true → c.state = .error → exec (.resume n) s = .next (s.setChannel n { c with state := if c.queue = [] then .idle else .ready })) ∧
     exec .elogPop s = .next { s with en := { s.en with elog := s.en.elog.drop 1 } } ∧
     (∀ i e, s.mayDispatch i = some e → recKind e.record = 3 → n = recWord e.record 1 % 64 →
       ∃ t : State, exec (.copyTaskDispatch i) s = .next t ∧ t.entry i = some { e with state := .running } ∧ (t.channel n).queue = c.queue ++ [{
         arg := recParam e.record / 2 ^ 16, template := recWord e.record 1 / 2 ^ 16 % 2 ^ 16, ctx := e.ctx, task := some i, replay := e.replay }])) ∧
  (∀ (s : State) (ch : Nat) (c : Channel) (p : ChPush), c = s.channel ch →
     (∀ l v u bs b, c.state = .ready → c.queue = p :: l → c.pending = [] → p.ctx = c.ctx → p.template < c.tcount → v = s.setChannel ch { c with
           state := .running, cur := some p, queue := l, tmpl := none, moved := 0, row := [], rowAt := 0, under := 0, ue := {}, fail := 0
           writes := [], await := none, opened := false } →
       v.engRead (0x1000 + ch) c.ctx (c.tbase.toNat + 64 * p.template) 64 0 false false = (.ok (bs, b), u) → tmAct (ofBytes bs) ≠ 1 →
       tmBad (ofBytes bs) p.arg (s.copyOut p) = false →
       ∃ (t : State) (d : Channel), exec (.copyStart ch) s = .next t ∧ t.channel ch = d ∧ d.cur = some p ∧ d.tmpl = some (ofBytes bs) ∧
         d.state = .running ∧ d.queue = l ∧ d.moved = 0 ∧ d.fail = 0 ∧ d.doneCnt = c.doneCnt ∧ t.mem = s.mem) ∧
     (∀ l, c.state = .ready → c.queue = p :: l → c.pending = [] → (p.ctx ≠ c.ctx ∨ c.tcount ≤ p.template) →
       ∃ t : State, exec (.copyStart ch) s = .next t ∧ (t.channel ch).cur = some p ∧ (t.channel ch).queue = l ∧
         (t.channel ch).fail = (if p.ctx ≠ c.ctx then 7 else 1) ∧ t.mem = s.mem) ∧
     (∀ t spa dpa ls ld, c.cur = some p → p.task = none → c.tmpl = some t → c.state = .running → c.fail = 0 → c.moved = 0 → c.row = [] → c.writes = [] → c.ue = {} →
       tmAct t = 0 → tmAu t = 0 → tmTab t = 0 → tmY t = 1 → tmZ t = 1 → s.ueMem = [] →
       Claims.UnitReaches s (0x1000 + ch) c.ctx (tmW t 0 % 2 ^ 57) (tmX t) .load spa ls →
       Claims.UnitReaches s (0x1000 + ch) c.ctx (tmW t 1) (tmX t) .bteWrite dpa ld →
       ∃ u : State, exec (.copyComplete ch) s = .next u ∧ (u.channel ch).cur = none ∧ (u.channel ch).doneCnt = c.doneCnt + 1 ∧
         (u.channel ch).state = (if c.queue = [] then .idle else .ready) ∧ (u.channel ch).queue = c.queue ∧
         (∀ i, i < tmX t → u.mem.read (dpa % 2 ^ 42 + i) = s.mem.read (spa % 2 ^ 42 + i)) ∧
         (∀ a, a < dpa % 2 ^ 42 ∨ dpa % 2 ^ 42 + tmX t ≤ a → u.mem.read a = s.mem.read a) ∧ u.slots = s.slots) ∧
     (c.cur = some p → p.task = none → c.fail ≠ 0 → c.ue = {} → s.en.elog.length < 64 →
       (c.fail = 6 ∨ c.fail = 1 ∨ c.fail = 7 ∨ c.tmpl = none ∨ ∃ t, c.tmpl = some t ∧ tmAct t ≠ 1) →
       ∃ t : State, exec (.copyFail ch) s = .next t ∧ (t.channel ch).state = .error ∧ (t.channel ch).err = c.fail ∧ (t.channel ch).arg = p.arg ∧
         (t.channel ch).cur = none ∧ (t.channel ch).doneCnt = c.doneCnt + 1 ∧ t.mem = s.mem ∧
         t.en.elog = s.en.elog ++ [{ w0 := BitVec.ofNat 64 ((0x1000 + ch) * 2 ^ 48), w1 := BitVec.ofNat 64 (c.ctx * 2 ^ 28 + c.fail * 2 ^ 24), w2 := 0 }]))

/-- A matrix task: it is given to an engine with room, RUNNING, as the task at work or the next one; CHECK pins its COMPLETE inputs
and creates OUT; the tile fetch unit brings in the K-blocks; with the last one folded the output is in OUT with the flags, which
the seal completes, and the task retires; a task of a FAULTED context that has stopped gives its engine to the next one (13 R263,
R264, R267 to R270).

The product of an integer matrix task whose inputs hold no uncorrectable byte, with every K-block folded: element (i, j) of the output is Cin's, or 0,
plus the sum over k of the products of A and B, modulo 2^32, without a flag, and stands at place i N + j of the output (13 R264,
R266; 02 R43). -/
def Obligations.MatrixTasks : Prop :=
  (∀ (s : State) (core i : Nat) (k : CoreSt), k = s.core core →
     (∀ e, s.mayDispatch i = some e → recKind e.record = 2 → (s.engines e.ctx (recTherm e.record)).contains core = true →
       (k.matrix ≠ none → ∃ t : State, exec (.matrixDispatch i core) s = .next t ∧ t.entry i = some { e with state := .running } ∧
         (t.core core).matrix = k.matrix ∧
         (t.core core).nextMatrix = some { entry := i, handle := s.taskHandle i, ctx := e.ctx, record := e.record, state := .check, replay := e.replay }) ∧
       (∀ v, k.matrix = none → mxStatic e.record = 0 → s.nameHome e.ctx (recOut e.record) = .own →
         (∀ j ∈ mxInputs e.record, s.nameHome e.ctx (recIn e.record j) = .own ∧ ∃ w, s.version e.ctx (recIn e.record j) = some w ∧ w.state = .complete ∧
           mxNeed e.record j ≤ 4096 * w.g) →
         v = s.versionOrNew e.ctx (recOut e.record) → v.state = .absent →
         s.granulesUsed (slotSlice v.slot) + ((mxDesc e.record).toNat % 64 + 1) ≤ s.wayGranules (slotSlice v.slot) →
         s.entryNeed e.ctx (recOut e.record) = 0 →
         ∃ (t : State) (m : MxTask) (w : Version), exec (.matrixDispatch i core) s = .next t ∧ t.entry i = some { e with state := .running } ∧
           (t.core core).matrix = some m ∧ m.entry = i ∧ m.state = .run ∧ m.fetched = 0 ∧ m.record = e.record ∧ m.ctx = e.ctx ∧
           (∀ j ∈ mxInputs e.record, ∀ z, s.version e.ctx (recIn e.record j) = some z → kget m.data j = some z.data) ∧
           t.version e.ctx (recOut e.record) = some w ∧ w.state = .vopen ∧ w.g = (mxDesc e.record).toNat % 64 + 1)) ∧
     (∀ m, k.matrix = some m →
       (m.state = .run → m.fetched < mxK m.record / 64 → exec (.tileFetch core) s = .next (s.setCore core { k with
         matrix := some { m with fetched := m.fetched + 1, folded := max m.folded (m.fetched - 2) } })) ∧
       (∀ v o, m.state = .run → m.fetched = mxK m.record / 64 → o = ({ m with folded := m.fetched } : MxTask).output → s.nameHome m.ctx (recOut m.record) = .own → s.version m.ctx (recOut m.record) = some v →
         v.state = .vopen → v.acc = false → mxM m.record * mxN m.record * mxOw m.record / 8 ≤ 4096 * v.g →
         ∃ (t : State) (y : MxTask) (w : Version), exec (.matrixFoldEnd core) s = .next t ∧ (t.core core).matrix = some y ∧ y.state = .sealing ∧
           y.flags = o.2 ∧ t.version m.ctx (recOut m.record) = some w ∧ w.state = .vopen ∧
           w.data = setBits (8 * (mxM m.record * mxN m.record * mxOw m.record / 8) - 1) 0 v.data o.1 ∧ t.mem = s.mem) ∧
       (∀ v e, m.state = .sealing → m.writes = [] → m.code = 0 → m.ue.first = none → mxCons m.record = false → s.nameHome m.ctx (recOut m.record) = .own →
         s.version m.ctx (recOut m.record) = some v → v.state = .vopen → v.acc = false → v.waiters = [] → s.entry m.entry = some e → s.kn.kernels = [] →
         ∃ (t : State) (w : Version), exec (.matrixSeal core) s = .next t ∧ (t.core core).matrix = k.nextMatrix ∧ (t.core core).nextMatrix = none ∧
           t.entry m.entry = none ∧ t.pgen m.entry = (s.pgen m.entry + 1) % 2 ^ 16 ∧ t.version m.ctx (recOut m.record) = some w ∧ w.sealed = true ∧
           w.data = v.data ∧ w.aflags = v.aflags ||| BitVec.ofNat 6 (m.flags.toNat % 32) ∧ t.mem = s.mem) ∧
       (m.state = .stopped → m.code = 0 → m.bad = [] → m.ue.first = none → exec (.matrixStop core) s = .next (s.setCore core { k with matrix := k.nextMatrix, nextMatrix := none })))) ∧
  (∀ (m : MxTask) (r : Nat) (a b : Nat → Nat → Int), r = m.record → mxStatic r = 0 → mxInt r = true → mxOt r = 0 → m.bad = [] → m.folded = mxK r / 64 →
     (∀ i k, a i k = Claims.int (mxTa r) (elem (kgetD m.data 0 0) ((64 * mxBand r false + i) * mxK r + k) 8)) →
     (∀ j k, b j k = Claims.int (mxTb r) (elem (kgetD m.data 1 0) ((64 * mxBand r true + j) * mxK r + k) 8)) →
     ∀ i j, i < mxM r → j < mxN r →
       elem m.output.1 (i * mxN r + j) 32 = (((if mxCin r then (elem (kgetD m.data 2 0) (i * mxN r + j) 32 : Int) else 0) +
         (List.range (mxK r)).foldl (fun z k => z + a i k * b j k) 0) % 2 ^ 32).toNat ∧ m.output.2 = 0)

/-! ### Kernels and passage (14, 15) -/

namespace Sys2Proof.Claims

/-- What the loader leaves when a command has ended: not busy, the result, and its vector sent (14 R288, R290). -/
def LoaderDone (s t : State) (result : Nat) : Prop :=
  t.kn.kbusy = false ∧ t.kn.kresult = result ∧ t.o.irqs = s.o.irqs ++ [s.kn.kvec]

/-- Bytes `bs` stand at offset `a` of a core's local memory. -/
def Holds (s : State) (c a : Nat) (bs : List Byte) : Prop := ∀ i b, bs[i]? = some b → (s.core c).loc.read (a + i) = b

end Sys2Proof.Claims

/-- The loader: a load makes an absent kernel LOADING, and once its image has been read and found good writes its resident code at
KBASE of every core that holds it and seals it, or ends with the result of what is wrong and the kernel ABSENT; an unload ends with
the kernel ABSENT, or UNLOADING while it is in use; an overlay writes its segment's code, or ends with the result of what is wrong; a bad command ends with result 1 (14 R286
to R290).

Steps of a transfer: the lead core grants the least free ring place of the core of the segment with the fewest arrivals, or answers
that no core works or that the rings, which a context without a passage heap has none of, are full; a granted slot is FREE and its image on its way, a refused one traps PASSAGE_MAP
or INBOX_HEAP; the written image sends its descriptor; the head arrival of a core starts on its reserved slot from the image; the
start notice frees the ring place and the count (15 R295 to R300). -/
def Obligations.KernelAndPassageSteps : Prop :=
  (∀ (s : State) (cmd : Word) (kid ctx : Nat), kid = cmd.toNat / 2 ^ 20 % 2 ^ 12 → ctx = cmd.toNat / 2 ^ 16 % 16 →
     (s.kn.kbusy = false →
       (s.kernel kid = none → ∃ (t : State) (k : Kernel), exec (.kernelLoad cmd) s = .next t ∧ t.kernel kid = some k ∧ k.state = .loading ∧ k.ctx = ctx ∧
         k.kbase = cmd.toNat / 2 ^ 32 % 2 ^ 20 ∧ k.ovl = cmd.toNat % 2 ^ 16 ∧ t.kn.kbusy = true ∧ t.kn.kcmd = cmd ∧ t.cores = s.cores ∧ t.mem = s.mem) ∧
       (∀ k, s.sealedFor kid ctx = some k → s.useCount kid = 0 → ∃ t : State, exec (.kernelUnload cmd) s = .next t ∧ t.kernel kid = none ∧
         Claims.LoaderDone s t 0) ∧
       (∀ k, s.sealedFor kid ctx = some k → s.useCount kid ≠ 0 → ∃ t : State, exec (.kernelUnload cmd) s = .next t ∧
         t.kernel kid = some { k with state := .unloading } ∧ Claims.LoaderDone s t 0) ∧
       (s.sealedFor kid ctx = none → ∃ t : State, exec (.kernelUnload cmd) s = .next t ∧ Claims.LoaderDone s t 2 ∧ t.kn.kernels = s.kn.kernels) ∧
       (∀ k g o, s.sealedFor kid ctx = some k → k.overlayRange cmd = .ok (g, o) → ∃ t : State, exec (.kernelOverlay cmd) s = .next t ∧
         t.kernel kid = some { k with busy := some (o, o + g.len) } ∧ t.kn.kbusy = true ∧ t.kn.kcmd = cmd ∧ t.cores = s.cores) ∧
       (∃ t : State, exec (.badcmd cmd) s = .next t ∧ Claims.LoaderDone s t 1 ∧ t.kn.kernels = s.kn.kernels)) ∧
     (∀ i ∈ ([.kernelLoad cmd, .kernelUnload cmd, .kernelOverlay cmd, .badcmd cmd] : List Instr), s.kn.kbusy = true → exec i s = .next s) ∧
     (∀ k0, s.kn.kbusy = true → s.kn.kcmd = cmd → kcOp cmd = 0 → s.kernel kid = some k0 → k0.state = .loading →
       (∀ n u, s.readTables ctx (cmd.toNat % 2 ^ 16) = (.error (.result n), u) →
         ∃ t : State, exec .kernelLoadEnd s = .next t ∧ t.kernel kid = none ∧ t.kn.kresult = n ∧ t.kn.kbusy = false) ∧
       (∀ h u k, s.readTables ctx (cmd.toNat % 2 ^ 16) = (.ok h, u) → k = u.kernelOf h kid ctx (cmd.toNat / 2 ^ 32 % 2 ^ 20) (cmd.toNat % 2 ^ 16) →
         (u.noRoom k = true → ∃ t : State, exec .kernelLoadEnd s = .next t ∧ t.kernel kid = none ∧ t.kn.kresult = 4 ∧ t.kn.kbusy = false) ∧
         (∀ n v, u.noRoom k = false → u.readPart ctx (imLength h) = (.error (.result n), v) →
           ∃ t : State, exec .kernelLoadEnd s = .next t ∧ t.kernel kid = none ∧ t.kn.kresult = n ∧ t.kn.kbusy = false) ∧
         (∀ im v, u.noRoom k = false → u.readPart ctx (imLength h) = (.ok im, v) → sha3 (imBlank im) ≠ imDigest im →
           ∃ t : State, exec .kernelLoadEnd s = .next t ∧ t.kernel kid = none ∧ t.kn.kresult = 5 ∧ t.kn.kbusy = false) ∧
         (∀ im v, u.noRoom k = false → u.readPart ctx (imLength h) = (.ok im, v) → sha3 (imBlank im) = imDigest im → imData im = [] →
           s.kn.cwrites = none → ∃ t : State, exec .kernelLoadEnd s = .next t ∧ t.kernel kid = some { k with code := (imCode im).take k.resLen } ∧
             t.kn.kresult = 0 ∧ t.kn.kbusy = false ∧ t.slots = s.slots ∧ ∀ c ∈ s.kernelCores k, Claims.Holds t c k.kbase ((imCode im).take k.resLen)))) ∧
     (∀ k, s.kn.kbusy = true → s.kn.kcmd = cmd → kcOp cmd = 2 → s.sealedFor kid ctx = some k →
       (∀ n u, s.readTables k.ctx k.ovl = (.error (.result n), u) →
         ∃ (t : State) (q : Kernel), exec .kernelOverlayEnd s = .next t ∧ t.kernel kid = some q ∧ q = { k with busy := none } ∧ t.kn.kresult = n ∧
           t.kn.kbusy = false) ∧
       (∀ h u n, s.readTables k.ctx k.ovl = (.ok h, u) → k.overlayRange cmd = .error n →
         ∃ t : State, exec .kernelOverlayEnd s = .next t ∧ t.kernel kid = some { k with busy := none } ∧ t.kn.kresult = n ∧ t.kn.kbusy = false) ∧
       (∀ h u g o im v, s.readTables k.ctx k.ovl = (.ok h, u) → k.overlayRange cmd = .ok (g, o) → u.readPart k.ctx (imLength h) = (.ok im, v) →
         (sha3 (imBlank im) ≠ k.digest ∨ imDigest im ≠ k.digest →
           ∃ t : State, exec .kernelOverlayEnd s = .next t ∧ t.kernel kid = some { k with busy := none } ∧ t.kn.kresult = 5 ∧ t.kn.kbusy = false) ∧
         (sha3 (imBlank im) = k.digest → imDigest im = k.digest →
           ∃ (t : State) (q : Kernel), exec .kernelOverlayEnd s = .next t ∧ t.kernel kid = some q ∧ q.busy = none ∧ q.state = .sealed ∧ q.kbase = k.kbase ∧
             t.kn.kresult = 0 ∧ t.kn.kbusy = false ∧ ∀ c ∈ s.kernelCores k, Claims.Holds t c o (((imCode im).drop g.off).take g.len))))) ∧
  (∀ (s : State),
     (∀ rid m kid seg live target link ue, Claims.Due s rid m → m.op = .reserve kid seg live target link ue →
       ((s.ctx m.ctx).phsize = 0 → exec (.passageReserve rid) s = .next (s.modMsg rid (fun x => { x with answer := some 2 }))) ∧
       ((s.ctx m.ctx).phsize ≠ 0 → s.sealedFor kid m.ctx = none →
         exec (.passageReserve rid) s = .next (s.modMsg rid (fun x => { x with answer := some 1 }))) ∧
       (∀ k cs up room, s.sealedFor kid m.ctx = some k → cs = ((k.segments[seg]?).map Segment.cores).getD [] →
         up = cs.filter (fun c => s.coreUp c && ((s.zone (zoneOf c)).state == .flowing || (s.zone (zoneOf c)).state == .throttled)) →
         room = up.filter (fun c => decide ((s.kn.rings.filter (fun r => r.1 == m.ctx && r.2.1 == c)).length < (s.ctx m.ctx).phsize)) →
         ((s.ctx m.ctx).phsize ≠ 0 → up = [] → exec (.passageReserve rid) s = .next (s.modMsg rid (fun x => { x with answer := some 1 }))) ∧
         (up ≠ [] → s.fewest kid seg room = none → exec (.passageReserve rid) s = .next (s.modMsg rid (fun x => { x with answer := some 2 }))) ∧
         (∀ c p, up ≠ [] → s.fewest kid seg room = some c →
           (List.range (s.ctx m.ctx).phsize).find? (fun p => !(s.kn.rings.any (fun r => r == (m.ctx, c, p)))) = some p →
           ∃ t : State, exec (.passageReserve rid) s = .next t ∧ kget t.msgs rid = some { m with answer := some (4 + 64 * c + p) } ∧
             t.kn.arrCounts = s.kn.arrCounts ++ [(kid, seg, c)] ∧ t.kn.rings = s.kn.rings ++ [(m.ctx, c, p)]))) ∧
     (∀ rid m kid seg live target link ue sid x, kget s.msgs rid = some m → m.op = .reserve kid seg live target link ue → m.sid = some sid →
       s.slot sid = some x → rid < s.o.nextId →
       (m.answer = some 1 → exec (.passageGrant rid) s = .next ((s.unpost rid).takeTrap sid x .passageMap target false)) ∧
       (m.answer = some 2 → exec (.passageGrant rid) s = .next ((s.unpost rid).takeTrap sid x .inboxHeap target false)) ∧
       (∀ c p, p < 64 → m.answer = some (4 + 64 * c + p) → ∃ (t : State) (y : Transfer), exec (.passageGrant rid) s = .next t ∧ t.slot sid = none ∧
         kget t.msgs rid = none ∧ kget t.kn.transfers rid = some y ∧ y.ctx = x.ctx ∧ y.kid = kid ∧ y.seg = seg ∧ y.core = c ∧ y.place = p ∧ y.live = live ∧
         y.pc = target ∧ y.group = x.group ∧ y.fromCore = sid / 16 ∧ y.fromSlot = sid % 16 ∧ t.mem = s.mem ∧
         (x.ueRegs = [] → ue = [] → y.image = (x.applyWrites link 0 []).passImage live target))) ∧
     (∀ rid t ws, kget s.kn.transfers rid = some t → t.written = false → t.writes = some ws → ws.all s.settled = true → ws.any s.refused' = false →
       ∃ (u : State) (m : Msg), exec (.passageImageWritten rid) s = .next u ∧
         kget u.kn.transfers rid = some { t with written := true, writes := none, image := 0 } ∧ kget u.msgs s.o.nextId = some m ∧ m.ctx = t.ctx ∧
         m.op = .packet (BitVec.ofNat 64 (t.place * 2 ^ 48 + t.core * 2 ^ 10 + s.ownAgent)) (s.descriptor t) []) ∧
     (∀ core tid t, s.headArrival core = some (tid, t) → s.kernel t.kid = none →
       ∃ u : State, exec (.arrivalStart core) s = .next u ∧ kget u.kn.transfers tid = none ∧ u.slots = s.slots) ∧
     (∀ core tid t k q va u v regs b ws d, s.headArrival core = some (tid, t) → s.kernel t.kid = some k → t.reserved = some q → q < 16 → regs.length ≤ 0x1800 →
       va = (s.ctx t.ctx).placeVa core t.place →
       ({ s with kn := { s.kn with transfers := kset s.kn.transfers tid { t with reserved := some q } } }).engRead (0x4000 + core) t.ctx va (0x1000 + t.live) 0 false true
         = (.ok (regs, b), u) →
       u.engRead (0x4000 + core) t.ctx (va + 0x1800) 176 0 false true = (.ok (ws, d), v) →
       ∃ (z : State) (y : Slot), exec (.arrivalStart core) s = .next z ∧ kget z.kn.transfers tid = none ∧ z.slot (16 * t.core + q) = some y ∧ y.ctx = t.ctx ∧
         y.kid = t.kid ∧ y.group = t.group ∧ y.pc = BitVec.ofNat 64 (ofBytes (ws.take 8)) ∧ y.waitFor = t.waitFor ∧ y.status = .ready ∧
         y.lat = BitVec.ofNat 4096 (ofBytes (regs.take 512))) ∧
     (∀ rid m kid seg core ctx place, Claims.Due s rid m → m.op = .startNotice kid seg core ctx place →
       ∃ t : State, exec (.startNotice rid) s = .next t ∧ kget t.msgs rid = none ∧ t.kn.arrCounts = s.kn.arrCounts.erase (kid, seg, core) ∧
         t.kn.rings = s.kn.rings.filter (fun r => r != (ctx, core, place)) ∧ t.slots = s.slots))

/-! ### Contexts and saved slots (18) -/

/-- The commands of contexts: BUILD of a FREE one keeps a good record and rejects a bad one, ADMIT, RUN, DRAIN, RESTORE and RETIRE
act in their states while the context is not BUSY and did not fault in this cycle, and are rejected in any other; a drain with
nothing active ends SAVED, a restore with nothing saved ends at once; the reclaim of a RETIRED context ends FREE once no version of
it is left; a period start gives each context that was active at a port its share of the port's tokens (18 R348 to R353, R366).

A READY slot of a DRAINING context without deposits is saved into its core's save area at the first fit; a complete reply to a
saved slot whose image no restore has read fills the registers saved; the image of a single thread, once read and found as the die
wrote it, is restored on the slot chosen for it; with nothing left the restore ends (18 R359 to R364). -/
def Obligations.ContextAndSavedSlotSteps : Prop :=
  (∀ (s : State) (c : Nat) (k : Context), k = s.ctx c →
     (∀ pa r, s.cx.builds = [] → s.isOwn (pa / 2 ^ 42) = true → pa % 2 ^ 42 + 256 ≤ s.memBytes → s.ueMem = [] → r = s.mem.readN (pa % 2 ^ 42) 256 →
       (k.state = .free → k.busy = false → ctxRecordForm r = true → s.ctxRecordAgents r = true → ∃ (t : State) (q : Context),
         exec (.ctxBuild c pa) s = .next t ∧ t.ctx c = q ∧ q.state = .built ∧ q.root.toNat = recWord r 0 ∧ q.hkid = recWord r 1 % 2 ^ 12 ∧
         q.rep = recWord r 8 ∧ q.ihbase.toNat = recWord r 9 ∧ q.phbase.toNat = recWord r 11 ∧ q.phsize = recWord r 12 ∧ q.savebase.toNat = recWord r 13 ∧
         (∀ i, i < 8 → q.dies[i]? = some (recAgent r 0x30 i)) ∧ (∀ i, i < 16 → q.nsmap[i]? = some (recAgent r 0x10 i)) ∧
         (∀ i, i < 32 → ∃ z, q.traptab[i]? = some z ∧ z.1 = r.testBit (8 * 0x80 + 32 * i)) ∧ (∀ j, j ≠ c → t.ctx j = s.ctx j) ∧ t.mem = s.mem) ∧
       ((k.state ≠ .free ∨ k.busy = true ∨ ctxRecordForm r = false ∨ s.ctxRecordAgents r = false) → exec (.ctxBuild c pa) s = .next (s.ctxReject c))) ∧
     (k.state = .built → k.busy = false → k.faultAt ≠ some s.t.cycle →
       exec (.ctxAdmit c) s = .next (s.modCtx c (fun q => { q with state := .admitted, cmdAt := some s.t.cycle }))) ∧
     (k.state = .admitted → k.busy = false → k.faultAt ≠ some s.t.cycle →
       exec (.ctxRun c) s = .next (s.modCtx c (fun q => { q with state := .resident, cmdAt := some s.t.cycle }))) ∧
     (∀ e ∈ ([(.ctxAdmit c, [.built]), (.ctxRun c, [.admitted]), (.ctxDrain c, [.resident]), (.ctxRestore c, [.saved]),
         (.ctxRetire c, [.built, .admitted, .saved, .faulted])] : List (Instr × List CState)),
       (k.state ∉ e.2 ∨ k.busy = true ∨ k.faultAt = some s.t.cycle) → exec e.1 s = .next (s.ctxReject c)) ∧
     (k.state = .resident → k.busy = false → k.faultAt ≠ some s.t.cycle →
       (s.slots.any (fun p => p.2.ctx == c) = true → ∃ t : State, exec (.ctxDrain c) s = .next t ∧
         t.ctx c = { k with state := .draining, busy := true, cmdCount := 0, cmdAt := some s.t.cycle } ∧ t.mem = s.mem ∧ ∀ j, j ≠ c → t.ctx j = s.ctx j) ∧
       (s.slots.any (fun p => p.2.ctx == c) = false → s.cx.saved.any (fun v => v.ctx == c) = false → ∃ t : State, exec (.ctxDrain c) s = .next t ∧
         (t.ctx c).state = .saved ∧ (t.ctx c).busy = false)) ∧
     (k.state = .saved → k.busy = false → k.faultAt ≠ some s.t.cycle →
       (s.cx.saved.any (fun v => v.ctx == c) = true → ∃ t : State, exec (.ctxRestore c) s = .next t ∧
         t.ctx c = { k with state := .resident, busy := true, restoring := true, cmdCount := 0, cmdAt := some s.t.cycle } ∧ t.mem = s.mem) ∧
       (s.cx.saved.any (fun v => v.ctx == c) = false → ∃ t : State, exec (.ctxRestore c) s = .next t ∧ (t.ctx c).state = .resident ∧
         (t.ctx c).busy = false ∧ (t.ctx c).restoring = false)) ∧
     (k.state = .built ∨ k.state = .admitted ∨ k.state = .saved ∨ k.state = .faulted → k.busy = false → k.faultAt ≠ some s.t.cycle → ∃ t : State, exec (.ctxRetire c) s = .next t ∧
       (t.ctx c).state = .retired ∧ (t.ctx c).busy = true ∧ (∀ i x, t.slot i = some x → x.ctx ≠ c) ∧ (∀ q ∈ t.kn.kernels, q.ctx ≠ c)) ∧
     (k.state = .retired → s.vs.versions.any (fun v => v.ctx == c) = false → ∃ t : State, exec (.contextReclaimEnd c) s = .next t ∧
       t.ctx c = { k with state := .free, busy := false } ∧ t.slots = s.slots ∧ t.mem = s.mem) ∧
     (k.state = .retired → s.vs.versions.any (fun v => v.ctx == c) = true → exec (.contextReclaimEnd c) s = .next s) ∧
     (s.t.cycle % 1024 = 0 → ∃ t : State, exec .qosPeriodStart s = .next t ∧ { t with cores := s.cores } = s ∧
       ∀ n q, kget s.cores n = some q → (t.core n).active = [] ∧
         kgetD (t.core n).tokens c 0 = if c ∈ s.portActive n q then
           s.cx.portCap * kgetD s.cx.shares c 0x10 / ((s.portActive n q).map (fun a => kgetD s.cx.shares a 0x10)).foldl (fun a b => a + b) 0 else 0)) ∧
  (∀ (s : State),
     (∀ sid x g, s.slot sid = some x → sid < 2304 → (s.ctx x.ctx).state = .draining → x.status = .ready → x.openPkt = none → x.results = [] → x.pairMode = false →
       (∀ p ∈ s.deps, p.2.sid ≠ sid) → (∀ w ∈ s.cx.saved, w.order < s.cx.saveOrder) →
       (s.core (sid / 16)).saveFit ((0x1100 + 65 * x.space / 64 + 4095) / 4096) = some g →
       ∃ (t : State) (v : Saved), exec (.slotSave sid) s = .next t ∧ t.slot sid = none ∧ v ∈ t.cx.saved ∧ v.sid = sid ∧ v.ctx = x.ctx ∧ v.written = true ∧
         v.order = s.cx.saveOrder ∧ v.place = some (sid / 16, g) ∧ v.slot = { x with xlat := [], gang := none, longer := 0 } ∧ v.size = 0x1100 + 65 * x.space / 64 ∧
         (∀ k, k ≠ sid → t.slot k = s.slot k)) ∧
     (∀ rid d v p, kget s.deps rid = some d → d.outstanding = 0 → s.image d.sid = some v → v.written = true → v.writes = [] → v.image = none → v.place = some p →
       ∃ (t : State) (w : Saved), exec (.replyToImage rid none) s = .next t ∧ kget t.deps rid = none ∧ w ∈ t.cx.saved ∧ w.order = v.order ∧
         w.slot = v.slot.fillSaved rid d ∧ t.slots = s.slots ∧ t.mem = s.mem) ∧
     (∀ c v core q u im y, (s.ctx c).state = .resident → s.nextUnit c = [v] → v.written = true → v.writes = [] → v.image = some im → v.checks im = true →
       v.back = none → v.deps = [] → v.slot.recvs = [] → (∀ i x, s.slot i = some x → x.recvs = []) → s.slots.any (fun p => v.slot.group == p.2.group) = false → s.couldHold c [v] = true →
       s.unitPlace c [v] = (some [(core, [q])], u) → y = v.slot.ofImage im →
       ∃ (t : State) (z : Slot), exec (.savedSlotPlace c) s = .next t ∧ t.slot (16 * core + q) = some z ∧ z.pc = y.pc ∧ z.ctx = y.ctx ∧ z.file = y.file ∧
         z.ofile = y.ofile ∧ z.lat = y.lat ∧ z.empty = y.empty ∧ z.flags = y.flags ∧ z.sup = y.sup ∧ z.trapc = y.trapc ∧ z.epc = y.epc ∧
         (∀ w ∈ t.cx.saved, w.order ≠ v.order) ∧ t.mem = s.mem ∧ (∀ k, k ≠ 16 * core + q → t.slot k = s.slot k)) ∧
     (∀ c, (s.ctx c).state = .resident → s.nextUnit c = [] → (s.ctx c).restoring = true → ∃ t : State, exec (.savedSlotPlace c) s = .next t ∧
       (t.ctx c).restoring = false ∧ (t.ctx c).busy = false ∧ (t.ctx c).state = .resident))

/-- What a departure puts into its image the arrival takes out again: pc, lat, o1 to o7, the live bytes of the main file, zeros behind
them, and the state words, whose reserved bits read 0 (15 R297; 04 R96).

What the image of a saved slot holds is what a restore takes out of it: pc, SUP and RPL, lat, o1 to o7, the register space with
its full/empty bits, and the state words, whose reserved bits read 0 (18 R360, R364; 04 R96). -/
def Obligations.ImagesRoundTrip : Prop :=
  (∀ (x fresh y : Slot) (live : Nat) (pc : Word), x.ueRegs = [] → live ≤ 2048 → y = fresh.fromImage (x.passImage live pc) live →
     y.pc = pc ∧ y.lat = x.lat ∧ (∀ k, 1 ≤ k → k < 8 → readAt y.ofile (512 * k) 512 = readAt x.ofile (512 * k) 512) ∧
     y.file.toNat = x.file.toNat % 2 ^ (8 * live) ∧ y.flags = x.flags ∧ y.uefl = x.uefl ∧ y.uexy = x.uexy &&& 0xFFFFFFFF0FFFFFFF ∧ y.chk = x.chk ∧ y.vws = x.vws ∧
     y.vwv = x.vwv ∧ y.vwt = x.vwt ∧ y.vwa = x.vwa ∧ y.fmt = x.fmt &&& 0x3FFF ∧ y.sca = x.sca &&& 0xFFFF ∧ y.scb = x.scb &&& 0xFFFF ∧
     y.band = x.band &&& 0xFFFF ∧ y.task = x.task ∧ y.gid = x.gid ∧ y.gthr = x.gthr ∧ y.gshape = x.gshape &&& 0x3F7 ∧
     y.trapc = x.trapc &&& 0xF0FF ∧ y.epc = x.epc ∧ y.tval = x.tval ∧ y.sscr = x.sscr ∧
     y.sup = x.sup ∧ y.replay = x.replay) ∧
  (∀ (x z y : Slot) (cycle n : Nat), z.space = x.space → x.space % 4096 = 0 → x.space ≤ 65536 → n < 2 ^ 32 →
     y = z.ofImage (setBits 127 64 x.imageBits (x.wordOne cycle n)) →
     y.pc = x.pc ∧ y.sup = x.sup ∧ y.replay = x.replay ∧ y.lat = x.lat ∧ (∀ k, 1 ≤ k → k < 8 → readAt y.ofile (512 * k) 512 = readAt x.ofile (512 * k) 512 ∧
       y.oEmpty.getLsbD k = x.oEmpty.getLsbD k) ∧
     y.file.toNat = x.file.toNat % 2 ^ (8 * x.space) ∧ y.empty.toNat = x.empty.toNat % 2 ^ (x.space / 8) ∧ y.flags = x.flags ∧ y.uefl = x.uefl ∧
     y.uexy = x.uexy &&& 0xFFFFFFFF0FFFFFFF ∧ y.chk = x.chk ∧ y.vws = x.vws ∧ y.vwv = x.vwv ∧ y.vwt = x.vwt ∧ y.vwa = x.vwa ∧ y.fmt = x.fmt &&& 0x3FFF ∧
     y.sca = x.sca &&& 0xFFFF ∧ y.scb = x.scb &&& 0xFFFF ∧ y.band = x.band &&& 0xFFFF ∧ y.task = x.task ∧ y.gid = x.gid ∧ y.gthr = x.gthr ∧
     y.gshape = x.gshape &&& 0x3F7 ∧ y.trapc = x.trapc &&& 0xF0FF ∧ y.epc = x.epc ∧ y.tval = x.tval ∧
     y.sscr = x.sscr)

/-! ### The host port, the modules and the fabric (19) -/

namespace Sys2Proof.Claims

/-- The die with a completion for the host, Unsupported Request status for none. -/
def replied (s : State) (r : Option (List Byte)) : State := { s with o := { s.o with outbox := s.o.outbox ++ [.hostReply r] } }

/-- Physical address that an offset of the memory window of BAR 2 reaches (19 R370). -/
def windowPa (s : State) (off : Nat) : Nat := (s.lk.hwbase.toNat + (off - 0x4000000)) % 2 ^ 52

/-- A core that takes no write of the host to part of its local memory: a slot is active on it, or on the other core of its pair
in pair mode, or a SEALED kernel's code lies there (01 R20; 14 R290; 21 R406). -/
def Guarded (s : State) (core a n : Nat) : Prop :=
  (∃ p ∈ s.slots, p.1 / 16 = core ∨ p.2.pairMode = true ∧ p.1 / 32 = core / 2) ∨
  ∃ k ∈ s.kn.kernels, k.state = .sealed ∧ k.holdsCore core = true ∧ a < k.range.2 ∧ k.range.1 < a + n

/-- No write of the host waits or is under way. -/
def HostStill (s : State) : Prop := s.lk.hostWrites = [] ∧ s.lk.hostHeld = []

/-- The die with a module replaced. -/
def relinked (s : State) (m : Nat) (l : Link) : State := { s with lk := { s.lk with links := kset s.lk.links m l } }

/-- A module that enters TRAINING: the replay buffer stays (19 R373). -/
def training (l : Link) : Link := { l with state := .training, failures := 0, width := 0, idleOn := l.idle, rateOn := l.rateCfg }

/-- A link that may enter SLEEP: nothing to send, nothing unacknowledged, every granted beat free, for its idle time (19 R373). -/
def Idle (s : State) (l : Link) : Prop :=
  (l.state = .up ∨ l.state = .degraded) ∧ l.idleOn ≠ 0 ∧ l.queue = [] ∧ l.unacked = [] ∧ (∀ c ∈ l.credits, c = (l.granted : Int)) ∧
  l.lastUse + 1000 * l.idleOn ≤ s.now

/-- The response to a packet (19 R379). -/
structure Answers (s : State) (p q : Packet) : Prop where
  typ : q.typ = p.typ
  rsp : q.rsp = true
  route : q.dst = p.src ∧ q.src = s.ownAgent ∧ q.tag = p.tag ∧ q.ctx = p.ctx

/-- The NACK of a packet with its reason (19 R382). -/
structure Refuses (s : State) (p q : Packet) (reason : Nat) : Prop where
  typ : q.typ = 0x0E
  vc : q.vc = 1
  route : q.dst = p.src ∧ q.src = s.ownAgent ∧ q.tag = p.tag
  reason : q.addr.toNat % 256 = reason

/-- A packet of another agent that this die acts on; `u` is the die that has heard it. -/
def Comes (s : State) (p : Packet) (u : State) : Prop := s.transit p = false ∧ s.isOwn p.src = false ∧ u = heard s p

end Sys2Proof.Claims

/-- The host port: before bring-up has ended only the FERP_ block answers; a read longer than 4,096 bytes or a write longer than 512 is
declined; a read is performed once every host write before it has been, and gives the bytes of a register, of local memory or of HBM4; a
write starts the register's own effect, writes HBM4 or local memory, is sent to its home behind the host's earlier writes there, or is
posted; one to this die waits behind those of this die that are not performed yet; local memory of a core with an active slot or a SEALED
kernel's code stays and the write is logged (19 R368 to R371; 01 R20; 14 R290; 22 R420; a fused core declines, and the record's SRC and
CTX are 0: the model's choice, log 47; that a write waits here: log 40). -/
def Obligations.HostSteps : Prop :=
  ∀ (s : State) (bar off n : Nat),
    (s.bt.bstep < 6 → ¬(bar = 0 ∧ 0xD0000 ≤ off ∧ off + n ≤ 0xE0000) → exec (.hostRead bar off n) s = .next (Claims.replied s none) ∧
      ∀ bs : List Byte, bs.length = n → exec (.hostWrite bar off bs) s = .next (Claims.replied s none)) ∧
    (4096 < n → exec (.hostRead bar off n) s = .next (Claims.replied s none)) ∧
    (6 ≤ s.bt.bstep → n ≤ 4096 → Claims.HostStill s →
      (bar = 0 → off + n ≤ 0xE0000 →
        exec (.hostRead bar off n) s = .next (Claims.replied s (if regServed off n then some (bytesOf n (s.regRead off n)) else none))) ∧
      (∀ o, bar = 0 → off = 0x10000000 + o → o + n ≤ 0x9000000 → (∀ i, i < n → s.fused ((o + i) / 0x100000) = false) →
        (∀ p ∈ s.slots, p.2.pairMode = false) →
        ∃ bs, exec (.hostRead bar off n) s = .next (Claims.replied s (some bs)) ∧ bs.length = n ∧
          ∀ i, i < n → bs[i]? = some ((s.core ((o + i) / 0x100000)).loc.read ((o + i) % 0x100000))) ∧
      (∀ a, bar = 2 → 0x4000000 ≤ off → off + n ≤ 2 ^ 36 → a = Claims.windowPa s off → s.isOwn (a / 2 ^ 42) = true → a % 2 ^ 42 + n ≤ s.memBytes →
        s.ueMem = [] → s.lineHeld a = false →
        exec (.hostRead bar off n) s = .next (Claims.replied s (some (bytesOf n (s.mem.readN (a % 2 ^ 42) n))))) ∧
      (bar ≠ 0 → bar ≠ 2 → exec (.hostRead bar off n) s = .next (Claims.replied s none))) ∧
    (6 ≤ s.bt.bstep → n ≤ 4096 → (s.lk.hostHeld ≠ [] ∨ ∃ w ∈ s.lk.hostWrites, s.settled w.2 = false) → exec (.hostRead bar off n) s = .next s) ∧
    (∀ bs : List Byte, bs.length = n → 6 ≤ s.bt.bstep →
      (512 < n → exec (.hostWrite bar off bs) s = .next (Claims.replied s none)) ∧
      (n ≤ 512 → (bar ≠ 2 ∨ off < 0x4000000 ∨ s.isOwn (Claims.windowPa s off / 2 ^ 42) = true) →
        (s.lk.hostHeld ≠ [] ∨ ∃ w ∈ s.lk.hostWrites, w.1 = s.ownAgent ∧ s.settled w.2 = false) →
        exec (.hostWrite bar off bs) s = .next { s with lk := { s.lk with hostHeld := s.lk.hostHeld ++ [(bar, off, bs)] } }) ∧
      (n ≤ 512 → Claims.HostStill s →
        (bar = 0 → off + n ≤ 0xE0000 → exec (.hostWrite bar off bs) s = .next (if regServed off n
          then { s with o := { s.o with agenda := .registerWrite off n (BitVec.ofNat 64 (ofBytes bs)) :: s.o.agenda } } else Claims.replied s none)) ∧
        (∀ o, bar = 0 → off = 0x10000000 + o → o + n ≤ 0x9000000 →
          exec (.hostWrite bar off bs) s = .next { s with o := { s.o with agenda := .hostLocalWrite o bs :: s.o.agenda } }) ∧
        (∀ a, bar = 2 → 0x4000000 ≤ off → off + n ≤ 2 ^ 36 → a = Claims.windowPa s off → s.isOwn (a / 2 ^ 42) = true →
          a % 2 ^ 42 + n ≤ s.memBytes → exec (.hostWrite bar off bs) s = .next (s.memWrite (a % 2 ^ 42) bs)) ∧
        (bar = 2 → off + n ≤ 0x1000000 → exec (.hostWrite bar off bs) s = .next { s with o := { s.o with agenda := .hostPost off bs :: s.o.agenda } }) ∧
        (bar = 2 → n = 8 → off % 8 = 0 → (0x1000000 ≤ off ∧ off + 8 ≤ 0x1040000) ∨ (0x2000000 ≤ off ∧ off + 8 ≤ 0x3000000) →
          ∃ (t : State) (m : Msg), exec (.hostWrite bar off bs) s = .next t ∧ kget t.msgs (s.o.nextId + 1) = some m ∧ m.ctx = s.lk.hctx ∧
            m.op = .push (s.ownAgent * 2 ^ 42 + 0x20000000000 + off) (BitVec.ofNat 64 (ofBytes bs)) ∧ t.mem = s.mem)) ∧
      (∀ a, bar = 2 → 0x4000000 ≤ off → off + n ≤ 2 ^ 36 → a = Claims.windowPa s off → s.isOwn (a / 2 ^ 42) = false → 0 < n → a % 256 + n ≤ 256 →
        ∃ (t : State) (m : Msg), exec (.hostWrite bar off bs) s = .next t ∧
          t.lk.hostWrites = s.lk.hostWrites ++ [(a / 2 ^ 42, s.o.nextId)] ∧ kget t.msgs (s.o.nextId + 1) = some m ∧ m.isStore = true ∧ m.pa = a ∧
          m.op = .store [{ pa := a, bit := 0, bits := 8 * n, high := false, lane := 0, va := 0, poison := false }] (ofBytes bs % 2 ^ (8 * n)) ∧
          (∀ w ∈ s.lk.hostWrites, w.1 = a / 2 ^ 42 → ∀ r z, kget s.msgs r = some z → z.dep = some w.2 → r ∈ m.after) ∧ t.mem = s.mem)) ∧
    (∀ (o c : Nat) (bs : List Byte), c = o / 0x100000 → o % 0x100000 + bs.length ≤ 0x100000 →
      (s.fused c = true → exec (.hostLocalWrite o bs) s = .next (Claims.replied s none)) ∧
      (s.fused c = false → ¬Claims.Guarded s c (o % 0x100000) bs.length →
        exec (.hostLocalWrite o bs) s = .next (s.locWrite c (o % 0x100000) bs)) ∧
      (s.fused c = false → Claims.Guarded s c (o % 0x100000) bs.length →
        exec (.hostLocalWrite o bs) s = .next (s.monLog (BitVec.ofNat 64 (s.ownAgent * 2 ^ 42 + 0x20008000000 + o)) 0 0 0 1)))

/-- The modules: every row of the table of link states that names an event of this die; flits by their CRC and number: a bad or a
late one is answered with NAK, an accepted one again is discarded, the next one returns credits and frees what it acknowledges; a
replay counts its flits and keeps the buffer, and the eighth of one flit trains the module anew (19 R373, R374, R376, R377). -/
def Obligations.LinkSteps : Prop :=
  ∀ (s : State) (m : Nat) (l : Link), m < 8 → l = s.link m →
    (∀ v n, n = { l with idle := v.toNat / 2 ^ 32 % 256, rateCfg := v.toNat / 2 % 4, en := v.getLsbD 0 } →
      exec (.linkEnable m v) s = .next (Claims.relinked s m (if v.getLsbD 0 = true ∧ l.state = .down then Claims.training n else n))) ∧
    exec (.retrain m) s = .next (Claims.relinked s m (if l.state = .down ∨ l.state = .up ∨ l.state = .degraded then Claims.training l else l)) ∧
    (l.state = .down ∨ l.state = .fenced → exec (.linkFence m) s = .next s) ∧
    (l.state ≠ .down → l.state ≠ .fenced → (∃ t : State, exec (.linkFence m) s = .next t ∧ (t.link m).state = .fenced) ∧
      (l.queue = [] → l.unacked = [] → exec (.linkFence m) s = .next (Claims.relinked s m { l with state := .fenced }))) ∧
    (∀ p, l.state ≠ .down → l.state ≠ .fenced → l.queue = [p] → l.unacked = [] → p.rsp = false → p.typ ≠ 0x0D → p.typ ≠ 0x0E → s.isOwn p.src = true →
      (∀ n ∈ kgetD s.lk.paths p.dst [], n = m ∨ (s.link n).state = .fenced ∨ (s.link n).state = .down) →
      ∃ (t : State) (q : Packet), exec (.linkFence m) s = .next t ∧ t.o.agenda = .nack q :: s.o.agenda ∧ q.tag = p.tag ∧ q.addr.toNat % 256 = 5) ∧
    (∀ r, l.state ≠ .training → exec (.linkTrainingEnd m r) s = .next s) ∧
    (l.state = .training → exec (.linkTrainingEnd m .failed) s =
      .next (Claims.relinked s m (if 2 ≤ l.failures then { l with state := .down, failures := 0 } else { l with failures := l.failures + 1 }))) ∧
    (∀ w u g r, l.state = .training → w ≠ 64 → w ≠ 32 → exec (.linkTrainingEnd m (.ok w u g r)) s = exec (.linkTrainingEnd m .failed) s) ∧
    (∀ w u g r, l.state = .training → w = 64 ∨ w = 32 →
      (g < 32 ∨ s.lk.topoDone = true ∧ l.peerUid ≠ some u → exec (.linkTrainingEnd m (.ok w u g r)) s = exec (.linkFence m) s) ∧
      (32 ≤ g → s.lk.topoDone = true → l.peerUid = some u → exec (.linkTrainingEnd m (.ok w u g r)) s = .next (Claims.relinked s m { l with
        state := if w = 64 then .up else .degraded, width := w, rate := s.trainedRate m r, failures := 0, credits := List.replicate 4 (g : Int)
        granted := g, lastUse := s.now })) ∧
      (32 ≤ g → s.lk.topoDone = false → ∃ t : State, exec (.linkTrainingEnd m (.ok w u g r)) s = .next t ∧ t.lk.recordAt = s.now ∧
        t.link m = { l with state := .discovery, width := w, rate := s.trainedRate m r, peerUid := some u, failures := 0
                            credits := List.replicate 4 (g : Int), granted := g, lastUse := s.now })) ∧
    exec (.laneRepair m) s = .next (Claims.relinked s m (if l.state = .up then { l with state := .degraded, width := 32 } else l)) ∧
    (Claims.Idle s l → exec (.linkIdleTimeout m) s = .next (Claims.relinked s m { l with state := .sleep }) ∧
      exec (.linkWake m) s = .next (Claims.relinked s m { l with lastUse := s.now })) ∧
    (¬Claims.Idle s l → exec (.linkIdleTimeout m) s = .next s ∧
      exec (.linkWake m) s = .next (Claims.relinked s m (if l.state = .sleep then { l with state := .waking } else l))) ∧
    (l.state = .waking →
      exec (.linkWakeEnd m true) s = .next (Claims.relinked s m { l with state := if l.width = 64 then .up else .degraded, lastUse := s.now }) ∧
      exec (.linkWakeEnd m false) s = .next (Claims.relinked s m (Claims.training l))) ∧
    (∀ f, l.state ≠ .down → l.state ≠ .fenced → l.state ≠ .training →
      (f.crcOk = false ∨ (f.seq % 4096 ≠ l.recvSeq ∧ 2048 < (l.recvSeq + 4096 - f.seq % 4096) % 4096) →
        ∃ (t : State) (g : Flit), exec (.flitReceive m f) s = .next t ∧ t.o.outbox = s.o.outbox ++ [.flit m g] ∧ g.nak = true ∧ g.ack = l.recvSeq ∧
          (t.link m).recvSeq = l.recvSeq ∧ (t.link m).credits = l.credits) ∧
      (f.crcOk = true → f.seq % 4096 ≠ l.recvSeq → (l.recvSeq + 4096 - f.seq % 4096) % 4096 ≤ 2048 → exec (.flitReceive m f) s = .next s) ∧
      (f.crcOk = true → f.seq % 4096 = l.recvSeq → f.nak = false → ∃ t : State, exec (.flitReceive m f) s = .next t ∧
        (t.link m).recvSeq = (l.recvSeq + 1) % 4096 ∧ (t.link m).queue = l.queue ∧ (t.link m).sendSeq = l.sendSeq ∧
        (∀ v : Nat, v < 4 → (t.link m).credits[v]? = some ((l.credits[v]?).getD 0 + ((f.cred[v]?).getD 0 : Nat))) ∧
        (f.ackV = false → (t.link m).unacked = l.unacked) ∧
        (∀ q rest, f.ackV = true → l.unacked = q :: rest → (f.ack + 4096 - q.1) % 4096 ≤ l.unacked.length →
          (t.link m).unacked = l.unacked.drop ((f.ack + 4096 - q.1) % 4096)))) ∧
    (∀ q rest ack n, l.unacked = q :: rest → (ack + 4096 - q.1) % 4096 = 0 → n = { l with
        replays := min (2 ^ 32 - 1) (l.replays + l.unacked.length), sameReplays := l.sameReplays + 1 } →
      (l.sameReplays < 7 → exec (.linkReplay m ack) s = .next (Claims.relinked s m n)) ∧
      (7 ≤ l.sameReplays → l.state = .up ∨ l.state = .degraded →
        exec (.linkReplay m ack) s = .next (Claims.relinked s m { Claims.training n with sameReplays := 0 })))

/-- Discovery, the loss of agents, and time: a new record is kept and sent on over every other link in DISCOVERY; discovery ends 20 µs
after the last one, with no module training; an agent that was not heard for 16 µs is DOWN, and one whose record carries FENCE is
FENCED; the answer for a request to a lost agent is a negative acknowledgement; a TIME request is answered with the time base, a
response from the neighbour towards the master sets the time base once and slews it later, and a tick never sets it back and asks
every neighbour (19 R386 to R388; 22 R420). -/
def Obligations.DiscoveryAndTimeSteps : Prop :=
  ∀ (s : State),
    (∀ m r, s.lk.topoDone = false → r.uid ≠ s.idn.uid → s.lk.records.contains r = false → ∃ t : State, exec (.discover m r) s = .next t ∧
      r ∈ t.lk.records ∧ t.lk.recordAt = s.now ∧ t.lk.links = s.lk.links ∧
      ∀ j, j < 8 → j ≠ m → (s.link j).state = .discovery → OutItem.discover j r ∈ t.o.outbox) ∧
    (∀ m r, s.lk.topoDone = false → (r.uid = s.idn.uid ∨ s.lk.records.contains r = true) → exec (.discover m r) s = .next s) ∧
    (∀ m r a, s.lk.topoDone = true → r.fence = true → s.agentOf r.uid = some a → s.isOwn a = false → s.agentUp a = true →
      ∃ t : State, exec (.discover m r) s = .next t ∧ t.topo a / 2 ^ 59 % 4 = 1) ∧
    (s.bt.bstep = 5 → s.lk.topoDone = false → s.lk.recordAt + 20000 ≤ s.now → (∀ m, m < 8 → (s.link m).state ≠ .training) →
      ∃ t : State, exec .discoveryEnd s = .next t ∧ t.lk.topoDone = true ∧ t.lk.topoGen = (s.lk.topoGen + 1) % 2 ^ 16 ∧ t.bt.bstep = 6) ∧
    (s.bt.bstep ≠ 5 ∨ s.now < s.lk.recordAt + 20000 → exec .discoveryEnd s = .next s) ∧
    (∀ a, s.now < kgetD s.lk.heard a 0 + 16000 → exec (.agentDownTimeout a) s = .next s) ∧
    (∀ a, kgetD s.lk.heard a 0 + 16000 ≤ s.now → s.isOwn a = false → s.agentUp a = true →
      ∃ t : State, exec (.agentDownTimeout a) s = .next t ∧ t.topo a / 2 ^ 59 % 4 = 2) ∧
    (∀ rid m a b, kget s.msgs rid = some m → m.sent = true → m.dsts.contains a = true → m.op = .gett b → s.loseRequest rid a = s.nackMsg rid m) ∧
    (∀ p u, Claims.Comes s p u →
      (p.rsp = false → ∃ q, exec (.time p) s = .next (u.out (.packet q)) ∧ Claims.Answers s p q ∧ q.vc = (if p.typ = 0x0B ∨ p.typ = 0x04 then 2 else 1) ∧
        q.arg1 = BitVec.ofNat 64 s.now) ∧
      (∀ l there, p.rsp = true → s.lk.topoDone = true → s.isOwn s.lk.topoMaster = false → l = u.link s.masterPort → l.peer = p.src →
        there = p.arg1.toNat + (s.now - l.timeSent) / 2 →
        exec (.time p) s = .next (if s.t.setDue then { u with t := { s.t with time := there, setDue := false, slew := 0 } }
          else { u with t := { s.t with slew := (there : Int) - (s.now : Int) } }))) ∧
    (∃ t : State, exec .timeTick s = .next t ∧ s.t.time ≤ t.t.time ∧ t.t.time ≤ s.t.time + 1 ∧ t.t.cycle = s.t.cycle ∧ t.mem = s.mem ∧ t.slots = s.slots ∧
      ∀ m, m < 8 → ((s.link m).state = .up ∨ (s.link m).state = .degraded → ∃ p, (t.link m).queue = (s.link m).queue ++ [p] ∧ p.typ = 0x0B ∧ p.vc = 2 ∧
          p.dst = (s.link m).peer ∧ p.arg1 = BitVec.ofNat 64 s.now) ∧
        ((s.link m).state ≠ .up → (s.link m).state ≠ .degraded → t.link m = s.link m))

namespace Sys2Proof.Claims

/-- Memory of this die that a packet of SPACE 0 names: `n` bytes at offset `off` (19 R380, R381). -/
def Names (s : State) (p : Packet) (off n : Nat) : Prop :=
  p.space = 0 ∧ off = p.addr.toNat % 2 ^ 42 ∧ n = 2 ^ p.lsz ∧ off + n ≤ s.memBytes ∧ s.ueMem = [] ∧ s.lineHeld p.addr.toNat = false

/-- The exchange bank that a packet of SPACE 2 names takes an access of `n` bytes at local offset `a` of core `c` (19 R391). -/
def NamesBank (s : State) (p : Packet) (shadow : Bool) (c a n : Nat) : Prop :=
  p.space = 2 ∧ n = 2 ^ p.lsz ∧ n ≤ 8 ∧ c = p.addr.toNat / 2 ^ 17 % 256 ∧ s.bankOk p.ctx c (p.addr.toNat % 2 ^ 17) n = true ∧
  a = (if shadow then (s.core c).ltop else (s.core c).ltop - 4096 * (s.core c).shad) + p.addr.toNat % 2 ^ 17 ∧ (s.core c).ueLoc = []

end Sys2Proof.Claims

/-- Requests of other agents: a READ answers the bytes, a WRITE leaves its bytes and an ATOMIC its new value, in memory or in an exchange
bank, and an ATOMIC answers the old value; a context that is not admitted, an address that no block serves, and a bank that does not
take the access are refused with their reasons; version requests act as those of this die; a packet of an unknown type is logged, and
refused on VC0; a CHAIN is written and answered, or goes on to the next agent with its position marked where the write fails.  Answers:
a response goes to the deposit of its request, a NACK ends it, or with RETRY sends it again after 1 µs.  Versions of other dies: a
VSUB subscribes, a VFETCH is answered with the data in packets of 512 bytes, a notice that nobody waits for with RECLAIM drops the copy,
data of another slot or generation are discarded, and a notice that is not acknowledged is sent again every 2 µs (18 R350; 19 R379 to R382, R384,
R385, R391, R392; 10 R212; log 30, log 34 and log 41 for the forms of packets). -/
def Obligations.RemoteRequests : Prop :=
  ∀ (s : State),
    (∀ p u, Claims.Comes s p u →
      (∀ off n, Claims.Names s p off n →
        (∃ q, exec (.read p) s = .next (u.out (.packet q)) ∧ Claims.Answers s p q ∧ q.data = bytesOf n (s.mem.readN off n)) ∧
        (p.repl = false → p.prop = false → p.nibbles = false → p.enables = 2 ^ n - 1 → p.data.length = n →
          ∃ (t : State) (q : Packet), exec (.write p) s = .next (t.out (.packet q)) ∧ { t with msgs := s.msgs } = u.memWrite off p.data ∧
            Claims.Answers s p q ∧ q.op = 0) ∧
        (p.repl = false → p.op % 256 ≤ 8 → n = 4 ∨ n = 8 → ∃ q, exec (.atomic p) s = .next ((u.memWrite off (bytesOf n
            (Claims.atomic (p.op % 256) n (s.mem.readN off n) (p.arg1.toNat % 2 ^ (8 * n))))).out (.packet q)) ∧
          Claims.Answers s p q ∧ q.data = bytesOf n (s.mem.readN off n))) ∧
      (∀ off, p.space = 0 → off = p.addr.toNat % 2 ^ 42 → s.memBytes < off + 2 ^ p.lsz → off < 2 ^ 41 →
        (∃ q, exec (.read p) s = .next (u.out (.packet q)) ∧ Claims.Refuses s p q 3) ∧
        ∃ q, exec (.write p) s = .next (u.out (.packet q)) ∧ Claims.Refuses s p q 3) ∧
      (p.space = 1 → (s.ctx p.ctx).state.admitted' = false → ∀ i ∈ ([.read p, .write p, .atomic p, .vfetch p] : List Instr),
        ∃ q, exec i s = .next (u.out (.packet q)) ∧ Claims.Refuses s p q 4) ∧
      (p.space = 1 → (s.ctx p.ctx).state.admitted' = true →
        (p.op % 256 = 9 → ∃ q, exec (.read p) s = .next (u.out (.packet q)) ∧ Claims.Answers s p q ∧
          q.data = bytesOf 8 (match s.version p.ctx p.addr with | some v => v.status | none => 0)) ∧
        (∀ v off, p.op % 256 = 2 → p.op.testBit 16 = false → Claims.Open s p.ctx p.addr v → v.acc = false → off = p.arg1.toNat →
          off + p.data.length ≤ 4096 * v.g → ∃ q, exec (.write p) s = .next ((u.setVersion { v with
            data := setBits (8 * (off + p.data.length) - 1) (8 * off) v.data (ofBytes p.data) }).out (.packet q)) ∧ Claims.Answers s p q ∧ q.op = 0) ∧
        (∀ v n, p.op % 256 = 5 → p.op.testBit 16 = false → s.version p.ctx p.addr = some v → v.state ≠ .absent → v.state ≠ .dead → v.manual = false →
          n = p.arg1.toNat % 4096 → 0 < n → v.count + n ≤ 4095 →
          ∃ q, exec (.atomic p) s = .next ((u.setVersion { v with count := v.count + n }).out (.packet q)) ∧ Claims.Answers s p q ∧ q.op = 0)) ∧
      (∀ c a n, Claims.NamesBank s p false c a n → ∃ q, exec (.read p) s = .next (u.out (.packet q)) ∧ Claims.Answers s p q ∧
        q.data = bytesOf n ((s.core c).loc.readN a n)) ∧
      (∀ c a n, Claims.NamesBank s p true c a n → p.data.length = n → ∃ (t : State) (q : Packet), exec (.write p) s = .next (t.out (.packet q)) ∧
        t = u.locWrite c a p.data ∧ Claims.Answers s p q) ∧
      (∀ c a n, Claims.NamesBank s p false c a n → p.op % 256 ≤ 8 → n = 4 ∨ n = 8 → ∃ (t : State) (q : Packet), exec (.atomic p) s = .next (t.out (.packet q)) ∧
        t = u.locWrite c a (bytesOf n (Claims.atomic (p.op % 256) n ((s.core c).loc.readN a n) (p.arg1.toNat % 2 ^ (8 * n)))) ∧ Claims.Answers s p q ∧
        q.data = bytesOf n ((s.core c).loc.readN a n)) ∧
      (∀ c, p.space = 2 → c = p.addr.toNat / 2 ^ 17 % 256 → s.bankOk p.ctx c (p.addr.toNat % 2 ^ 17) (2 ^ p.lsz) = false →
        ∀ i ∈ ([.read p, .write p, .atomic p] : List Instr), ∃ q, exec i s = .next (u.out (.packet q)) ∧ Claims.Refuses s p q 6) ∧
      (∀ m, (p.vc = 0 → ∃ q, exec (.unknownPacket m p) s = .next ((u.monLog 0 m 0 0 3).out (.packet q)) ∧ Claims.Refuses s p q 1) ∧
        (p.vc ≠ 0 → exec (.unknownPacket m p) s = .next (u.monLog 0 m 0 0 3))) ∧
      (∀ off b, p.rsp = false → off = p.addr.toNat % 2 ^ 42 → b = (s.ctx p.ctx).state.admitted' → off + 512 ≤ s.memBytes →
        (p.agents = [] → ∃ q, exec (.chain p) s = .next ((if b then u.memWrite off (p.data.take 512) else u).out (.packet q)) ∧ q.typ = 0x0D ∧ q.rsp = true ∧
          q.dst = p.src ∧ q.tag = p.tag ∧ q.op = if b then p.op else p.op ||| 2 ^ p.pos) ∧
        (∀ a l, p.agents = a :: l → s.isOwn a = false → s.agentUp a = true → ∃ q,
          exec (.chain p) s = .next ((if b then u.memWrite off (p.data.take 512) else u).out (.packet q)) ∧ q.typ = 0x0D ∧ q.rsp = false ∧ q.dst = a ∧
          q.src = p.src ∧ q.tag = p.tag ∧ q.data = p.data.take 512 ∧ q.agents = l ∧ q.pos = p.pos + 1 ∧ q.op = if b then p.op else p.op ||| 2 ^ p.pos)) ∧
      (∀ m, kget s.msgs p.tag = some m → m.sent = true →
        (p.addr.toNat % 256 = 7 → exec (.nack p) s = .next (u.modMsg p.tag (fun x => { x with retryAt := some (s.t.cycle + 1250) }))) ∧
        (∀ a, p.addr.toNat % 256 ≠ 7 → m.op = .gett a → exec (.nack p) s = .next (u.nackMsg p.tag m))) ∧
      (s.proxy p.ctx p.addr = none → ∃ q, exec (.vnotice p) s = .next (u.out (.packet q)) ∧ Claims.Answers s p q) ∧
      (∀ x, s.proxy p.ctx p.addr = some x → x.waiters = [] → p.op.testBit 1 = true → ∃ t : State, exec (.vnotice p) s = .next t ∧
        t.proxy p.ctx p.addr = none ∧ t.mem = s.mem ∧ t.slots = s.slots) ∧
      (∀ v, (s.ctx p.ctx).state.admitted' = true → p.typ = 0x06 → s.version p.ctx p.addr = some v → ∃ (t : State) (w : Version),
        exec (.vfetch p) s = .next t ∧ t.version p.ctx p.addr = some w ∧ p.src ∈ w.subs ∧ w.data = v.data ∧ w.state = v.state ∧ w.count = v.count) ∧
      (∀ v m, (s.ctx p.ctx).state.admitted' = true → p.typ = 0x05 → s.version p.ctx p.addr = some v → v.state = .complete → p.arg2.toNat % 4096 = 0 →
        kgetD s.lk.paths p.src [] = [m] → (s.link m).state ≠ .fenced → (s.link m).state ≠ .down →
        ∃ (t : State) (qs : List Packet), exec (.vfetch p) s = .next t ∧ (t.link m).queue = (s.link m).queue ++ qs ∧ qs.length = 8 * v.g ∧
          ∀ i q, qs[i]? = some q → Claims.Answers s p q ∧ q.arg1 = BitVec.ofNat 64 (512 * i) ∧ q.arg2 = BitVec.ofNat 64 (v.gen + v.slot * 2 ^ 32) ∧
            q.data = ((bytesOf (4096 * v.g) v.data).drop (512 * i)).take 512) ∧
      (∀ m h x, kget s.msgs p.tag = some m → m.op = .proxy h true → s.proxy m.ctx h = some x → x.ctx = m.ctx → x.handle = h →
        (x.gen + x.slot * 2 ^ 32 = p.arg2.toNat → x.got + 512 < 4096 * x.g → exec (.vfetchResponse p) s = .next (u.setProxy { x with
          data := setBits (8 * (p.arg1.toNat + 512) - 1) (8 * p.arg1.toNat) x.data (ofBytes p.data), got := x.got + 512 })) ∧
        (x.gen + x.slot * 2 ^ 32 = p.arg2.toNat → 4096 * x.g ≤ x.got + 512 → x.waiters = [] → ∃ (t : State) (y : ProxyCopy), exec (.vfetchResponse p) s = .next t ∧
          kget t.msgs p.tag = none ∧ t.proxy m.ctx h = some y ∧ y.present = true ∧
          y.data = setBits (8 * (p.arg1.toNat + 512) - 1) (8 * p.arg1.toNat) x.data (ofBytes p.data)) ∧
        (x.gen + x.slot * 2 ^ 32 ≠ p.arg2.toNat → p.tag < s.o.nextId → ∃ (t : State) (y : ProxyCopy) (n : Msg), exec (.vfetchResponse p) s = .next t ∧ t.proxy m.ctx h = some y ∧
          y.present = false ∧ y.got = 0 ∧ kget t.msgs p.tag = none ∧ kget t.msgs s.o.nextId = some n ∧ n.op = .proxy h false))) ∧
    (∀ rid m c a, kget s.msgs rid = some m → m.retryAt = some c → m.op = .gett a →
      (s.t.cycle < c → exec (.retryResend rid) s = .next s) ∧
      (c ≤ s.t.cycle → exec (.retryResend rid) s = .next (s.post rid { m with retryAt := none, sent := false, dsts := [] }))) ∧
    (∀ rid m a b d bs, kget s.msgs rid = some m → m.sent = true → m.dsts = [a] → m.op = .gett b → m.dep = some d →
      exec (.deposit rid (some bs)) s = exec (.deposit d none) ((s.hear a).answerMsg rid m (ofBytes bs % 2 ^ 64) [])) ∧
    (∀ rid m h a rc c v, s.msgs = [(rid, m)] → m.op = .notice h a rc → m.retryAt = some c → s.version m.ctx h = some v →
      (s.t.cycle < c → exec .vnoticeResend s = .next s) ∧
      (c ≤ s.t.cycle → s.agentUp a = false → exec .vnoticeResend s = .next (s.unpost rid)) ∧
      (c ≤ s.t.cycle → s.agentUp a = true → ∃ q, exec .vnoticeResend s =
        .next ((s.modMsg rid (fun x => { x with retryAt := some (s.t.cycle + 2500) })).out (.packet q)) ∧ q.typ = 0x04 ∧ q.dst = a ∧ q.tag = rid ∧ q.addr = v.handle))

/-! ### Zones (20) -/

namespace Sys2Proof.Claims

/-- The die with a zone replaced. -/
def zoned (s : State) (z : Nat) (q : Zone) : State := { s with zn := { s.zn with zones := kset s.zn.zones z q } }

/-- The zone's readings ask for nothing: no event of 20 R402 holds. -/
def Calm (s : State) (q : Zone) : Prop :=
  q.void = false ∧ q.minF ≤ q.flow ∧ q.tj.foldl max 0 < s.zn.tjHi ∧ s.zn.tjHi < s.zn.tjShut ∧ q.lowSince = none ∧ q.drySince = none

/-- The coolant check of bring-up: TIN of every zone is 15 to 40, and the total flow 800 to 1600 (20 R396). -/
def CoolantChecked (s : State) : Prop :=
  (∀ y, y < 20 → 15 ≤ (s.zone y).tin ∧ (s.zone y).tin ≤ 40) ∧
  800 ≤ ((List.range 20).map (fun y => (s.zone y).flow)).sum ∧ ((List.range 20).map (fun y => (s.zone y).flow)).sum ≤ 1600

/-- A core of a compute zone: zone 3 y + floor(x / 2) of the grotto at (x, y) (01 R12). -/
def CoreIn (c z : Nat) : Prop := c < 144 ∧ 3 * (c / 24) + c / 4 % 6 / 2 = z

end Sys2Proof.Claims

/-- Zones: a limit or allocation that 20 does not allow is ignored whole; OPEN is ignored while Ferper owns the valve; a schedule fires
once, as it stood, even when it is written in that cycle; new readings are kept, and send a FLOWING zone to EVACUATING on VOID, to THROTTLED when it is hot, and nowhere when all is well;
a primed zone flows and the first compute zone ends bring-up step 3; a throttled zone flows again; an emptied zone is DRAINED, its cores
are gated and lose local memory, pulses open its valve and shut its neighbours', and the last one without flow makes it FAILED
(20 R396 to R399, R400 to R403). -/
def Obligations.ZoneSteps : Prop :=
  ∀ (s : State) (z : Nat) (q : Zone), z < 20 → q = s.zone z →
    (∀ v : Nat, (v / 2 ^ 8 % 256 ≤ v % 256 ∨ 125 < v / 2 ^ 8 % 256 → exec (.zoneLimitWrite v) s = .next s) ∧
      (v % 256 < v / 2 ^ 8 % 256 → v / 2 ^ 8 % 256 ≤ 125 →
        ∃ t : State, exec (.zoneLimitWrite v) s = .next t ∧ t.zn.tjShut = v / 2 ^ 8 % 256 ∧ t.zn.tjHi = v % 256)) ∧
    (∀ v : Word, (v.toNat / 2 ^ 16 % 2 ^ 16 < v.toNat % 2 ^ 16 → exec (.zoneAllocWrite z v) s = .next s) ∧
      (v.toNat % 2 ^ 16 ≤ v.toNat / 2 ^ 16 % 2 ^ 16 → ∃ good, exec (.zoneAllocWrite z v) s = .next (Claims.zoned s z { q with
        cmask := v.toNat / 2 ^ 48, maxF := v.toNat / 2 ^ 16 % 2 ^ 16, minF := v.toNat % 2 ^ 16, goodSince := good
        lowSince := if q.flow < v.toNat % 2 ^ 16 then some (q.lowSince.getD s.now) else none
        drySince := if 4 * q.flow < v.toNat % 2 ^ 16 then some (q.drySince.getD s.now) else none }))) ∧
    (∀ v : Nat, exec (.valveOpenWrite z v) s = .next (if q.state = .evacuating ∨ q.state = .drained ∨ q.state = .failed then s
      else Claims.zoned s z { q with openN := v % 256, openAt := s.now })) ∧
    (∀ (k : Nat) (v : Word), k < 16 → 20 ≤ v.toNat / 2 ^ 8 % 32 → exec (.valveSchedWrite k true v) s = .next s) ∧
    (∀ (k : Nat) (v : Word), k < 16 → ¬((kgetD s.zn.scheds k {}).actn.getLsbD 63 = true ∧ (kgetD s.zn.scheds k {}).time.toNat ≤ s.now) →
      exec (.valveSchedWrite k false v) s = .next { s with zn := { s.zn with scheds := kset s.zn.scheds k { kgetD s.zn.scheds k {} with time := v } } } ∧
      (v.toNat / 2 ^ 8 % 32 < 20 → exec (.valveSchedWrite k true v) s = .next { s with zn := { s.zn with
        scheds := kset s.zn.scheds k { kgetD s.zn.scheds k {} with actn := BitVec.ofNat 64 (v.toNat / 2 ^ 63 * 2 ^ 63 + v.toNat % 2 ^ 13) } } })) ∧
    ((∀ k, k < 16 → (kgetD s.zn.scheds k {}).actn.getLsbD 63 = false ∨ s.now < (kgetD s.zn.scheds k {}).time.toNat) →
      exec .valveSchedFire s = .next s) ∧
    (∀ (k n : Nat) (e : Sched), k < 16 → e = kgetD s.zn.scheds k {} → e.actn.getLsbD 63 = true → e.time.toNat ≤ s.now → n = e.actn.toNat / 2 ^ 8 % 32 → n < 20 →
      (∀ j, j < 16 → j ≠ k → (kgetD s.zn.scheds j {}).actn.getLsbD 63 = false) →
      (s.zone n).state ≠ .evacuating → (s.zone n).state ≠ .drained → (s.zone n).state ≠ .failed →
      (∃ t : State, exec .valveSchedFire s = .next t ∧ t.zone n = { s.zone n with openN := e.actn.toNat % 256, openAt := s.now } ∧
        (kgetD t.zn.scheds k {}).actn.toNat = e.actn.toNat % 2 ^ 63 ∧ (kgetD t.zn.scheds k {}).time = e.time ∧ t.slots = s.slots ∧ t.mem = s.mem) ∧
      ∀ v : Word, v.toNat / 2 ^ 8 % 32 < 20 → ∃ t : State, exec (.valveSchedWrite k true v) s = .next t ∧
        t.zone n = { s.zone n with openN := e.actn.toNat % 256, openAt := s.now } ∧ (kgetD t.zn.scheds k {}).actn.toNat = v.toNat % 2 ^ 13) ∧
    (∀ (rs : List Sensors) (r : Sensors) (hot : Nat), rs[z]? = some r → hot = [r.tj0 % 256, r.tj1 % 256, r.tj2 % 256, r.tj3 % 256].foldl max 0 →
      ∃ t : State, exec (.sensorRefresh rs) s = .next t ∧
        (t.zone z).tj = [r.tj0 % 256, r.tj1 % 256, r.tj2 % 256, r.tj3 % 256] ∧ (t.zone z).tin = r.tin % 256 ∧ (t.zone z).tout = r.tout % 256 ∧
        (t.zone z).void = r.void ∧ (t.zone z).flow = r.flow % 2 ^ 15 ∧ (t.zone z).dp = r.dp % 2 ^ 16 ∧
        (r.void = true → q.seen[2]?.getD false = false → t.zn.zvoid = true) ∧
        (q.state = .flowing → r.void = true → (t.zone z).state = .evacuating ∧ (t.zone z).evacAt = s.now) ∧
        (q.state = .flowing → r.void = false → q.minF ≤ r.flow % 2 ^ 15 → hot < s.zn.tjShut →
          (t.zone z).state = if s.zn.tjHi ≤ hot then .throttled else .flowing)) ∧
    (∀ a, q.state = .priming → q.goodSince = some a → s.bt.bfail = false → Claims.Calm s q →
      (s.now < a + 100000000 → exec (.zonePrimed z) s = .next s) ∧
      (a + 100000000 ≤ s.now → 4 ≤ s.bt.bstep →
        exec (.zonePrimed z) s = .next (Claims.zoned s z { q with state := .flowing, goodSince := none })) ∧
      (a + 100000000 ≤ s.now → s.bt.bstep = 3 → ¬Claims.CoolantChecked s → exec (.zonePrimed z) s = .next s) ∧
      (a + 100000000 ≤ s.now → s.bt.bstep = 3 → Claims.CoolantChecked s → z < 18 → exec (.zonePrimed z) s =
        .next { Claims.zoned s z { q with state := .flowing, goodSince := none } with bt := { s.bt with bstep := 4, bstepAt := s.now } })) ∧
    (∀ a, q.state = .throttled → q.goodSince = some a → Claims.Calm s q →
      (s.now < a + 1000000 → exec (.zoneThrottleEnd z) s = .next s) ∧
      (a + 1000000 ≤ s.now → q.tj.foldl max 0 + 5 < s.zn.tjHi →
        exec (.zoneThrottleEnd z) s = .next (Claims.zoned s z { q with state := .flowing, goodSince := none }))) ∧
    (q.state = .evacuating →
      (s.now < q.evacAt + 2000 → exec (.evacuationSaveEnd z) s = .next s) ∧
      (q.evacAt + 2000 ≤ s.now → z < 18 → (∀ c, Claims.CoreIn c z → (s.core c).matrix = none ∧ (s.core c).nextMatrix = none) →
        (∀ i, Claims.CoreIn (i / 16) z → s.slot i = none) →
        exec (.evacuationSaveEnd z) s = .next (Claims.zoned s z { q with
          state := .drained, goodSince := if q.minF ≤ q.flow ∧ q.void = false then some s.now else none, gateAt := none, pulses := 0 })) ∧
      (∀ i x, z < 18 → Claims.CoreIn (i / 16) z → s.slot i = some x → exec (.evacuationSaveEnd z) s = .next s)) ∧
    (q.state = .drained → q.gateAt = none → ∃ t : State, exec (.zoneGateEnd z) s = .next t ∧
      t.zone z = { q with gateAt := some s.now, gated := true, pulses := 0 } ∧
      (∀ c, z < 18 → Claims.CoreIn c z → (t.core c).loc = [] ∧ (t.core c).l1 = [] ∧ (t.core c).left = []) ∧
      (∀ c, ¬Claims.CoreIn c z → t.core c = s.core c) ∧ t.mem = s.mem ∧ t.slots = s.slots) ∧
    (∀ a, q.state = .drained → q.pulses < 8 → q.gateAt = some a →
      (s.now < a + 10000000 + 200000000 * q.pulses → exec (.reprimePulse z) s = .next s) ∧
      (a + 10000000 + 200000000 * q.pulses ≤ s.now → ∃ t : State, exec (.reprimePulse z) s = .next t ∧
        t.zone z = { q with act := 255, shutUntil := none, pulses := q.pulses + 1, pulseAt := s.now
                            goodSince := if q.minF ≤ q.flow ∧ q.void = false then some s.now else none } ∧
        (∀ y, y < 20 → y ≠ z → t.zone y = if y ∈ zoneNeighbours z then { s.zone y with act := 0, shutUntil := some (s.now + 20000000) } else s.zone y) ∧
        t.mem = s.mem ∧ t.slots = s.slots ∧ t.cores = s.cores)) ∧
    (∀ a, q.state = .drained → 0 < q.pulses → q.minF ≤ q.flow → q.void = false → q.goodSince = some a → a + 100000000 ≤ s.now → s.now ≤ q.pulseAt + 200000000 →
      ∃ t : State, exec (.reprimeResult z) s = .next t ∧
        t.zone z = { q with state := .priming, goodSince := some s.now, pulses := 0, gateAt := none, gated := false } ∧ t.mem = s.mem ∧ t.slots = s.slots) ∧
    (q.state = .drained → q.pulses = 8 → q.pulseAt + 200000000 ≤ s.now → q.void = true → z < 18 → exec (.reprimeResult z) s =
      .next ((Claims.zoned s z { q with state := .failed, goodSince := none }).lived (34 + z) 1))

/-! ### Pairs and regions (21) -/

/-- Pairs: a checkpoint begins the comparison and is counted; equal fingerprints send the held writes on their way and move the
checkpoint; unequal ones restore local memory and the slots as they stood at it and drop what was held, and a second time fence the
region.  Regions: a fence stops the slots of an OPEN region and counts; once its requests are done its cores are reset; it opens again, or
stays CLOSED after the fourth fence; its definition changes only while it is OPEN (21 R406 to R409, R411 to R413). -/
def Obligations.PairAndRegionSteps : Prop :=
  ∀ (s : State),
    (∀ p c (k : CoreSt), p < 72 → c = 2 * p → k = s.core c →
      (k.pair.comparing = true → exec (.pairCheckpoint p) s = .next s) ∧
      ((∀ i x, s.slot i = some x → i / 16 = c → x.pairMode = false) → ksorted s.slots = true → exec (.pairCheckpoint p) s = .next s) ∧
      (∀ i x, s.slot i = some x → i / 16 = c → x.pairMode = true → k.pair.comparing = false →
        ∃ t : State, exec (.pairCheckpoint p) s = .next t ∧ t.core c = { k with pair := { k.pair with comparing := true } } ∧
          t.hl.pairStat % 2 ^ 32 = min (2 ^ 32 - 1) (s.hl.pairStat % 2 ^ 32 + 1) ∧ t.hl.pairStat / 2 ^ 32 = s.hl.pairStat / 2 ^ 32 ∧
          (∀ d, d ≠ c → t.core d = s.core d) ∧ t.slots = s.slots ∧ t.msgs = s.msgs ∧ t.mem = s.mem) ∧
      (k.pair.comparing = false → exec (.pairCompareEnd p) s = .next s) ∧
      (k.pair.comparing = true → k.pair.fpA = k.pair.fpB → ∃ t : State, exec (.pairCompareEnd p) s = .next t ∧
        (t.core c).pair = { k.pair with
          count := 0, buffer := [], comparing := false, rerun := false, fpA := 0, fpB := 0, loc := k.loc, sfu := k.sfu, mark := s.o.nextId, redo := []
          slots := s.slots.filter (fun e => e.1 / 16 == c) } ∧
        (∀ r m, kget s.msgs r = some m → kget t.msgs r = some (if r ∈ k.pair.buffer then { m with buffered := false } else m)) ∧
        t.slots = s.slots ∧ t.mem = s.mem ∧ (t.core c).loc = k.loc) ∧
      (∀ i x y, k.pair.comparing = true → k.pair.fpA ≠ k.pair.fpB → k.pair.rerun = false → k.pair.slots = [(i, x)] → i / 16 = c → x.status = .ready →
        k.pair.redo = [] → s.slot i = some y → ∃ t : State, exec (.pairCompareEnd p) s = .next t ∧ t.slot i = some x ∧ (t.core c).loc = k.pair.loc ∧
          (t.core c).pair.rerun = true ∧ (t.core c).pair.count = 0 ∧ (t.core c).pair.buffer = [] ∧ (t.core c).pair.comparing = false ∧
          (∀ r ∈ k.pair.buffer, kget t.msgs r = none) ∧ t.hl.pairStat / 2 ^ 32 % 2 ^ 16 = min (2 ^ 16 - 1) (s.hl.pairStat / 2 ^ 32 % 2 ^ 16 + 1) ∧
          kgetD t.hl.life 128 0 = min (2 ^ 64 - 1) (kgetD s.hl.life 128 0 + 1) ∧ t.mem = s.mem) ∧
      (k.pair.comparing = true → k.pair.fpA ≠ k.pair.fpB → k.pair.rerun = true → (s.region (s.regionOf (c / 4))).state = 0 →
        ∃ t : State, exec (.pairCompareEnd p) s = .next t ∧ (t.region (s.regionOf (c / 4))).state = 1 ∧
          t.hl.pairStat / 2 ^ 48 % 2 ^ 16 = min (2 ^ 16 - 1) (s.hl.pairStat / 2 ^ 48 % 2 ^ 16 + 1) ∧ ∀ i, i / 16 = c → t.slot i = none)) ∧
    (∀ g r, g < 36 → r = s.regionOf g →
      ((s.region r).state ≠ 0 → exec (.regionFence g) s = .next s) ∧
      ((s.region r).state = 0 → ∃ t : State, exec (.regionFence g) s = .next t ∧ (t.region r).state = 1 ∧
        (t.region r).fences = min 15 ((s.region r).fences + 1) ∧ ∀ i, i / 64 < 36 → s.regionOf (i / 64) = r → t.slot i = none) ∧
      ((s.region r).state ≠ 1 ∨ (∃ i ∈ kgetD s.hl.drain r [], kget s.msgs i ≠ none) → exec (.regionDrained g) s = .next s) ∧
      ((s.region r).state = 1 → (∀ i ∈ kgetD s.hl.drain r [], kget s.msgs i = none) → s.kn.kernels = [] →
        ∃ t : State, exec (.regionDrained g) s = .next t ∧ t.region r = { s.region r with state := 2 } ∧
          (∀ c, c / 4 < 36 → s.regionOf (c / 4) = r → s.fused c = false → (t.core c).loc = [] ∧ (t.core c).inbox = [] ∧ (t.core c).l1 = []) ∧
          (∀ c, c / 4 < 36 → s.regionOf (c / 4) ≠ r → t.core c = s.core c) ∧ t.slots = s.slots ∧ t.mem = s.mem) ∧
      ((s.region r).state ≠ 2 → exec (.regionResetEnd g) s = .next s) ∧
      ((s.region r).state = 2 → exec (.regionResetEnd g) s = .next { s with hl := { s.hl with
        regions := kset s.hl.regions r { s.region r with state := if (s.region r).fences < 4 then 0 else 3 } } })) ∧
    (∀ (r : Nat) (v : Word), r < 8 →
      ((s.region r).state ≠ 0 → exec (.regionDefWrite r v) s = .next s) ∧
      ((s.region r).state = 0 → exec (.regionDefWrite r v) s = .next { s with hl := { s.hl with regions := kset s.hl.regions r { s.region r with
        en := v.getLsbD 63, y1 := v.toNat / 2 ^ 9 % 8, x1 := v.toNat / 2 ^ 6 % 8, y0 := v.toNat / 2 ^ 3 % 8, x0 := v.toNat % 8 } } }))

/-! ### Health (21) -/

/-- Corrected errors are counted against their way; the third disables it, and a set with fewer than two ways retires its slice.  Scrubbing
writes back a correction, or logs that a store came between, and an uncorrectable sector stays marked.  Monitors are cleared and take
samples; the event log gives up its head; the lifetime record counts minutes and hours; an uncorrectable error of control state fences the
die, or faults its context (21 R412, R414 to R419; 18 R351). -/
def Obligations.HealthSteps : Prop :=
  ∀ (s : State),
    (∀ k set way n : Nat, s.liveSlice k = true → set < 1024 → way < 16 → n = kgetD s.vs.wayErrs (k * 2 ^ 24 + set * 2 ^ 5 + way) 0 →
      ((k, set, way) ∈ s.vs.waysOff → exec (.correctedError k set way) s = .next s) ∧
      ((k, set, way) ∉ s.vs.waysOff →
        (n ≠ 2 → exec (.correctedError k set way) s = .next { s.lived (54 + k) 1 with
          vs := { s.vs with wayErrs := kset s.vs.wayErrs (k * 2 ^ 24 + set * 2 ^ 5 + way) (n + 1) } }) ∧
        (n = 2 → ∃ t : State, exec (.correctedError k set way) s = .next t ∧ (k, set, way) ∈ t.vs.waysOff ∧
          kgetD t.hl.life 126 0 = min (2 ^ 64 - 1) (kgetD s.hl.life 126 0 + 1) ∧
          t.vs.live.getLsbD k = decide ((s.vs.waysOff.filter (fun w => w.1 = k ∧ w.2.1 = set)).length < 14) ∧
          ∀ j, j < 64 → j ≠ k → t.vs.live.getLsbD j = s.vs.live.getLsbD j))) ∧
    (∀ pa : Nat,
      (∀ b, exec (.scrub pa true b) s = .next (s.monLog (BitVec.ofNat 64 pa) (s.sliceOf (Config.lineHash (pa / 256))) 0 0 (if b then 5 else 4))) ∧
      (∃ t : State, exec (.scrub pa false true) s = .next t ∧ t.ueMem = s.ueMem ∧ t.mem = s.mem) ∧
      (∀ off i, s.isOwn (pa / 2 ^ 42) = true → off = pa % 2 ^ 42 / 32 * 32 → off + 32 ≤ s.memBytes → i < 32 →
        ∃ t : State, exec (.scrub pa false false) s = .next t ∧ off + i ∈ t.ueMem ∧ t.mem = s.mem)) ∧
    (∀ (m v : Nat) (q : Monitor), m < 16 → q = s.monitor m →
      exec (.monClear m) s = .next { s with hl := { s.hl with
        mons := kset s.hl.mons m { q with min' := 0xFFFFFFFFFFFFFFFF, max' := 0, cnt := 0, hist := [] } } } ∧
      (q.sel.getLsbD 31 = false ∨ q.sel.toNat / 2 ^ 16 % 256 = 0 ∨ 6 < q.sel.toNat / 2 ^ 16 % 256 → exec (.monitorSample m v) s = .next s) ∧
      (v < 2 ^ 64 → q.sel.getLsbD 31 = true → 1 ≤ q.sel.toNat / 2 ^ 16 % 256 → q.sel.toNat / 2 ^ 16 % 256 ≤ 6 →
        ∃ (t : State) (w : Monitor), exec (.monitorSample m v) s = .next t ∧ t.monitor m = w ∧ w.sel = q.sel ∧ w.bin = q.bin ∧
          w.min'.toNat = min q.min'.toNat v ∧ w.max'.toNat = max q.max'.toNat v ∧ w.cnt = q.cnt + 1 ∧
          ∀ i : Nat, i < 32 → w.hist[i]?.getD 0 = (if i = min 31 ((v - q.bin.toNat / 2 ^ 32) / 2 ^ (q.bin.toNat % 32))
            then min (2 ^ 32 - 1) (q.hist[i]?.getD 0 + 1) else q.hist[i]?.getD 0))) ∧
    exec .monElogPop s = .next { s with hl := { s.hl with mlog := s.hl.mlog.drop 1 } } ∧
    (∀ n, n = (s.now - s.hl.lifeAt) / 60000000000 →
      (s.hl.lifeAt ≤ s.now → n = 0 → exec .lifetimeUpdate s = .next s) ∧
      (s.hl.lifeAt ≤ s.now → 0 < n → ∃ t : State, exec .lifetimeUpdate s = .next t ∧ t.hl.lifeAt = s.hl.lifeAt + n * 60000000000 ∧
        t.hl.lifeMins = (s.hl.lifeMins + n) % 60 ∧ kgetD t.hl.life 0 0 = min (2 ^ 64 - 1) (kgetD s.hl.life 0 0 + (s.hl.lifeMins + n) / 60) ∧
        t.slots = s.slots ∧ t.mem = s.mem)) ∧
    (∃ t : State, exec (.uncorrectableError .outside) s = .next t ∧ kgetD t.hl.life 129 0 = min (2 ^ 64 - 1) (kgetD s.hl.life 129 0 + 1) ∧
      (s.agentKnown s.ownAgent = true → t.topo s.ownAgent / 2 ^ 59 % 4 = 1) ∧ t.slots = s.slots ∧ t.mem = s.mem) ∧
    (∀ c, (s.ctx c).state.admitted' = true → ∃ t : State, exec (.uncorrectableError (.context c)) s = .next t ∧
      (t.ctx c).state = .faulted ∧ (t.ctx c).fcause = 0 ∧ ∀ i x, t.slot i = some x → x.ctx ≠ c)

/-! ### Bring-up (22) -/

/-- Die reset runs copy A of the firmware when it is signed and not older than the anti-rollback count, else copy B, and fails with its
code when neither is or when the harvest tables are bad; it leaves memory, local memory and slots at reset and loads the part's tables.  A
die with no zone flowing after 10 s fails with code 4, and one without a usable stack with code 5; HBM4 training writes DIE_MEMSZ and begins
discovery.  The anti-rollback count rises to at most SVN; attestation keeps its nonce, is ignored while busy, and writes a report of 4,883
bytes.  Words that are no instruction trap ILLEGAL (22 R420 to R425; 03 R51, R73). -/
def Obligations.BringUpSteps : Prop :=
  ∀ (s : State),
    (∀ (p : FusedPart) (a b : FlashCopy) (arb : Nat), arb = max s.bt.arb (p.arb % 64) →
      (p.tablesOk = true → (a.keyOk = true ∧ a.sigOk = true ∧ arb ≤ a.svn) ∨ (b.keyOk = true ∧ b.sigOk = true ∧ arb ≤ b.svn) →
        ∃ t : State, exec (.dieReset p a b) s = .next t ∧ t.bt.bstep = 3 ∧ t.bt.bfail = false ∧ t.bt.arb = arb ∧
          t.bt.copyB = !(a.keyOk && a.sigOk && decide (arb ≤ a.svn)) ∧ t.bt.svn = (if t.bt.copyB then b.svn else a.svn) % 2 ^ 32 ∧
          t.mem = [] ∧ t.slots = [] ∧ t.msgs = [] ∧ t.deps = [] ∧ t.idn.uid = p.uid ∧ t.idn.stepId = p.step % 16 ∧
          ∀ c, c < 144 → (t.core c).loc = [] ∧ t.fused c = p.fused.contains c) ∧
      (p.tablesOk = false → a.keyOk = true → a.sigOk = true → arb ≤ a.svn →
        ∃ t : State, exec (.dieReset p a b) s = .next t ∧ t.bt.bfail = true ∧ t.bt.bcode = 3) ∧
      (¬(a.keyOk = true ∧ a.sigOk = true ∧ arb ≤ a.svn) → ¬(b.keyOk = true ∧ b.sigOk = true ∧ arb ≤ b.svn) →
        ∃ t : State, exec (.dieReset p a b) s = .next t ∧ t.bt.bfail = true ∧
          t.bt.bcode = if a.keyOk = true ∧ a.sigOk = true ∧ b.keyOk = true ∧ b.sigOk = true then 2 else 1)) ∧
    (s.bt.bfail = false → s.bt.bstep = 3 →
      (s.bt.bstepAt + 10000000000 ≤ s.now → exec .bringupTimeout s = .next { s with bt := { s.bt with bfail := true, bcode := 4 } }) ∧
      (s.now < s.bt.bstepAt + 10000000000 → exec .bringupTimeout s = .next s)) ∧
    (s.bt.bfail = false → s.bt.bstep = 4 →
      (∀ ks : List Stack, (∀ k ∈ ks, k.trained = false) → ∃ t : State, exec (.hbm4TrainingEnd ks) s = .next t ∧ t.bt.bfail = true ∧ t.bt.bcode = 5) ∧
      (∀ k : Stack, k.trained = true → k.height ∈ [8, 12, 16] → k.density ∈ [24, 32] → k.grade ∈ [64, 80, 100] →
        ∃ t : State, exec (.hbm4TrainingEnd (List.replicate 6 k)) s = .next t ∧ t.idn.memGib = 6 * (k.height * k.density / 8) ∧ t.bt.bstep = 5 ∧
          ∀ m, m < 8 → (t.link m).state = if (s.link m).en = true ∧ (s.link m).state = .down then .training else (s.link m).state)) ∧
    (∀ v : Word, exec (.arbRaise v) s = .next (if min (v.toNat % 64) s.bt.svn ≤ s.bt.arb then s
      else { s with bt := { s.bt with arb := min (v.toNat % 64) s.bt.svn } })) ∧
    (∀ v : Word, exec (.attestationStart v) s = .next (if s.bt.attBusy = true ∨ s.bt.bstep ≠ 6 then s
      else { s with bt := { s.bt with attBusy := true, nonce := bytesOf 8 v.toNat, attWrite := none } })) ∧
    (s.bt.attBusy = false → exec .attestationDone s = .next s) ∧
    (∀ a, s.bt.attBusy = true → s.bt.attWrite = none → s.bt.nonce.length = 8 → s.local' s.bt.attBuf.toNat = true → a = s.bt.attBuf.toNat % 2 ^ 42 →
      a + 4883 ≤ s.memBytes → ∃ t : State, exec .attestationDone s = .next t ∧ t.bt.attBusy = false ∧ t.bt.attErr = s.bt.attErr ∧
        t.mem.readN a 4 = 0x41545351 ∧ t.mem.readN (a + 4) 4 = 4883 ∧ t.mem.readN (a + 8) 8 = s.idn.uid.toNat ∧
        t.mem.readN (a + 24) 8 = ofBytes s.bt.nonce ∧ (∀ b, b < a ∨ a + 4883 ≤ b → t.mem.read b = s.mem.read b) ∧ t.slots = s.slots) ∧
    (∀ (x : Slot) (w pos : Nat), s.slot s.o.cur = some x → exec (.illegalEncoding w pos) s =
      .next (s.takeTrap s.o.cur (x.snapshot s.t.cycle) .illegal (BitVec.ofNat 64 (w % 2 ^ 16 + pos * 2 ^ 16)) false))

/-! ### The register region (01 R17, R19, R428) -/

namespace Sys2Proof.Claims

/-- The `k` low bits of a field written; what lies above them stays. -/
def low (k old v : Nat) : Nat := old / 2 ^ k * 2 ^ k + v % 2 ^ k

/-- A write of 8 bytes at an offset of the register region. -/
def put (off : Nat) (v : Word) : Instr := .registerWrite off 8 v

/-- A W1C bit after a write of `v` whose bit `b` is for it: what an event of the cycle has set stays (00 R5). -/
def kept (s : State) (k : Sticky) (old : Bool) (v : Word) (b : Nat) : Bool := old && (!v.getLsbD b || s.o.sets.contains k)

/-- The die with a step started. -/
def started (s : State) (i : Instr) : State := { s with o := { s.o with agenda := i :: s.o.agenda } }

end Sys2Proof.Claims

/-- Register writes of 8 bytes: plain fields take the bits written, a W1C bit is cleared by a one, unless an
event of the cycle has set it, and kept by a zero; a post waits for its launch's record; a field whose value is
not allowed stays, a read-only register stays, and a register that is a command starts its effect; a command register of 8 bytes ignores a
write of 4; an access that is not 4 or 8 aligned bytes within the region does nothing (01 R19, R428; 08 R171; 12 R252; 14 R288; 16 R318;
17 R342; 18 R350, R352, R367; 19 R370; 21 R409, R417, R419). -/
def Obligations.RegisterWrites : Prop :=
  ∀ (s : State) (v : Word) (n : Nat), n = v.toNat →
    (∀ off size, size ≠ 4 ∧ size ≠ 8 ∨ off % size ≠ 0 ∨ 0xE0000 ≤ off → exec (.registerWrite off size v) s = .next s) ∧
    (∀ off, 0x10000 ≤ off → off < 0x20000 → exec (.registerWrite off 8 v) s = .next s) ∧
    exec (Claims.put 0x00000 v) s = .next s ∧
    exec (Claims.put 0x00100 v) s = .next { s with pg := { s.pg with fqVec := Claims.low 8 s.pg.fqVec (n / 2 ^ 8), fqOvf := s.pg.fqOvf && !v.getLsbD 7 } } ∧
    exec (Claims.put 0x00118 v) s = .next (Claims.started s (if v.getLsbD 0 then .fqReplay else .fqPop)) ∧
    exec (Claims.put 0x00200 v) s = .next { s with pl := { s.pl with keyWin := Claims.low 32 s.pl.keyWin n } } ∧
    exec (Claims.put 0x00208 v) s = .next { s with pl := { s.pl with
      poolFull := Claims.kept s .poolFull s.pl.poolFull v 63, poolBad := Claims.kept s .poolBad s.pl.poolBad v 62, poolVec := Claims.low 8 s.pl.poolVec (n / 2 ^ 48) } } ∧
    ((∀ c, c < 16 → (s.ctx c).state ≠ .resident) → exec (Claims.put 0x00210 v) s = .next { s with pl := { s.pl with rsv := v.getLsbD 0 } }) ∧
    (∀ c, c < 16 → (s.ctx c).state = .resident → exec (Claims.put 0x00210 v) s = .next s) ∧
    (∃ t : State, exec (Claims.put 0x00300 v) s = .next t ∧ kget t.gr.posts s.o.nextId = some (v, n % 16) ∧
      (∀ j, j ≠ s.o.nextId → kget t.gr.posts j = kget s.gr.posts j) ∧ t.o.agenda = s.o.agenda ∧ t.slots = s.slots ∧ t.mem = s.mem) ∧
    exec (Claims.put 0x00308 v) s = .next { s with gr := { s.gr with
      lvec := Claims.low 8 s.gr.lvec (n / 2 ^ 16), llost := Claims.kept s .launchLost s.gr.llost v 9
      lbad := Claims.kept s .launchBad s.gr.lbad v 8, lfull := Claims.kept s .launchFull s.gr.lfull v 7 } } ∧
    (∀ c, c = n / 2 ^ 4 % 16 →
      (n % 16 = 1 → exec (Claims.put 0x00400 v) s = .next (Claims.started s (.ctxBuild c (n / 2 ^ 8 % 2 ^ 44 * 256)))) ∧
      (n % 16 = 2 → exec (Claims.put 0x00400 v) s = .next (Claims.started s (.ctxAdmit c))) ∧
      (n % 16 = 3 → exec (Claims.put 0x00400 v) s = .next (Claims.started s (.ctxRun c))) ∧
      (n % 16 = 4 → exec (Claims.put 0x00400 v) s = .next (Claims.started s (.ctxDrain c))) ∧
      (n % 16 = 5 → exec (Claims.put 0x00400 v) s = .next (Claims.started s (.ctxRestore c))) ∧
      (n % 16 = 6 → exec (Claims.put 0x00400 v) s = .next (Claims.started s (.ctxRetire c))) ∧
      (n % 16 = 0 ∨ 6 < n % 16 → ∃ t : State, exec (Claims.put 0x00400 v) s = .next t ∧ (t.ctx c).bad = true ∧
        t.o.irqs = s.o.irqs ++ [(s.ctx c).vec] ∧ t.o.agenda = s.o.agenda)) ∧
    (∀ off ∈ [0x00400, 0x00300, 0x20010, 0xD0008, 0xD0018], exec (.registerWrite off 4 v) s = .next s) ∧
    (∀ c, c < 16 → ∃ t : State, exec (Claims.put (0x00480 + 8 * c) v) s = .next t ∧
      t.ctx c = { s.ctx c with vec := Claims.low 8 (s.ctx c).vec (n / 2 ^ 24), bad := Claims.kept s (.ctxBad c) (s.ctx c).bad v 6 }) ∧
    exec (Claims.put 0x20000 v) s = .next { s with kn := { s.kn with ksrc := BitVec.ofNat 64 (Claims.low 56 (s.kn.ksrc.toNat / 2) (n / 2) * 2) } } ∧
    exec (Claims.put 0x20008 v) s = .next { s with kn := { s.kn with kdva := BitVec.ofNat 64 (Claims.low 57 s.kn.kdva.toNat n) } } ∧
    (s.kn.kbusy = true → exec (Claims.put 0x20010 v) s = .next s) ∧
    (s.kn.kbusy = false → n / 2 ^ 52 % 2 ^ 10 = 0 → n / 2 ^ 20 % 2 ^ 12 ≠ 0 → v.getLsbD 32 = false →
      (n / 2 ^ 62 = 0 → exec (Claims.put 0x20010 v) s = .next (Claims.started s (.kernelLoad v))) ∧
      (n / 2 ^ 62 = 1 → exec (Claims.put 0x20010 v) s = .next (Claims.started s (.kernelUnload v))) ∧
      (n / 2 ^ 62 = 2 → exec (Claims.put 0x20010 v) s = .next (Claims.started s (.kernelOverlay v)))) ∧
    (s.kn.kbusy = false → n / 2 ^ 62 = 3 ∨ n / 2 ^ 20 % 2 ^ 12 = 0 → exec (Claims.put 0x20010 v) s = .next (Claims.started s (.badcmd v))) ∧
    (∀ c, c < 144 → exec (.registerWrite (0x20C00 + 4 * c) 4 v) s = .next (Claims.started s (.lmapWrite c (n % 2 ^ 32)))) ∧
    (∀ c, c < 144 → exec (.registerWrite (0x21400 + 4 * c) 4 v) s = .next (Claims.started s (.xtopWrite c (n % 2 ^ 32)))) ∧
    exec (Claims.put 0x30040 v) s = .next (Claims.started s (.sliceSplitWrite (n % 2 ^ 32))) ∧
    (∀ c, c < 16 → exec (Claims.put (0x40000 + 8 * c) v) s = .next { s with cx := { s.cx with
      shares := kset s.cx.shares c (Claims.low 8 (kgetD s.cx.shares c 0x10) n) } }) ∧
    exec (Claims.put 0x60000 v) s = .next { s with br := { s.br with echoThresh := Claims.low 32 s.br.echoThresh n } } ∧
    (s.lk.hctx < 16 → exec (Claims.put 0xB0800 v) s = .next { s with lk := { s.lk with
      hwbase := BitVec.ofNat 64 (Claims.low 26 (s.lk.hwbase.toNat / 2 ^ 26) (n / 2 ^ 26) * 2 ^ 26), hctx := n % 16 } }) ∧
    (∀ c p, c < 16 → p = kgetD s.hl.pairCtx c (4, false) → p.1 < 128 → exec (Claims.put (0x90000 + 8 * c) v) s = .next { s with hl := { s.hl with
      pairCtx := kset s.hl.pairCtx c (if 1 ≤ n / 2 ^ 16 % 2 ^ 7 ∧ n / 2 ^ 16 % 2 ^ 7 ≤ 64 then n / 2 ^ 16 % 2 ^ 7 else p.1, v.getLsbD 0) } }) ∧
    (∀ m, m < 16 → exec (Claims.put (0xC0000 + 256 * m) v) s = .next { s with hl := { s.hl with mons := kset s.hl.mons m { s.monitor m with
      sel := BitVec.ofNat 64 (n / 2 ^ 31 % 2 * 2 ^ 31 + n % 2 ^ 24), min' := 0xFFFFFFFFFFFFFFFF, max' := 0, cnt := 0, hist := [] } } }) ∧
    exec (Claims.put 0xC2018 v) s = .next (Claims.started s .monElogPop) ∧
    exec (Claims.put 0xD0008 v) s = .next (Claims.started s (.arbRaise v)) ∧
    exec (Claims.put 0xD0018 v) s = .next (Claims.started s (.attestationStart v)) ∧
    exec (Claims.put 0xD0100 v) s = .next { s with hl := { s.hl with lifeIdx := Claims.low 16 s.hl.lifeIdx n } }

/-! ### The machine as a whole -/

namespace Sys2Proof.Claims

/-- Words with the instructions that they stand for by the encoding tables of 03: an IMM prefix carries ten bits, XREG the high bits of A
and B and all of C, PAGE the page and MOD, AUX the stall count; a base word carries a code, A and B (03 R51 to R59, R71). -/
def words : List (List Nat × Instr) := [
  ([0x0400], .nop Chain.zero),
  ([0xFC80, 0x0400], .nop { Chain.zero with hasA := true, stall := 1 }),
  ([0x0C5F], .movi { Chain.zero with a := 2, imm := -1 }),
  ([0xF400 + 5, 0x1064], .add { Chain.zero with hasX := true, a := 3, b := 4, c := 5 }),
  ([0xF400 + 256 + 128 + 63, 0x1064], .add { Chain.zero with hasX := true, a := 35, b := 68, c := 63 }),
  ([0xF002, 0x99E0], .call { Chain.zero with nimm := 1, a := 15, imm := 64 }),
  ([0xCC00], .eret Chain.zero),
  ([0xF3F8, 0xF803, 0xA589], .ld { Chain.zero with nimm := 1, hasP := true, a := 12, b := 9, imm := -8, mod := 3 }),
  ([0xF405, 0xF888, 0x1464], .vadd { Chain.zero with hasX := true, hasP := true, a := 3, b := 4, c := 5, mod := 8 }),
  ([0xF900, 0x2864], .vred { Chain.zero with hasP := true, a := 3, b := 4 }),
  ([0xF040, 0xF980, 0x4989], .rld { Chain.zero with nimm := 1, hasP := true, a := 12, b := 9, imm := 64 }),
  ([0xF981, 0x5C00], .bariClr { Chain.zero with hasP := true, mod := 1 }),
  ([0xF980, 0x5C00], .bari { Chain.zero with hasP := true }),
  ([0xF980, 0x3400], .exit { Chain.zero with hasP := true })]

/-- Memory and local memory, and the local memory that a pair would restore, are in canonical form: addresses strictly rising, and no byte
listed that equals what an unlisted one reads as. -/
def Canonical (s : State) : Prop :=
  s.mem.wf = true ∧ ∀ p ∈ s.cores, p.2.loc.wf = true ∧ p.2.pair.loc.wf = true

/-- The words at a slot's pc may all be fetched and are these. -/
def WordsAt (s : State) (sid : Nat) (x : Slot) (ws : List Nat) : Prop :=
  ∀ j w, ws[j]? = some w → s.fetchable (sid / 16) x (x.wordAt j) = true ∧ s.inSegment (sid / 16) x x.pc.toNat (x.wordAt j) = true ∧
    w = (s.core (sid / 16)).loc.readN (x.wordAt j) 2

/-- Registers of the register region with the values that their maps give for reset. -/
def resetRegisters : List (Nat × Nat) := [
  (0x00008, 0), (0x00100, 0), (0x00108, 0), (0x00200, 0x400), (0x00208, 0), (0x00210, 1), (0x00308, 0), (0x00480, 0), (0x00800, 0), (0x01000, 0),
  (0x20000, 0), (0x20008, 0), (0x20018, 0), (0x20C00, 0x4000000040), (0x21400, 0x4000000040),
  (0x30040, 4), (0x30048, 0), (0x30050, 0), (0x30058, 0), (0x40000, 0x10), (0x40100, 65536), (0x50000, 0), (0x51000, 0), (0x52000, 0),
  (0x60000, 0x2710), (0x60008, 0x10000), (0x60010, 0), (0x70400, 0x7D69), (0x70408, 0), (0x80100, 0), (0x90100, 0),
  (0xA0000, 0), (0xB0000, 5), (0xB0008, 0), (0xB0800, 0), (0xC0010, 0xFFFFFFFFFFFFFFFF), (0xC0018, 0), (0xC1000, 0), (0xC2000, 0), (0xD0010, 0)]

end Sys2Proof.Claims

/-- The words at a slot's pc are read one after the other, and where decoding them gives an instruction, a step at a state in which it is
that slot's turn is that instruction at the state whose current slot it is; on a pair its checkpoint goes with it; where they are no
instruction the step is ILLEGAL_ENCODING, and where a word may not be fetched the trap.  The first step of the
agenda whose turn is at once comes before all; where there is none and no slot may issue, the next event that is due has its turn, and
where none is due a cycle ends (03 R50, R73; 04 R79, R82; log 1 for the order). -/
def Obligations.StepRunsDecoded : Prop :=
  ∀ (s : State),
    (∀ (sid : Nat) (x : Slot) (ws : List Nat), (∀ i ∈ s.o.agenda, phaseOf i ≠ .now) → s.nextIssue = some (sid, x) → x.late = none →
      (∀ u c, x.status ≠ .stalled (.time u c)) →
      (∀ (i : Instr) (n : Nat), Claims.WordsAt s sid x ws → decode ws = .ok i n → n = ws.length → i.wf = true →
        step s = (if x.pairMode then (s.turn sid).paired sid i (exec i (s.turn sid)) else exec i (s.turn sid))) ∧
      (∀ (w n : Nat), Claims.WordsAt s sid x ws → decode ws = .illegal w n → n + 1 = ws.length →
        step s = exec (.illegalEncoding w n) (s.turn sid)) ∧
      (∀ a, a = x.wordAt 0 → s.fetchable (sid / 16) x a = false →
        step s = .next ((s.turn sid).takeTrap sid x .overlay (BitVec.ofNat 64 a) false))) ∧
    (∀ (i : Instr) (l r : List Instr), (∀ j ∈ l, phaseOf j ≠ .now) → phaseOf i = .now → s.o.agenda = l ++ i :: r →
      step s = exec i { s with o := { s.o with agenda := l ++ r } }) ∧
    ((∀ i ∈ s.o.agenda, phaseOf i ≠ .now) → s.nextIssue = none →
      (∀ r, s.nextDue 1 dueClasses = some r → step s = r) ∧
      (s.nextDue 1 dueClasses = none → ∃ t : State, step s = .next t ∧ t.t.cycle = s.t.cycle + 1 ∧ t.o.scan = 0 ∧ t.o.mscan = 0))

/-- Words written out from the encoding tables decode to the instructions that they stand for (03 R51 to R59, R71). -/
def Obligations.EncodedWords : Prop :=
  ∀ p ∈ Claims.words, decode p.1 = .ok p.2 p.1.length

/-- Decoding the words of a well-formed slot instruction gives that instruction back, with every field at every value that the encoding
admits, and does not depend on what follows the words (03 R50 to R59, R71, R75). -/
def Obligations.DecodeEncode : Prop :=
  ∀ (i : Instr) (o : OpInfo) (c : Chain) (rest : List Nat), i.slotOp = some (o, c) → i.wf = true →
    decode (encode i ++ rest) = .ok i (encode i).length ∧ 1 ≤ (encode i).length ∧ (encode i).length ≤ 5 ∧ ∀ w ∈ encode i, w < 2 ^ 16

/-- No instruction stops the machine: in every state every slot instruction and every step of another unit answers a next state, and so does
every step of the die: what goes wrong is a trap, a negative acknowledgement, a register bit, or an event without effect (00 R6; 18 R354). -/
def Obligations.NoStepStops : Prop :=
  ∀ (s : State), (∀ i : Instr, ∃ t : State, exec i s = .next t) ∧ ∃ t : State, step s = .next t

/-- Every step, and every instruction, keeps memory and every core's local memory in canonical form, so that equal memories are equal data
(log 4: an address that is not listed reads as 0). -/
def Obligations.MemoryStaysCanonical : Prop :=
  ∀ (s t : State), Claims.Canonical s → (step s = .next t → Claims.Canonical t) ∧ ∀ i : Instr, exec i s = .next t → Claims.Canonical t

/-- After reset no slot is active, every context is FREE, every link DOWN, every zone PRIMING, bring-up stands at step 1, memory is in
canonical form, and the registers read what their maps give for reset (08 R171; 09 R180, R182; 12 R252; 16 R318; 17 R342; 18 R352, R367;
19 R374; 20 R397, R402; 21 R409, R411; 22 R420).  That every byte of memory reads 0 is the model's choice (log 4). -/
def Obligations.ResetValues : Prop :=
  (∀ p ∈ Claims.resetRegisters, State.reset.regRead p.1 8 = p.2) ∧ State.reset.slots = [] ∧ (∀ c, (State.reset.ctx c).state = .free) ∧
  (∀ m, (State.reset.link m).state = .down) ∧ (∀ z, (State.reset.zone z).state = .priming) ∧ State.reset.bt.bstep = 1 ∧
  State.reset.msgs = [] ∧ State.reset.deps = [] ∧ Claims.Canonical State.reset ∧ (∀ a, State.reset.mem.read a = 0) ∧ core.reset = State.reset
end

