-- ==== Sys2Proof/Laws/Maps.lean ====
section
/-!
SUPPORT. What the operations on finite maps do to the value under a key; they hold of every list, sorted or not.
-/

namespace Sys2Proof

variable {α : Type}

@[simp] theorem kget_nil (i : Nat) : kget ([] : KMap α) i = none := rfl

@[simp] theorem kget_kset_same (m : KMap α) (i : Nat) (v : α) : kget (kset m i v) i = some v := by
  induction m with
  | nil => simp [kset, kget]
  | cons p m ih =>
    obtain ⟨k, u⟩ := p
    simp only [kset]
    split
    · simp [kget]
    · split
      · simp [kget]
      · simp [kget, ih, Ne.symm ‹¬i = k›]

@[simp] theorem kget_kset_other (m : KMap α) {i j : Nat} (v : α) (h : j ≠ i) : kget (kset m i v) j = kget m j := by
  induction m with
  | nil => simp [kset, kget, Ne.symm h]
  | cons p m ih =>
    obtain ⟨k, u⟩ := p
    simp only [kset]
    split
    · simp [kget, Ne.symm h]
    · split
      · subst ‹i = k›; simp [kget, Ne.symm h]
      · simp [kget, ih]

theorem kget_kset (m : KMap α) (i j : Nat) (v : α) : kget (kset m i v) j = if j = i then some v else kget m j := by
  split
  · subst ‹j = i›; exact kget_kset_same m j v
  · exact kget_kset_other m v ‹_›

@[simp] theorem kset_kset (m : KMap α) (i : Nat) (v w : α) : kset (kset m i v) i w = kset m i w := by
  induction m with
  | nil => simp [kset]
  | cons p m ih =>
    by_cases h1 : i = p.1
    · simp [kset, h1]
    · by_cases h2 : i < p.1
      · simp [kset, h2]
      · simp [kset, h1, h2, ih]

@[simp] theorem kget_kdel_same (m : KMap α) (i : Nat) : kget (kdel m i) i = none := by
  induction m with
  | nil => rfl
  | cons p m ih =>
    obtain ⟨k, u⟩ := p
    by_cases h : k = i
    · subst h; simpa [kdel] using ih
    · simpa [kdel, h, kget] using ih

@[simp] theorem kget_kdel_other (m : KMap α) {i j : Nat} (h : j ≠ i) : kget (kdel m i) j = kget m j := by
  induction m with
  | nil => rfl
  | cons p m ih =>
    obtain ⟨k, u⟩ := p
    by_cases hk : k = i
    · subst hk; simpa [kdel, kget, Ne.symm h] using ih
    · simp only [kdel, List.filter_cons, bne_iff_ne, ne_eq, hk, not_false_eq_true, if_true, kget] at ih ⊢
      rw [ih]

theorem kget_kmod (m : KMap α) (i j : Nat) (f : α → α) : kget (kmod m i f) j = if j = i then (kget m i).map f else kget m j := by
  unfold kmod
  split
  · rw [kget_kset, ‹kget m i = some _›]; rfl
  · split
    · subst ‹j = i›; simp [‹kget m j = none›]
    · rfl

theorem kget_kmap (m : KMap α) (f : Nat → α → α) (i : Nat) : kget (kmap m f) i = (kget m i).map (f i) := by
  induction m with
  | nil => rfl
  | cons p m ih =>
    obtain ⟨k, u⟩ := p
    by_cases h : k = i
    · subst h; simp [kmap, kget]
    · simpa [kmap, kget, h] using ih

theorem kget_mem {m : KMap α} {i : Nat} {v : α} (h : kget m i = some v) : (i, v) ∈ m := by
  induction m with
  | nil => simp [kget] at h
  | cons p m ih =>
    obtain ⟨k, u⟩ := p
    simp only [kget] at h
    split at h
    · cases h; subst ‹k = i›; simp
    · exact List.mem_cons_of_mem _ (ih h)

theorem mem_kset {m : KMap α} {i : Nat} {v : α} {p : Nat × α} (h : p ∈ kset m i v) : p = (i, v) ∨ p ∈ m := by
  induction m with
  | nil => simpa [kset] using h
  | cons q m ih =>
    obtain ⟨k, u⟩ := q
    simp only [kset] at h
    split at h
    · simpa using h
    · split at h
      · rcases List.mem_cons.1 h with rfl | h
        · exact .inl rfl
        · exact .inr (List.mem_cons_of_mem _ h)
      · rcases List.mem_cons.1 h with rfl | h
        · exact .inr List.mem_cons_self
        · rcases ih h with h | h
          · exact .inl h
          · exact .inr (List.mem_cons_of_mem _ h)

theorem ksorted_iff (m : KMap α) : ksorted m = true ↔ m.Pairwise (fun a b => a.1 < b.1) := by simp [ksorted]

/-- A map with rising keys gives back every pair it holds. -/
theorem kget_of_mem {m : KMap α} (hs : ksorted m = true) {i : Nat} {v : α} (h : (i, v) ∈ m) : kget m i = some v := by
  rw [ksorted_iff] at hs
  induction m with
  | nil => simp at h
  | cons p m ih =>
    obtain ⟨k, u⟩ := p
    rw [List.pairwise_cons] at hs
    rcases List.mem_cons.1 h with h | h
    · cases h; simp [kget]
    · have : k < i := hs.1 _ h
      simp [kget, Nat.ne_of_lt this, ih hs.2 h]

/-- A write keeps the keys rising. -/
theorem ksorted_kset {m : KMap α} (hs : ksorted m = true) (i : Nat) (v : α) : ksorted (kset m i v) = true := by
  rw [ksorted_iff] at hs ⊢
  induction m with
  | nil => simp [kset]
  | cons p m ih =>
    obtain ⟨k, u⟩ := p
    have hp := List.pairwise_cons.1 hs
    simp only [kset]
    split
    · refine List.pairwise_cons.2 ⟨?_, hs⟩
      intro q hq
      rcases List.mem_cons.1 hq with rfl | hq
      · assumption
      · exact Nat.lt_trans ‹i < k› (hp.1 q hq)
    · split
      · subst ‹i = k›; exact List.pairwise_cons.2 ⟨hp.1, hp.2⟩
      · refine List.pairwise_cons.2 ⟨?_, ih hp.2⟩
        intro q hq
        rcases mem_kset hq with rfl | hq
        · show k < i; omega
        · exact hp.1 q hq

theorem ksorted_kdel {m : KMap α} (hs : ksorted m = true) (i : Nat) : ksorted (kdel m i) = true := by
  rw [ksorted_iff] at hs ⊢
  exact hs.filter _

theorem ksorted_kmap {m : KMap α} (hs : ksorted m = true) (f : Nat → α → α) : ksorted (kmap m f) = true := by
  rw [ksorted_iff] at hs ⊢
  simpa [kmap, List.pairwise_map] using hs

end Sys2Proof
end

