-- ==== Sys2Proof/Laws/State.lean ====
section
/-!
SUPPORT. What each update of the state leaves as it was, field by field, and what a read after it gives.
-/

namespace Sys2Proof.Machine

variable (s : State)

/-! ### `setSlot` -/

@[simp] theorem State.setSlot_o (i : Nat) (x : Slot) : (s.setSlot i x).o = s.o := rfl
@[simp] theorem State.setSlot_t (i : Nat) (x : Slot) : (s.setSlot i x).t = s.t := rfl
@[simp] theorem State.setSlot_idn (i : Nat) (x : Slot) : (s.setSlot i x).idn = s.idn := rfl
@[simp] theorem State.setSlot_cores (i : Nat) (x : Slot) : (s.setSlot i x).cores = s.cores := rfl
@[simp] theorem State.setSlot_mem (i : Nat) (x : Slot) : (s.setSlot i x).mem = s.mem := rfl
@[simp] theorem State.setSlot_ueMem (i : Nat) (x : Slot) : (s.setSlot i x).ueMem = s.ueMem := rfl
@[simp] theorem State.setSlot_msgs (i : Nat) (x : Slot) : (s.setSlot i x).msgs = s.msgs := rfl
@[simp] theorem State.setSlot_deps (i : Nat) (x : Slot) : (s.setSlot i x).deps = s.deps := rfl
@[simp] theorem State.setSlot_pg (i : Nat) (x : Slot) : (s.setSlot i x).pg = s.pg := rfl
@[simp] theorem State.setSlot_vs (i : Nat) (x : Slot) : (s.setSlot i x).vs = s.vs := rfl
@[simp] theorem State.setSlot_pl (i : Nat) (x : Slot) : (s.setSlot i x).pl = s.pl := rfl
@[simp] theorem State.setSlot_en (i : Nat) (x : Slot) : (s.setSlot i x).en = s.en := rfl
@[simp] theorem State.setSlot_kn (i : Nat) (x : Slot) : (s.setSlot i x).kn = s.kn := rfl
@[simp] theorem State.setSlot_gr (i : Nat) (x : Slot) : (s.setSlot i x).gr = s.gr := rfl
@[simp] theorem State.setSlot_br (i : Nat) (x : Slot) : (s.setSlot i x).br = s.br := rfl
@[simp] theorem State.setSlot_cx (i : Nat) (x : Slot) : (s.setSlot i x).cx = s.cx := rfl
@[simp] theorem State.setSlot_lk (i : Nat) (x : Slot) : (s.setSlot i x).lk = s.lk := rfl
@[simp] theorem State.setSlot_zn (i : Nat) (x : Slot) : (s.setSlot i x).zn = s.zn := rfl
@[simp] theorem State.setSlot_hl (i : Nat) (x : Slot) : (s.setSlot i x).hl = s.hl := rfl
@[simp] theorem State.setSlot_bt (i : Nat) (x : Slot) : (s.setSlot i x).bt = s.bt := rfl

/-! ### `modSlot` -/

@[simp] theorem State.modSlot_o (i : Nat) (f : Slot → Slot) : (s.modSlot i f).o = s.o := rfl
@[simp] theorem State.modSlot_t (i : Nat) (f : Slot → Slot) : (s.modSlot i f).t = s.t := rfl
@[simp] theorem State.modSlot_idn (i : Nat) (f : Slot → Slot) : (s.modSlot i f).idn = s.idn := rfl
@[simp] theorem State.modSlot_cores (i : Nat) (f : Slot → Slot) : (s.modSlot i f).cores = s.cores := rfl
@[simp] theorem State.modSlot_mem (i : Nat) (f : Slot → Slot) : (s.modSlot i f).mem = s.mem := rfl
@[simp] theorem State.modSlot_ueMem (i : Nat) (f : Slot → Slot) : (s.modSlot i f).ueMem = s.ueMem := rfl
@[simp] theorem State.modSlot_msgs (i : Nat) (f : Slot → Slot) : (s.modSlot i f).msgs = s.msgs := rfl
@[simp] theorem State.modSlot_deps (i : Nat) (f : Slot → Slot) : (s.modSlot i f).deps = s.deps := rfl
@[simp] theorem State.modSlot_pg (i : Nat) (f : Slot → Slot) : (s.modSlot i f).pg = s.pg := rfl
@[simp] theorem State.modSlot_vs (i : Nat) (f : Slot → Slot) : (s.modSlot i f).vs = s.vs := rfl
@[simp] theorem State.modSlot_pl (i : Nat) (f : Slot → Slot) : (s.modSlot i f).pl = s.pl := rfl
@[simp] theorem State.modSlot_en (i : Nat) (f : Slot → Slot) : (s.modSlot i f).en = s.en := rfl
@[simp] theorem State.modSlot_kn (i : Nat) (f : Slot → Slot) : (s.modSlot i f).kn = s.kn := rfl
@[simp] theorem State.modSlot_gr (i : Nat) (f : Slot → Slot) : (s.modSlot i f).gr = s.gr := rfl
@[simp] theorem State.modSlot_br (i : Nat) (f : Slot → Slot) : (s.modSlot i f).br = s.br := rfl
@[simp] theorem State.modSlot_cx (i : Nat) (f : Slot → Slot) : (s.modSlot i f).cx = s.cx := rfl
@[simp] theorem State.modSlot_lk (i : Nat) (f : Slot → Slot) : (s.modSlot i f).lk = s.lk := rfl
@[simp] theorem State.modSlot_zn (i : Nat) (f : Slot → Slot) : (s.modSlot i f).zn = s.zn := rfl
@[simp] theorem State.modSlot_hl (i : Nat) (f : Slot → Slot) : (s.modSlot i f).hl = s.hl := rfl
@[simp] theorem State.modSlot_bt (i : Nat) (f : Slot → Slot) : (s.modSlot i f).bt = s.bt := rfl

/-! ### `setCore` -/

@[simp] theorem State.setCore_o (c : Nat) (k : CoreSt) : (s.setCore c k).o = s.o := rfl
@[simp] theorem State.setCore_t (c : Nat) (k : CoreSt) : (s.setCore c k).t = s.t := rfl
@[simp] theorem State.setCore_idn (c : Nat) (k : CoreSt) : (s.setCore c k).idn = s.idn := rfl
@[simp] theorem State.setCore_slots (c : Nat) (k : CoreSt) : (s.setCore c k).slots = s.slots := rfl
@[simp] theorem State.setCore_mem (c : Nat) (k : CoreSt) : (s.setCore c k).mem = s.mem := rfl
@[simp] theorem State.setCore_ueMem (c : Nat) (k : CoreSt) : (s.setCore c k).ueMem = s.ueMem := rfl
@[simp] theorem State.setCore_msgs (c : Nat) (k : CoreSt) : (s.setCore c k).msgs = s.msgs := rfl
@[simp] theorem State.setCore_deps (c : Nat) (k : CoreSt) : (s.setCore c k).deps = s.deps := rfl
@[simp] theorem State.setCore_pg (c : Nat) (k : CoreSt) : (s.setCore c k).pg = s.pg := rfl
@[simp] theorem State.setCore_vs (c : Nat) (k : CoreSt) : (s.setCore c k).vs = s.vs := rfl
@[simp] theorem State.setCore_pl (c : Nat) (k : CoreSt) : (s.setCore c k).pl = s.pl := rfl
@[simp] theorem State.setCore_en (c : Nat) (k : CoreSt) : (s.setCore c k).en = s.en := rfl
@[simp] theorem State.setCore_kn (c : Nat) (k : CoreSt) : (s.setCore c k).kn = s.kn := rfl
@[simp] theorem State.setCore_gr (c : Nat) (k : CoreSt) : (s.setCore c k).gr = s.gr := rfl
@[simp] theorem State.setCore_br (c : Nat) (k : CoreSt) : (s.setCore c k).br = s.br := rfl
@[simp] theorem State.setCore_cx (c : Nat) (k : CoreSt) : (s.setCore c k).cx = s.cx := rfl
@[simp] theorem State.setCore_lk (c : Nat) (k : CoreSt) : (s.setCore c k).lk = s.lk := rfl
@[simp] theorem State.setCore_zn (c : Nat) (k : CoreSt) : (s.setCore c k).zn = s.zn := rfl
@[simp] theorem State.setCore_hl (c : Nat) (k : CoreSt) : (s.setCore c k).hl = s.hl := rfl
@[simp] theorem State.setCore_bt (c : Nat) (k : CoreSt) : (s.setCore c k).bt = s.bt := rfl

/-! ### `modCore` -/

@[simp] theorem State.modCore_o (c : Nat) (f : CoreSt → CoreSt) : (s.modCore c f).o = s.o := rfl
@[simp] theorem State.modCore_t (c : Nat) (f : CoreSt → CoreSt) : (s.modCore c f).t = s.t := rfl
@[simp] theorem State.modCore_idn (c : Nat) (f : CoreSt → CoreSt) : (s.modCore c f).idn = s.idn := rfl
@[simp] theorem State.modCore_slots (c : Nat) (f : CoreSt → CoreSt) : (s.modCore c f).slots = s.slots := rfl
@[simp] theorem State.modCore_mem (c : Nat) (f : CoreSt → CoreSt) : (s.modCore c f).mem = s.mem := rfl
@[simp] theorem State.modCore_ueMem (c : Nat) (f : CoreSt → CoreSt) : (s.modCore c f).ueMem = s.ueMem := rfl
@[simp] theorem State.modCore_msgs (c : Nat) (f : CoreSt → CoreSt) : (s.modCore c f).msgs = s.msgs := rfl
@[simp] theorem State.modCore_deps (c : Nat) (f : CoreSt → CoreSt) : (s.modCore c f).deps = s.deps := rfl
@[simp] theorem State.modCore_pg (c : Nat) (f : CoreSt → CoreSt) : (s.modCore c f).pg = s.pg := rfl
@[simp] theorem State.modCore_vs (c : Nat) (f : CoreSt → CoreSt) : (s.modCore c f).vs = s.vs := rfl
@[simp] theorem State.modCore_pl (c : Nat) (f : CoreSt → CoreSt) : (s.modCore c f).pl = s.pl := rfl
@[simp] theorem State.modCore_en (c : Nat) (f : CoreSt → CoreSt) : (s.modCore c f).en = s.en := rfl
@[simp] theorem State.modCore_kn (c : Nat) (f : CoreSt → CoreSt) : (s.modCore c f).kn = s.kn := rfl
@[simp] theorem State.modCore_gr (c : Nat) (f : CoreSt → CoreSt) : (s.modCore c f).gr = s.gr := rfl
@[simp] theorem State.modCore_br (c : Nat) (f : CoreSt → CoreSt) : (s.modCore c f).br = s.br := rfl
@[simp] theorem State.modCore_cx (c : Nat) (f : CoreSt → CoreSt) : (s.modCore c f).cx = s.cx := rfl
@[simp] theorem State.modCore_lk (c : Nat) (f : CoreSt → CoreSt) : (s.modCore c f).lk = s.lk := rfl
@[simp] theorem State.modCore_zn (c : Nat) (f : CoreSt → CoreSt) : (s.modCore c f).zn = s.zn := rfl
@[simp] theorem State.modCore_hl (c : Nat) (f : CoreSt → CoreSt) : (s.modCore c f).hl = s.hl := rfl
@[simp] theorem State.modCore_bt (c : Nat) (f : CoreSt → CoreSt) : (s.modCore c f).bt = s.bt := rfl

/-! ### `locWrite` -/

@[simp] theorem State.locWrite_o (c a : Nat) (bs : List Byte) : (s.locWrite c a bs).o = s.o := rfl
@[simp] theorem State.locWrite_t (c a : Nat) (bs : List Byte) : (s.locWrite c a bs).t = s.t := rfl
@[simp] theorem State.locWrite_idn (c a : Nat) (bs : List Byte) : (s.locWrite c a bs).idn = s.idn := rfl
@[simp] theorem State.locWrite_slots (c a : Nat) (bs : List Byte) : (s.locWrite c a bs).slots = s.slots := rfl
@[simp] theorem State.locWrite_mem (c a : Nat) (bs : List Byte) : (s.locWrite c a bs).mem = s.mem := rfl
@[simp] theorem State.locWrite_ueMem (c a : Nat) (bs : List Byte) : (s.locWrite c a bs).ueMem = s.ueMem := rfl
@[simp] theorem State.locWrite_msgs (c a : Nat) (bs : List Byte) : (s.locWrite c a bs).msgs = s.msgs := rfl
@[simp] theorem State.locWrite_deps (c a : Nat) (bs : List Byte) : (s.locWrite c a bs).deps = s.deps := rfl
@[simp] theorem State.locWrite_pg (c a : Nat) (bs : List Byte) : (s.locWrite c a bs).pg = s.pg := rfl
@[simp] theorem State.locWrite_vs (c a : Nat) (bs : List Byte) : (s.locWrite c a bs).vs = s.vs := rfl
@[simp] theorem State.locWrite_pl (c a : Nat) (bs : List Byte) : (s.locWrite c a bs).pl = s.pl := rfl
@[simp] theorem State.locWrite_en (c a : Nat) (bs : List Byte) : (s.locWrite c a bs).en = s.en := rfl
@[simp] theorem State.locWrite_kn (c a : Nat) (bs : List Byte) : (s.locWrite c a bs).kn = s.kn := rfl
@[simp] theorem State.locWrite_gr (c a : Nat) (bs : List Byte) : (s.locWrite c a bs).gr = s.gr := rfl
@[simp] theorem State.locWrite_br (c a : Nat) (bs : List Byte) : (s.locWrite c a bs).br = s.br := rfl
@[simp] theorem State.locWrite_cx (c a : Nat) (bs : List Byte) : (s.locWrite c a bs).cx = s.cx := rfl
@[simp] theorem State.locWrite_lk (c a : Nat) (bs : List Byte) : (s.locWrite c a bs).lk = s.lk := rfl
@[simp] theorem State.locWrite_zn (c a : Nat) (bs : List Byte) : (s.locWrite c a bs).zn = s.zn := rfl
@[simp] theorem State.locWrite_hl (c a : Nat) (bs : List Byte) : (s.locWrite c a bs).hl = s.hl := rfl
@[simp] theorem State.locWrite_bt (c a : Nat) (bs : List Byte) : (s.locWrite c a bs).bt = s.bt := rfl

/-! ### `memWrite` -/

@[simp] theorem State.memWrite_o (a : Nat) (bs : List Byte) : (s.memWrite a bs).o = s.o := rfl
@[simp] theorem State.memWrite_t (a : Nat) (bs : List Byte) : (s.memWrite a bs).t = s.t := rfl
@[simp] theorem State.memWrite_idn (a : Nat) (bs : List Byte) : (s.memWrite a bs).idn = s.idn := rfl
@[simp] theorem State.memWrite_slots (a : Nat) (bs : List Byte) : (s.memWrite a bs).slots = s.slots := rfl
@[simp] theorem State.memWrite_cores (a : Nat) (bs : List Byte) : (s.memWrite a bs).cores = s.cores := rfl
@[simp] theorem State.memWrite_msgs (a : Nat) (bs : List Byte) : (s.memWrite a bs).msgs = s.msgs := rfl
@[simp] theorem State.memWrite_deps (a : Nat) (bs : List Byte) : (s.memWrite a bs).deps = s.deps := rfl
@[simp] theorem State.memWrite_pg (a : Nat) (bs : List Byte) : (s.memWrite a bs).pg = s.pg := rfl
@[simp] theorem State.memWrite_vs (a : Nat) (bs : List Byte) : (s.memWrite a bs).vs = s.vs := rfl
@[simp] theorem State.memWrite_pl (a : Nat) (bs : List Byte) : (s.memWrite a bs).pl = s.pl := rfl
@[simp] theorem State.memWrite_en (a : Nat) (bs : List Byte) : (s.memWrite a bs).en = s.en := rfl
@[simp] theorem State.memWrite_kn (a : Nat) (bs : List Byte) : (s.memWrite a bs).kn = s.kn := rfl
@[simp] theorem State.memWrite_gr (a : Nat) (bs : List Byte) : (s.memWrite a bs).gr = s.gr := rfl
@[simp] theorem State.memWrite_br (a : Nat) (bs : List Byte) : (s.memWrite a bs).br = s.br := rfl
@[simp] theorem State.memWrite_cx (a : Nat) (bs : List Byte) : (s.memWrite a bs).cx = s.cx := rfl
@[simp] theorem State.memWrite_lk (a : Nat) (bs : List Byte) : (s.memWrite a bs).lk = s.lk := rfl
@[simp] theorem State.memWrite_zn (a : Nat) (bs : List Byte) : (s.memWrite a bs).zn = s.zn := rfl
@[simp] theorem State.memWrite_hl (a : Nat) (bs : List Byte) : (s.memWrite a bs).hl = s.hl := rfl
@[simp] theorem State.memWrite_bt (a : Nat) (bs : List Byte) : (s.memWrite a bs).bt = s.bt := rfl

/-! ### `post` -/

@[simp] theorem State.post_o (r : Nat) (m : Msg) : (s.post r m).o = s.o := rfl
@[simp] theorem State.post_t (r : Nat) (m : Msg) : (s.post r m).t = s.t := rfl
@[simp] theorem State.post_idn (r : Nat) (m : Msg) : (s.post r m).idn = s.idn := rfl
@[simp] theorem State.post_slots (r : Nat) (m : Msg) : (s.post r m).slots = s.slots := rfl
@[simp] theorem State.post_cores (r : Nat) (m : Msg) : (s.post r m).cores = s.cores := rfl
@[simp] theorem State.post_mem (r : Nat) (m : Msg) : (s.post r m).mem = s.mem := rfl
@[simp] theorem State.post_ueMem (r : Nat) (m : Msg) : (s.post r m).ueMem = s.ueMem := rfl
@[simp] theorem State.post_deps (r : Nat) (m : Msg) : (s.post r m).deps = s.deps := rfl
@[simp] theorem State.post_pg (r : Nat) (m : Msg) : (s.post r m).pg = s.pg := rfl
@[simp] theorem State.post_vs (r : Nat) (m : Msg) : (s.post r m).vs = s.vs := rfl
@[simp] theorem State.post_pl (r : Nat) (m : Msg) : (s.post r m).pl = s.pl := rfl
@[simp] theorem State.post_en (r : Nat) (m : Msg) : (s.post r m).en = s.en := rfl
@[simp] theorem State.post_kn (r : Nat) (m : Msg) : (s.post r m).kn = s.kn := rfl
@[simp] theorem State.post_gr (r : Nat) (m : Msg) : (s.post r m).gr = s.gr := rfl
@[simp] theorem State.post_br (r : Nat) (m : Msg) : (s.post r m).br = s.br := rfl
@[simp] theorem State.post_cx (r : Nat) (m : Msg) : (s.post r m).cx = s.cx := rfl
@[simp] theorem State.post_lk (r : Nat) (m : Msg) : (s.post r m).lk = s.lk := rfl
@[simp] theorem State.post_zn (r : Nat) (m : Msg) : (s.post r m).zn = s.zn := rfl
@[simp] theorem State.post_hl (r : Nat) (m : Msg) : (s.post r m).hl = s.hl := rfl
@[simp] theorem State.post_bt (r : Nat) (m : Msg) : (s.post r m).bt = s.bt := rfl

/-! ### `unpost` -/

@[simp] theorem State.unpost_o (r : Nat) : (s.unpost r).o = s.o := rfl
@[simp] theorem State.unpost_t (r : Nat) : (s.unpost r).t = s.t := rfl
@[simp] theorem State.unpost_idn (r : Nat) : (s.unpost r).idn = s.idn := rfl
@[simp] theorem State.unpost_slots (r : Nat) : (s.unpost r).slots = s.slots := rfl
@[simp] theorem State.unpost_cores (r : Nat) : (s.unpost r).cores = s.cores := rfl
@[simp] theorem State.unpost_mem (r : Nat) : (s.unpost r).mem = s.mem := rfl
@[simp] theorem State.unpost_ueMem (r : Nat) : (s.unpost r).ueMem = s.ueMem := rfl
@[simp] theorem State.unpost_deps (r : Nat) : (s.unpost r).deps = s.deps := rfl
@[simp] theorem State.unpost_pg (r : Nat) : (s.unpost r).pg = s.pg := rfl
@[simp] theorem State.unpost_vs (r : Nat) : (s.unpost r).vs = s.vs := rfl
@[simp] theorem State.unpost_pl (r : Nat) : (s.unpost r).pl = s.pl := rfl
@[simp] theorem State.unpost_en (r : Nat) : (s.unpost r).en = s.en := rfl
@[simp] theorem State.unpost_kn (r : Nat) : (s.unpost r).kn = s.kn := rfl
@[simp] theorem State.unpost_gr (r : Nat) : (s.unpost r).gr = s.gr := rfl
@[simp] theorem State.unpost_br (r : Nat) : (s.unpost r).br = s.br := rfl
@[simp] theorem State.unpost_cx (r : Nat) : (s.unpost r).cx = s.cx := rfl
@[simp] theorem State.unpost_lk (r : Nat) : (s.unpost r).lk = s.lk := rfl
@[simp] theorem State.unpost_zn (r : Nat) : (s.unpost r).zn = s.zn := rfl
@[simp] theorem State.unpost_hl (r : Nat) : (s.unpost r).hl = s.hl := rfl
@[simp] theorem State.unpost_bt (r : Nat) : (s.unpost r).bt = s.bt := rfl

/-! ### `modDep` -/

@[simp] theorem State.modDep_o (r : Nat) (f : Dep → Dep) : (s.modDep r f).o = s.o := rfl
@[simp] theorem State.modDep_t (r : Nat) (f : Dep → Dep) : (s.modDep r f).t = s.t := rfl
@[simp] theorem State.modDep_idn (r : Nat) (f : Dep → Dep) : (s.modDep r f).idn = s.idn := rfl
@[simp] theorem State.modDep_slots (r : Nat) (f : Dep → Dep) : (s.modDep r f).slots = s.slots := rfl
@[simp] theorem State.modDep_cores (r : Nat) (f : Dep → Dep) : (s.modDep r f).cores = s.cores := rfl
@[simp] theorem State.modDep_mem (r : Nat) (f : Dep → Dep) : (s.modDep r f).mem = s.mem := rfl
@[simp] theorem State.modDep_ueMem (r : Nat) (f : Dep → Dep) : (s.modDep r f).ueMem = s.ueMem := rfl
@[simp] theorem State.modDep_msgs (r : Nat) (f : Dep → Dep) : (s.modDep r f).msgs = s.msgs := rfl
@[simp] theorem State.modDep_pg (r : Nat) (f : Dep → Dep) : (s.modDep r f).pg = s.pg := rfl
@[simp] theorem State.modDep_vs (r : Nat) (f : Dep → Dep) : (s.modDep r f).vs = s.vs := rfl
@[simp] theorem State.modDep_pl (r : Nat) (f : Dep → Dep) : (s.modDep r f).pl = s.pl := rfl
@[simp] theorem State.modDep_en (r : Nat) (f : Dep → Dep) : (s.modDep r f).en = s.en := rfl
@[simp] theorem State.modDep_kn (r : Nat) (f : Dep → Dep) : (s.modDep r f).kn = s.kn := rfl
@[simp] theorem State.modDep_gr (r : Nat) (f : Dep → Dep) : (s.modDep r f).gr = s.gr := rfl
@[simp] theorem State.modDep_br (r : Nat) (f : Dep → Dep) : (s.modDep r f).br = s.br := rfl
@[simp] theorem State.modDep_cx (r : Nat) (f : Dep → Dep) : (s.modDep r f).cx = s.cx := rfl
@[simp] theorem State.modDep_lk (r : Nat) (f : Dep → Dep) : (s.modDep r f).lk = s.lk := rfl
@[simp] theorem State.modDep_zn (r : Nat) (f : Dep → Dep) : (s.modDep r f).zn = s.zn := rfl
@[simp] theorem State.modDep_hl (r : Nat) (f : Dep → Dep) : (s.modDep r f).hl = s.hl := rfl
@[simp] theorem State.modDep_bt (r : Nat) (f : Dep → Dep) : (s.modDep r f).bt = s.bt := rfl

/-! ### `modCtx` -/

@[simp] theorem State.modCtx_o (c : Nat) (f : Context → Context) : (s.modCtx c f).o = s.o := rfl
@[simp] theorem State.modCtx_t (c : Nat) (f : Context → Context) : (s.modCtx c f).t = s.t := rfl
@[simp] theorem State.modCtx_idn (c : Nat) (f : Context → Context) : (s.modCtx c f).idn = s.idn := rfl
@[simp] theorem State.modCtx_slots (c : Nat) (f : Context → Context) : (s.modCtx c f).slots = s.slots := rfl
@[simp] theorem State.modCtx_cores (c : Nat) (f : Context → Context) : (s.modCtx c f).cores = s.cores := rfl
@[simp] theorem State.modCtx_mem (c : Nat) (f : Context → Context) : (s.modCtx c f).mem = s.mem := rfl
@[simp] theorem State.modCtx_ueMem (c : Nat) (f : Context → Context) : (s.modCtx c f).ueMem = s.ueMem := rfl
@[simp] theorem State.modCtx_msgs (c : Nat) (f : Context → Context) : (s.modCtx c f).msgs = s.msgs := rfl
@[simp] theorem State.modCtx_deps (c : Nat) (f : Context → Context) : (s.modCtx c f).deps = s.deps := rfl
@[simp] theorem State.modCtx_pg (c : Nat) (f : Context → Context) : (s.modCtx c f).pg = s.pg := rfl
@[simp] theorem State.modCtx_vs (c : Nat) (f : Context → Context) : (s.modCtx c f).vs = s.vs := rfl
@[simp] theorem State.modCtx_pl (c : Nat) (f : Context → Context) : (s.modCtx c f).pl = s.pl := rfl
@[simp] theorem State.modCtx_en (c : Nat) (f : Context → Context) : (s.modCtx c f).en = s.en := rfl
@[simp] theorem State.modCtx_kn (c : Nat) (f : Context → Context) : (s.modCtx c f).kn = s.kn := rfl
@[simp] theorem State.modCtx_gr (c : Nat) (f : Context → Context) : (s.modCtx c f).gr = s.gr := rfl
@[simp] theorem State.modCtx_br (c : Nat) (f : Context → Context) : (s.modCtx c f).br = s.br := rfl
@[simp] theorem State.modCtx_lk (c : Nat) (f : Context → Context) : (s.modCtx c f).lk = s.lk := rfl
@[simp] theorem State.modCtx_zn (c : Nat) (f : Context → Context) : (s.modCtx c f).zn = s.zn := rfl
@[simp] theorem State.modCtx_hl (c : Nat) (f : Context → Context) : (s.modCtx c f).hl = s.hl := rfl
@[simp] theorem State.modCtx_bt (c : Nat) (f : Context → Context) : (s.modCtx c f).bt = s.bt := rfl

/-! ### `modZone` -/

@[simp] theorem State.modZone_o (z : Nat) (f : Zone → Zone) : (s.modZone z f).o = s.o := rfl
@[simp] theorem State.modZone_t (z : Nat) (f : Zone → Zone) : (s.modZone z f).t = s.t := rfl
@[simp] theorem State.modZone_idn (z : Nat) (f : Zone → Zone) : (s.modZone z f).idn = s.idn := rfl
@[simp] theorem State.modZone_slots (z : Nat) (f : Zone → Zone) : (s.modZone z f).slots = s.slots := rfl
@[simp] theorem State.modZone_cores (z : Nat) (f : Zone → Zone) : (s.modZone z f).cores = s.cores := rfl
@[simp] theorem State.modZone_mem (z : Nat) (f : Zone → Zone) : (s.modZone z f).mem = s.mem := rfl
@[simp] theorem State.modZone_ueMem (z : Nat) (f : Zone → Zone) : (s.modZone z f).ueMem = s.ueMem := rfl
@[simp] theorem State.modZone_msgs (z : Nat) (f : Zone → Zone) : (s.modZone z f).msgs = s.msgs := rfl
@[simp] theorem State.modZone_deps (z : Nat) (f : Zone → Zone) : (s.modZone z f).deps = s.deps := rfl
@[simp] theorem State.modZone_pg (z : Nat) (f : Zone → Zone) : (s.modZone z f).pg = s.pg := rfl
@[simp] theorem State.modZone_vs (z : Nat) (f : Zone → Zone) : (s.modZone z f).vs = s.vs := rfl
@[simp] theorem State.modZone_pl (z : Nat) (f : Zone → Zone) : (s.modZone z f).pl = s.pl := rfl
@[simp] theorem State.modZone_en (z : Nat) (f : Zone → Zone) : (s.modZone z f).en = s.en := rfl
@[simp] theorem State.modZone_kn (z : Nat) (f : Zone → Zone) : (s.modZone z f).kn = s.kn := rfl
@[simp] theorem State.modZone_gr (z : Nat) (f : Zone → Zone) : (s.modZone z f).gr = s.gr := rfl
@[simp] theorem State.modZone_br (z : Nat) (f : Zone → Zone) : (s.modZone z f).br = s.br := rfl
@[simp] theorem State.modZone_cx (z : Nat) (f : Zone → Zone) : (s.modZone z f).cx = s.cx := rfl
@[simp] theorem State.modZone_lk (z : Nat) (f : Zone → Zone) : (s.modZone z f).lk = s.lk := rfl
@[simp] theorem State.modZone_hl (z : Nat) (f : Zone → Zone) : (s.modZone z f).hl = s.hl := rfl
@[simp] theorem State.modZone_bt (z : Nat) (f : Zone → Zone) : (s.modZone z f).bt = s.bt := rfl

/-! ### `modLink` -/

@[simp] theorem State.modLink_o (m : Nat) (f : Link → Link) : (s.modLink m f).o = s.o := rfl
@[simp] theorem State.modLink_t (m : Nat) (f : Link → Link) : (s.modLink m f).t = s.t := rfl
@[simp] theorem State.modLink_idn (m : Nat) (f : Link → Link) : (s.modLink m f).idn = s.idn := rfl
@[simp] theorem State.modLink_slots (m : Nat) (f : Link → Link) : (s.modLink m f).slots = s.slots := rfl
@[simp] theorem State.modLink_cores (m : Nat) (f : Link → Link) : (s.modLink m f).cores = s.cores := rfl
@[simp] theorem State.modLink_mem (m : Nat) (f : Link → Link) : (s.modLink m f).mem = s.mem := rfl
@[simp] theorem State.modLink_ueMem (m : Nat) (f : Link → Link) : (s.modLink m f).ueMem = s.ueMem := rfl
@[simp] theorem State.modLink_msgs (m : Nat) (f : Link → Link) : (s.modLink m f).msgs = s.msgs := rfl
@[simp] theorem State.modLink_deps (m : Nat) (f : Link → Link) : (s.modLink m f).deps = s.deps := rfl
@[simp] theorem State.modLink_pg (m : Nat) (f : Link → Link) : (s.modLink m f).pg = s.pg := rfl
@[simp] theorem State.modLink_vs (m : Nat) (f : Link → Link) : (s.modLink m f).vs = s.vs := rfl
@[simp] theorem State.modLink_pl (m : Nat) (f : Link → Link) : (s.modLink m f).pl = s.pl := rfl
@[simp] theorem State.modLink_en (m : Nat) (f : Link → Link) : (s.modLink m f).en = s.en := rfl
@[simp] theorem State.modLink_kn (m : Nat) (f : Link → Link) : (s.modLink m f).kn = s.kn := rfl
@[simp] theorem State.modLink_gr (m : Nat) (f : Link → Link) : (s.modLink m f).gr = s.gr := rfl
@[simp] theorem State.modLink_br (m : Nat) (f : Link → Link) : (s.modLink m f).br = s.br := rfl
@[simp] theorem State.modLink_cx (m : Nat) (f : Link → Link) : (s.modLink m f).cx = s.cx := rfl
@[simp] theorem State.modLink_zn (m : Nat) (f : Link → Link) : (s.modLink m f).zn = s.zn := rfl
@[simp] theorem State.modLink_hl (m : Nat) (f : Link → Link) : (s.modLink m f).hl = s.hl := rfl
@[simp] theorem State.modLink_bt (m : Nat) (f : Link → Link) : (s.modLink m f).bt = s.bt := rfl

/-! ### `modImage` -/

@[simp] theorem State.modImage_o (i : Nat) (f : Saved → Saved) : (s.modImage i f).o = s.o := rfl
@[simp] theorem State.modImage_t (i : Nat) (f : Saved → Saved) : (s.modImage i f).t = s.t := rfl
@[simp] theorem State.modImage_idn (i : Nat) (f : Saved → Saved) : (s.modImage i f).idn = s.idn := rfl
@[simp] theorem State.modImage_slots (i : Nat) (f : Saved → Saved) : (s.modImage i f).slots = s.slots := rfl
@[simp] theorem State.modImage_cores (i : Nat) (f : Saved → Saved) : (s.modImage i f).cores = s.cores := rfl
@[simp] theorem State.modImage_mem (i : Nat) (f : Saved → Saved) : (s.modImage i f).mem = s.mem := rfl
@[simp] theorem State.modImage_ueMem (i : Nat) (f : Saved → Saved) : (s.modImage i f).ueMem = s.ueMem := rfl
@[simp] theorem State.modImage_msgs (i : Nat) (f : Saved → Saved) : (s.modImage i f).msgs = s.msgs := rfl
@[simp] theorem State.modImage_deps (i : Nat) (f : Saved → Saved) : (s.modImage i f).deps = s.deps := rfl
@[simp] theorem State.modImage_pg (i : Nat) (f : Saved → Saved) : (s.modImage i f).pg = s.pg := rfl
@[simp] theorem State.modImage_vs (i : Nat) (f : Saved → Saved) : (s.modImage i f).vs = s.vs := rfl
@[simp] theorem State.modImage_pl (i : Nat) (f : Saved → Saved) : (s.modImage i f).pl = s.pl := rfl
@[simp] theorem State.modImage_en (i : Nat) (f : Saved → Saved) : (s.modImage i f).en = s.en := rfl
@[simp] theorem State.modImage_kn (i : Nat) (f : Saved → Saved) : (s.modImage i f).kn = s.kn := rfl
@[simp] theorem State.modImage_gr (i : Nat) (f : Saved → Saved) : (s.modImage i f).gr = s.gr := rfl
@[simp] theorem State.modImage_br (i : Nat) (f : Saved → Saved) : (s.modImage i f).br = s.br := rfl
@[simp] theorem State.modImage_lk (i : Nat) (f : Saved → Saved) : (s.modImage i f).lk = s.lk := rfl
@[simp] theorem State.modImage_zn (i : Nat) (f : Saved → Saved) : (s.modImage i f).zn = s.zn := rfl
@[simp] theorem State.modImage_hl (i : Nat) (f : Saved → Saved) : (s.modImage i f).hl = s.hl := rfl
@[simp] theorem State.modImage_bt (i : Nat) (f : Saved → Saved) : (s.modImage i f).bt = s.bt := rfl

/-! ### `irq` -/

@[simp] theorem State.irq_t (v : Nat) : (s.irq v).t = s.t := rfl
@[simp] theorem State.irq_idn (v : Nat) : (s.irq v).idn = s.idn := rfl
@[simp] theorem State.irq_slots (v : Nat) : (s.irq v).slots = s.slots := rfl
@[simp] theorem State.irq_cores (v : Nat) : (s.irq v).cores = s.cores := rfl
@[simp] theorem State.irq_mem (v : Nat) : (s.irq v).mem = s.mem := rfl
@[simp] theorem State.irq_ueMem (v : Nat) : (s.irq v).ueMem = s.ueMem := rfl
@[simp] theorem State.irq_msgs (v : Nat) : (s.irq v).msgs = s.msgs := rfl
@[simp] theorem State.irq_deps (v : Nat) : (s.irq v).deps = s.deps := rfl
@[simp] theorem State.irq_pg (v : Nat) : (s.irq v).pg = s.pg := rfl
@[simp] theorem State.irq_vs (v : Nat) : (s.irq v).vs = s.vs := rfl
@[simp] theorem State.irq_pl (v : Nat) : (s.irq v).pl = s.pl := rfl
@[simp] theorem State.irq_en (v : Nat) : (s.irq v).en = s.en := rfl
@[simp] theorem State.irq_kn (v : Nat) : (s.irq v).kn = s.kn := rfl
@[simp] theorem State.irq_gr (v : Nat) : (s.irq v).gr = s.gr := rfl
@[simp] theorem State.irq_br (v : Nat) : (s.irq v).br = s.br := rfl
@[simp] theorem State.irq_cx (v : Nat) : (s.irq v).cx = s.cx := rfl
@[simp] theorem State.irq_lk (v : Nat) : (s.irq v).lk = s.lk := rfl
@[simp] theorem State.irq_zn (v : Nat) : (s.irq v).zn = s.zn := rfl
@[simp] theorem State.irq_hl (v : Nat) : (s.irq v).hl = s.hl := rfl
@[simp] theorem State.irq_bt (v : Nat) : (s.irq v).bt = s.bt := rfl

/-! ### `lived` -/

@[simp] theorem State.lived_o (i n : Nat) : (s.lived i n).o = s.o := rfl
@[simp] theorem State.lived_t (i n : Nat) : (s.lived i n).t = s.t := rfl
@[simp] theorem State.lived_idn (i n : Nat) : (s.lived i n).idn = s.idn := rfl
@[simp] theorem State.lived_slots (i n : Nat) : (s.lived i n).slots = s.slots := rfl
@[simp] theorem State.lived_cores (i n : Nat) : (s.lived i n).cores = s.cores := rfl
@[simp] theorem State.lived_mem (i n : Nat) : (s.lived i n).mem = s.mem := rfl
@[simp] theorem State.lived_ueMem (i n : Nat) : (s.lived i n).ueMem = s.ueMem := rfl
@[simp] theorem State.lived_msgs (i n : Nat) : (s.lived i n).msgs = s.msgs := rfl
@[simp] theorem State.lived_deps (i n : Nat) : (s.lived i n).deps = s.deps := rfl
@[simp] theorem State.lived_pg (i n : Nat) : (s.lived i n).pg = s.pg := rfl
@[simp] theorem State.lived_vs (i n : Nat) : (s.lived i n).vs = s.vs := rfl
@[simp] theorem State.lived_pl (i n : Nat) : (s.lived i n).pl = s.pl := rfl
@[simp] theorem State.lived_en (i n : Nat) : (s.lived i n).en = s.en := rfl
@[simp] theorem State.lived_kn (i n : Nat) : (s.lived i n).kn = s.kn := rfl
@[simp] theorem State.lived_gr (i n : Nat) : (s.lived i n).gr = s.gr := rfl
@[simp] theorem State.lived_br (i n : Nat) : (s.lived i n).br = s.br := rfl
@[simp] theorem State.lived_cx (i n : Nat) : (s.lived i n).cx = s.cx := rfl
@[simp] theorem State.lived_lk (i n : Nat) : (s.lived i n).lk = s.lk := rfl
@[simp] theorem State.lived_zn (i n : Nat) : (s.lived i n).zn = s.zn := rfl
@[simp] theorem State.lived_bt (i n : Nat) : (s.lived i n).bt = s.bt := rfl

/-! ### `newId` -/

@[simp] theorem State.newId_t : (s.newId.2).t = s.t := rfl
@[simp] theorem State.newId_idn : (s.newId.2).idn = s.idn := rfl
@[simp] theorem State.newId_slots : (s.newId.2).slots = s.slots := rfl
@[simp] theorem State.newId_cores : (s.newId.2).cores = s.cores := rfl
@[simp] theorem State.newId_mem : (s.newId.2).mem = s.mem := rfl
@[simp] theorem State.newId_ueMem : (s.newId.2).ueMem = s.ueMem := rfl
@[simp] theorem State.newId_msgs : (s.newId.2).msgs = s.msgs := rfl
@[simp] theorem State.newId_deps : (s.newId.2).deps = s.deps := rfl
@[simp] theorem State.newId_pg : (s.newId.2).pg = s.pg := rfl
@[simp] theorem State.newId_vs : (s.newId.2).vs = s.vs := rfl
@[simp] theorem State.newId_pl : (s.newId.2).pl = s.pl := rfl
@[simp] theorem State.newId_en : (s.newId.2).en = s.en := rfl
@[simp] theorem State.newId_kn : (s.newId.2).kn = s.kn := rfl
@[simp] theorem State.newId_gr : (s.newId.2).gr = s.gr := rfl
@[simp] theorem State.newId_br : (s.newId.2).br = s.br := rfl
@[simp] theorem State.newId_cx : (s.newId.2).cx = s.cx := rfl
@[simp] theorem State.newId_lk : (s.newId.2).lk = s.lk := rfl
@[simp] theorem State.newId_zn : (s.newId.2).zn = s.zn := rfl
@[simp] theorem State.newId_hl : (s.newId.2).hl = s.hl := rfl
@[simp] theorem State.newId_bt : (s.newId.2).bt = s.bt := rfl

/-! ### `draw` -/

@[simp] theorem State.draw_t : (s.draw.2).t = s.t := rfl
@[simp] theorem State.draw_idn : (s.draw.2).idn = s.idn := rfl
@[simp] theorem State.draw_slots : (s.draw.2).slots = s.slots := rfl
@[simp] theorem State.draw_cores : (s.draw.2).cores = s.cores := rfl
@[simp] theorem State.draw_mem : (s.draw.2).mem = s.mem := rfl
@[simp] theorem State.draw_ueMem : (s.draw.2).ueMem = s.ueMem := rfl
@[simp] theorem State.draw_msgs : (s.draw.2).msgs = s.msgs := rfl
@[simp] theorem State.draw_deps : (s.draw.2).deps = s.deps := rfl
@[simp] theorem State.draw_pg : (s.draw.2).pg = s.pg := rfl
@[simp] theorem State.draw_vs : (s.draw.2).vs = s.vs := rfl
@[simp] theorem State.draw_pl : (s.draw.2).pl = s.pl := rfl
@[simp] theorem State.draw_en : (s.draw.2).en = s.en := rfl
@[simp] theorem State.draw_kn : (s.draw.2).kn = s.kn := rfl
@[simp] theorem State.draw_gr : (s.draw.2).gr = s.gr := rfl
@[simp] theorem State.draw_br : (s.draw.2).br = s.br := rfl
@[simp] theorem State.draw_cx : (s.draw.2).cx = s.cx := rfl
@[simp] theorem State.draw_lk : (s.draw.2).lk = s.lk := rfl
@[simp] theorem State.draw_zn : (s.draw.2).zn = s.zn := rfl
@[simp] theorem State.draw_hl : (s.draw.2).hl = s.hl := rfl
@[simp] theorem State.draw_bt : (s.draw.2).bt = s.bt := rfl

/-! ### What an update changes -/

@[simp] theorem State.slot_setSlot (i j : Nat) (x : Slot) : (s.setSlot i x).slot j = if j = i then some x else s.slot j := kget_kset _ _ _ _

theorem State.slot_modSlot (i j : Nat) (f : Slot → Slot) : (s.modSlot i f).slot j = if j = i then (s.slot i).map f else s.slot j := kget_kmod _ _ _ _

@[simp] theorem State.core_setCore (c d : Nat) (k : CoreSt) : (s.setCore c k).core d = if d = c then k else s.core d := by
  simp only [State.core, State.setCore, kget_kset]
  split <;> rfl

@[simp] theorem State.core_modCore (c d : Nat) (f : CoreSt → CoreSt) : (s.modCore c f).core d = if d = c then f (s.core c) else s.core d :=
  State.core_setCore s c d _

@[simp] theorem State.zone_modZone (z y : Nat) (f : Zone → Zone) : (s.modZone z f).zone y = if y = z then f (s.zone z) else s.zone y := by
  simp only [State.zone, State.modZone, kgetD, kget_kset]
  split <;> rfl

@[simp] theorem State.link_modLink (m j : Nat) (f : Link → Link) : (s.modLink m f).link j = if j = m then f (s.link m) else s.link j := by
  simp only [State.link, State.modLink, kgetD, kget_kset]
  split <;> rfl

@[simp] theorem State.ctx_modCtx (c d : Nat) (f : Context → Context) : (s.modCtx c f).ctx d = if d = c then f (s.ctx c) else s.ctx d := by
  simp only [State.ctx, State.modCtx, kgetD, kget_kset]
  split <;> rfl

@[simp] theorem State.msgs_post (r q : Nat) (m : Msg) : kget (s.post r m).msgs q = if q = r then some m else kget s.msgs q := kget_kset _ _ _ _

theorem State.msgs_unpost (r q : Nat) : kget (s.unpost r).msgs q = if q = r then none else kget s.msgs q := by
  unfold State.unpost
  split
  · subst ‹q = r›; exact kget_kdel_same _ _
  · exact kget_kdel_other _ ‹_›

@[simp] theorem State.newId_fst : s.newId.1 = s.o.nextId := rfl
@[simp] theorem State.newId_nextId : s.newId.2.o.nextId = s.o.nextId + 1 := rfl
@[simp] theorem State.newId_agenda : s.newId.2.o.agenda = s.o.agenda := rfl
@[simp] theorem State.newId_cur : s.newId.2.o.cur = s.o.cur := rfl
@[simp] theorem State.newId_fresh : s.newId.2.o.fresh = s.o.fresh := rfl
@[simp] theorem State.draw_fresh : s.draw.2.o.fresh = s.o.fresh + 1 := rfl
@[simp] theorem State.draw_nextId : s.draw.2.o.nextId = s.o.nextId := rfl
@[simp] theorem State.draw_agenda : s.draw.2.o.agenda = s.o.agenda := rfl
@[simp] theorem State.draw_cur : s.draw.2.o.cur = s.o.cur := rfl
@[simp] theorem State.irq_irqs (v : Nat) : (s.irq v).o.irqs = s.o.irqs ++ [v] := rfl

/-! ### What leaves the die, and packets that come -/

/-- A packet queues at one module and may have drawn a free choice; what is not a packet goes to the outbox. -/
theorem State.out_cases (x : OutItem) : (∃ p m n, x = .packet p ∧ s.out x =
      ({ s with o := { s.o with fresh := n } }).modLink m (fun l => { l with queue := l.queue ++ [p] })) ∨
    s.out x = { s with o := { s.o with outbox := s.o.outbox ++ [x] } } := by
  cases x with
  | packet p =>
    left
    simp only [State.out, State.route]
    split
    · exact ⟨p, _, s.o.fresh, rfl, rfl⟩
    · exact ⟨p, _, s.o.fresh, rfl, rfl⟩
    · exact ⟨p, _, s.o.fresh + 1, rfl, rfl⟩
  | _ => exact .inr rfl

/-- A packet is acted on, with its source heard where it came from another agent, or passes through. -/
theorem State.packetIn_cases (p : Packet) (f : State → State) :
    s.packetIn p f = f s ∨ s.packetIn p f = f (s.hear p.src) ∨ s.packetIn p f = (s.hear p.src).out (.packet p) := by
  unfold State.packetIn
  split
  · exact .inl rfl
  · split
    · exact .inr (.inr rfl)
    · exact .inr (.inl rfl)

theorem State.packetStep_cases (p : Packet) (f : State → Host.Outcome State Fault Refusal) :
    s.packetStep p f = f s ∨ s.packetStep p f = f (s.hear p.src) ∨ s.packetStep p f = .next ((s.hear p.src).out (.packet p)) := by
  unfold State.packetStep
  split
  · exact .inl rfl
  · split
    · exact .inr (.inr rfl)
    · exact .inr (.inl rfl)

end Sys2Proof.Machine
end

