-- ==== Sys2Proof/Laws/Issue.lean ====
section
/-!
SUPPORT. What the issue of an instruction does in every state, what its checks ask of the registers, what taking a trap does, and how the
words of a slot are read.
-/

namespace Sys2Proof.Machine

/-! ### The checks of registers (03 R65; 04 R87 to R93) -/

/-- The space check of every register passes when all of them lie inside. -/
theorem forIn_checkSpace (x : Slot) (l : List Reg) (h : ∀ r ∈ l, ∀ off, r.loc = .main off → off + r.size ≤ x.space) :
    (forIn l PUnit.unit (fun r _ => do x.checkSpace r; pure (ForInStep.yield PUnit.unit)) : Except Stop PUnit) = .ok PUnit.unit := by
  induction l with
  | nil => rfl
  | cons r l ih =>
    have hr : x.checkSpace r = .ok () := by
      unfold Slot.checkSpace
      split
      · rename_i off e; simp [h r (by simp) off e]
      · rfl
    simp only [List.forIn_cons, hr]
    exact ih (fun r hr => h r (List.mem_cons_of_mem _ hr))

/-- Usable registers pass every check. -/
theorem Usable.check {x : Slot} {all src dst : List Reg} (h : Usable x all src dst) :
    x.checkUses { all := all, src := src, dst := dst } = .ok () := by
  unfold Slot.checkUses
  have h1 := forIn_checkSpace x all h.inside
  have h2 : src.findSome? (fun r => x.awaits r) = none := by simpa using h.full
  have h3 : dst.findSome? (fun r => x.pendingAt r) = none := by
    simp only [List.findSome?_eq_none_iff]
    intro r hr
    simp [Slot.pendingAt, h.free r hr]
  have h4 : x.chk = true → src.find? (fun r => unwrittenIn x.results r) = none := by
    intro hc; simpa using h.settled hc
  simp only [h1, h2, h3]
  by_cases hc : x.chk = true
  · simp only [hc, h4 hc]; rfl
  · simp only [hc]; rfl

/-! ### Issue (03 R73) -/

/-- The die after an instruction's issue: nothing where no slot is the current one; the trap ILLEGAL or PRIV; or what its body says, stopped
or settled. -/
theorem State.issue_cases (s : State) (o : OpInfo) (c : Chain) (body : Body) :
    (s.slot s.o.cur = none ∧ s.issue o c body = s) ∨
    ∃ y x, s.slot s.o.cur = some y ∧ x = y.snapshot s.t.cycle ∧
      ((s.issue o c body = s.takeTrap s.o.cur x .illegal (baseTval o c) false ∧ (c.legal o = false ∨ x.gangBad o c = true)) ∨
       (s.issue o c body = s.takeTrap s.o.cur x .priv (baseTval o c) false ∧ o.priv = true ∧ x.sup = false) ∨
       (∃ t st, body s.o.cur c x s = (t, .error st) ∧ s.issue o c body = t.stopSlot s.o.cur x st) ∨
       (∃ t a, body s.o.cur c x s = (t, .ok a) ∧ s.issue o c body = t.settleSlot s.o.cur x c a)) := by
  cases hs : s.slot s.o.cur with
  | none => exact .inl ⟨rfl, by simp [State.issue, hs]⟩
  | some y =>
    refine .inr ⟨y, _, rfl, rfl, ?_⟩
    by_cases h1 : (!c.legal o || (y.snapshot s.t.cycle).gangBad o c) = true
    · refine .inl ⟨by simp [State.issue, hs, h1], ?_⟩
      simpa using h1
    · by_cases h2 : (o.priv && !(y.snapshot s.t.cycle).sup) = true
      · refine .inr (.inl ⟨by simp [State.issue, hs, h1, h2], ?_⟩)
        simpa using h2
      · rcases hb : body s.o.cur c (y.snapshot s.t.cycle) s with ⟨t, st | a⟩
        · exact .inr (.inr (.inl ⟨t, st, rfl, by simp [State.issue, hs, h1, h2, hb]⟩))
        · exact .inr (.inr (.inr ⟨t, a, rfl, by simp [State.issue, hs, h1, h2, hb]⟩))

/-- On the turn of a slot an instruction is its body. -/
theorem Turn.issue {s : State} {o : OpInfo} {c : Chain} {x : Slot} (h : Turn s o c x) (body : Body) :
    s.issue o c body = match body s.o.cur c x s with
      | (t, .error st) => t.stopSlot s.o.cur x st
      | (t, .ok a) => t.settleSlot s.o.cur x c a := by
  obtain ⟨y, hy, rfl⟩ := h.active
  have hp : (o.priv && !(y.snapshot s.t.cycle).sup) = false := by
    cases hq : o.priv
    · rfl
    · simp [h.priv hq]
  simp only [State.issue, hy, h.legal, h.gang, hp]
  rfl

/-- On the turn of a slot an instruction that only acts on registers takes its effect. -/
theorem Turn.regs {s : State} {o : OpInfo} {c : Chain} {x : Slot} (h : Turn s o c x) {b : RegBody} {e : Effect}
    (hb : b (s.gangPartner s.o.cur x c) c x = .ok e) : s.issue o c (Machine.regs b) = s.took x c e := by
  rw [h.issue]; simp [Machine.regs, hb, State.took]

/-! ### Operands -/

theorem Slot.readLoc_lt (x : Slot) (l : Loc) (n : Nat) : x.readLoc l n < 2 ^ (8 * n) := by
  unfold Slot.readLoc readAt; split <;> exact Nat.mod_lt _ (Nat.pow_pos (by decide))

theorem Slot.reg_size (x : Slot) (w : View) (v : Nat) : (x.reg w v).size = w.size := by
  unfold Slot.reg; split
  · rfl
  · split <;> rfl

theorem Slot.readReg_lt (x : Slot) (w : View) (v : Nat) : x.readReg (x.reg w v) < 2 ^ (8 * w.size) := by
  unfold Slot.readReg; rw [Slot.reg_size]; exact x.readLoc_lt _ _

/-- A scalar operand as a number is what is read of its register. -/
theorem Slot.operand_toNat (x : Slot) (v : Nat) : (x.operand v).toNat = (x.readUe (x.reg .scalar v) 64).1 := by
  have h : (x.readUe (x.reg .scalar v) 64).1 < 2 ^ 64 := by
    have hr : x.readReg (x.reg .scalar v) < 2 ^ 64 := x.readReg_lt .scalar v
    unfold Slot.readUe zeroUe
    split
    · exact hr
    · simp only [Slot.reg_size]
      have : View.scalar.size * 8 / 64 = 1 := rfl
      rw [this]
      simp only [List.range_one, List.filter_cons, List.filter_nil]
      split
      · simp only [List.foldl_cons, List.foldl_nil, setBits]
        omega
      · simpa using hr
  unfold Slot.operand; rw [BitVec.toNat_ofNat]; exact Nat.mod_eq_of_lt h

/-- A scalar instruction with two source operands, on usable registers. -/
theorem Usable.scalar3 {x : Slot} {c : Chain} {lat : Nat} {f : Nat → Nat → Nat × BitVec 6} {p : Option Partner}
    (h : Usable x [x.reg .scalar c.a.toNat, x.reg .scalar c.b.toNat, x.reg .scalar c.c.toNat]
      [x.reg .scalar c.b.toNat, x.reg .scalar c.c.toNat] [x.reg .scalar c.a.toNat]) :
    Machine.scalar3 lat f p c x = .ok (Effect.mk (scalarResult x c.a.toNat (f (x.operand c.b.toNat).toNat (x.operand c.c.toNat).toNat).1)
      (f (x.operand c.b.toNat).toNat (x.operand c.c.toNat).toNat).2
      (x.operandUe c.b.toNat ++ x.operandUe c.c.toNat) lat none none) := by
  simp only [Machine.scalar3, h.check, Slot.operand_toNat, Slot.operandUe]
  rfl

theorem scalarResult_congr (x : Slot) (d : Nat) {v w : Nat} (h : v % 2 ^ 64 = w % 2 ^ 64) : scalarResult x d v = scalarResult x d w := by
  simp only [scalarResult, h]

theorem s64_toNat (w : Word) : s64 w.toNat = w.toInt := by
  simp only [s64, sextNat, BitVec.toInt, Nat.mod_eq_of_lt w.isLt]

theorem wrapNat_ofInt (z : Int) : wrapNat z 64 = (BitVec.ofInt 64 z).toNat := by
  simp [wrapNat, BitVec.toNat_ofInt]

/-! ### Traps (18 R356) -/

/-- A trap enters the handler of its cause, or faults the slot's context. -/
theorem State.takeTrap_cases (s : State) (sid : Nat) (x : Slot) (cause : Cause) (tval : Word) (late : Bool) :
    s.takeTrap sid x cause tval late = s.faultContext x.ctx cause.code sid ∨
    ∃ k off w, s.sealedFor (s.ctx x.ctx).hkid x.ctx = some k ∧ (s.ctx x.ctx).traptab[cause.code]?.getD (false, 0) = (true, off) ∧
      x.trapc.toNat.testBit 13 = false ∧
      s.takeTrap sid x cause tval late = s.setSlot sid { x with
        epc := x.pc, tval := tval, trapc := w, sup := true, handler := true, pc := BitVec.ofNat 64 (k.kbase + off), status := .ready, xlat := []
        late := if late then none else x.late, lmore := if late then false else x.lmore } := by
  simp only [State.takeTrap]
  cases hk : s.sealedFor (s.ctx x.ctx).hkid x.ctx with
  | none => exact .inl rfl
  | some k =>
    rcases ht : (s.ctx x.ctx).traptab[cause.code]?.getD (false, 0) with ⟨v, off⟩
    by_cases h : (x.trapc.toNat.testBit 13 || !v) = true
    · exact .inl (by simp only [h, if_true])
    · refine .inr ⟨k, off, _, rfl, ?_, ?_, by simp only [h]; rfl⟩
      · simp at h; simp [h.2]
      · simp at h; exact h.1

end Sys2Proof.Machine
end

