-- ==== Sys2Proof/Laws/Fetch.lean ====
section
/-!
SUPPORT. What one step of the die can be, and how the words of a slot's instruction are found.
-/

namespace Sys2Proof.Machine

/-- A step is a started step, the turn of a slot, an event that is due, or the end of a cycle. -/
theorem step_cases (s : State) :
    (∃ i l, takeFirst .now s.o.agenda = some (i, l) ∧ step s = exec i { s with o := { s.o with agenda := l } }) ∨
    (takeFirst .now s.o.agenda = none ∧ ∃ sid x, s.nextIssue = some (sid, x) ∧ step s = s.issueSlot sid x) ∨
    (takeFirst .now s.o.agenda = none ∧ s.nextIssue = none ∧ ∃ r, s.nextDue 1 dueClasses = some r ∧ step s = r) ∨
    (takeFirst .now s.o.agenda = none ∧ s.nextIssue = none ∧ s.nextDue 1 dueClasses = none ∧ step s = .next s.tick) := by
  unfold step State.advance
  cases ha : takeFirst .now s.o.agenda with
  | some p => exact .inl ⟨p.1, p.2, rfl, rfl⟩
  | none =>
    refine .inr ?_
    cases hn : s.nextIssue with
    | some p => exact .inl ⟨rfl, p.1, p.2, rfl, rfl⟩
    | none =>
      cases hd : s.nextDue 1 dueClasses with
      | some r => exact .inr (.inl ⟨rfl, rfl, r, rfl, rfl⟩)
      | none => exact .inr (.inr ⟨rfl, rfl, rfl, rfl⟩)

/-- The turn of a slot ends a WAITT, takes a late fault, or runs the instruction at its pc. -/
theorem State.issueSlot_cases (s : State) (sid : Nat) (x : Slot) :
    s.issueSlot sid x = execWaittComplete sid (s.turn sid) ∨ (x.late.isSome = true ∧ s.issueSlot sid x = execLateFault sid (s.turn sid)) ∨
    s.issueSlot sid x = (s.turn sid).runSlot sid x := by
  unfold State.issueSlot
  split
  · exact .inl rfl
  · exact .inr (.inr rfl)
  · split
    · exact .inr (.inl ⟨‹_›, rfl⟩)
    · exact .inr (.inr rfl)

/-- A word is found where it may be fetched. -/
theorem State.fetchWord_ok {s : State} {core i : Nat} {x : Slot} (h1 : s.fetchable core x (x.wordAt i) = true)
    (h2 : s.inSegment core x x.pc.toNat (x.wordAt i) = true) : s.fetchWord core x i = .ok ((s.core core).loc.readN (x.wordAt i) 2) := by
  simp [State.fetchWord, h1, h2]

/-- A word of a slot's instruction has 16 bits. -/
theorem State.fetchWord_lt {s : State} {core i w : Nat} {x : Slot} (h : s.fetchWord core x i = .ok w) : w < 2 ^ 16 := by
  unfold State.fetchWord at h
  simp only at h
  split at h
  · cases h
  · split at h
    · cases h
    · cases h
      have hr : ∀ (m : Memory) a, m.readN a 2 < 2 ^ 16 := by
        intro m a
        have h1 := (m.read a).isLt
        have h2 := (m.read (a + 1)).isLt
        simp only [Memory.readN]
        omega
      exact hr _ _

end Sys2Proof.Machine
end

