-- ==== Sys2Proof/Laws/Memory.lean ====
section
/-!
SUPPORT. Memory keeps its canonical form under every operation on it: a write, and a filter.  Reset memory has it.
-/

namespace Sys2Proof.Machine

theorem Memory.wf_iff (m : Memory) : m.wf = true ↔ m.Pairwise (fun a b => a.1 < b.1) ∧ ∀ p ∈ m, p.2 ≠ 0 := by
  simp [Memory.wf, ksorted]

@[simp] theorem Memory.wf_nil : Memory.wf [] = true := rfl

theorem Memory.wf_filter {m : Memory} (h : m.wf = true) (f : Host.Cell → Bool) : Memory.wf (m.filter f) = true := by
  rw [Memory.wf_iff] at h ⊢
  exact ⟨h.1.filter _, fun p hp => h.2 p (List.mem_filter.1 hp).1⟩

theorem mem_cellsOf {a : Nat} {bs : List Byte} {p : Host.Cell} (h : p ∈ cellsOf a bs) : a ≤ p.1 ∧ p.1 < a + bs.length ∧ p.2 ≠ 0 := by
  induction bs generalizing a with
  | nil => simp [cellsOf] at h
  | cons b bs ih =>
    simp only [cellsOf] at h
    split at h
    · obtain ⟨h1, h2, h3⟩ := ih h
      exact ⟨by omega, by simp only [List.length_cons]; omega, h3⟩
    · rcases List.mem_cons.1 h with rfl | h
      · exact ⟨Nat.le_refl _, by simp, ‹_›⟩
      · obtain ⟨h1, h2, h3⟩ := ih h
        exact ⟨by omega, by simp only [List.length_cons]; omega, h3⟩

theorem cellsOf_sorted (a : Nat) (bs : List Byte) : (cellsOf a bs).Pairwise (fun p q => p.1 < q.1) := by
  induction bs generalizing a with
  | nil => simp [cellsOf]
  | cons b bs ih =>
    simp only [cellsOf]
    split
    · exact ih _
    · refine List.pairwise_cons.2 ⟨fun q hq => ?_, ih _⟩
      have := (mem_cellsOf hq).1
      show a < q.1
      omega

/-- A write keeps the canonical form. -/
theorem Memory.wf_write {m : Memory} (h : m.wf = true) (a : Nat) (bs : List Byte) : Memory.wf (m.write a bs) = true := by
  rw [Memory.wf_iff] at h ⊢
  refine ⟨?_, ?_⟩
  · simp only [Memory.write]
    refine List.pairwise_append.2 ⟨List.pairwise_append.2 ⟨h.1.filter _, cellsOf_sorted a bs, ?_⟩, h.1.filter _, ?_⟩
    · intro p hp q hq
      have h1 : p.1 < a := by simpa using (List.mem_filter.1 hp).2
      have h2 := (mem_cellsOf hq).1
      omega
    · intro p hp q hq
      have h2 : a + bs.length ≤ q.1 := by simpa using (List.mem_filter.1 hq).2
      rcases List.mem_append.1 hp with hp | hp
      · have h1 : p.1 < a := by simpa using (List.mem_filter.1 hp).2
        omega
      · have h1 := (mem_cellsOf hp).2.1
        omega
  · intro p hp
    simp only [Memory.write] at hp
    rcases List.mem_append.1 hp with hp | hp
    · rcases List.mem_append.1 hp with hp | hp
      · exact h.2 p (List.mem_filter.1 hp).1
      · exact (mem_cellsOf hp).2.2
    · exact h.2 p (List.mem_filter.1 hp).1

/-- Memory after reset is in canonical form. -/
theorem reset_mem_wf : State.reset.mem.wf = true := rfl

theorem State.memWrite_wf {s : State} (h : s.mem.wf = true) (a : Nat) (bs : List Byte) : (s.memWrite a bs).mem.wf = true :=
  Memory.wf_write h a bs

/-- Local memory of every core stays in canonical form under a write of one. -/
theorem State.locWrite_wf {s : State} (h : ∀ c, (s.core c).loc.wf = true) (d a : Nat) (bs : List Byte) (c : Nat) :
    ((s.locWrite d a bs).core c).loc.wf = true := by
  unfold State.locWrite State.modCore State.setCore
  simp only [State.core, kget_kset]
  split
  · exact Memory.wf_write (h d) a bs
  · exact h c

@[simp] theorem Memory.readN_zero (m : Memory) (a : Nat) : m.readN a 0 = 0 := rfl

/-- `n` bytes make a number of `8 n` bits. -/
theorem Memory.readN_lt (m : Memory) (a n : Nat) : m.readN a n < 2 ^ (8 * n) := by
  induction n generalizing a with
  | zero => simp [Memory.readN]
  | succ n ih =>
    have h1 := (m.read a).isLt
    have h2 := ih (a + 1)
    simp only [Memory.readN]
    have : 2 ^ (8 * (n + 1)) = 256 * 2 ^ (8 * n) := by rw [Nat.mul_add, Nat.pow_add]; omega
    omega

end Sys2Proof.Machine
end

