-- ==== Sys2Proof/Laws/Tables.lean ====
section
/-!
SUPPORT. What each update of one of the die's tables leaves as it was, field by field, and what a read after it gives.
-/

namespace Sys2Proof.Machine

variable (s : State)

/-! ### `putPost` -/

@[simp] theorem State.putPost_t (v : Word) (c : Nat) : (s.putPost v c).t = s.t := rfl
@[simp] theorem State.putPost_idn (v : Word) (c : Nat) : (s.putPost v c).idn = s.idn := rfl
@[simp] theorem State.putPost_slots (v : Word) (c : Nat) : (s.putPost v c).slots = s.slots := rfl
@[simp] theorem State.putPost_cores (v : Word) (c : Nat) : (s.putPost v c).cores = s.cores := rfl
@[simp] theorem State.putPost_mem (v : Word) (c : Nat) : (s.putPost v c).mem = s.mem := rfl
@[simp] theorem State.putPost_ueMem (v : Word) (c : Nat) : (s.putPost v c).ueMem = s.ueMem := rfl
@[simp] theorem State.putPost_msgs (v : Word) (c : Nat) : (s.putPost v c).msgs = s.msgs := rfl
@[simp] theorem State.putPost_deps (v : Word) (c : Nat) : (s.putPost v c).deps = s.deps := rfl
@[simp] theorem State.putPost_pg (v : Word) (c : Nat) : (s.putPost v c).pg = s.pg := rfl
@[simp] theorem State.putPost_vs (v : Word) (c : Nat) : (s.putPost v c).vs = s.vs := rfl
@[simp] theorem State.putPost_pl (v : Word) (c : Nat) : (s.putPost v c).pl = s.pl := rfl
@[simp] theorem State.putPost_en (v : Word) (c : Nat) : (s.putPost v c).en = s.en := rfl
@[simp] theorem State.putPost_kn (v : Word) (c : Nat) : (s.putPost v c).kn = s.kn := rfl
@[simp] theorem State.putPost_br (v : Word) (c : Nat) : (s.putPost v c).br = s.br := rfl
@[simp] theorem State.putPost_cx (v : Word) (c : Nat) : (s.putPost v c).cx = s.cx := rfl
@[simp] theorem State.putPost_lk (v : Word) (c : Nat) : (s.putPost v c).lk = s.lk := rfl
@[simp] theorem State.putPost_zn (v : Word) (c : Nat) : (s.putPost v c).zn = s.zn := rfl
@[simp] theorem State.putPost_hl (v : Word) (c : Nat) : (s.putPost v c).hl = s.hl := rfl
@[simp] theorem State.putPost_bt (v : Word) (c : Nat) : (s.putPost v c).bt = s.bt := rfl

/-! ### `sticky` -/

@[simp] theorem State.sticky_t (b : Sticky) : (s.sticky b).t = s.t := by unfold State.sticky; split <;> rfl
@[simp] theorem State.sticky_idn (b : Sticky) : (s.sticky b).idn = s.idn := by unfold State.sticky; split <;> rfl
@[simp] theorem State.sticky_slots (b : Sticky) : (s.sticky b).slots = s.slots := by unfold State.sticky; split <;> rfl
@[simp] theorem State.sticky_cores (b : Sticky) : (s.sticky b).cores = s.cores := by unfold State.sticky; split <;> rfl
@[simp] theorem State.sticky_mem (b : Sticky) : (s.sticky b).mem = s.mem := by unfold State.sticky; split <;> rfl
@[simp] theorem State.sticky_ueMem (b : Sticky) : (s.sticky b).ueMem = s.ueMem := by unfold State.sticky; split <;> rfl
@[simp] theorem State.sticky_msgs (b : Sticky) : (s.sticky b).msgs = s.msgs := by unfold State.sticky; split <;> rfl
@[simp] theorem State.sticky_deps (b : Sticky) : (s.sticky b).deps = s.deps := by unfold State.sticky; split <;> rfl
@[simp] theorem State.sticky_pg (b : Sticky) : (s.sticky b).pg = s.pg := by unfold State.sticky; split <;> rfl
@[simp] theorem State.sticky_vs (b : Sticky) : (s.sticky b).vs = s.vs := by unfold State.sticky; split <;> rfl
@[simp] theorem State.sticky_pl (b : Sticky) : (s.sticky b).pl = s.pl := by unfold State.sticky; split <;> rfl
@[simp] theorem State.sticky_en (b : Sticky) : (s.sticky b).en = s.en := by unfold State.sticky; split <;> rfl
@[simp] theorem State.sticky_kn (b : Sticky) : (s.sticky b).kn = s.kn := by unfold State.sticky; split <;> rfl
@[simp] theorem State.sticky_gr (b : Sticky) : (s.sticky b).gr = s.gr := by unfold State.sticky; split <;> rfl
@[simp] theorem State.sticky_br (b : Sticky) : (s.sticky b).br = s.br := by unfold State.sticky; split <;> rfl
@[simp] theorem State.sticky_cx (b : Sticky) : (s.sticky b).cx = s.cx := by unfold State.sticky; split <;> rfl
@[simp] theorem State.sticky_lk (b : Sticky) : (s.sticky b).lk = s.lk := by unfold State.sticky; split <;> rfl
@[simp] theorem State.sticky_zn (b : Sticky) : (s.sticky b).zn = s.zn := by unfold State.sticky; split <;> rfl
@[simp] theorem State.sticky_hl (b : Sticky) : (s.sticky b).hl = s.hl := by unfold State.sticky; split <;> rfl
@[simp] theorem State.sticky_bt (b : Sticky) : (s.sticky b).bt = s.bt := by unfold State.sticky; split <;> rfl

/-! ### `modMsg` -/

@[simp] theorem State.modMsg_o (r : Nat) (f : Msg → Msg) : (s.modMsg r f).o = s.o := rfl
@[simp] theorem State.modMsg_t (r : Nat) (f : Msg → Msg) : (s.modMsg r f).t = s.t := rfl
@[simp] theorem State.modMsg_idn (r : Nat) (f : Msg → Msg) : (s.modMsg r f).idn = s.idn := rfl
@[simp] theorem State.modMsg_slots (r : Nat) (f : Msg → Msg) : (s.modMsg r f).slots = s.slots := rfl
@[simp] theorem State.modMsg_cores (r : Nat) (f : Msg → Msg) : (s.modMsg r f).cores = s.cores := rfl
@[simp] theorem State.modMsg_mem (r : Nat) (f : Msg → Msg) : (s.modMsg r f).mem = s.mem := rfl
@[simp] theorem State.modMsg_ueMem (r : Nat) (f : Msg → Msg) : (s.modMsg r f).ueMem = s.ueMem := rfl
@[simp] theorem State.modMsg_deps (r : Nat) (f : Msg → Msg) : (s.modMsg r f).deps = s.deps := rfl
@[simp] theorem State.modMsg_pg (r : Nat) (f : Msg → Msg) : (s.modMsg r f).pg = s.pg := rfl
@[simp] theorem State.modMsg_vs (r : Nat) (f : Msg → Msg) : (s.modMsg r f).vs = s.vs := rfl
@[simp] theorem State.modMsg_pl (r : Nat) (f : Msg → Msg) : (s.modMsg r f).pl = s.pl := rfl
@[simp] theorem State.modMsg_en (r : Nat) (f : Msg → Msg) : (s.modMsg r f).en = s.en := rfl
@[simp] theorem State.modMsg_kn (r : Nat) (f : Msg → Msg) : (s.modMsg r f).kn = s.kn := rfl
@[simp] theorem State.modMsg_gr (r : Nat) (f : Msg → Msg) : (s.modMsg r f).gr = s.gr := rfl
@[simp] theorem State.modMsg_br (r : Nat) (f : Msg → Msg) : (s.modMsg r f).br = s.br := rfl
@[simp] theorem State.modMsg_cx (r : Nat) (f : Msg → Msg) : (s.modMsg r f).cx = s.cx := rfl
@[simp] theorem State.modMsg_lk (r : Nat) (f : Msg → Msg) : (s.modMsg r f).lk = s.lk := rfl
@[simp] theorem State.modMsg_zn (r : Nat) (f : Msg → Msg) : (s.modMsg r f).zn = s.zn := rfl
@[simp] theorem State.modMsg_hl (r : Nat) (f : Msg → Msg) : (s.modMsg r f).hl = s.hl := rfl
@[simp] theorem State.modMsg_bt (r : Nat) (f : Msg → Msg) : (s.modMsg r f).bt = s.bt := rfl

/-! ### `forget` -/

@[simp] theorem State.forget_o (ds : List Nat) : (s.forget ds).o = s.o := rfl
@[simp] theorem State.forget_t (ds : List Nat) : (s.forget ds).t = s.t := rfl
@[simp] theorem State.forget_idn (ds : List Nat) : (s.forget ds).idn = s.idn := rfl
@[simp] theorem State.forget_slots (ds : List Nat) : (s.forget ds).slots = s.slots := rfl
@[simp] theorem State.forget_cores (ds : List Nat) : (s.forget ds).cores = s.cores := rfl
@[simp] theorem State.forget_mem (ds : List Nat) : (s.forget ds).mem = s.mem := rfl
@[simp] theorem State.forget_ueMem (ds : List Nat) : (s.forget ds).ueMem = s.ueMem := rfl
@[simp] theorem State.forget_msgs (ds : List Nat) : (s.forget ds).msgs = s.msgs := rfl
@[simp] theorem State.forget_pg (ds : List Nat) : (s.forget ds).pg = s.pg := rfl
@[simp] theorem State.forget_vs (ds : List Nat) : (s.forget ds).vs = s.vs := rfl
@[simp] theorem State.forget_pl (ds : List Nat) : (s.forget ds).pl = s.pl := rfl
@[simp] theorem State.forget_en (ds : List Nat) : (s.forget ds).en = s.en := rfl
@[simp] theorem State.forget_kn (ds : List Nat) : (s.forget ds).kn = s.kn := rfl
@[simp] theorem State.forget_gr (ds : List Nat) : (s.forget ds).gr = s.gr := rfl
@[simp] theorem State.forget_br (ds : List Nat) : (s.forget ds).br = s.br := rfl
@[simp] theorem State.forget_cx (ds : List Nat) : (s.forget ds).cx = s.cx := rfl
@[simp] theorem State.forget_lk (ds : List Nat) : (s.forget ds).lk = s.lk := rfl
@[simp] theorem State.forget_zn (ds : List Nat) : (s.forget ds).zn = s.zn := rfl
@[simp] theorem State.forget_hl (ds : List Nat) : (s.forget ds).hl = s.hl := rfl
@[simp] theorem State.forget_bt (ds : List Nat) : (s.forget ds).bt = s.bt := rfl

/-! ### `setVersion` -/

@[simp] theorem State.setVersion_o (v : Version) : (s.setVersion v).o = s.o := rfl
@[simp] theorem State.setVersion_t (v : Version) : (s.setVersion v).t = s.t := rfl
@[simp] theorem State.setVersion_idn (v : Version) : (s.setVersion v).idn = s.idn := rfl
@[simp] theorem State.setVersion_slots (v : Version) : (s.setVersion v).slots = s.slots := rfl
@[simp] theorem State.setVersion_cores (v : Version) : (s.setVersion v).cores = s.cores := rfl
@[simp] theorem State.setVersion_mem (v : Version) : (s.setVersion v).mem = s.mem := rfl
@[simp] theorem State.setVersion_ueMem (v : Version) : (s.setVersion v).ueMem = s.ueMem := rfl
@[simp] theorem State.setVersion_msgs (v : Version) : (s.setVersion v).msgs = s.msgs := rfl
@[simp] theorem State.setVersion_deps (v : Version) : (s.setVersion v).deps = s.deps := rfl
@[simp] theorem State.setVersion_pg (v : Version) : (s.setVersion v).pg = s.pg := rfl
@[simp] theorem State.setVersion_pl (v : Version) : (s.setVersion v).pl = s.pl := rfl
@[simp] theorem State.setVersion_en (v : Version) : (s.setVersion v).en = s.en := rfl
@[simp] theorem State.setVersion_kn (v : Version) : (s.setVersion v).kn = s.kn := rfl
@[simp] theorem State.setVersion_gr (v : Version) : (s.setVersion v).gr = s.gr := rfl
@[simp] theorem State.setVersion_br (v : Version) : (s.setVersion v).br = s.br := rfl
@[simp] theorem State.setVersion_cx (v : Version) : (s.setVersion v).cx = s.cx := rfl
@[simp] theorem State.setVersion_lk (v : Version) : (s.setVersion v).lk = s.lk := rfl
@[simp] theorem State.setVersion_zn (v : Version) : (s.setVersion v).zn = s.zn := rfl
@[simp] theorem State.setVersion_hl (v : Version) : (s.setVersion v).hl = s.hl := rfl
@[simp] theorem State.setVersion_bt (v : Version) : (s.setVersion v).bt = s.bt := rfl

/-! ### `setProxy` -/

@[simp] theorem State.setProxy_o (p : ProxyCopy) : (s.setProxy p).o = s.o := rfl
@[simp] theorem State.setProxy_t (p : ProxyCopy) : (s.setProxy p).t = s.t := rfl
@[simp] theorem State.setProxy_idn (p : ProxyCopy) : (s.setProxy p).idn = s.idn := rfl
@[simp] theorem State.setProxy_slots (p : ProxyCopy) : (s.setProxy p).slots = s.slots := rfl
@[simp] theorem State.setProxy_cores (p : ProxyCopy) : (s.setProxy p).cores = s.cores := rfl
@[simp] theorem State.setProxy_mem (p : ProxyCopy) : (s.setProxy p).mem = s.mem := rfl
@[simp] theorem State.setProxy_ueMem (p : ProxyCopy) : (s.setProxy p).ueMem = s.ueMem := rfl
@[simp] theorem State.setProxy_msgs (p : ProxyCopy) : (s.setProxy p).msgs = s.msgs := rfl
@[simp] theorem State.setProxy_deps (p : ProxyCopy) : (s.setProxy p).deps = s.deps := rfl
@[simp] theorem State.setProxy_pg (p : ProxyCopy) : (s.setProxy p).pg = s.pg := rfl
@[simp] theorem State.setProxy_pl (p : ProxyCopy) : (s.setProxy p).pl = s.pl := rfl
@[simp] theorem State.setProxy_en (p : ProxyCopy) : (s.setProxy p).en = s.en := rfl
@[simp] theorem State.setProxy_kn (p : ProxyCopy) : (s.setProxy p).kn = s.kn := rfl
@[simp] theorem State.setProxy_gr (p : ProxyCopy) : (s.setProxy p).gr = s.gr := rfl
@[simp] theorem State.setProxy_br (p : ProxyCopy) : (s.setProxy p).br = s.br := rfl
@[simp] theorem State.setProxy_cx (p : ProxyCopy) : (s.setProxy p).cx = s.cx := rfl
@[simp] theorem State.setProxy_lk (p : ProxyCopy) : (s.setProxy p).lk = s.lk := rfl
@[simp] theorem State.setProxy_zn (p : ProxyCopy) : (s.setProxy p).zn = s.zn := rfl
@[simp] theorem State.setProxy_hl (p : ProxyCopy) : (s.setProxy p).hl = s.hl := rfl
@[simp] theorem State.setProxy_bt (p : ProxyCopy) : (s.setProxy p).bt = s.bt := rfl

/-! ### `setEntry` -/

@[simp] theorem State.setEntry_o (i : Nat) (e : PoolEntry) : (s.setEntry i e).o = s.o := rfl
@[simp] theorem State.setEntry_t (i : Nat) (e : PoolEntry) : (s.setEntry i e).t = s.t := rfl
@[simp] theorem State.setEntry_idn (i : Nat) (e : PoolEntry) : (s.setEntry i e).idn = s.idn := rfl
@[simp] theorem State.setEntry_slots (i : Nat) (e : PoolEntry) : (s.setEntry i e).slots = s.slots := rfl
@[simp] theorem State.setEntry_cores (i : Nat) (e : PoolEntry) : (s.setEntry i e).cores = s.cores := rfl
@[simp] theorem State.setEntry_mem (i : Nat) (e : PoolEntry) : (s.setEntry i e).mem = s.mem := rfl
@[simp] theorem State.setEntry_ueMem (i : Nat) (e : PoolEntry) : (s.setEntry i e).ueMem = s.ueMem := rfl
@[simp] theorem State.setEntry_msgs (i : Nat) (e : PoolEntry) : (s.setEntry i e).msgs = s.msgs := rfl
@[simp] theorem State.setEntry_deps (i : Nat) (e : PoolEntry) : (s.setEntry i e).deps = s.deps := rfl
@[simp] theorem State.setEntry_pg (i : Nat) (e : PoolEntry) : (s.setEntry i e).pg = s.pg := rfl
@[simp] theorem State.setEntry_vs (i : Nat) (e : PoolEntry) : (s.setEntry i e).vs = s.vs := rfl
@[simp] theorem State.setEntry_en (i : Nat) (e : PoolEntry) : (s.setEntry i e).en = s.en := rfl
@[simp] theorem State.setEntry_kn (i : Nat) (e : PoolEntry) : (s.setEntry i e).kn = s.kn := rfl
@[simp] theorem State.setEntry_gr (i : Nat) (e : PoolEntry) : (s.setEntry i e).gr = s.gr := rfl
@[simp] theorem State.setEntry_br (i : Nat) (e : PoolEntry) : (s.setEntry i e).br = s.br := rfl
@[simp] theorem State.setEntry_cx (i : Nat) (e : PoolEntry) : (s.setEntry i e).cx = s.cx := rfl
@[simp] theorem State.setEntry_lk (i : Nat) (e : PoolEntry) : (s.setEntry i e).lk = s.lk := rfl
@[simp] theorem State.setEntry_zn (i : Nat) (e : PoolEntry) : (s.setEntry i e).zn = s.zn := rfl
@[simp] theorem State.setEntry_hl (i : Nat) (e : PoolEntry) : (s.setEntry i e).hl = s.hl := rfl
@[simp] theorem State.setEntry_bt (i : Nat) (e : PoolEntry) : (s.setEntry i e).bt = s.bt := rfl

/-! ### `setChannel` -/

@[simp] theorem State.setChannel_o (n : Nat) (c : Channel) : (s.setChannel n c).o = s.o := rfl
@[simp] theorem State.setChannel_t (n : Nat) (c : Channel) : (s.setChannel n c).t = s.t := rfl
@[simp] theorem State.setChannel_idn (n : Nat) (c : Channel) : (s.setChannel n c).idn = s.idn := rfl
@[simp] theorem State.setChannel_slots (n : Nat) (c : Channel) : (s.setChannel n c).slots = s.slots := rfl
@[simp] theorem State.setChannel_cores (n : Nat) (c : Channel) : (s.setChannel n c).cores = s.cores := rfl
@[simp] theorem State.setChannel_mem (n : Nat) (c : Channel) : (s.setChannel n c).mem = s.mem := rfl
@[simp] theorem State.setChannel_ueMem (n : Nat) (c : Channel) : (s.setChannel n c).ueMem = s.ueMem := rfl
@[simp] theorem State.setChannel_msgs (n : Nat) (c : Channel) : (s.setChannel n c).msgs = s.msgs := rfl
@[simp] theorem State.setChannel_deps (n : Nat) (c : Channel) : (s.setChannel n c).deps = s.deps := rfl
@[simp] theorem State.setChannel_pg (n : Nat) (c : Channel) : (s.setChannel n c).pg = s.pg := rfl
@[simp] theorem State.setChannel_vs (n : Nat) (c : Channel) : (s.setChannel n c).vs = s.vs := rfl
@[simp] theorem State.setChannel_pl (n : Nat) (c : Channel) : (s.setChannel n c).pl = s.pl := rfl
@[simp] theorem State.setChannel_kn (n : Nat) (c : Channel) : (s.setChannel n c).kn = s.kn := rfl
@[simp] theorem State.setChannel_gr (n : Nat) (c : Channel) : (s.setChannel n c).gr = s.gr := rfl
@[simp] theorem State.setChannel_br (n : Nat) (c : Channel) : (s.setChannel n c).br = s.br := rfl
@[simp] theorem State.setChannel_cx (n : Nat) (c : Channel) : (s.setChannel n c).cx = s.cx := rfl
@[simp] theorem State.setChannel_lk (n : Nat) (c : Channel) : (s.setChannel n c).lk = s.lk := rfl
@[simp] theorem State.setChannel_zn (n : Nat) (c : Channel) : (s.setChannel n c).zn = s.zn := rfl
@[simp] theorem State.setChannel_hl (n : Nat) (c : Channel) : (s.setChannel n c).hl = s.hl := rfl
@[simp] theorem State.setChannel_bt (n : Nat) (c : Channel) : (s.setChannel n c).bt = s.bt := rfl

/-! ### `setFifo` -/

@[simp] theorem State.setFifo_o (f : Nat) (q : EFifo) : (s.setFifo f q).o = s.o := rfl
@[simp] theorem State.setFifo_t (f : Nat) (q : EFifo) : (s.setFifo f q).t = s.t := rfl
@[simp] theorem State.setFifo_idn (f : Nat) (q : EFifo) : (s.setFifo f q).idn = s.idn := rfl
@[simp] theorem State.setFifo_slots (f : Nat) (q : EFifo) : (s.setFifo f q).slots = s.slots := rfl
@[simp] theorem State.setFifo_cores (f : Nat) (q : EFifo) : (s.setFifo f q).cores = s.cores := rfl
@[simp] theorem State.setFifo_mem (f : Nat) (q : EFifo) : (s.setFifo f q).mem = s.mem := rfl
@[simp] theorem State.setFifo_ueMem (f : Nat) (q : EFifo) : (s.setFifo f q).ueMem = s.ueMem := rfl
@[simp] theorem State.setFifo_msgs (f : Nat) (q : EFifo) : (s.setFifo f q).msgs = s.msgs := rfl
@[simp] theorem State.setFifo_deps (f : Nat) (q : EFifo) : (s.setFifo f q).deps = s.deps := rfl
@[simp] theorem State.setFifo_pg (f : Nat) (q : EFifo) : (s.setFifo f q).pg = s.pg := rfl
@[simp] theorem State.setFifo_vs (f : Nat) (q : EFifo) : (s.setFifo f q).vs = s.vs := rfl
@[simp] theorem State.setFifo_pl (f : Nat) (q : EFifo) : (s.setFifo f q).pl = s.pl := rfl
@[simp] theorem State.setFifo_kn (f : Nat) (q : EFifo) : (s.setFifo f q).kn = s.kn := rfl
@[simp] theorem State.setFifo_gr (f : Nat) (q : EFifo) : (s.setFifo f q).gr = s.gr := rfl
@[simp] theorem State.setFifo_br (f : Nat) (q : EFifo) : (s.setFifo f q).br = s.br := rfl
@[simp] theorem State.setFifo_cx (f : Nat) (q : EFifo) : (s.setFifo f q).cx = s.cx := rfl
@[simp] theorem State.setFifo_lk (f : Nat) (q : EFifo) : (s.setFifo f q).lk = s.lk := rfl
@[simp] theorem State.setFifo_zn (f : Nat) (q : EFifo) : (s.setFifo f q).zn = s.zn := rfl
@[simp] theorem State.setFifo_hl (f : Nat) (q : EFifo) : (s.setFifo f q).hl = s.hl := rfl
@[simp] theorem State.setFifo_bt (f : Nat) (q : EFifo) : (s.setFifo f q).bt = s.bt := rfl

/-! ### `setKernel` -/

@[simp] theorem State.setKernel_o (k : Kernel) : (s.setKernel k).o = s.o := rfl
@[simp] theorem State.setKernel_t (k : Kernel) : (s.setKernel k).t = s.t := rfl
@[simp] theorem State.setKernel_idn (k : Kernel) : (s.setKernel k).idn = s.idn := rfl
@[simp] theorem State.setKernel_slots (k : Kernel) : (s.setKernel k).slots = s.slots := rfl
@[simp] theorem State.setKernel_cores (k : Kernel) : (s.setKernel k).cores = s.cores := rfl
@[simp] theorem State.setKernel_mem (k : Kernel) : (s.setKernel k).mem = s.mem := rfl
@[simp] theorem State.setKernel_ueMem (k : Kernel) : (s.setKernel k).ueMem = s.ueMem := rfl
@[simp] theorem State.setKernel_msgs (k : Kernel) : (s.setKernel k).msgs = s.msgs := rfl
@[simp] theorem State.setKernel_deps (k : Kernel) : (s.setKernel k).deps = s.deps := rfl
@[simp] theorem State.setKernel_pg (k : Kernel) : (s.setKernel k).pg = s.pg := rfl
@[simp] theorem State.setKernel_vs (k : Kernel) : (s.setKernel k).vs = s.vs := rfl
@[simp] theorem State.setKernel_pl (k : Kernel) : (s.setKernel k).pl = s.pl := rfl
@[simp] theorem State.setKernel_en (k : Kernel) : (s.setKernel k).en = s.en := rfl
@[simp] theorem State.setKernel_gr (k : Kernel) : (s.setKernel k).gr = s.gr := rfl
@[simp] theorem State.setKernel_br (k : Kernel) : (s.setKernel k).br = s.br := rfl
@[simp] theorem State.setKernel_cx (k : Kernel) : (s.setKernel k).cx = s.cx := rfl
@[simp] theorem State.setKernel_lk (k : Kernel) : (s.setKernel k).lk = s.lk := rfl
@[simp] theorem State.setKernel_zn (k : Kernel) : (s.setKernel k).zn = s.zn := rfl
@[simp] theorem State.setKernel_hl (k : Kernel) : (s.setKernel k).hl = s.hl := rfl
@[simp] theorem State.setKernel_bt (k : Kernel) : (s.setKernel k).bt = s.bt := rfl

/-! ### `setLaunch` -/

@[simp] theorem State.setLaunch_o (l : Nat) (x : Launch) : (s.setLaunch l x).o = s.o := rfl
@[simp] theorem State.setLaunch_t (l : Nat) (x : Launch) : (s.setLaunch l x).t = s.t := rfl
@[simp] theorem State.setLaunch_idn (l : Nat) (x : Launch) : (s.setLaunch l x).idn = s.idn := rfl
@[simp] theorem State.setLaunch_slots (l : Nat) (x : Launch) : (s.setLaunch l x).slots = s.slots := rfl
@[simp] theorem State.setLaunch_cores (l : Nat) (x : Launch) : (s.setLaunch l x).cores = s.cores := rfl
@[simp] theorem State.setLaunch_mem (l : Nat) (x : Launch) : (s.setLaunch l x).mem = s.mem := rfl
@[simp] theorem State.setLaunch_ueMem (l : Nat) (x : Launch) : (s.setLaunch l x).ueMem = s.ueMem := rfl
@[simp] theorem State.setLaunch_msgs (l : Nat) (x : Launch) : (s.setLaunch l x).msgs = s.msgs := rfl
@[simp] theorem State.setLaunch_deps (l : Nat) (x : Launch) : (s.setLaunch l x).deps = s.deps := rfl
@[simp] theorem State.setLaunch_pg (l : Nat) (x : Launch) : (s.setLaunch l x).pg = s.pg := rfl
@[simp] theorem State.setLaunch_vs (l : Nat) (x : Launch) : (s.setLaunch l x).vs = s.vs := rfl
@[simp] theorem State.setLaunch_pl (l : Nat) (x : Launch) : (s.setLaunch l x).pl = s.pl := rfl
@[simp] theorem State.setLaunch_en (l : Nat) (x : Launch) : (s.setLaunch l x).en = s.en := rfl
@[simp] theorem State.setLaunch_kn (l : Nat) (x : Launch) : (s.setLaunch l x).kn = s.kn := rfl
@[simp] theorem State.setLaunch_br (l : Nat) (x : Launch) : (s.setLaunch l x).br = s.br := rfl
@[simp] theorem State.setLaunch_cx (l : Nat) (x : Launch) : (s.setLaunch l x).cx = s.cx := rfl
@[simp] theorem State.setLaunch_lk (l : Nat) (x : Launch) : (s.setLaunch l x).lk = s.lk := rfl
@[simp] theorem State.setLaunch_zn (l : Nat) (x : Launch) : (s.setLaunch l x).zn = s.zn := rfl
@[simp] theorem State.setLaunch_hl (l : Nat) (x : Launch) : (s.setLaunch l x).hl = s.hl := rfl
@[simp] theorem State.setLaunch_bt (l : Nat) (x : Launch) : (s.setLaunch l x).bt = s.bt := rfl

/-! ### `setMirror` -/

@[simp] theorem State.setMirror_o (a l : Nat) (x : Option Launch) : (s.setMirror a l x).o = s.o := rfl
@[simp] theorem State.setMirror_t (a l : Nat) (x : Option Launch) : (s.setMirror a l x).t = s.t := rfl
@[simp] theorem State.setMirror_idn (a l : Nat) (x : Option Launch) : (s.setMirror a l x).idn = s.idn := rfl
@[simp] theorem State.setMirror_slots (a l : Nat) (x : Option Launch) : (s.setMirror a l x).slots = s.slots := rfl
@[simp] theorem State.setMirror_cores (a l : Nat) (x : Option Launch) : (s.setMirror a l x).cores = s.cores := rfl
@[simp] theorem State.setMirror_mem (a l : Nat) (x : Option Launch) : (s.setMirror a l x).mem = s.mem := rfl
@[simp] theorem State.setMirror_ueMem (a l : Nat) (x : Option Launch) : (s.setMirror a l x).ueMem = s.ueMem := rfl
@[simp] theorem State.setMirror_msgs (a l : Nat) (x : Option Launch) : (s.setMirror a l x).msgs = s.msgs := rfl
@[simp] theorem State.setMirror_deps (a l : Nat) (x : Option Launch) : (s.setMirror a l x).deps = s.deps := rfl
@[simp] theorem State.setMirror_pg (a l : Nat) (x : Option Launch) : (s.setMirror a l x).pg = s.pg := rfl
@[simp] theorem State.setMirror_vs (a l : Nat) (x : Option Launch) : (s.setMirror a l x).vs = s.vs := rfl
@[simp] theorem State.setMirror_pl (a l : Nat) (x : Option Launch) : (s.setMirror a l x).pl = s.pl := rfl
@[simp] theorem State.setMirror_en (a l : Nat) (x : Option Launch) : (s.setMirror a l x).en = s.en := rfl
@[simp] theorem State.setMirror_kn (a l : Nat) (x : Option Launch) : (s.setMirror a l x).kn = s.kn := rfl
@[simp] theorem State.setMirror_br (a l : Nat) (x : Option Launch) : (s.setMirror a l x).br = s.br := rfl
@[simp] theorem State.setMirror_cx (a l : Nat) (x : Option Launch) : (s.setMirror a l x).cx = s.cx := rfl
@[simp] theorem State.setMirror_lk (a l : Nat) (x : Option Launch) : (s.setMirror a l x).lk = s.lk := rfl
@[simp] theorem State.setMirror_zn (a l : Nat) (x : Option Launch) : (s.setMirror a l x).zn = s.zn := rfl
@[simp] theorem State.setMirror_hl (a l : Nat) (x : Option Launch) : (s.setMirror a l x).hl = s.hl := rfl
@[simp] theorem State.setMirror_bt (a l : Nat) (x : Option Launch) : (s.setMirror a l x).bt = s.bt := rfl

/-! ### `setBarrier` -/

@[simp] theorem State.setBarrier_o (k : BKey) (b : Barrier) : (s.setBarrier k b).o = s.o := by cases k <;> rfl
@[simp] theorem State.setBarrier_t (k : BKey) (b : Barrier) : (s.setBarrier k b).t = s.t := by cases k <;> rfl
@[simp] theorem State.setBarrier_idn (k : BKey) (b : Barrier) : (s.setBarrier k b).idn = s.idn := by cases k <;> rfl
@[simp] theorem State.setBarrier_slots (k : BKey) (b : Barrier) : (s.setBarrier k b).slots = s.slots := by cases k <;> rfl
@[simp] theorem State.setBarrier_cores (k : BKey) (b : Barrier) : (s.setBarrier k b).cores = s.cores := by cases k <;> rfl
@[simp] theorem State.setBarrier_mem (k : BKey) (b : Barrier) : (s.setBarrier k b).mem = s.mem := by cases k <;> rfl
@[simp] theorem State.setBarrier_ueMem (k : BKey) (b : Barrier) : (s.setBarrier k b).ueMem = s.ueMem := by cases k <;> rfl
@[simp] theorem State.setBarrier_msgs (k : BKey) (b : Barrier) : (s.setBarrier k b).msgs = s.msgs := by cases k <;> rfl
@[simp] theorem State.setBarrier_deps (k : BKey) (b : Barrier) : (s.setBarrier k b).deps = s.deps := by cases k <;> rfl
@[simp] theorem State.setBarrier_pg (k : BKey) (b : Barrier) : (s.setBarrier k b).pg = s.pg := by cases k <;> rfl
@[simp] theorem State.setBarrier_vs (k : BKey) (b : Barrier) : (s.setBarrier k b).vs = s.vs := by cases k <;> rfl
@[simp] theorem State.setBarrier_pl (k : BKey) (b : Barrier) : (s.setBarrier k b).pl = s.pl := by cases k <;> rfl
@[simp] theorem State.setBarrier_en (k : BKey) (b : Barrier) : (s.setBarrier k b).en = s.en := by cases k <;> rfl
@[simp] theorem State.setBarrier_kn (k : BKey) (b : Barrier) : (s.setBarrier k b).kn = s.kn := by cases k <;> rfl
@[simp] theorem State.setBarrier_gr (k : BKey) (b : Barrier) : (s.setBarrier k b).gr = s.gr := by cases k <;> rfl
@[simp] theorem State.setBarrier_cx (k : BKey) (b : Barrier) : (s.setBarrier k b).cx = s.cx := by cases k <;> rfl
@[simp] theorem State.setBarrier_lk (k : BKey) (b : Barrier) : (s.setBarrier k b).lk = s.lk := by cases k <;> rfl
@[simp] theorem State.setBarrier_zn (k : BKey) (b : Barrier) : (s.setBarrier k b).zn = s.zn := by cases k <;> rfl
@[simp] theorem State.setBarrier_hl (k : BKey) (b : Barrier) : (s.setBarrier k b).hl = s.hl := by cases k <;> rfl
@[simp] theorem State.setBarrier_bt (k : BKey) (b : Barrier) : (s.setBarrier k b).bt = s.bt := by cases k <;> rfl

/-! ### `setEcho` -/

@[simp] theorem State.setEcho_o (r : Nat) (e : EchoRec) : (s.setEcho r e).o = s.o := rfl
@[simp] theorem State.setEcho_t (r : Nat) (e : EchoRec) : (s.setEcho r e).t = s.t := rfl
@[simp] theorem State.setEcho_idn (r : Nat) (e : EchoRec) : (s.setEcho r e).idn = s.idn := rfl
@[simp] theorem State.setEcho_slots (r : Nat) (e : EchoRec) : (s.setEcho r e).slots = s.slots := rfl
@[simp] theorem State.setEcho_cores (r : Nat) (e : EchoRec) : (s.setEcho r e).cores = s.cores := rfl
@[simp] theorem State.setEcho_mem (r : Nat) (e : EchoRec) : (s.setEcho r e).mem = s.mem := rfl
@[simp] theorem State.setEcho_ueMem (r : Nat) (e : EchoRec) : (s.setEcho r e).ueMem = s.ueMem := rfl
@[simp] theorem State.setEcho_msgs (r : Nat) (e : EchoRec) : (s.setEcho r e).msgs = s.msgs := rfl
@[simp] theorem State.setEcho_deps (r : Nat) (e : EchoRec) : (s.setEcho r e).deps = s.deps := rfl
@[simp] theorem State.setEcho_pg (r : Nat) (e : EchoRec) : (s.setEcho r e).pg = s.pg := rfl
@[simp] theorem State.setEcho_vs (r : Nat) (e : EchoRec) : (s.setEcho r e).vs = s.vs := rfl
@[simp] theorem State.setEcho_pl (r : Nat) (e : EchoRec) : (s.setEcho r e).pl = s.pl := rfl
@[simp] theorem State.setEcho_en (r : Nat) (e : EchoRec) : (s.setEcho r e).en = s.en := rfl
@[simp] theorem State.setEcho_kn (r : Nat) (e : EchoRec) : (s.setEcho r e).kn = s.kn := rfl
@[simp] theorem State.setEcho_gr (r : Nat) (e : EchoRec) : (s.setEcho r e).gr = s.gr := rfl
@[simp] theorem State.setEcho_cx (r : Nat) (e : EchoRec) : (s.setEcho r e).cx = s.cx := rfl
@[simp] theorem State.setEcho_lk (r : Nat) (e : EchoRec) : (s.setEcho r e).lk = s.lk := rfl
@[simp] theorem State.setEcho_zn (r : Nat) (e : EchoRec) : (s.setEcho r e).zn = s.zn := rfl
@[simp] theorem State.setEcho_hl (r : Nat) (e : EchoRec) : (s.setEcho r e).hl = s.hl := rfl
@[simp] theorem State.setEcho_bt (r : Nat) (e : EchoRec) : (s.setEcho r e).bt = s.bt := rfl

/-! ### `setMatrix` -/

@[simp] theorem State.setMatrix_o (c : Nat) (m : MxTask) : (s.setMatrix c m).o = s.o := rfl
@[simp] theorem State.setMatrix_t (c : Nat) (m : MxTask) : (s.setMatrix c m).t = s.t := rfl
@[simp] theorem State.setMatrix_idn (c : Nat) (m : MxTask) : (s.setMatrix c m).idn = s.idn := rfl
@[simp] theorem State.setMatrix_slots (c : Nat) (m : MxTask) : (s.setMatrix c m).slots = s.slots := rfl
@[simp] theorem State.setMatrix_mem (c : Nat) (m : MxTask) : (s.setMatrix c m).mem = s.mem := rfl
@[simp] theorem State.setMatrix_ueMem (c : Nat) (m : MxTask) : (s.setMatrix c m).ueMem = s.ueMem := rfl
@[simp] theorem State.setMatrix_msgs (c : Nat) (m : MxTask) : (s.setMatrix c m).msgs = s.msgs := rfl
@[simp] theorem State.setMatrix_deps (c : Nat) (m : MxTask) : (s.setMatrix c m).deps = s.deps := rfl
@[simp] theorem State.setMatrix_pg (c : Nat) (m : MxTask) : (s.setMatrix c m).pg = s.pg := rfl
@[simp] theorem State.setMatrix_vs (c : Nat) (m : MxTask) : (s.setMatrix c m).vs = s.vs := rfl
@[simp] theorem State.setMatrix_pl (c : Nat) (m : MxTask) : (s.setMatrix c m).pl = s.pl := rfl
@[simp] theorem State.setMatrix_en (c : Nat) (m : MxTask) : (s.setMatrix c m).en = s.en := rfl
@[simp] theorem State.setMatrix_kn (c : Nat) (m : MxTask) : (s.setMatrix c m).kn = s.kn := rfl
@[simp] theorem State.setMatrix_gr (c : Nat) (m : MxTask) : (s.setMatrix c m).gr = s.gr := rfl
@[simp] theorem State.setMatrix_br (c : Nat) (m : MxTask) : (s.setMatrix c m).br = s.br := rfl
@[simp] theorem State.setMatrix_cx (c : Nat) (m : MxTask) : (s.setMatrix c m).cx = s.cx := rfl
@[simp] theorem State.setMatrix_lk (c : Nat) (m : MxTask) : (s.setMatrix c m).lk = s.lk := rfl
@[simp] theorem State.setMatrix_zn (c : Nat) (m : MxTask) : (s.setMatrix c m).zn = s.zn := rfl
@[simp] theorem State.setMatrix_hl (c : Nat) (m : MxTask) : (s.setMatrix c m).hl = s.hl := rfl
@[simp] theorem State.setMatrix_bt (c : Nat) (m : MxTask) : (s.setMatrix c m).bt = s.bt := rfl

/-! ### `modPair` -/

@[simp] theorem State.modPair_o (c : Nat) (f : PairState → PairState) : (s.modPair c f).o = s.o := rfl
@[simp] theorem State.modPair_t (c : Nat) (f : PairState → PairState) : (s.modPair c f).t = s.t := rfl
@[simp] theorem State.modPair_idn (c : Nat) (f : PairState → PairState) : (s.modPair c f).idn = s.idn := rfl
@[simp] theorem State.modPair_slots (c : Nat) (f : PairState → PairState) : (s.modPair c f).slots = s.slots := rfl
@[simp] theorem State.modPair_mem (c : Nat) (f : PairState → PairState) : (s.modPair c f).mem = s.mem := rfl
@[simp] theorem State.modPair_ueMem (c : Nat) (f : PairState → PairState) : (s.modPair c f).ueMem = s.ueMem := rfl
@[simp] theorem State.modPair_msgs (c : Nat) (f : PairState → PairState) : (s.modPair c f).msgs = s.msgs := rfl
@[simp] theorem State.modPair_deps (c : Nat) (f : PairState → PairState) : (s.modPair c f).deps = s.deps := rfl
@[simp] theorem State.modPair_pg (c : Nat) (f : PairState → PairState) : (s.modPair c f).pg = s.pg := rfl
@[simp] theorem State.modPair_vs (c : Nat) (f : PairState → PairState) : (s.modPair c f).vs = s.vs := rfl
@[simp] theorem State.modPair_pl (c : Nat) (f : PairState → PairState) : (s.modPair c f).pl = s.pl := rfl
@[simp] theorem State.modPair_en (c : Nat) (f : PairState → PairState) : (s.modPair c f).en = s.en := rfl
@[simp] theorem State.modPair_kn (c : Nat) (f : PairState → PairState) : (s.modPair c f).kn = s.kn := rfl
@[simp] theorem State.modPair_gr (c : Nat) (f : PairState → PairState) : (s.modPair c f).gr = s.gr := rfl
@[simp] theorem State.modPair_br (c : Nat) (f : PairState → PairState) : (s.modPair c f).br = s.br := rfl
@[simp] theorem State.modPair_cx (c : Nat) (f : PairState → PairState) : (s.modPair c f).cx = s.cx := rfl
@[simp] theorem State.modPair_lk (c : Nat) (f : PairState → PairState) : (s.modPair c f).lk = s.lk := rfl
@[simp] theorem State.modPair_zn (c : Nat) (f : PairState → PairState) : (s.modPair c f).zn = s.zn := rfl
@[simp] theorem State.modPair_hl (c : Nat) (f : PairState → PairState) : (s.modPair c f).hl = s.hl := rfl
@[simp] theorem State.modPair_bt (c : Nat) (f : PairState → PairState) : (s.modPair c f).bt = s.bt := rfl

/-! ### `modRegion` -/

@[simp] theorem State.modRegion_o (r : Nat) (f : Region → Region) : (s.modRegion r f).o = s.o := rfl
@[simp] theorem State.modRegion_t (r : Nat) (f : Region → Region) : (s.modRegion r f).t = s.t := rfl
@[simp] theorem State.modRegion_idn (r : Nat) (f : Region → Region) : (s.modRegion r f).idn = s.idn := rfl
@[simp] theorem State.modRegion_slots (r : Nat) (f : Region → Region) : (s.modRegion r f).slots = s.slots := rfl
@[simp] theorem State.modRegion_cores (r : Nat) (f : Region → Region) : (s.modRegion r f).cores = s.cores := rfl
@[simp] theorem State.modRegion_mem (r : Nat) (f : Region → Region) : (s.modRegion r f).mem = s.mem := rfl
@[simp] theorem State.modRegion_ueMem (r : Nat) (f : Region → Region) : (s.modRegion r f).ueMem = s.ueMem := rfl
@[simp] theorem State.modRegion_msgs (r : Nat) (f : Region → Region) : (s.modRegion r f).msgs = s.msgs := rfl
@[simp] theorem State.modRegion_deps (r : Nat) (f : Region → Region) : (s.modRegion r f).deps = s.deps := rfl
@[simp] theorem State.modRegion_pg (r : Nat) (f : Region → Region) : (s.modRegion r f).pg = s.pg := rfl
@[simp] theorem State.modRegion_vs (r : Nat) (f : Region → Region) : (s.modRegion r f).vs = s.vs := rfl
@[simp] theorem State.modRegion_pl (r : Nat) (f : Region → Region) : (s.modRegion r f).pl = s.pl := rfl
@[simp] theorem State.modRegion_en (r : Nat) (f : Region → Region) : (s.modRegion r f).en = s.en := rfl
@[simp] theorem State.modRegion_kn (r : Nat) (f : Region → Region) : (s.modRegion r f).kn = s.kn := rfl
@[simp] theorem State.modRegion_gr (r : Nat) (f : Region → Region) : (s.modRegion r f).gr = s.gr := rfl
@[simp] theorem State.modRegion_br (r : Nat) (f : Region → Region) : (s.modRegion r f).br = s.br := rfl
@[simp] theorem State.modRegion_cx (r : Nat) (f : Region → Region) : (s.modRegion r f).cx = s.cx := rfl
@[simp] theorem State.modRegion_lk (r : Nat) (f : Region → Region) : (s.modRegion r f).lk = s.lk := rfl
@[simp] theorem State.modRegion_zn (r : Nat) (f : Region → Region) : (s.modRegion r f).zn = s.zn := rfl
@[simp] theorem State.modRegion_bt (r : Nat) (f : Region → Region) : (s.modRegion r f).bt = s.bt := rfl

/-! ### What an update changes -/

theorem State.msgs_modMsg (r q : Nat) (f : Msg → Msg) :
    kget (s.modMsg r f).msgs q = if q = r then (kget s.msgs r).map f else kget s.msgs q := kget_kmod _ _ _ _

theorem State.deps_modDep (r q : Nat) (f : Dep → Dep) :
    kget (s.modDep r f).deps q = if q = r then (kget s.deps r).map f else kget s.deps q := kget_kmod _ _ _ _

@[simp] theorem State.entry_setEntry (i j : Nat) (e : PoolEntry) : (s.setEntry i e).entry j = if j = i then some e else s.entry j :=
  kget_kset _ _ _ _

@[simp] theorem State.channel_setChannel (n m : Nat) (c : Channel) : (s.setChannel n c).channel m = if m = n then c else s.channel m := by
  simp only [State.channel, State.setChannel, kgetD, kget_kset]
  split <;> rfl

@[simp] theorem State.launches_setLaunch (l j : Nat) (x : Launch) :
    kget (s.setLaunch l x).gr.launches j = if j = l then some x else kget s.gr.launches j := kget_kset _ _ _ _

@[simp] theorem State.echoRec_setEcho (r q : Nat) (e : EchoRec) : (s.setEcho r e).echoRec q = if q = r then e else s.echoRec q := by
  simp only [State.echoRec, State.setEcho, kgetD, kget_kset]
  split <;> rfl

@[simp] theorem State.barrierAt_setBarrier (k j : BKey) (b : Barrier) :
    (s.setBarrier k b).barrierAt j = if j = k then some b else s.barrierAt j := by
  cases k <;> cases j <;> simp [State.setBarrier, State.barrierAt, kget_kset]

@[simp] theorem State.region_modRegion (r q : Nat) (f : Region → Region) :
    (s.modRegion r f).region q = if q = r then f (s.region r) else s.region q := by
  simp only [State.region, State.modRegion, kgetD, kget_kset]
  split <;> rfl

/-- A W1C bit noted as set in this cycle is noted, and those noted before stay (00 R5). -/
@[simp] theorem State.mem_sticky (b c : Sticky) : c ∈ (s.sticky b).o.sets ↔ c = b ∨ c ∈ s.o.sets := by
  unfold State.sticky
  split
  · rename_i h; constructor
    · exact .inr
    · rintro (rfl | h')
      · simpa using h
      · exact h'
  · simp

/-! ### Local memory keeps its canonical form -/

theorem CoreSt.withScratch_wf {k q : CoreSt} (hk : k.loc.wf = true) (hq : q.loc.wf = true) : (k.withScratch q).loc.wf = true := by
  rw [Memory.wf_iff] at *
  obtain ⟨hk, hk0⟩ := hk
  obtain ⟨hq, hq0⟩ := hq
  refine ⟨?_, ?_⟩
  · simp only [CoreSt.withScratch, List.pairwise_append]
    refine ⟨⟨hk.filter _, hq.filter _, ?_⟩, hk.filter _, ?_⟩ <;> simp <;> omega
  · simp only [CoreSt.withScratch, List.mem_append, List.mem_filter]
    rintro p ((⟨h, _⟩ | ⟨h, _⟩) | ⟨h, _⟩)
    · exact hk0 p h
    · exact hq0 p h
    · exact hk0 p h

theorem CoreSt.swapBanks_wf {k : CoreSt} (h : k.loc.wf = true) : k.swapBanks.loc.wf = true := Memory.wf_write (Memory.wf_write h _ _) _ _

theorem State.claimCore_wf {s : State} (h : ∀ c, (s.core c).loc.wf = true) (d ctx c : Nat) : ((s.claimCore d ctx).core c).loc.wf = true := by
  dsimp only [State.claimCore]
  split <;> simp only [State.core_setCore] <;> split
  · exact h d
  · exact h c
  · exact Memory.wf_filter (h d) _
  · exact h c

end Sys2Proof.Machine
end

