-- ==== Sys2Proof/Tests/Slice0.lean ====
section
/-!
SUPPORT. Tests: ill-formed terms that the checks refuse, words of the encoding tables of 03 decoded, single steps with
results worked out from the spec, and for each statement with hypotheses states and operands that meet them.
-/

open Sys2Proof Sys2Proof.Machine

namespace Sys2Proof.Tests

-- one proof after the other, so that few evaluations hold memory at a time
set_option Elab.async false

/-! ### Ill-formed terms (03 R51 to R59, R62, R63, R67, R70 to R73) -/

/-- Three register fields in their base ranges. -/
def abc : Chain := { Chain.zero with a := 9, b := 10, c := 11, hasX := true }

/-- A chain has at most five words. -/
theorem test_wf_words : (Instr.ldl { Chain.zero with nimm := 4, hasX := true, a := 9 }).wf = false := by decide +kernel
/-- A page above 0 and a MOD stand in PAGE. -/
theorem test_wf_page : (Instr.vadd { abc with mod := 8 }).wf = false ∧ (Instr.add { abc with mod := 1 }).wf = false := by decide +kernel
/-- High registers and operand C stand in XREG. -/
theorem test_wf_xreg : (Instr.mov { Chain.zero with a := 32, b := 9 }).wf = false ∧ (Instr.mov { Chain.zero with a := 9, b := 32 }).wf = false ∧
    (Instr.add { abc with hasX := false }).wf = false := by decide +kernel
/-- The imm form has no low bits of B. -/
theorem test_wf_imm_form : (Instr.movi { Chain.zero with a := 9, b := 1 }).wf = false := by decide +kernel
/-- A stall count, a gang offset and a lane mask stand in AUX. -/
theorem test_wf_aux : (Instr.nop { Chain.zero with stall := 1 }).wf = false ∧
    (Instr.vadd { abc with hasP := true, mod := 8, gang := 1 }).wf = false ∧ (Instr.vadd { abc with hasP := true, mod := 8, lmask := 1 }).wf = false := by
  decide +kernel
/-- An immediate fits its bits: 5 of the base word, ten more for each IMM. -/
theorem test_wf_immediate : (Instr.movi { Chain.zero with a := 9, imm := 15 }).wf = true ∧ (Instr.movi { Chain.zero with a := 9, imm := 16 }).wf = false ∧
    (Instr.movi { Chain.zero with a := 9, imm := -17 }).wf = false ∧ (Instr.ldl { Chain.zero with a := 9, b := 10, imm := 1 }).wf = false := by decide +kernel
/-- IMM before a form without an immediate. -/
theorem test_wf_nimm : (Instr.add { abc with nimm := 1 }).wf = false := by decide +kernel
/-- Fields that the instruction does not use are 0. -/
theorem test_wf_unused : (Instr.nop { Chain.zero with a := 1 }).wf = false ∧ (Instr.ret { Chain.zero with a := 9, b := 9 }).wf = false ∧
    (Instr.mov { abc with c := 1 }).wf = false := by decide +kernel
/-- A MOD that the instruction does not define. -/
theorem test_wf_mod : (Instr.add { abc with hasP := true, mod := 3 }).wf = false ∧ (Instr.vadd { abc with hasP := true, mod := 14 }).wf = false := by decide +kernel
/-- A gang offset and a lane mask belong to pages 1 and 2. -/
theorem test_wf_gang_page : (Instr.add { abc with hasA := true, gang := 1 }).wf = false ∧ (Instr.add { abc with hasA := true, lmask := 1 }).wf = false := by decide +kernel
/-- A gang offset needs a main-file register as operand B, the vector form, and an instruction that takes one. -/
theorem test_wf_gang : (Instr.vadd { abc with hasP := true, hasA := true, mod := 8, gang := 1 }).wf = true ∧
    (Instr.vadd { abc with b := 7, hasP := true, hasA := true, mod := 8, gang := 1 }).wf = false ∧
    (Instr.vadd { abc with hasP := true, hasA := true, mod := 72, gang := 1 }).wf = false ∧
    (Instr.vbcast { abc with c := 0, hasP := true, hasA := true, mod := 8, gang := 1 }).wf = false := by decide +kernel
/-- LD has a destination other than lat; EXT's field lies inside 64 bits; GETK's register exists. -/
theorem test_wf_extra : (Instr.ld { Chain.zero with nimm := 1, b := 9 }).wf = false ∧ (Instr.ext { abc with b := 0, nimm := 1, imm := 4095 }).wf = false ∧
    (Instr.getk { Chain.zero with nimm := 1, a := 9, imm := 11 }).wf = false := by decide +kernel

/-! ### Words written out from the tables of 03 -/

/-- Page 0: ADD s3, s4, s5: XREG with C = 5, then code 0x04, A = 3, B = 4. -/
theorem test_decode_add : decode [0b1111010000000101, 0b0001000001100100] = .ok (.add { Chain.zero with hasX := true, a := 3, b := 4, c := 5 }) 2 := by decide +kernel
/-- Page 0: MOVI register 2, -1. -/
theorem test_decode_movi : decode [0b0000110001011111] = .ok (.movi { Chain.zero with a := 2, imm := -1 }) 1 := by decide +kernel
/-- Page 0: LD register 12 from register 9 - 8, 8 bits zero-extended: IMM 0x3F8, PAGE with MOD 3, code 0x29. -/
theorem test_decode_ld : decode [0xF3F8, 0xF803, 0b1010010110001001] =
    .ok (.ld { Chain.zero with nimm := 1, hasP := true, a := 12, b := 9, imm := -8, mod := 3 }) 3 := by decide +kernel
/-- Page 1: VADD of f32: XREG, PAGE 1 with MOD 8, code 0x05. -/
theorem test_decode_vadd : decode [0xF405, 0b1111100010001000, 0b0001010001100100] =
    .ok (.vadd { Chain.zero with hasX := true, hasP := true, a := 3, b := 4, c := 5, mod := 8 }) 3 := by decide +kernel
/-- Page 2: VRED: PAGE 2, code 0x0A. -/
theorem test_decode_vred : decode [0b1111100100000000, 0b0010100001100100] = .ok (.vred { Chain.zero with hasP := true, a := 3, b := 4 }) 2 := by decide +kernel
/-- Page 3: BARI and BARI.clr differ in MOD alone. -/
theorem test_decode_bari : decode [0b1111100110000001, 0b0101110000000000] = .ok (.bariClr { Chain.zero with hasP := true, mod := 1 }) 2 ∧
    decode [0b1111100110000000, 0b0101110000000000] = .ok (.bari { Chain.zero with hasP := true }) 2 := by decide +kernel
/-- AUX with STALL 1 before NOP. -/
theorem test_decode_aux : decode [0b1111110010000000, 0x0400] = .ok (.nop { Chain.zero with hasA := true, stall := 1 }) 2 := by decide +kernel
/-- The all-zero word is no instruction, and a second XREG is not legal (03 R53, R71). -/
theorem test_decode_illegal : decode [0] = .illegal 0 0 ∧ decode [0xF405, 0xF405, 0x1064] = .illegal 0xF405 1 := by decide +kernel
/-- A chain without its base word is incomplete. -/
theorem test_decode_short : decode [0xF405] = .short := by decide +kernel
/-- Rows of the opcode table: a page-0 row of 16 bits, a page-3 row of 32. -/
theorem test_decode_table : decodeTableWord 16 0x0400 = some (.nop Chain.zero) ∧
    decodeTableWord 32 0xF9803400 = some (.exit { Chain.zero with hasP := true }) := by decide +kernel
/-- A round trip with every prefix. -/
theorem test_encode : encode (.vadd { Chain.zero with hasX := true, hasP := true, hasA := true, a := 35, b := 68, c := 63, mod := 8, stall := 7, gang := 3, lmask := 7 })
    = [0xF400 + 256 + 128 + 63, 0xF888, 0xFC00 + 7 * 128 + 3 * 32 + 7 * 4, 0x1464] := by decide +kernel

/-! ### Single steps -/

/-- Slot 0 after one step at a state whose next instruction is the given words. -/
def after (bs : List Nat) : Option Slot :=
  match step (State.reset.loadWords (bytesOfWords bs)) with
  | .next t => t.slot 0
  | _ => none

/-- NOP goes behind itself. -/
theorem test_step_nop : (after [0x0400]).map Slot.pc = some 2 := by decide +kernel
/-- MOVI -1 is sign-extended, and lat has a copy (03 R67; 05 R109). -/
theorem test_step_movi : (after [0x0C5F]).map (fun x => (x.operand 2, x.lat)) = some (-1, 0xFFFFFFFFFFFFFFFF) := by decide +kernel
/-- DIV of 0 by 0 sets DZ at its end, not at issue (02 R26; 04 R83). -/
theorem test_step_div : (after [0xF40B, 0x2929]).map (fun x => (x.flags, x.results.map Pending.flags)) = some (0, [fDZ]) := by decide +kernel
/-- JMP +32 bytes from pc 0 (05 R111). -/
theorem test_step_jmp : (after [0xF000, 0x940F]).map Slot.pc = some 30 := by decide +kernel
/-- CALL leaves the address behind itself in d (05 R111). -/
theorem test_step_call : (after [0xF002, 0x99E0]).map (fun x => (x.pc, x.operand 15)) = some (128, 4) := by decide +kernel
/-- A stall count of 1 holds the slot for 32 cycles (03 R60). -/
theorem test_step_stall : (after [0xFC80, 0x0400]).map Slot.status = some (.stalled (.count 32)) := by decide +kernel
/-- The end of a cycle: 0.8 ns more (04 R82). -/
theorem test_clock : (Clock.tick { timeFrac := 4 }).time = 1 ∧ (Clock.tick {}).time = 0 := by decide +kernel
/-- f32 1.0 + 2.0 = 3.0, and 1.0 / 0 is infinity with DZ (02 R29, R35). -/
theorem test_float : roundVal .f32 .rne ((fdec .f32 0x3F800000).add .rne (fdec .f32 0x40000000)).1 false = (0x40400000, 0) ∧
    fdiv .f32 .rne (fdec .f32 0x3F800000) (fdec .f32 0) = (0x7F800000, fDZ) := by decide +kernel
/-- Memory: a written zero leaves no entry. -/
theorem test_memory : (Memory.write [] 5 [1, 2]) = [(5, 1), (6, 2)] ∧ (Memory.write [(5, 1), (6, 2)] 5 [0]) = [(6, 2)] := by decide +kernel

/-! ### How the hypotheses of the statements are met: checks of the turn, of registers and of addresses -/

/-- The slot whose turn it is, as it stands in its issue cycle. -/
def cur (s : State) : Slot := ((s.slot s.o.cur).getD {}).snapshot s.t.cycle

/-- `Turn` as a check. -/
def turnB (s : State) (o : OpInfo) (c : Chain) : Bool :=
  (s.slot s.o.cur).isSome && c.legal o && !(cur s).gangBad o c && (!o.priv || (cur s).sup)

theorem turn_of {s : State} {o : OpInfo} {c : Chain} (h : turnB s o c = true) : Turn s o c (cur s) := by
  simp only [turnB, Bool.and_eq_true, Bool.or_eq_true, Bool.not_eq_true'] at h
  obtain ⟨⟨⟨h1, h2⟩, h3⟩, h4⟩ := h
  obtain ⟨y, hy⟩ := Option.isSome_iff_exists.mp h1
  refine ⟨⟨y, hy, by simp [cur, hy]⟩, h2, h3, fun hp => ?_⟩
  rcases h4 with h4 | h4
  · rw [hp] at h4; cases h4
  · exact h4

/-- A register lies inside the space. -/
def insideB (x : Slot) (r : Reg) : Bool := match r.loc with | .main off => decide (off + r.size ≤ x.space) | _ => true

/-- `Usable` as a check. -/
def usableB (x : Slot) (all src dst : List Reg) : Bool :=
  all.all (insideB x) && src.all (fun r => (x.awaits r).isNone) && (!x.chk || src.all (fun r => !unwrittenIn x.results r)) &&
    dst.all (fun r => (x.awaits r).isNone)

theorem usable_of {x : Slot} {all src dst : List Reg} (h : usableB x all src dst = true) : Usable x all src dst := by
  simp only [usableB, Bool.and_eq_true, Bool.or_eq_true, Bool.not_eq_true', List.all_eq_true, Option.isNone_iff_eq_none] at h
  obtain ⟨⟨⟨h1, h2⟩, h3⟩, h4⟩ := h
  refine ⟨fun r hr off e => ?_, h2, fun hc => ?_, h4⟩
  · have := h1 r hr; simpa [insideB, e] using this
  · rcases h3 with h3 | h3
    · rw [hc] at h3; cases h3
    · exact h3

/-- `PartnerUsable` as a check. -/
def partnerB (s : State) (x : Slot) (c : Chain) (r : Reg) : Bool :=
  match s.gangPartner s.o.cur x c, r.loc with
  | some p, .main off => (firstEmpty p.view.empty off r.size).isNone && !unwrittenIn p.view.results r
  | _, _ => true

theorem partner_of {s : State} {x : Slot} {c : Chain} {r : Reg} (h : partnerB s x c r = true) : PartnerUsable s x c r := by
  intro p hp off e
  simp only [partnerB, hp, e, Bool.and_eq_true, Bool.not_eq_true', Option.isNone_iff_eq_none] at h
  exact ⟨h.1, fun _ => h.2⟩

/-- Registers by view and number. -/
def named (x : Slot) (l : List (View × Nat)) : List Reg := l.map (fun p => x.reg p.1 p.2)
def S (n : Nat) : View × Nat := (.scalar, n)
def V (n : Nat) : View × Nat := (.vector, n)

/-- It is the slot's turn, and the registers are usable: the hypotheses of a completion statement. -/
structure Able (s : State) (o : OpInfo) (c : Chain) (all src dst : List (View × Nat)) : Prop where
  turn : Turn s o c (cur s)
  usable : Usable (cur s) (named (cur s) all) (named (cur s) src) (named (cur s) dst)

def ableB (s : State) (o : OpInfo) (c : Chain) (all src dst : List (View × Nat)) : Bool :=
  turnB s o c && usableB (cur s) (named (cur s) all) (named (cur s) src) (named (cur s) dst)

theorem able_of {s : State} {o : OpInfo} {c : Chain} {all src dst : List (View × Nat)} (h : ableB s o c all src dst = true) :
    Able s o c all src dst := by
  simp only [ableB, Bool.and_eq_true] at h; exact ⟨turn_of h.1, usable_of h.2⟩

/-- The same for a lane-wise instruction. -/
structure Lanes (s : State) (o : OpInfo) (c : Chain) (three readsD : Bool) : Prop where
  turn : Turn s o c (cur s)
  ready : Claims.LaneReady s (cur s) c three readsD

def lanesB (s : State) (o : OpInfo) (c : Chain) (three readsD : Bool) : Bool :=
  let x := cur s
  let v := Claims.laneView c
  turnB s o c && usableB x ([x.reg v c.a.toNat, x.reg v c.b.toNat] ++ if three then [x.reg v c.c.toNat] else [])
    (Claims.ownA s x c (x.reg v c.b.toNat) ++ (if three then [x.reg v c.c.toNat] else []) ++
      (if readsD then [x.reg v c.a.toNat] else []) ++ x.maskReg c) [x.reg v c.a.toNat] && partnerB s x c (x.reg v c.b.toNat)

theorem lanes_of {s : State} {o : OpInfo} {c : Chain} {three readsD : Bool} (h : lanesB s o c three readsD = true) : Lanes s o c three readsD := by
  simp only [lanesB, Bool.and_eq_true] at h
  exact ⟨turn_of h.1.1, usable_of h.1.2, partner_of h.2⟩

/-- `Reaches`, by translations that walks have made, as a check. -/
def reachesB (s : State) (x : Slot) (a : Access) (align : Nat) (lanes : List Lane) (ls : List Located) : Bool :=
  decide (ls.map Located.l = lanes) && lanes.all (fun q => q.va % align == 0) &&
    ls.all (fun q => (match x.xlat.find? (fun e => e.vpn == q.l.va / 4096) with
      | some e => e.fault.isNone && e.leaf == q.leaf
      | none => false) && q.pa == leafPa q.leaf q.l.va && decide (s.checkLeaf q.leaf (!x.sup) true a q.pa = .ok)) &&
    (s.watchHit x.ctx a lanes).isNone

theorem reaches_of {s : State} {x : Slot} {a : Access} {align : Nat} {lanes : List Lane} {ls : List Located}
    (h : reachesB s x a align lanes ls = true) : Claims.Reaches s x a align lanes ls := by
  simp only [reachesB, Bool.and_eq_true, decide_eq_true_eq, List.all_eq_true, beq_iff_eq, Option.isNone_iff_eq_none] at h
  obtain ⟨⟨⟨h1, h2⟩, h3⟩, h4⟩ := h
  refine ⟨h1, h2, fun q hq => ?_, fun q hq => (h3 q hq).2, h4⟩
  have h5 := (h3 q hq).1
  refine ⟨Or.inl ?_, h5.2⟩
  have h6 := h5.1
  cases he : x.xlat.find? (fun e => e.vpn == q.l.va / 4096) with
  | none => simp [he] at h6
  | some e =>
    simp only [he, Bool.and_eq_true, Option.isNone_iff_eq_none, beq_iff_eq] at h6
    exact ⟨e, rfl, h6.1, h6.2⟩

/-! ### States for the statements about slots -/

/-- Leaves with all permissions: page 0 of the die's memory, and the port 0 of FIFO 0. -/
def leaf0 : Word := 0x3C0
def leafPort : Word := 0x100200020003C0

/-- A supervisor slot of context 1 with the whole register space, page 0 translated, on slot 0. -/
def slotS : Slot := { ctx := 1, kid := 1, group := 0, space := 65536, sup := true, xlat := [{ vpn := 0, fault := none, leaf := leaf0 }] }
def die (x : Slot) : State := { State.reset with slots := [(0, x)], o := { nextId := 1 } }
def wS : State := die slotS
/-- The same in user mode. -/
def uS : State := die { slotS with sup := false }
/-- Main-file registers, the first of them and the last among the operands. -/
def rr : Chain := { Chain.zero with a := 16, b := 8, c := 63 }
def r2 : Chain := { Chain.zero with a := 127, b := 8 }
def r1 : Chain := { Chain.zero with a := 127 }
/-- Instructions with an immediate and a source in C. -/
def ri : Chain := { Chain.zero with a := 16, c := 63, imm := 63 }

theorem test_witness_ScalarResults :
    (∀ e ∈ Claims.scalarThree, Able wS e.2.1 rr [S 16, S 8, S 63] [S 8, S 63] [S 16]) ∧
    (∀ m, m < 3 → Able wS opAdd { rr with mod := BitVec.ofNat 7 m } [S 16, S 8, S 63] [S 8, S 63] [S 16]) ∧
    (∀ e ∈ Claims.scalarTwo, Able wS e.2.1 r2 [S 127, S 8] [S 8] [S 127]) ∧ Able wS opMovi r1 [S 127] [] [S 127] ∧
    Able wS opAddi { ri with mod := 2 } [S 16, S 63] [S 63] [S 16] ∧ Able wS opExt ri [S 16, S 63] [S 63] [S 16] ∧
    Able wS opSel rr [S 16, S 8, S 63] [S 8, S 63, S 16] [S 16] ∧ Turn wS opNop Chain.zero (cur wS) := by
  refine ⟨fun e he => able_of ((by decide +kernel : ∀ e ∈ Claims.scalarThree, ableB wS e.2.1 rr _ _ _ = true) e he),
    fun m hm => able_of ((by decide +kernel : ∀ m, m < 3 → ableB wS opAdd { rr with mod := BitVec.ofNat 7 m } _ _ _ = true) m hm),
    fun e he => able_of ((by decide +kernel : ∀ e ∈ Claims.scalarTwo, ableB wS e.2.1 r2 _ _ _ = true) e he), ?_⟩
  and_intros <;> first | exact able_of (by decide +kernel) | exact turn_of (by decide +kernel)

/-- A register whose first word is odd: the target of RET and JMPI. -/
def oddS : State := die { slotS with file := 3 }

theorem test_witness_ControlTransfers :
    Able wS opBr { r1 with mod := 3, imm := -16 } [S 127] [S 127] [] ∧ wS.leaves (cur wS) (Claims.target (cur wS) { r1 with mod := 3, imm := -16 }) = none ∧
    Turn wS opJmp { Chain.zero with imm := 15 } (cur wS) ∧ wS.leaves (cur wS) (Claims.target (cur wS) { Chain.zero with imm := 15 }) = none ∧
    Able wS opCall r1 [S 127] [] [S 127] ∧ wS.leaves (cur wS) (Claims.target (cur wS) r1) = none ∧
    Able wS opRet r1 [S 127] [S 127] [] ∧ ((cur wS).operand 127).toNat % 2 = 0 ∧ wS.leaves (cur wS) ((cur wS).operand 127) = none ∧
    Able wS opJmpi r2 [S 127, S 8] [S 8] [S 127] ∧ ((cur wS).operand 8).toNat % 2 = 0 ∧ wS.leaves (cur wS) ((cur wS).operand 8) = none ∧
    Able oddS opRet { r1 with a := 8 } [S 8] [S 8] [] ∧ Able oddS opJmpi r2 [S 127, S 8] [S 8] [S 127] ∧ ((cur oddS).operand 8).toNat % 2 = 1 := by
  and_intros <;> first | exact able_of (by decide +kernel) | exact turn_of (by decide +kernel) | decide +kernel

theorem test_witness_ControlRegisters :
    (∀ e ∈ Claims.kregReads, Able wS opGetk { r1 with imm := e.1 } [S 127] [] [S 127] ∧ (cur wS).sup = true) ∧
    (∀ e ∈ Claims.kregReads, e.1 < 0x101 → Able uS opGetk { r1 with imm := e.1 } [S 127] [] [S 127]) ∧
    (∀ e ∈ Claims.kregWrites, Able wS opPutk { r1 with imm := e.1 } [S 127] [S 127] [] ∧ (cur wS).operandUe 127 = [] ∧
      ((cur wS).operand 127).toNat % Claims.baseUnit e.1 = 0 ∧ ((cur wS).operand 127).toNat < (cur wS).space) ∧
    ((cur uS).sup = false ∧ Turn uS opGetk { r1 with imm := 0x101 } (cur uS) ∧ Turn uS opGetk { r1 with imm := 0x104 } (cur uS)) ∧
    (∀ e ∈ Claims.kregWrites, e.2.2 = false → Turn uS opPutk { r1 with imm := e.1 } (cur uS)) := by
  refine ⟨fun e he => ⟨able_of ((by decide +kernel : ∀ e ∈ Claims.kregReads, ableB wS opGetk { r1 with imm := e.1 } _ _ _ = true) e he), rfl⟩,
    fun e he _ => able_of ((by decide +kernel : ∀ e ∈ Claims.kregReads, ableB uS opGetk { r1 with imm := e.1 } _ _ _ = true) e he),
    fun e he => ⟨able_of ((by decide +kernel : ∀ e ∈ Claims.kregWrites, ableB wS opPutk { r1 with imm := e.1 } _ _ _ = true) e he), by decide +kernel,
      (by decide +kernel : ∀ e ∈ Claims.kregWrites, ((cur wS).operand 127).toNat % Claims.baseUnit e.1 = 0) e he, by decide +kernel⟩,
    ⟨rfl, turn_of (by decide +kernel), turn_of (by decide +kernel)⟩,
    fun e he _ => turn_of ((by decide +kernel : ∀ e ∈ Claims.kregWrites, turnB uS opPutk { r1 with imm := e.1 } = true) e he)⟩

theorem test_witness_IllegalAndPrivilegedWordsTrap :
    ((Instr.eret Chain.zero).slotOp = some (opEret, Chain.zero) ∧ opEret.priv = true ∧ (uS.slot uS.o.cur).map Slot.sup = some false ∧
      Chain.zero.legal opEret = true ∧ (cur uS).gangBad opEret Chain.zero = false) ∧
    ((Instr.nop r1).slotOp = some (opNop, r1) ∧ r1.legal opNop = false) ∧
    (uS.slot uS.o.cur).isSome = true ∧ (cur uS).gangBad opVadd { rr with mod := 8, gang := 3 } = true := by
  and_intros <;> first | rfl | decide +kernel

/-- The handler of context 1 serves every cause at offset 64. -/
def handS : State := { wS with
  kn := { kernels := [wordKernel] }
  cx := { ctxs := [(1, { state := .resident, hkid := 1, traptab := List.replicate 32 (true, 64) })] } }

theorem test_witness_TrapAndBreakTrap :
    (Turn uS opTrap { Chain.zero with imm := 65535, nimm := 2 } (cur uS) ∧ Turn uS opBrk Chain.zero (cur uS)) ∧
    (Turn handS opBrk { Chain.zero with imm := 65535, nimm := 2 } (cur handS) ∧ (cur handS).trapc.getLsbD 13 = false ∧
      (handS.ctx (cur handS).ctx).traptab[18]? = some (true, 64) ∧ handS.sealedFor (handS.ctx (cur handS).ctx).hkid (cur handS).ctx = some wordKernel) := by
  and_intros <;> first | exact turn_of (by decide +kernel) | decide +kernel

theorem test_witness_TrapsTaken :
    (slotS.trapc.getLsbD 13 = false ∧ ∀ cause : Cause, (handS.ctx slotS.ctx).traptab[cause.code]? = some (true, 64)) ∧
    handS.sealedFor (handS.ctx slotS.ctx).hkid slotS.ctx = some wordKernel ∧
    ({ slotS with trapc := 0x2000 } : Slot).trapc.getLsbD 13 = true ∧ wS.sealedFor (wS.ctx slotS.ctx).hkid slotS.ctx = none := by
  refine ⟨⟨by decide +kernel, fun cause => by cases cause <;> decide +kernel⟩, ?_⟩
  and_intros <;> decide +kernel

theorem test_witness_TrapReturn : Turn wS opEret Chain.zero (cur wS) ∧ (cur wS).pass = false ∧ (cur wS).epc.getLsbD 0 = false ∧
    Turn (die { slotS with epc := 1 }) opEret Chain.zero (cur (die { slotS with epc := 1 })) ∧ (cur (die { slotS with epc := 1 })).epc.getLsbD 0 = true := by
  and_intros <;> first | exact turn_of (by decide +kernel) | decide +kernel

/-- A slot with a status, at a cycle of its issue position. -/
def held (st : Status) : State := die { slotS with status := st }

theorem test_witness_Waiting :
    Turn wS opYield Chain.zero (cur wS) ∧ Able wS opWaitt r2 [S 127, S 8] [S 8] [S 127] ∧ ((cur wS).operand 8).toNat ≤ wS.now ∧
    Able oddS opWaitt r2 [S 127, S 8] [S 8] [S 127] ∧ oddS.now < ((cur oddS).operand 8).toNat ∧
    ((held (.stalled (.count 1))).slot 0).map Slot.status = some (.stalled (.count 1)) ∧ 1 ≤ (held .ready).t.cycle + 1 ∧ ((held .ready).core 0).sfu = [] ∧
    ((held (.stalled (.yield 1 0))).slot 0).map Slot.status = some (.stalled (.yield 1 0)) ∧
    ((held (.stalled (.time 0 r2))).slot 0).map Slot.status = some (.stalled (.time 0 r2)) ∧ (held .ready).t.cycle % 16 = 0 % 16 ∧ (held .ready).o.cur = 0 ∧
    ((die { slotS with late := some { cause := .page, tval := 0 } }).slot 0).map Slot.late = some (some { cause := .page, tval := 0 }) ∧
    ((die { slotS with results := [{ due := 0, sfu := false, writes := [], flags := 0, ue := [] }] }).slot 0).map (fun x => x.results.length) = some 1 := by
  and_intros <;> first | exact able_of (by decide +kernel) | exact turn_of (by decide +kernel) | decide +kernel

/-! ### Vector instructions -/

/-- Registers of the vector instructions: the first of the main file, and two behind it. -/
def vv (m : Nat) : Chain := { Chain.zero with a := 32, b := 8, c := 63, mod := BitVec.ofNat 7 m }
def v2 (m : Nat) : Chain := { vv m with c := 0 }
/-- A MOD for a lane-wise instruction: f32, else i32; and its lane-0 form where it has one. -/
def laneMod (e : Claims.LaneOp) : Nat := if e.op.modOk 8 then 8 else 0
def laneC (e : Claims.LaneOp) : Chain := if e.three then vv (laneMod e) else v2 (laneMod e)

/-- A group on cores 0 and 1 in gang mode, with a slot on each. -/
def gangS : State := { wS with
  slots := [(0, { slotS with gshape := 0x212 }), (16, { slotS with gshape := 0x212 })]
  gr := { groups := [(0, { ctx := 1, kid := 1, shape := 0x212, cores := [0, 1], slots := [[0], [0]], live := 2 })] } }

theorem test_witness_LaneWiseResults :
    (∀ e ∈ Claims.laneOps, Lanes wS e.op (laneC e) e.three e.readsD) ∧
    (∀ e ∈ Claims.laneOps, e.op.modOk 72 = true → Lanes wS e.op { laneC e with mod := 72 } e.three e.readsD) ∧
    Lanes wS opVadd { vv 8 with lmask := 7 } true false ∧
    (Lanes gangS opVadd { vv 8 with gang := 1 } true false ∧ (gangS.gangPartner 0 (cur gangS) { vv 8 with gang := 1 }).isSome = true) := by
  refine ⟨fun e he => lanes_of ((by decide +kernel : ∀ e ∈ Claims.laneOps, lanesB wS e.op (laneC e) e.three e.readsD = true) e he),
    fun e he => (fun h => lanes_of ((by decide +kernel : ∀ e ∈ Claims.laneOps, e.op.modOk 72 = true →
      lanesB wS e.op { laneC e with mod := 72 } e.three e.readsD = true) e he h)), ?_⟩
  and_intros <;> first | exact lanes_of (by decide +kernel) | decide +kernel

theorem test_witness_LaneElements : (0 : Nat) < 1 ∧ (0 : Nat) < 64 := by decide

theorem test_witness_VectorCompare : Lanes wS opVcmp (vv 8) true false ∧ chainL0 (vv 8) = false ∧ Lanes wS opVcmp (vv 72) true false ∧ chainL0 (vv 72) = true := by
  and_intros <;> first | exact lanes_of (by decide +kernel) | decide +kernel

/-- A register inside the space, as the statements about results ask for it. -/
theorem inside_of {x : Slot} {l : Loc} {n : Nat} (h : (match l with | .main off => decide (off + n ≤ x.space) | _ => true) = true) :
    ∀ off, l = .main off → off + n ≤ x.space := by
  intro off e; subst e; simpa using h

theorem test_witness_ResultsWritten :
    slotS.space ≤ 65536 ∧ (∀ off, (slotS.reg .scalar 127).loc = .main off → off + 8 ≤ slotS.space) ∧
    (∀ off, (slotS.reg .vector 127).loc = .main off → off + 512 ≤ slotS.space) ∧ (2 : Nat) ^ 4096 - 1 < 2 ^ 4096 ∧
    overlaps (slotS.reg .scalar 126).loc 8 (slotS.reg .scalar 127).loc 8 = false ∧
    1 < (Effect.mk [] 0 [] 3 none none).latency ∧
    (∀ j off, j < 2 → (slotS.reg .vector (126 + j)).loc = .main off → off + 512 ≤ slotS.space) := by
  refine ⟨by decide, inside_of (by decide +kernel), inside_of (by decide +kernel), by decide +kernel, by decide +kernel, by decide, fun j off hj => ?_⟩
  have : j = 0 ∨ j = 1 := by omega
  rcases this with rfl | rfl
  · exact inside_of (by decide +kernel) off
  · exact inside_of (by decide +kernel) off

theorem test_witness_WideningAndDotProducts :
    (∀ o ∈ [opVaddw, opVmulw], Able wS o (vv 4) [V 32, V 33, V 8, V 63] [V 8, V 63] [V 32, V 33]) ∧
    (∀ o ∈ [opVaddw, opVmulw], Able wS o (vv 9) [V 32, V 33, V 8, V 63] [V 8, V 63] [V 32, V 33]) ∧
    (∀ o ∈ [opVaddw, opVmulw], Able wS o (vv 11) [V 32, V 33, V 34, V 35, V 8, V 63] [V 8, V 63] [V 32, V 33, V 34, V 35]) ∧
    (∀ o ∈ [opVdot, opVdots], Able wS o (vv 4) [V 32, V 8, V 63] [V 8, V 63, V 32] [V 32]) ∧ (dotScales (cur wS) .i8) = (false, false, false) ∧
    (∀ o ∈ [opVdot, opVdots], Able wS o (vv 13) [V 32, V 8, V 63] [V 8, V 63, V 32, V 6, V 7] [V 32]) ∧ (dotScales (cur wS) .f4) = (true, true, true) ∧
    PartnerUsable wS (cur wS) (vv 4) ((cur wS).reg .vector 8) := by
  refine ⟨fun o ho => able_of ((by decide +kernel : ∀ o ∈ [opVaddw, opVmulw], ableB wS o (vv 4) _ _ _ = true) o ho),
    fun o ho => able_of ((by decide +kernel : ∀ o ∈ [opVaddw, opVmulw], ableB wS o (vv 9) _ _ _ = true) o ho),
    fun o ho => able_of ((by decide +kernel : ∀ o ∈ [opVaddw, opVmulw], ableB wS o (vv 11) _ _ _ = true) o ho),
    fun o ho => able_of ((by decide +kernel : ∀ o ∈ [opVdot, opVdots], ableB wS o (vv 4) _ _ _ = true) o ho), by decide +kernel,
    fun o ho => able_of ((by decide +kernel : ∀ o ∈ [opVdot, opVdots], ableB wS o (vv 13) _ _ _ = true) o ho), by decide +kernel,
    partner_of (by decide +kernel)⟩

/-- VCVT from f32 to bf16, its lane-0 form, and the other way. -/
theorem test_witness_ConversionsComplete :
    Able wS opVcvt { v2 72 with c := 9 } [S 32, S 8] [S 8] [S 32] ∧ chainL0 { v2 72 with c := 9 } = true ∧
    Able wS opVcvt { v2 8 with c := 9 } [V 32, V 8, V 9] [V 8, V 9] [V 32] ∧ chainL0 { v2 8 with c := 9 } = false ∧
    Able wS opVcvt { v2 9 with c := 8 } [V 32, V 33, V 8] [V 8] [V 32, V 33] ∧
    Able wS opVdeq (vv 9) [V 32, V 33, V 34, V 35, V 8, V 63] [V 8, V 63] [V 32, V 33, V 34, V 35] ∧ Lanes wS opVscale (vv 8) true false ∧
    Able wS opVquant (vv 9) [V 32, V 33, V 8, V 9, V 10, V 11, S 63] [S 63, V 8, V 9, V 10, V 11] [V 32, V 33] ∧
    PartnerUsable wS (cur wS) (vv 9) ((cur wS).reg .vector 8) := by
  and_intros <;> first | exact able_of (by decide +kernel) | exact lanes_of (by decide +kernel) | exact partner_of (by decide +kernel) | decide +kernel

theorem test_witness_LaneMovesAndPermutations :
    Able wS opVbcast (v2 8) [V 32, S 8] [S 8] [V 32] ∧ Able wS opVins (vv 8) [V 32, S 8, S 63] [S 8, S 63, V 32] [V 32] ∧
    Able wS opVextr (vv 8) [S 32, V 8, S 63] [V 8, S 63] [S 32] ∧ Able wS opVsel (vv 8) [V 32, V 8, V 63] [V 8, V 63] [V 32] ∧
    Lanes wS opVperm (vv 8) true false ∧ Lanes wS opVshuf (vv 8) true true ∧ Able wS opVrotl (vv 8) [V 32, V 8, S 63] [V 8, S 63] [V 32] ∧
    Able wS opVzip (vv 8) [V 32, V 33, V 8, V 63] [V 8, V 63] [V 32, V 33] ∧ Able wS opVunzip (vv 8) [V 32, V 33, V 8, V 63] [V 8, V 63] [V 32, V 33] ∧
    PartnerUsable wS (cur wS) (vv 8) ((cur wS).reg .vector 8) := by
  and_intros <;> first | exact able_of (by decide +kernel) | exact lanes_of (by decide +kernel) | exact partner_of (by decide +kernel) | decide +kernel

theorem test_witness_ReductionsComplete :
    (∀ n, n < 7 → Able wS opVred { v2 8 with c := BitVec.ofNat 6 n } [S 32, V 8] [V 8] [S 32]) ∧
    (∀ n, n < 7 → Able wS opVscan { v2 8 with c := BitVec.ofNat 6 (8 + n) } [V 32, V 8] [V 8] [V 32]) := by
  refine ⟨fun n hn => able_of ((by decide +kernel : ∀ n, n < 7 → ableB wS opVred { v2 8 with c := BitVec.ofNat 6 n } _ _ _ = true) n hn),
    fun n hn => able_of ((by decide +kernel : ∀ n, n < 7 → ableB wS opVscan { v2 8 with c := BitVec.ofNat 6 (8 + n) } _ _ _ = true) n hn)⟩

/-! ### Memory, versions, tasks, packets -/

/-- Loads and stores: operand B is register 9, whose value is 0; the last bytes of page 0 by the immediate. -/
def mm (m : Nat) (imm : Int) : Chain := { Chain.zero with a := 127, b := 9, mod := BitVec.ofNat 7 m, imm := imm }
def at0 (va len : Nat) : Located := { l := scalarLane va len, pa := va, leaf := leaf0 }
/-- Lanes of a vector access at their places under the leaf of page 0. -/
def lanesAt0 (l : List Lane) : List Located := l.map (fun q => { l := q, pa := q.va, leaf := leaf0 })
def locS : State := { wS with cores := [(0, {})] }

theorem test_witness_LocalMemoryInstructions :
    (cur locS).acqHold = [] ∧ Claims.address (cur locS) (mm 1 0x40000) = 0x40000 ∧ (locS.core 0).xbound = 0x40000 ∧ (locS.core 0).ltop = 0xC0000 ∧
    Able locS opLdl (mm 1 0x40000) [S 127, S 9] [S 9] [S 127] ∧ marked (locS.core 0).ueLoc 0x40000 4 = false ∧
    Able locS opStl (mm 0 0xBFFF8) [S 127, S 9] [S 127, S 9] [] ∧ Claims.address (cur locS) (mm 0 0xBFFF8) + 8 = (locS.core 0).ltop ∧
    (∀ i, i < 128 → ((cur locS).lmaskBits (mm 8 0x40000)).testBit i = true → (Claims.laneAddress (cur locS) (mm 8 0x40000) 0 i).toNat % 4 = 0 ∧
      (locS.core 0).xbound ≤ (Claims.laneAddress (cur locS) (mm 8 0x40000) 0 i).toNat ∧
      (Claims.laneAddress (cur locS) (mm 8 0x40000) 0 i).toNat + 4 ≤ (locS.core 0).ltop) ∧
    Able locS opVldl (mm 8 0x40000) [V 127, S 9] [S 9] [V 127] ∧ Able locS opVstl (mm 8 0x40000) [V 127, S 9] [V 127, S 9] [] := by
  and_intros <;> first | exact able_of (by decide +kernel) | decide +kernel

theorem test_witness_LoadsAndStoresLeave :
    Claims.Unheld wS (cur wS) ∧
    Able wS opLd (mm 3 4095) [S 127, S 9] [S 9] [S 127] ∧ Claims.Reaches wS (cur wS) .load 1 [scalarLane (Claims.address (cur wS) (mm 3 4095)) 1] [at0 4095 1] ∧
    Able wS opSt (mm 0x60 4088) [S 127, S 9] [S 127, S 9] [] ∧
    Claims.Reaches wS (cur wS) .store 8 [scalarLane (Claims.address (cur wS) (mm 0x60 4088)) 8] [at0 4088 8] ∧
    (Able wS opVld (mm 8 0) [V 127, S 9] [S 9] [V 127] ∧ Able wS opVst (mm 8 0) [V 127, S 9] [V 127, S 9] [] ∧
      Claims.Reaches wS (cur wS) .load 4 (Claims.lanes 32 ((cur wS).lmaskBits (mm 8 0)) (Claims.laneAddress (cur wS) (mm 8 0) 0))
        (lanesAt0 (Claims.lanes 32 ((cur wS).lmaskBits (mm 8 0)) (Claims.laneAddress (cur wS) (mm 8 0) 0)))) ∧
    (Able wS opVgath { mm 8 0 with c := 62 } [V 127, S 9, V 62] [S 9, V 62] [V 127] ∧ Able wS opVscat { mm 8 0 with c := 62 } [V 127, S 9, V 62] [V 127, S 9, V 62] [] ∧
      Claims.Reaches wS (cur wS) .load 4 (Claims.lanes 32 ((cur wS).lmaskBits (mm 8 0)) (Claims.laneAddress (cur wS) { mm 8 0 with c := 62 } 1))
        (lanesAt0 (Claims.lanes 32 ((cur wS).lmaskBits (mm 8 0)) (Claims.laneAddress (cur wS) { mm 8 0 with c := 62 } 1)))) ∧
    (Able wS opVlds { mm 8 0 with c := 62 } [V 127, S 9, S 62] [S 9, S 62] [V 127] ∧ Able wS opVsts { mm 8 0 with c := 62 } [V 127, S 9, S 62] [V 127, S 9, S 62] [] ∧
      Claims.Reaches wS (cur wS) .store 4 (Claims.lanes 32 ((cur wS).lmaskBits (mm 8 0)) (Claims.laneAddress (cur wS) { mm 8 0 with c := 62 } 2))
        (lanesAt0 (Claims.lanes 32 ((cur wS).lmaskBits (mm 8 0)) (Claims.laneAddress (cur wS) { mm 8 0 with c := 62 } 2)))) := by
  and_intros <;> first | exact able_of (by decide +kernel) | exact reaches_of (by decide +kernel) | decide +kernel

/-- A load and a store of the page's first 8 bytes by a slot of a core whose L1 is empty. -/
theorem test_witness_AccessesAreRequested : (wS.core 0).l1 = [] ∧ (Kind.mk true false false false false).ordered = true ∧ at0 0 8 ∈ [at0 0 8] ∧ 0 < wS.o.nextId := by
  and_intros <;> decide +kernel

theorem test_witness_AtomicsAndFences :
    Claims.Unheld wS (cur wS) ∧ Able wS opAmo { mm 8 4088 with c := 63 } [S 127, S 9, S 63] [S 9, S 63] [S 127] ∧
    Claims.Reaches wS (cur wS) .atomic 8 [scalarLane (Claims.address (cur wS) (mm 8 4088)) 8] [at0 4088 8] ∧ leafE leaf0 = false ∧
    Able wS opCas { mm 0x10 4092 with c := 63 } [S 127, S 9, S 63] [S 9, S 63, S 127] [S 127] ∧
    Claims.Reaches wS (cur wS) .atomic 4 [scalarLane (Claims.address (cur wS) (mm 0x10 4092)) 4] [at0 4092 4] ∧
    Turn wS opFence { Chain.zero with mod := 4 } (cur wS) ∧ wS.fenceWaits 0 0 4 = false ∧
    ({ wS with deps := [(7, { sid := 0, dst := .lat, len := 8, mask := 0, isLoad := true })] } : State).fenceWaits 0 2 4 = true := by
  and_intros <;> first | exact able_of (by decide +kernel) | exact turn_of (by decide +kernel) | exact reaches_of (by decide +kernel) | decide +kernel

theorem test_witness_AccessesTrap :
    Claims.Unheld locS (cur locS) ∧
    Able locS opLd (mm 0 1) [S 9, S 127] [S 9] [S 127] ∧ Able locS opSt (mm 0 1) [S 9, S 127] [S 9, S 127] [] ∧
    Able locS opAmo { mm 8 7 with c := 63 } [S 9, S 63, S 127] [S 9, S 63] [S 127] ∧
    Able locS opCas { mm 0 7 with c := 63 } [S 9, S 63, S 127, S 127] [S 9, S 63, S 127] [S 127] ∧
    Able locS opLdl (mm 0 1) [S 9, S 127] [S 9] [S 127] ∧ Able locS opStl (mm 0 1) [S 9, S 127] [S 9, S 127] [] ∧
    Claims.address (cur locS) (mm 0 1) % Claims.width 0 ≠ 0 ∧
    (Claims.address (cur locS) (mm 0 0x3FFF8) % 8 = 0 ∧ Claims.address (cur locS) (mm 0 0x3FFF8) < (locS.core 0).xbound) ∧
    Claims.address (cur locS) (mm 0 0xC0000) % 8 = 0 ∧ (locS.core 0).ltop < Claims.address (cur locS) (mm 0 0xC0000) + 8 := by
  and_intros <;> first | exact able_of (by decide +kernel) | decide +kernel

theorem test_witness_VersionInstructionsLeave :
    Claims.Unheld wS (cur wS) ∧ (Able wS opVopen { rr with mod := 1 } [S 16, S 8, S 63] [S 16, S 8, S 63] [] ∧ ((cur wS).operand 16).toNat % 2 ^ 32 ≠ 0xFFFFFFFF) ∧
    (Able wS opStv rr [V 16, S 8, S 63] [V 16, S 8, S 63] [] ∧ Able wS opStv { rr with mod := 1 } [(.tile, 16), S 8, S 63] [(.tile, 16), S 8, S 63] [] ∧
      ((cur wS).operand 63).toNat % 4096 = 0) ∧
    Able wS opVseal r1 [S 127] [S 127] [] ∧ Able wS opVacc rr [V 16, S 8, S 63] [V 16, S 8, S 63] [] ∧
    (∀ o ∈ [opVref, opVrel], Able wS o r2 [S 127, S 8] [S 127, S 8] []) ∧
    Able wS opLdv { rr with mod := 6 } [V 16, S 8, S 63] [S 8, S 63] [V 16] ∧ Able wS opLdv { rr with mod := 7 } [(.tile, 16), S 8, S 63] [S 8, S 63] [(.tile, 16)] ∧
    Able wS opLdvl { rr with mod := 6 } [S 16, S 8, S 63] [S 8, S 63] [S 16] ∧
    Able wS opVprobe r2 [S 127, S 8] [S 8] [S 127] ∧ Able wS opVname r2 [S 127, S 8] [S 8] [S 127] := by
  refine ⟨⟨by decide +kernel, by decide +kernel⟩, ⟨able_of (by decide +kernel), by decide +kernel⟩, ?_, able_of (by decide +kernel), able_of (by decide +kernel),
    fun o ho => able_of ((by decide +kernel : ∀ o ∈ [opVref, opVrel], ableB wS o r2 _ _ _ = true) o ho), ?_⟩ <;> and_intros <;>
    first | exact able_of (by decide +kernel) | decide +kernel

/-- A die whose context 1 has name range 0 at home and a version with handle 0. -/
def msgOf (op : MsgOp) : Msg := { sid := none, ctx := 1, user := false, op := op, pa := 0, after := [], dep := none }
def verS (l : List Version) (m : Msg) : State := { State.reset with
  msgs := [(5, m)], deps := [(6, { sid := 0, dst := .lat, len := 8, mask := 0 })], vs := { versions := l }, o := { nextId := 9 }
  cx := { ctxs := [(1, { state := .resident, nsmap := [some 0] })] } }
def v0 : Version := { ctx := 1, handle := 0, state := .vopen, g := 1 }

/-- The message is due at its home, and the version stands as said. -/
structure DueAt (l : List Version) (m : Msg) : Prop where
  due : Claims.Due (verS l m) 5 m
  home : (verS l m).nameHome m.ctx 0 = .own
def dueB (l : List Version) (m : Msg) : Bool := decide ((verS l m).ready 5 = some m) && decide ((verS l m).nameHome m.ctx 0 = .own)
theorem due_of {l : List Version} {m : Msg} (h : dueB l m = true) : DueAt l m := by
  simp only [dueB, Bool.and_eq_true, decide_eq_true_eq] at h; exact ⟨h.1, h.2⟩

def mOpen : Msg := { msgOf (.vopen 0 63 4095 false 0 false) with stalls := true }
def mStore : Msg := msgOf (.vstore 0 3584 512 (2 ^ 4096 - 1) false)
def mSeal : Msg := msgOf (.vseal 0 false true 63)
def mAcc : Msg := msgOf (.vacc 0 0 7 1 false)
def mRef : Msg := msgOf (.vref 0 4095 false)
def mRel : Msg := msgOf (.vrel 0 1 false)
/-- An entry for which a load has asked before the version is open. -/
def vAbs : Version := { v0 with state := .absent }
def vAcc : Version := { v0 with acc := true, n := 1 }
def vDone : Version := { v0 with state := .complete, sealed := true, count := 1 }

theorem test_witness_VersionRequestsAtHome :
    (DueAt [vAbs] mOpen ∧ ((verS [vAbs] mOpen).versionOrNew 1 0).state = .absent ∧
      (verS [vAbs] mOpen).granulesUsed (slotSlice ((verS [vAbs] mOpen).versionOrNew 1 0).slot) + ((63 : Word).toNat % 64 + 1) ≤
        (verS [vAbs] mOpen).wayGranules (slotSlice ((verS [vAbs] mOpen).versionOrNew 1 0).slot) ∧ (verS [vAbs] mOpen).entryNeed 1 0 = 0 ∧ mOpen.stalls = true) ∧
    (DueAt [v0] mStore ∧ (verS [v0] mStore).version 1 0 = some v0 ∧ v0.state = .vopen ∧ v0.acc = false ∧ 3584 + 512 ≤ 4096 * v0.g) ∧
    DueAt [v0] mSeal ∧ (DueAt [vAcc] mAcc ∧ vAcc.acc = true ∧ 0 < vAcc.n ∧ vAcc.arrived.contains 0 = false ∧ 512 * (7 + 1) ≤ 4096 * vAcc.g) ∧
    (DueAt [v0] mRef ∧ v0.manual = false ∧ v0.count + 4095 ≤ 4095) ∧ (DueAt [vDone] mRel ∧ vDone.state = .complete ∧ vDone.manual = false) ∧
    DueAt [v0] (msgOf (.vprobe 0)) := by
  and_intros <;> first | exact due_of (by decide +kernel) | decide +kernel

def vDead : Version := { v0 with state := .dead }
def mLoad : Msg := { msgOf (.vload 0 { off := 3584, size := 512, cons := true, pt := false, replay := false } 0) with dep := some 6 }

theorem test_witness_VersionLoadsAndRefusals :
    (DueAt [] mStore ∧ (verS [] mStore).version 1 0 = none) ∧ DueAt [vDone] mStore ∧ (DueAt [vAcc] mStore ∧ vAcc.acc = true) ∧
    (DueAt [v0] (msgOf (.vstore 0 3585 512 0 false)) ∧ 4096 * v0.g < 3585 + 512) ∧ DueAt [] mSeal ∧ DueAt [vAcc] mSeal ∧
    (DueAt [vAcc] (msgOf (.vacc 0 1 0 0 false)) ∧ vAcc.n ≤ 1 ∧ vAcc.arrived.contains 1 = false) ∧
    (DueAt [{ vAcc with arrived := [0] }] (msgOf (.vacc 0 0 0 0 true)) ∧ ({ vAcc with arrived := [0] } : Version).arrived.contains 0 = true) ∧
    DueAt [vDead] mRef ∧ (DueAt [{ v0 with count := 1 }] mRef ∧ 4095 < ({ v0 with count := 1 } : Version).count + 4095) ∧ DueAt [v0] mOpen ∧
    (DueAt [v0] mLoad ∧ (kget (verS [v0] mLoad).deps 6).isSome = true) ∧
    (DueAt [vDone] mLoad ∧ (verS [vDone] mLoad).loadRoom 1 0 = true ∧ vDone.poisonDead = false ∧ vDone.manual = false ∧ 3584 + 512 ≤ 4096 * vDone.g) ∧
    DueAt [vDone] { msgOf (.vload 0 { off := 3585, size := 512, cons := false, pt := false, replay := false } 0) with dep := some 6 } := by
  and_intros <;> first | exact due_of (by decide +kernel) | decide +kernel

def mName (n : Nat) : Msg := msgOf (.vname n 0)

theorem test_witness_VersionSteps :
    (v0.state = .vopen ∧ v0.waiters = [] ∧ (verS [v0] mSeal).version v0.ctx v0.handle = some v0) ∧
    (Claims.Due (verS [] (mName 4096)) 5 (mName 4096) ∧ (verS [] (mName 1)).rangeHome 1 0 = .own ∧
      kgetD (verS [] (mName 1)).vs.names 16 0 + 4096 ≤ 0x0FFFFFFF ∧
      0x0FFFFFFF < kgetD ({ verS [] (mName 1) with vs := { names := [(16, 0x0FFFFFFF)] } } : State).vs.names 16 0 + 1) ∧
    (vDead.state = .dead ∧ ({ verS [vDead] mSeal with msgs := [], deps := [] } : State).reclaimDone 1 0 = true) ∧
    (verS [vDone] mSeal).version 1 0 = some vDone ∧ 4095 < 4096 * vDone.g ∧ (verS [vDone] mSeal).hl.mlog.length < 64 := by
  and_intros <;> first | exact (by decide +kernel : (verS [] (mName 4096)).ready 5 = some (mName 4096)) | decide +kernel

/-- No load waits for the version, whichever slice its name has. -/
theorem room0 : (verS [v0] mLoad).loadRoom 1 0 = true := by
  have h : ∀ i, (verS [v0] mLoad).waiterRecs i = 0 := fun i => by
    simp only [State.waiterRecs, verS, List.filter_cons, List.filter_nil]
    split <;> simp [v0]
  unfold State.loadRoom
  rw [h]
  decide +kernel

/-- A die with one READY pulled task of context 1 in entry 3. -/
def pullRec : Nat := 2 ^ 7
def readyE : PoolEntry := { state := .ready, ctx := 1, record := pullRec, counter := 0 }
def pullS : State := { wS with pl := { pool := [(3, readyE)] } }
def g1 : Group := { ctx := 1, kid := 1, shape := 0x11, cores := [0], slots := [[0]], live := 1 }
def groupS (n : Nat) : State := { wS with gr := { groups := [(0, { g1 with live := n })] } }

/-- A slot that has pulled tasks 5 and 6; another NEXT of its context waits in `queueS`. -/
def heldS : State := { pullS with slots := [(0, { slotS with pulled := true, task := 5, tasks := [6] })] }
def nextMsg : Msg := { msgOf (.next true) with stalls := false }
def queueS : State := { pullS with msgs := [(0, nextMsg)], pl := { pullS.pl with nexts := [0] } }

theorem notQueued_of {s : State} {ctx : Nat} (h : s.pl.nexts = []) : ¬ Claims.Queued s ctx := by
  rintro ⟨r, hr, -⟩; rw [h] at hr; cases hr

/-- What NEXT does first at each of them. -/
def dropped (s : State) : State × Slot :=
  (s.retireAll (heldTasks (cur s).tasks (cur s).pulled (cur s).task),
   if (cur s).pulled then { cur s with pulled := false, tasks := [], task := 0, fmt := 0, band := 0, sca := 0, scb := 0 } else cur s)

theorem test_witness_TaskInstructions :
    Claims.Unheld wS (cur wS) ∧ Able wS opTask r2 [S 127, V 8] [V 8] [S 127] ∧ wS.recordBad 1 pullRec = none ∧ wS.recordBad 1 4 = some 1 ∧
    (∀ s ∈ [pullS, heldS], Able s opNext r1 [S 127] [] [S 127] ∧ (dropped s).1.pl.nexts = [] ∧ (dropped s).1.qualifying 1 true = [3] ∧
      Claims.Dropped s (cur s) (dropped s).1 (dropped s).2) ∧
    (Able queueS opNext r1 [S 127] [] [S 127] ∧ Claims.Queued (dropped queueS).1 1 ∧ Claims.Dropped queueS (cur queueS) (dropped queueS).1 (dropped queueS).2) ∧
    (Able wS opNext { r1 with mod := 1 } [S 127] [] [S 127] ∧ (dropped wS).1.qualifying 1 true = []) ∧
    Turn (groupS 1) opExit Chain.zero (cur (groupS 1)) ∧ kget (groupS 1).gr.groups (cur (groupS 1)).group = some { g1 with live := 1 } ∧
    Turn (groupS 2) opExit Chain.zero (cur (groupS 2)) ∧ kget (groupS 2).gr.groups (cur (groupS 2)).group = some { g1 with live := 2 } ∧
    (cur (groupS 2)).acqHold = [] := by
  refine ⟨⟨by decide +kernel, by decide +kernel⟩, able_of (by decide +kernel), by decide +kernel, by decide +kernel, fun s hs => ?_,
    ⟨able_of (by decide +kernel), ⟨0, by decide +kernel, nextMsg, by decide +kernel⟩, rfl, rfl⟩, ?_⟩
  · refine ⟨able_of ((by decide +kernel : ∀ s ∈ [pullS, heldS], ableB s opNext r1 [S 127] [] [S 127] = true) s hs), ?_, ?_, rfl, rfl⟩
    · exact (by decide +kernel : ∀ s ∈ [pullS, heldS], (dropped s).1.pl.nexts = []) s hs
    · exact (by decide +kernel : ∀ s ∈ [pullS, heldS], (dropped s).1.qualifying 1 true = [3]) s hs
  · and_intros <;> first | exact able_of (by decide +kernel) | exact turn_of (by decide +kernel) | decide +kernel

/-- A die whose slot 15 of core 0 is a spill slot of context 1, its turn being. -/
def spillS : State := { State.reset with
  slots := [(15, { slotS with kid := 2 })], o := { cur := 15, nextId := 1 }, cx := { ctxs := [(1, { state := .resident, spkid := 2 })] } }
def entry0 : InboxEntry := { ctx := 1, header := 0x80000000000, words := [7] }
/-- Its heap of one image, with one packet from `h` on, and the inbox holds `l`; page 0 is translated. -/
def heapS (h t : Nat) (l : List InboxEntry) : State := { spillS with
  cores := [(0, { inbox := l, heap := [(1, (h, t))] })], cx := { ctxs := [(1, { state := .resident, spkid := 2, ihsize := 1 })] } }
def atHeap (h t : Nat) (l : List InboxEntry) (i : Nat) : Located :=
  { l := Claims.heapLane (heapS h t l) (cur (heapS h t l)) i, pa := 0, leaf := leaf0 }
def fifteen : Slot := { slotS with openPkt := some { target := 0, header := 0, words := List.replicate 15 0, since := some 0 } }
def inboxS : State := { wS with cores := [(0, { inbox := [entry0] })] }
def ownS (l : Nat) : State := die { slotS with owned := some { entry0 with words := List.replicate l 0 } }

theorem test_witness_PacketInstructions :
    (cur wS).acqHold = [] ∧ Able wS opSend r2 [S 127, S 8] [S 127, S 8] [] ∧ Able wS opSend { r2 with mod := 1 } [S 127, S 8] [S 127, S 8] [] ∧
    (Turn spillS opSendLb { Chain.zero with mod := 2 } (cur spillS) ∧ spillS.isSpill 15 (cur spillS) = true ∧ (spillS.core 0).heapLen 1 = 0) ∧
    (Able (die fifteen) opSend r2 [S 127, S 8] [S 127, S 8] [] ∧ fifteen.openPkt.map (fun q => q.words.length) = some 15) ∧
    (Turn (heapS 0 1 []) opSendLb { Chain.zero with mod := 2 } (cur (heapS 0 1 [])) ∧ (heapS 0 1 []).isSpill 15 (cur (heapS 0 1 [])) = true ∧
      ((heapS 0 1 []).core 0).heapLen 1 ≠ 0 ∧ ((heapS 0 1 []).core 0).heapOf 1 = (0, 1) ∧
      Claims.Reaches (heapS 0 1 []) (cur (heapS 0 1 [])) .load 1 [Claims.heapLane (heapS 0 1 []) (cur (heapS 0 1 [])) 0] [atHeap 0 1 [] 0]) ∧
    (Turn wS opSendLb { Chain.zero with mod := 2 } (cur wS) ∧ Turn wS opRecvSp { r1 with mod := 2 } (cur wS)) ∧
    (∀ h, h ∈ [0, 1] → Able (heapS h 1 [entry0]) opRecvSp { r1 with mod := 2 } [S 127] [] [S 127] ∧
      (((heapS h 1 [entry0]).core 0).oldest 1 (fun _ => true)).map Prod.fst = some entry0) ∧
    (((heapS 0 1 [entry0]).ctx 1).ihsize ≤ ((heapS 0 1 [entry0]).core 0).heapLen 1 ∧ ((heapS 1 1 [entry0]).core 0).heapLen 1 < ((heapS 1 1 [entry0]).ctx 1).ihsize ∧
      ((heapS 1 1 [entry0]).core 0).heapOf 1 = (1, 1) ∧
      Claims.Reaches (heapS 1 1 [entry0]) (cur (heapS 1 1 [entry0])) .store 1 [Claims.heapLane (heapS 1 1 [entry0]) (cur (heapS 1 1 [entry0])) 1] [atHeap 1 1 [entry0] 1]) ∧
    Claims.Unheld wS (cur wS) ∧ (Able inboxS opRecvH { r1 with mod := 1 } [S 127] [] [S 127] ∧ ((inboxS.core 0).oldest 1 (fun e => !e.isDesc)).map Prod.fst = some entry0) ∧
    (Able wS opRecvH { r1 with mod := 5 } [S 127] [] [S 127] ∧ ((wS.core 0).oldest 1 (fun e => !e.isDesc)) = none) ∧ Able wS opRecvH { r1 with mod := 1 } [S 127] [] [S 127] ∧
    Able wS opRecvW r1 [S 127] [] [S 127] ∧ (Able (ownS 1) opRecvW r1 [S 127] [] [S 127] ∧ (cur (ownS 1)).owned = some { entry0 with words := [0] }) ∧
    Able (ownS 2) opRecvW r1 [S 127] [] [S 127] ∧ (Able spillS opRecvSp { r1 with mod := 2 } [S 127] [] [S 127] ∧ (spillS.core 0).oldest 1 (fun _ => true) = none) ∧
    Able wS opRecvSt { r1 with mod := 3 } [S 127] [] [S 127] ∧ wS.isSpill 0 (cur wS) = false := by
  and_intros <;> first | exact fun h hh => ⟨able_of ((by decide +kernel : ∀ h ∈ [0, 1], ableB (heapS h 1 [entry0]) opRecvSp { r1 with mod := 2 } [S 127] [] [S 127] = true) h hh),
      (by decide +kernel : ∀ h ∈ [0, 1], (((heapS h 1 [entry0]).core 0).oldest 1 (fun _ => true)).map Prod.fst = some entry0) h hh⟩ |
    exact reaches_of (by decide +kernel) | exact able_of (by decide +kernel) | exact turn_of (by decide +kernel) | decide +kernel

/-- Page 0 is mapped to the ports of FIFO 0. -/
def portS : State := die { slotS with xlat := [{ vpn := 0, fault := none, leaf := leafPort }] }
def atPort : Located := { l := scalarLane 0 8, pa := 0x20002000000, leaf := leafPort }

/-- A slot with a store on its way. -/
def behindS : State := { wS with msgs := [(0, { msgOf (.store [] 0) with isStore := true, sid := some 0 })] }

theorem test_witness_EngineAndFabricInstructionsLeave :
    Claims.Unheld portS (cur portS) ∧ (Able portS opPushe r2 [S 127, S 8] [S 127, S 8] [] ∧
      Claims.Reaches portS (cur portS) .store 8 [scalarLane ((cur portS).operand 127).toNat 8] [atPort] ∧ leafE leafPort = true) ∧
    (Able portS opPope r2 [S 127, S 8] [S 8] [S 127] ∧ Claims.Reaches portS (cur portS) .load 8 [scalarLane ((cur portS).operand 8).toNat 8] [atPort]) ∧
    Able wS opRld (mm 3 0) [S 127, S 9] [S 9] [S 127] ∧ Able wS opRst (mm 0 0) [S 127, S 9] [S 127, S 9] [] ∧ Able wS opRst (mm 0x10 0) [S 127, S 9] [S 127, S 9] [] ∧
    Able wS opRamo { mm 0x68 0 with c := 63 } [S 127, S 9, S 63] [S 9, S 63] [S 127] ∧
    (Able (die { slotS with file := 0x7000000000000000 }) opMcst { rr with c := 8, b := 9 } [V 16, S 9, S 8] [V 16, S 9, S 8] [] ∧
      0 < ((cur (die { slotS with file := 0x7000000000000000 })).operand 8).toNat / 2 ^ 60 % 8 ∧
      Claims.Reaches (die { slotS with file := 0x7000000000000000 }) (cur (die { slotS with file := 0x7000000000000000 })) .store 512
        [{ lane := 0, va := 0, len := 512, bit := 0, bits := 4096 }] [{ l := { lane := 0, va := 0, len := 512, bit := 0, bits := 4096 }, pa := 0, leaf := leaf0 }]) ∧
    (Able wS opMcst { rr with c := 8, b := 9 } [V 16, S 9, S 8] [V 16, S 9, S 8] [] ∧ ((cur wS).operand 8).toNat / 2 ^ 60 % 8 = 0 ∧
      Claims.Reaches wS (cur wS) .store 512 [{ lane := 0, va := 0, len := 512, bit := 0, bits := 4096 }] [{ l := { lane := 0, va := 0, len := 512, bit := 0, bits := 4096 }, pa := 0, leaf := leaf0 }]) ∧
    (Able wS opGett r2 [S 127, S 8] [S 8] [S 127] ∧ ((cur wS).operand 8).getLsbD 16 = false) ∧
    (∀ s ∈ [wS, behindS], Able s opGett { r2 with mod := 1 } [S 127, S 8] [S 8] [S 127]) ∧ wS.fenceWaits 0 2 4 = false ∧ behindS.fenceWaits 0 2 4 = true ∧
    Able (die { slotS with file := 0x10000 }) opGett r2 [S 127, S 8] [S 8] [S 127] ∧ ((cur (die { slotS with file := 0x10000 })).operand 8).getLsbD 16 = true := by
  and_intros <;> first | exact fun s hs => able_of ((by decide +kernel : ∀ s ∈ [wS, behindS], ableB s opGett { r2 with mod := 1 } [S 127, S 8] [S 8] [S 127] = true) s hs) | exact able_of (by decide +kernel) | exact reaches_of (by decide +kernel) | decide +kernel

/-! ### Passage, barriers, the supervisor's instructions -/

/-- A passage kernel with the segments [0, 64) and [64, 128), and a slot in the first; the second operand value is a target. -/
def passK : Kernel := { wordKernel with pass := true, segments := [{ off := 0, len := 64, cores := [0] }, { off := 64, len := 64, cores := [1] }] }
def passS (t : Nat) : State := { die { slotS with pass := true, file := BitVec.ofNat 524288 t } with kn := { kernels := [passK] } }
def pc0 : Chain := { Chain.zero with a := 8, c := 63, mod := 1, imm := 256 }

/-- The same with o7 empty, and with a result for o7 not yet written and k.chk set. -/
def openS : State := { passS 64 with slots := [(0, { slotS with pass := true, file := 64, oEmpty := 0x80 })] }
def shortS : State := { passS 64 with slots := [(0, { slotS with pass := true, file := 64, chk := true
                                                                 results := [{ due := 40, sfu := false, flags := 0, ue := [], writes := [{ dst := .o 7, bits := 64, mask := ones 64, value := 1 }] }] })] }

theorem test_witness_PassComplete :
    (Able wS opPass { pc0 with c := 63 } [S 63, S 8] [S 8] [S 63] ∧ (cur wS).pass = false) ∧
    (Able (passS 1) opPass pc0 [S 63, S 8] [S 8] [S 63] ∧ (cur (passS 1)).pass = true ∧ ((cur (passS 1)).operand 8).getLsbD 0 = true) ∧
    (Able (passS 62) opPass pc0 [S 63, S 8] [S 8] [S 63] ∧ ((cur (passS 62)).operand 8).getLsbD 0 = false ∧ (passS 62).leaves (cur (passS 62)) ((cur (passS 62)).operand 8) = none) ∧
    (Able (passS 64) opPass pc0 [S 63, S 8] [S 8] [S 63] ∧ (passS 64).leaves (cur (passS 64)) ((cur (passS 64)).operand 8) = some passK ∧
      passK.segmentAt 64 = some 1 ∧ (cur (passS 64)).firstOpen (8 * 256) = none ∧ (cur (passS 64)).shortShip (8 * 256) = none) ∧
    (Able openS opPass pc0 [S 63, S 8] [S 8] [S 63] ∧ openS.leaves (cur openS) ((cur openS).operand 8) = some passK ∧
      (cur openS).firstOpen (8 * 256) = some (.oreg 7)) ∧
    (Able shortS opPass pc0 [S 63, S 8] [S 8] [S 63] ∧ shortS.leaves (cur shortS) ((cur shortS).operand 8) = some passK ∧
      (cur shortS).firstOpen (8 * 256) = none ∧ (cur shortS).shortShip (8 * 256) = some 7) ∧
    Able (passS 128) opPass pc0 [S 63, S 8] [S 8] [S 63] ∧ (passS 128).leaves (cur (passS 128)) ((cur (passS 128)).operand 8) = some passK ∧
      passK.segmentAt 128 = none := by
  and_intros <;> first | exact able_of (by decide +kernel) | decide +kernel

/-- A slot with 512 deposits outstanding. -/
def fullS : State := { wS with deps := (List.range 512).map (fun i => (i, { sid := 0, dst := .lat, len := 8, mask := 0 })) }

theorem test_witness_BarrierInstructionsLeave :
    (Able wS opBari rr [S 16, S 8, S 63] [S 16, S 8, S 63] [] ∧ (cur wS).noBarrier ((cur wS).operand 16) = false) ∧
    (Able (die { slotS with pass := true }) opBari rr [S 16, S 8, S 63] [S 16, S 8, S 63] [] ∧ (cur (die { slotS with pass := true })).noBarrier 0 = true) ∧
    Able wS opBariClr { r1 with mod := 1 } [S 127] [S 127] [] ∧ Claims.Roomy wS ∧ bhDie ((cur wS).operand 8) = false ∧
    (∀ o ∈ [opBara, opBarw, opBarq, opBarx], Turn fullS o r2 (cur fullS)) ∧ ¬ Claims.Roomy fullS ∧
    (∀ o ∈ [opBara, opBarq, opBarx], Able wS o r2 [S 127, S 8] [S 8] [S 127]) ∧ (cur wS).noBarrier 31 = false ∧ (cur wS).noBarrier 32 = true ∧
    bhDie ((cur (die { slotS with file := 0x10000000000 })).operand 8) = true ∧ Able wS opBarw r2 [S 127, S 8] [S 8, S 127] [S 127] := by
  refine ⟨?_, ?_, able_of (by decide +kernel), (by decide +kernel : (wS.deps.filter (fun p => p.2.sid == wS.o.cur && p.2.len != 0)).length < 512), ?_,
    fun o ho => turn_of ((by decide +kernel : ∀ o ∈ [opBara, opBarw, opBarq, opBarx], turnB fullS o r2 = true) o ho),
    (by decide +kernel : ¬ (fullS.deps.filter (fun p => p.2.sid == fullS.o.cur && p.2.len != 0)).length < 512),
    fun o ho => able_of ((by decide +kernel : ∀ o ∈ [opBara, opBarq, opBarx], ableB wS o r2 _ _ _ = true) o ho), ?_⟩ <;> and_intros <;>
    first | exact able_of (by decide +kernel) | decide +kernel

/-- A die whose context 0 is RESIDENT with a slot, or SAVED with an image. -/
def saved0 : Saved := { sid := 5, ctx := 0, order := 0, slot := {}, size := 0, deps := [], drawn := 0 }
def cmdS (st : CState) : State := { wS with
  slots := [(0, slotS), (5, {})], cx := { ctxs := [(0, { state := st })], saved := [saved0] } }

/-- Context 0 has neither a slot nor an image. -/
def goneS (st : CState) : State := { wS with cx := { ctxs := [(0, { state := st })] } }

theorem test_witness_SupervisorInstructionsComplete :
    (cur wS).acqHold = [] ∧ Able wS opTlbi r2 [S 127, S 8] [S 127, S 8] [] ∧ Able wS opTlbi { r2 with a := 0, mod := 5 } [S 8] [S 8] [] ∧
    Able wS opTlbi { Chain.zero with mod := 2 } [] [] [] ∧ Claims.Unheld wS (cur wS) ∧
    (∀ o ∈ [opSaves, opRests], Able (cmdS .resident) o r2 [S 127, S 8] [S 8] [S 127]) ∧ (cmdS .resident).ctxRefusal 1 0 .saved = some (2 ^ 63 + 1) ∧
    ((0 : Nat) ≠ (cur (cmdS .resident)).ctx ∧ ((cmdS .resident).ctx 0).busy = false ∧ ((cmdS .resident).ctx 0).state = .resident ∧
      (cmdS .resident).slots.any (fun p => p.2.ctx == 0) = true) ∧ (((cmdS .saved).ctx 0).state = .saved ∧ (cmdS .saved).cx.saved.any (fun v => v.ctx == 0) = true) ∧
    (∀ st ∈ [CState.resident, CState.saved], (0 : Nat) ≠ (cur (goneS st)).ctx ∧ ((goneS st).ctx 0).busy = false ∧ ((goneS st).ctx 0).state = st ∧
      (goneS st).slots.any (fun p => p.2.ctx == 0) = false ∧ (goneS st).cx.saved.any (fun v => v.ctx == 0) = false) ∧
    (∀ st i, ((goneS st).core i).oldest 0 (fun _ => true) = none) ∧
    Able wS opPair { r2 with b := 9 } [S 127, S 9] [S 9] [S 127] ∧ ((cur wS).operand 9).toNat / 2 ^ 16 % 128 ≤ 64 ∧
    64 < ((cur (die { slotS with file := 0x410000 })).operand 8).toNat / 2 ^ 16 % 128 ∧ (wS.ctx 0).state = .free ∧ ((cmdS .resident).ctx 0).state ≠ .free ∧
    ((cmdS .resident).ctx 0).state ≠ .retired ∧ Turn uS opThint { Chain.zero with imm := 7 } (cur uS) := by
  refine ⟨by decide +kernel, able_of (by decide +kernel), able_of (by decide +kernel), able_of (by decide +kernel), ⟨by decide +kernel, by decide +kernel⟩,
    fun o ho => able_of ((by decide +kernel : ∀ o ∈ [opSaves, opRests], ableB (cmdS .resident) o r2 _ _ _ = true) o ho), ?_⟩ <;> and_intros <;>
    first | exact able_of (by decide +kernel) | exact turn_of (by decide +kernel) | exact fun st i => rfl | decide +kernel

/-! ### Requests at home, answers, walks -/

/-- A die of 1 GiB with one request. -/
def reqS (m : Msg) : State := { verS [] m with idn := { memGib := 1 } }
def piece (pa n : Nat) : Piece := { pa := pa, bit := 0, bits := 8 * n, high := false, lane := 0, va := 0, poison := false }
def lastPa : Nat := 2 ^ 30 - 8
def memMsg (op : MsgOp) : Msg := { msgOf op with pa := lastPa, dep := some 6 }
def memDue (op : MsgOp) : Prop := (reqS (memMsg op)).ready 5 = some (memMsg op) ∧ Claims.Plain (reqS (memMsg op)) (piece lastPa 8) lastPa 8

theorem test_witness_MemoryRequestsAtHome :
    memDue (.load [piece lastPa 8] none) ∧ memDue (.store [piece lastPa 8] 1) ∧ memDue (.amo (amoOpOf 8) 8 (2 ^ 64 - 1)) ∧ memDue (.amo (.cas 0) 8 (2 ^ 64 - 1)) ∧ (memMsg (.gett 0)).stalls = false ∧
    (reqS (memMsg (.gett 0))).isOwn (lastPa / 2 ^ 42) = true ∧ marked (reqS (memMsg (.gett 0))).ueMem lastPa 8 = false ∧
    kget (reqS (memMsg (.gett 0))).deps 6 = some { sid := 0, dst := .lat, len := 8, mask := 0 } := by
  unfold memDue Claims.Plain; decide +kernel

theorem test_witness_MemoryReadsBack : Memory.wf [(0, 1), (2 ^ 64, 255)] = true ∧ Memory.wf [] = true := by decide +kernel

def dep0 : Dep := { sid := 0, dst := .main 65528, len := 8, mask := 2 ^ 64 - 1, value := 5, outstanding := 0 }
def depS (z : Dep) : State := { wS with deps := [(7, z)] }
def ansMsg (op : MsgOp) (code : Nat) : Msg := { msgOf op with sid := some 0, answer := some code, stalls := true }
def ansS (op : MsgOp) (code : Nat) : State := { die { slotS with status := .stalled (.answer 5 2 16), xlat := [] } with msgs := [(5, ansMsg op code)] }

theorem test_witness_AnswersArrive :
    (kget (depS dep0).deps 7 = some dep0 ∧ (depS dep0).slot dep0.sid = some slotS ∧ dep0.outstanding = 0 ∧ dep0.sid < 2304 ∧ dep0.dst = .main 65528 ∧
      65528 + dep0.len ≤ 65536 ∧ dep0.nack = none ∧ dep0.fault = none ∧ dep0.sx = none ∧ dep0.task = none ∧ slotS.late = none) ∧
    (kget (depS { dep0 with dst := .o 7 }).deps 7 = some { dep0 with dst := .o 7 } ∧ kget (depS { dep0 with dst := .o 0, len := 512 }).deps 7 =
      some { dep0 with dst := .o 0, len := 512 }) ∧
    kget (depS { dep0 with nack := some (0, 3) }).deps 7 = some { dep0 with nack := some (0, 3) } ∧
    kget (depS { dep0 with fault := some { cause := .page, tval := 0 } }).deps 7 = some { dep0 with fault := some { cause := .page, tval := 0 } } ∧
    (∀ code, code ∈ [0, 1, 255] → kget (ansS mOpen.op code).msgs 5 = some (ansMsg mOpen.op code) ∧ (ansMsg mOpen.op code).sid = some 0 ∧
      (ansMsg mOpen.op code).answer = some code ∧
      ((ansS mOpen.op code).slot 0).map (fun x => (x.status, x.pairMode, x.xlat)) = some (.stalled (.answer 5 2 16), false, [])) ∧
    ((((ansS mOpen.op 255).unpost 5).takeTrap 0 (cur (ansS mOpen.op 255)) .remoteNack 0 false).slot 0).map Slot.pairMode = none := by
  and_intros <;> decide +kernel

/-- A core whose SFU has one request of slot 0. -/
def sfuS (start : Option Nat) : State := { die { slotS with results := [{ due := 0, sfu := true, writes := [], flags := 0, ue := [] }] } with
  cores := [(0, { sfu := [{ sid := 0, image := none, occ := 4, start := start }] })], t := { cycle := 63 } }

theorem test_witness_SpecialFunctionResults :
    (∀ o ∈ [opVrcp, opVrsq, opVexp2, opVlog2, opVsin, opVcos, opVtanh, opVsigm], Lanes wS o (v2 8) false false ∧ Lanes wS o (v2 72) false false) ∧
    (cur wS).results.any (fun p => p.sfu) = false ∧ (Lanes (sfuS none) opVrcp (v2 8) false false ∧ (cur (sfuS none)).results.any (fun p => p.sfu) = true) ∧
    (((sfuS none).core 0).sfu = [{ sid := 0, image := none, occ := 4, start := none }] ∧ ((sfuS none).slot 0).map (fun x => x.results.length) = some 1 ∧
      ((sfuS none).core 0).sfuFree ≤ (sfuS none).t.cycle) ∧ ((sfuS (some 0)).core 0).sfu = [{ sid := 0, image := none, occ := 4, start := some 0 }] ∧
    0 + 63 ≤ (sfuS (some 0)).t.cycle := by
  refine ⟨fun o ho => ⟨lanes_of ((by decide +kernel : ∀ o ∈ [opVrcp, opVrsq, opVexp2, opVlog2, opVsin, opVcos, opVtanh, opVsigm],
      lanesB wS o (v2 8) false false = true) o ho), lanes_of ((by decide +kernel : ∀ o ∈ [opVrcp, opVrsq, opVexp2, opVlog2, opVsin, opVcos, opVtanh, opVsigm],
      lanesB wS o (v2 72) false false = true) o ho)⟩, ?_⟩
  and_intros <;> first | exact lanes_of (by decide +kernel) | decide +kernel

/-- A walk of slot 0 for address 0 with context 1's tables at 0: the tables of memory `l`. -/
def walk0 : Walk := { who := [.slot 0 0 0], ctx := 1, vpn := 0, va := 0 }
def walkS (l : Memory) : State := { die { slotS with status := .stalled (.walk [2]) } with
  pg := { walks := [(2, walk0)] }, mem := l, idn := { memGib := 1 }, cx := { ctxs := [(1, { state := .resident, root := 0 })] } }
/-- Entries of level 4 to 1 that lead to the tables at 0x1000 to 0x4000, and a leaf there: V is bit 0, and bit 1 is 1 in a table pointer. -/
def tables : Memory := [(0, 3), (1, 0x10), (0x1000, 3), (0x1001, 0x20), (0x2000, 3), (0x2001, 0x30), (0x3000, 3), (0x3001, 0x40), (0x4000, 0xC1), (0x4001, 3)]
def fq0 : FqRec := { va := 0, src := 0, ctx := 1, code := 0, kind := 0 }

/-- Ways are to be given back while they hold one granule, which a matrix task pins, or not. -/
def splitS (l : KMap CoreSt) : State := { wS with vs := { versions := [vDone], splitBusy := true, splitTo := 0 }, cores := l }
def pinTask : MxTask := { entry := 3, ctx := 1, record := 0, state := .run, data := [(0, 0)] }

theorem test_witness_WalksAndDivision :
    (kget (walkS tables).pg.walks 2 = some walk0 ∧ ((walkS tables).slot 0).map Slot.status = some (.stalled (.walk [2])) ∧
      (walkS tables).walkTables walk0.got 1 0 = (.leaf 0x3C1)) ∧
    ((walkS []).walkTables walk0.got 1 0 = .fault fcUnmapped ∧ (walkS []).pg.fq.length < 64) ∧ wS.pg.fqWait = [] ∧
    (({ wS with pg := { fq := [fq0] } } : State).pg.fq = fq0 :: []) ∧
    (wS.vs.splitBusy = false ∧ ({ wS with vs := { splitBusy := true } } : State).vs.vways ≤ ({ wS with vs := { splitBusy := true } } : State).vs.splitTo) ∧
    ((splitS []).vs.splitBusy = true ∧ (splitS []).vs.splitTo < (splitS []).vs.vways ∧ (splitS []).splitPinned = false ∧ (splitS []).splitStuck = true ∧
      (splitS [(0, { matrix := some pinTask })]).splitPinned = true ∧ ({ splitS [] with vs := { splitBusy := true, splitTo := 0 } } : State).splitStuck = false) ∧
    (State.reset.slots.any (fun p => p.1 / 16 == 143) = false ∧ State.reset.cx.saved.any (fun x => x.sid / 16 == 143) = false ∧ State.reset.coreLoaded 143 = false) ∧
    wS.slots.any (fun p => p.1 / 16 == 0) = true ∧ (passS 0).coreLoaded 0 = true := by
  and_intros <;> decide +kernel

/-! ### The pool, packets, stealing -/

/-- A die with context 1 RESIDENT, its kernel 1 SEALED and zone 0 FLOWING, and one pool entry. -/
def rec0 : Nat := 2 ^ 64
def recG : Nat := 2 ^ 64 + 0x110000 + 1
def poolE (r : Nat) (st : PState) (k : Nat) : PoolEntry := { state := st, ctx := 1, record := r, counter := k }
/-- All cores but 0 and 1 are fused off. -/
def fewCores : List Word := [0xFFFFFFFFFFFFFFFC, 0xFFFFFFFFFFFFFFFF, 0xFFFF]
def workS (e : PoolEntry) : State :=
  { State.reset.loadWords [] with
    pl := { pool := [(3, e)] }
    zn := { zones := [(0, { state := .flowing, flow := 30 })] }
    hl := { harvest := fewCores }
    cores := [(0, { gran := 2 }), (1, { gran := 2 })] }

theorem test_witness_PoolSteps :
    ((workS (poolE rec0 .waiting 0)).entry 3 = some (poolE rec0 .waiting 0) ∧ (workS (poolE rec0 .waiting 0)).released (recRelease rec0) = true ∧ recPull rec0 = false) ∧
    ((workS (poolE rec0 .waiting 1)).entry 3 = some (poolE rec0 .waiting 1) ∧ (poolE rec0 .waiting 1).counter ≠ 0) ∧
    ((workS (poolE rec0 .ready 0)).mayDispatch 3 = some (poolE rec0 .ready 0) ∧ recKind rec0 = 0 ∧ (workS (poolE rec0 .ready 0)).loadedFor 1 1 = some wordKernel ∧
      ((workS (poolE rec0 .ready 0)).threadCore 1 wordKernel 0 0).isSome = true) ∧
    ((workS (poolE recG .ready 0)).mayDispatch 3 = some (poolE recG .ready 0) ∧ recKind recG = 1 ∧ wordKernel.pass = false ∧
      (workS (poolE recG .ready 0)).groupGrotto 1 0x11 4096 0 = some 0 ∧ (workS (poolE recG .ready 0)).room 0 1 0x11 4096 0 ≠ 0 ∧
      (placeGroup ((workS (poolE recG .ready 0)).offers 0 ((workS (poolE recG .ready 0)).pairOn 1)) 1 1 4096 false).isSome = true) ∧
    ((workS (poolE rec0 .waiting 2)).entryOf ((workS (poolE rec0 .waiting 2)).taskHandle 3) = some 3 ∧ 2 ≤ (poolE rec0 .waiting 2).counter) ∧
    (workS (poolE rec0 .waiting 2)).entryOf 0 = none ∧
    ((List.replicate 64 (0 : Byte)).length = 64 ∧ (wS.ctx 15).state.admitted' = false) ∧
    (((workS (poolE rec0 .waiting 0)).ctx 1).state.admitted' = true ∧ (workS (poolE rec0 .waiting 0)).recordBad 1 (ofBytes (bytesOf 64 pullRec)) = none ∧
      ((workS (poolE rec0 .waiting 0)).placeRecord 0).1 = some 0) ∧
    -- no shard is live, so that none takes the record
    (({ workS (poolE rec0 .waiting 0) with vs := { live := 0 } } : State).recordBad 1 (ofBytes (bytesOf 64 pullRec)) = none ∧
      (({ workS (poolE rec0 .waiting 0) with vs := { live := 0 } } : State).placeRecord 0).1 = none) ∧ recNin 0x100 = 0 ∧ 0 < recExtra 0x100 := by
  and_intros <;> decide +kernel

/-- A die that takes packets of context 1; a header names LEN 1, context 1 and source 0. -/
def head1 : Word := 0x84000000000
def pktMsg : Msg := { msgOf (.packet 0 head1 [7]) with stalls := false }
def pktS (m : Msg) : State := { State.reset.loadWords [] with msgs := [(5, m)] }
def leaveS : State := { die { slotS with status := .stalled (.answer 5 2 16) } with msgs := [(5, pktMsg)] }
def open1 : OpenPacket := { target := 0, header := 0, words := [7], since := some 0 }
/-- A die with an agent number that other agents reach: agent 0, with agent 1 UP behind module 0. -/
def net : State := { State.reset.loadWords [] with
  idn := { agv := true, agent := 0, memGib := 1 }
  lk := { topo := [(0, 0x8000000000000000), (1, 0x8000000000000000)], paths := [(1, [0])], links := [(0, { state := .up, width := 64, peer := 1 })], topoDone := true }
  hl := { harvest := fewCores } }
def stealS : State := { net with
  br := { echoCtx := 2, views := [(1, 2)] }
  cx := { ctxs := [(1, { state := .resident, dies := [some 0, some 1] })] } }
def grantMsg : Msg := { msgOf (.steal true) with sent := true }
def grantRec : Nat := 2

theorem test_witness_PacketAndStealSteps :
    (leaveS.slot 0).map Slot.status = some (.stalled (.answer 5 2 16)) ∧ kget leaveS.msgs 5 = some pktMsg ∧
    (((die { slotS with openPkt := some open1 }).slot 0).map Slot.openPkt = some (some open1) ∧
      0 + 16384 ≤ ({ die { slotS with openPkt := some open1 } with t := { cycle := 16384 } } : State).t.cycle) ∧
    (kget (pktS pktMsg).msgs 5 = some pktMsg ∧ pktMsg.stalls = false ∧ pktMsg.sent = false ∧ (pktS pktMsg).isOwn 0 = true ∧ (pktS pktMsg).inboxTakes 0 2 = false) ∧
    ((pktS pktMsg).inboxTakes 0 1 = true ∧ (pktS pktMsg).inboxHeld 0 < 64 ∧ (∀ j, j < 16 → ((pktS pktMsg).slot (16 * 0 + j)).all (fun x => x.recvs.isEmpty) = true) ∧
      ihLen head1 ≠ 0 ∧ (∀ p ∈ (pktS pktMsg).msgs, kget (pktS pktMsg).msgs p.1 = some p.2) ∧ ihCtx head1 = 1 ∧ (pktS pktMsg).lk.inHeld = []) ∧
    (stealS.br.echoCtx.testBit 1 = true ∧ (stealS.view 1).testBit (stealS.ownPos 1) = false ∧ stealS.stealing 1 false = false ∧ stealS.dealtIdle 1 = true ∧
      (List.range 8).find? (fun j => (stealS.view 1).testBit j) = some 1 ∧ ((stealS.ctx 1).dies[1]?).join = some 1 ∧ stealS.isOwn 1 = false ∧ stealS.agentUp 1 = true) ∧
    (stealS.transit { typ := 0x08, src := 1 } = false ∧ stealS.admits 1 = true ∧ (1 : Word).toNat.testBit (stealS.ownPos 1) = true ∧
      (({ stealS with kn := {} } : State).kn.kernels = [])) ∧
    (kget ({ stealS with msgs := [(5, grantMsg)] } : State).msgs 5 = some grantMsg ∧ (bytesOf 64 grantRec).length = 64 ∧ recKind (ofBytes (bytesOf 64 grantRec)) = 2 ∧
      recPull (ofBytes (bytesOf 64 grantRec)) = false ∧ (stealS.placeRecord 0).1 = some 0) := by
  and_intros <;> decide +kernel

/-! ### Barriers and launches -/

/-- A die with named barrier 5 of group 2 in a state, a request to it, and its deposit. -/
def barMsg (op : Nat) (a : Word) : Msg := { msgOf (.barrier op 5 a 0 2 3) with dep := some 6, stalls := decide (op < 2) }
def barS (l : KMap Barrier) (m : Msg) : State := { State.reset with
  msgs := [(5, m)], deps := [(6, { sid := 0, dst := .lat, len := 8, mask := 0 }), (7, { sid := 0, dst := .lat, len := 8, mask := 0 })]
  br := { barriers := l }, o := { nextId := 9 } }
def bar0 : Barrier := { ctx := 1, t := 2, e := 4294967295, group := 2 }
def barDue (l : KMap Barrier) (op : Nat) (a : Word) : Prop := (barS l (barMsg op a)).ready 5 = some (barMsg op a) ∧ bhDie 5 = false ∧ 128 * 2 + bhN 5 = 261

theorem test_witness_BarrierSteps :
    (barDue [] 0 4095 ∧ (4095 : Word).toNat / 2 ^ 20 % 2 = 0 ∧ (barMsg 0 0).stalls = true ∧ kget (barS [] (barMsg 0 0)).br.barriers 261 = none) ∧
    (barDue [(261, bar0)] 0 1 ∧ bar0.waiters = [] ∧ bar0.t = (1 : Word).toNat % 4096 + 1 ∧ bar0.mask = 0 ∧ bar0.cfgEcho = none ∧ bar0.t ≠ (0 : Word).toNat % 4096 + 1) ∧
    barDue [(261, bar0)] 1 0 ∧
    (barDue [(261, bar0)] 2 0 ∧ bar0.state ≠ .broken ∧ (barMsg 2 0).dep = some 6 ∧ (kget (barS [] (barMsg 2 0)).deps 6).isSome = true ∧ bar0.k + 1 ≠ bar0.t) ∧
    (({ bar0 with k := 1 } : Barrier).k + 1 = bar0.t ∧ bar0.barx = false ∧ bar0.echo = none ∧
      (∀ v ∈ ({ bar0 with waiters := [{ who := .own 7, h := 5, episode := 4294967295 }] } : Barrier).waiters, v.episode = bar0.e ∧ v.who = .own 7)) ∧
    (barDue [(261, { bar0 with state := .collecting, k := 1, arrivals := [(3, 0)] })] 2 0 ∧
      ({ bar0 with arrivals := [(3, 0)] } : Barrier).arrivals.any (fun q => q.1 == 3) = true) ∧
    (barDue [(261, bar0)] 3 4294967295 ∧ bar0.e < 2 ^ 32 ∧ (4294967295 : Word).toNat < 2 ^ 32 ∧ (bar0.e + 2 ^ 32 - (4294967295 : Word).toNat) % 2 ^ 32 = 0) ∧
    (barDue [(261, bar0)] 3 4294967294 ∧ 1 ≤ (bar0.e + 2 ^ 32 - (4294967294 : Word).toNat) % 2 ^ 32 ∧
      (bar0.e + 2 ^ 32 - (2147483647 : Word).toNat) % 2 ^ 32 = 2 ^ 31) ∧
    barDue [] 4 0 ∧
    (State.reset.transit { typ := 0x0A } = false ∧ ksorted (barS [] { barMsg 3 0 with sent := true }).msgs = true ∧
      ({ barMsg 3 0 with sent := true } : Msg).op = .barrier 3 5 0 0 2 3 ∧ (barMsg 3 0).ctx = 1) := by
  unfold barDue; and_intros <;> decide +kernel

/-- Tables that map page 0 of context 1 to physical page 5, and bytes there; the units have walked them for it, and for page 1 at
physical page 6. -/
def tables5 : Memory := [(0, 3), (1, 0x10), (0x1000, 3), (0x1001, 0x20), (0x2000, 3), (0x2001, 0x30), (0x3000, 3), (0x3001, 0x40), (0x4000, 0xC1), (0x4001, 0x53)]
def page5 : TlbEntry := { ctx := 1, vpn := 0, pages := 1, leaf := 0x53C1 }
def pageS (bs : List Byte) : State :=
  { State.reset.loadWords [] with
    mem := Memory.write tables5 0x5000 bs
    pg := { unitTlb := [0x7001, 0x103F, 0x30FF, 0x4000].flatMap (fun u => [(u, page5), (u, { page5 with vpn := 1, leaf := 0x63C1 })]) }
    idn := { memGib := 1 }
    hl := { harvest := fewCores }
    zn := { zones := [(0, { state := .flowing, flow := 30 })] }
    slots := []
    cores := [(0, { gran := 2 }), (1, { gran := 2 })] }
/-- A launch record: shape 1 x 1, kernel 1, count n, this die alone. -/
def laRec (n : Nat) : Nat := 0x11 + 2 ^ 64 + n * 2 ^ 128
/-- The same of kernel 2, which is not loaded. -/
def laRec2 (n : Nat) : Nat := laRec n + 2 ^ 64
def recS (r : Nat) : State := pageS (bytesOf 64 r)
def postS (r : Nat) : State := { recS r with gr := { posts := [(7, (1, 1))] } }
def postRead (r : Nat) : Got (List Byte × List Nat) × State := (postS r).engRead 0x7001 1 ((1 : Word).toNat / 64 % 2 ^ 51 * 64) 64 0 false false
def launch0 (n : Nat) (st : LState) : Launch := { ctx := 1, record := laRec n, state := st }
def launchS (x : Launch) : State := { recS (laRec 1) with gr := { launches := [(2, x)] } }
def dealing : Launch := { launch0 3 .dealing with total := 3 }
def deal0 : Deal := { ctx := 1, leader := 0, launch := 2, index := 4294967295, grotto := 0, replay := false, record := laRec 1 }
def dealS (n : Nat) : State := { recS (laRec 1) with gr := { deals := [(4, deal0)] }, zn := { zones := [(0, { state := .flowing, flow := n })] } }

theorem test_witness_LaunchSteps :
    (((postS 0).postKey 1 1).isSome = true ∧ (postRead 0).1 = .ok (bytesOf 64 0, []) ∧ laBad 0 = true) ∧
    ((postRead (laRec 1)).1 = .ok (bytesOf 64 (laRec 1), []) ∧ laBad (laRec 1) = false ∧
      (((postRead (laRec 1)).2.endPost 1 1).launchInvalid 1 (laRec 1)).1 = false ∧ (((postRead (laRec 1)).2.endPost 1 1).launchInvalid 1 (laRec 1)).2.freeLaunchIndex = some 0) ∧
    (({ (postS 0) with ueMem := [0x5001] } : State).engRead 0x7001 1 0 64 0 false false).1 = .ok (bytesOf 64 0, [1]) ∧
    (laBad (laRec2 1) = false ∧ (postRead (laRec2 1)).1 = .ok (bytesOf 64 (laRec2 1), []) ∧ (((postRead (laRec2 1)).2.endPost 1 1).launchInvalid 1 (laRec2 1)).1 = true) ∧
    (({ recS 0 with gr := { launches := (List.range 64).map (fun i => (i, dealing)) } } : State).freeLaunchIndex = none) ∧
    (laIn (laRec 1) = 0 ∧ laInd (laRec 1) ≠ 2) ∧
    (kget (launchS (launch0 1 .waiting)).gr.launches 2 = some (launch0 1 .waiting) ∧ (launch0 1 .waiting).waits = 0 ∧
      (launchS (launch0 1 .waiting)).released (recRelease (laRec 1)) = true) ∧
    (((launchS (launch0 1 .ready)).ctx 1).state = .resident ∧ laInd (laRec 0) = 0 ∧ laCsrc (laRec 0) = 0 ∧ laFin (laRec 0) = 0 ∧
      laCsrc (laRec (2 ^ 32 - 1)) ≠ 0 ∧ (laDies (laRec 1)).all (launchS (launch0 1 .ready)).isOwn = true ∧ (launchS (launch0 1 .ready)).everFits 1 (laRec 1) = true ∧
      (launchS (launch0 1 .ready)).everFits 1 (0x41 + 2 ^ 64) = false) ∧
    ((launchS dealing).nextRound = some 2 ∧ (dealRound (((launchS dealing).launchRooms dealing).foldl (fun n k => n + k) 0) ((launchS dealing).launchRooms dealing)
      [] 0 3 0).1.length = 3) ∧
    ((launch0 1 .ready).deputy = none ∧ (launch0 1 .ready).next = 0 ∧ (launch0 1 .ready).out = [] ∧ (launch0 1 .ready).redeal = [] ∧ (launch0 1 .ready).queries = []) ∧
    (Claims.heard { launchS dealing with cx := {} } { typ := 7 }).admits 1 = false ∧ (Claims.heard (launchS dealing) { typ := 7 }).admits 1 = true ∧
    (launchS dealing).gr.replaced.contains (0, 2) = false ∧ (launchS dealing).transit { typ := 0x07 } = false ∧
    (kget (launchS { dealing with reports := [1] }).gr.launches 2 = some { dealing with reports := [1] } ∧ dealing.state = .dealing ∧ dealing.next < dealing.total ∧
      dealing.fits = false ∧ [1].filter (fun a => a != (1 : Nat)) = [] ∧ dealing.out = [] ∧ dealing.redeal = [] ∧ dealing.queries = []) ∧
    (kget (dealS 30).gr.deals 4 = some deal0 ∧ (dealS 30).dealReady deal0 = true ∧ (dealS 30).loadedFor (recKid deal0.record) 1 = some wordKernel ∧
      (dealS 30).dealGrotto deal0 4096 = some 0 ∧ (placeGroup ((dealS 30).offers 0 ((dealS 30).pairOn 1)) 1 1 4096 false).isSome = true) ∧
    ((dealS 0).dealReady deal0 = true ∧ (dealS 0).dealGrotto deal0 4096 = none) ∧
    ((launchS { dealing with next := 3, out := [(2, 0)] }).isOwn (0x20000 % 2 ^ 16) = true ∧ 0x20000 / 2 ^ 16 = 2 ∧
      ({ dealing with next := 3, out := [(2, 0)] } : Launch).out.any (fun q => q.1 == 2) = true ∧ ({ dealing with next := 3 } : Launch).total ≤ 3 ∧
      ({ dealing with out := [(1, 0), (2, 0)] } : Launch).out.any (fun q => q.1 != 2) = true) ∧
    ({ launchS dealing with gr := { mirrors := [(0, 2, dealing)] } } : State).mirrorOf 0 2 = some dealing := by
  and_intros <;> decide +kernel

/-! ### FIFOs, channels, matrix engines -/

def portPa (f port : Nat) : Nat := 0x20002000000 + 0x10000 * f + port
def chanPa (n : Nat) : Nat := 0x20001000000 + 0x1000 * n
def fifo0 (n : Nat) : EFifo := { en := true, ctx := 1, items := List.replicate n 7 }
def fifoS (q : EFifo) (m : Msg) : State := { reqS m with en := { fifos := [(255, q)] } }
def fifoDue (q : EFifo) (op : MsgOp) : Prop := (fifoS q (msgOf op)).ready 5 = some (msgOf op) ∧ (fifoS q (msgOf op)).fifo 255 = q ∧ q.ctx = (msgOf op).ctx
def chan0 (n : Nat) : Channel := { en := true, ctx := 1, queue := List.replicate n { arg := 0, template := 0, ctx := 1, task := none } }
def chanS (c : Channel) (m : Msg) : State := { reqS m with en := { channels := [(63, c)] } }
def chanDue (c : Channel) : Prop :=
  (chanS c (msgOf (.push (chanPa 63) 1))).ready 5 = some (msgOf (.push (chanPa 63) 1)) ∧ (chanS c (msgOf (.push (chanPa 63) 1))).channel 63 = c ∧ c.pending = []
/-- A template of one row of 256 bytes from address 0 to address 256, and the die with the copy in progress. -/
def tmpl0 : Nat := 256 * 2 ^ 64 + 255 * 2 ^ 128
def push0 : ChPush := { arg := 0, template := 0, ctx := 1, task := none }
def copyS (c : Channel) : State := { recS tmpl0 with en := { channels := [(63, c)] } }
/-- The same with the page in every last-level TLB, and not walked for the channel. -/
def copyT (c : Channel) : State := { copyS c with pg := { tlb := (List.range 64).map (fun t => (180 + t, [page5])) } }
def chanReady : Channel := { chan0 1 with state := .ready, tcount := 1 }
def copying : Channel := { chan0 0 with state := .running, cur := some push0, tmpl := some tmpl0 }

theorem sliceOf_lt (s : State) (h : Nat) : s.sliceOf h < 64 := by
  simp only [State.sliceOf]
  cases e : s.liveSlices[h % s.liveSlices.length]? with
  | none => exact Nat.zero_lt_succ _
  | some v =>
    have hv := List.mem_of_getElem? e
    simp only [State.liveSlices, List.mem_filter, List.mem_range] at hv
    exact hv.1

/-- A page that every last-level TLB holds. -/
theorem tlbFind_of {s : State} {ctx va : Nat} {l : Word}
    (h : ∀ t ∈ List.range 64, (s.tlbHit ctx va (180 + t)).map TlbEntry.leaf = some l) : s.tlbFind (s.unitTlbs va) ctx va = some l := by
  have h2 := h _ (List.mem_range.mpr (sliceOf_lt s (Config.lineHash (va / 2 ^ 26))))
  simp only [State.tlbFind, State.unitTlbs, State.tlbSlice, List.findSome?_cons, List.findSome?_nil]
  cases e : s.tlbHit ctx va (180 + s.sliceOf (Config.lineHash (va / 2 ^ 26))) with
  | none => rw [e] at h2; cases h2
  | some q => rw [e] at h2; exact h2

theorem unitReaches_of {s : State} {src ctx va n : Nat} {a : Access} {pa : Nat} {l : Word}
    (h : (decide (0 < n ∧ va % 256 + n ≤ 256) && !s.isHeld src ctx va && s.pg.unitTlb.all (fun p => p.1 != src) &&
      (List.range 64).all (fun t => (s.tlbHit ctx va (180 + t)).map TlbEntry.leaf == some l) && decide (pa = leafPa l va) &&
      decide (s.checkLeaf l false false a pa = .ok) && (!leafE l && decide (leafState l = 0)) && (s.isOwn (pa / 2 ^ 42) && decide (pa % 2 ^ 42 + n ≤ s.memBytes)) &&
      !s.lineHeld pa) = true) : Claims.UnitReaches s src ctx va n a pa l := by
  simp only [Bool.and_eq_true, decide_eq_true_eq, Bool.not_eq_true', List.all_eq_true, beq_iff_eq, bne_iff_ne] at h
  obtain ⟨⟨⟨⟨⟨⟨⟨⟨h1, h2⟩, h3⟩, h4⟩, h5⟩, h6⟩, h7⟩, h8⟩, h9⟩ := h
  exact ⟨h1, h2, h3, tlbFind_of h4, h5, h6, h7, h8, h9⟩

theorem test_witness_PortAndCopySteps :
    (Claims.AtFifo (fifoS (fifo0 63) (msgOf (.gett 0))) (portPa 255 0) 255 0 ∧ fifoDue (fifo0 63) (.push (portPa 255 0) 1) ∧ (fifo0 63).items.length < 64 ∧
      fifoDue (fifo0 64) (.push (portPa 255 0) 1) ∧ 64 ≤ (fifo0 64).items.length ∧ (fifo0 0).pushes = [] ∧ (fifo0 0).pops = []) ∧
    fifoDue { fifo0 0 with en := false } (.push (portPa 255 0) 1) ∧
    (fifoDue (fifo0 1) (.pop (portPa 255 8) false false) ∧ (fifo0 1).items = 7 :: []) ∧ fifoDue (fifo0 0) (.pop (portPa 255 8) true true) ∧
    fifoDue (fifo0 0) (.pop (portPa 255 8) false false) ∧ fifoDue (fifo0 9) (.pop (portPa 255 16) false false) ∧
    (Claims.AtChannel (chanS (chan0 15) (msgOf (.gett 0))) (chanPa 63) 63 0 ∧ chanDue (chan0 15) ∧ (chan0 15).queue.length < 16 ∧ chanDue (chan0 16) ∧
      16 ≤ (chan0 16).queue.length ∧ chanDue { chan0 0 with en := false }) ∧
    ((chanS (chan0 0) (msgOf (.gett 0))).channel 63 = chan0 0 ∧ (chan0 0).en = true ∧ ({ chan0 0 with en := false } : Channel).en = false ∧
      ({ chan0 1 with state := .error } : Channel).state = .error) ∧
    (({ workS (poolE (3 + 63 * 2 ^ 64) .ready 0) with en := { channels := [(63, chan0 15)] } } : State).mayDispatch 3 = some (poolE (3 + 63 * 2 ^ 64) .ready 0) ∧
      recKind (3 + 63 * 2 ^ 64) = 3 ∧ recWord (3 + 63 * 2 ^ 64) 1 % 64 = 63) ∧
    ((copyS chanReady).channel 63 = chanReady ∧ chanReady.queue = push0 :: [] ∧ push0.ctx = chanReady.ctx ∧ push0.template < chanReady.tcount ∧
      ((copyS { chanReady with state := .running, cur := some push0, queue := [] }).engRead (0x1000 + 63) 1 0 64 0 false false).1 = .ok (bytesOf 64 tmpl0, []) ∧
      tmAct tmpl0 ≠ 1 ∧ tmBad (ofBytes (bytesOf 64 tmpl0)) 0 ((copyS chanReady).copyOut push0) = false) ∧
    (({ push0 with ctx := 2 } : ChPush).ctx ≠ chanReady.ctx ∧ chanReady.tcount ≤ ({ push0 with template := 1 } : ChPush).template) ∧
    (copying.cur = some push0 ∧ push0.task = none ∧ copying.tmpl = some tmpl0 ∧ copying.fail = 0 ∧ copying.moved = 0 ∧ copying.row = [] ∧ copying.writes = [] ∧ copying.ue = {} ∧ tmAct tmpl0 = 0 ∧
      tmAu tmpl0 = 0 ∧ tmTab tmpl0 = 0 ∧ tmY tmpl0 = 1 ∧ tmZ tmpl0 = 1 ∧ (copyT copying).ueMem = [] ∧ tmX tmpl0 = 256) ∧
    Claims.UnitReaches (copyT copying) (0x1000 + 63) 1 (tmW tmpl0 0 % 2 ^ 57) 256 .load 0x5000 0x53C1 ∧
    Claims.UnitReaches (copyT copying) (0x1000 + 63) 1 (tmW tmpl0 1) 256 .bteWrite 0x5100 0x53C1 ∧
    (({ copying with fail := 6 } : Channel).fail ≠ 0 ∧ (copyS copying).en.elog.length < 64 ∧ ({ copying with tmpl := none } : Channel).tmpl = none ∧ tmAct tmpl0 ≠ 1) := by
  unfold fifoDue chanDue Claims.AtFifo Claims.AtChannel
  and_intros <;> first | exact unitReaches_of (by decide +kernel) | decide +kernel

/-- A matrix record: i8 by i8, M 64, N 128, K 64, inputs 2 and 3, output 1. -/
def matR : Nat := 2 + 16 + 2 * 2 ^ 128 + 3 * 2 ^ 192 + 2 ^ 384 + 0x44 * 2 ^ 448
def tileV (h : Word) (g : Nat) : Version := { ctx := 1, handle := h, state := .complete, sealed := true, g := g, slot := h.toNat }
def outV (st : VState) : Version := { ctx := 1, handle := 1, state := st, g := 8, slot := 9 }
def matM (st : MxState) : MxTask := { entry := 3, ctx := 1, record := matR, state := st }
def matS (st : VState) (m : Option MxTask) : State :=
  { workS (poolE matR .ready 0) with
    vs := { versions := [tileV 2 1, tileV 3 2, outV st] }
    cores := [(0, { gran := 2, matrix := m })]
    cx := { ctxs := [(1, { state := .resident, nsmap := [some 0] })] } }

theorem test_witness_MatrixTasks :
    ((matS .absent none).mayDispatch 3 = some (poolE matR .ready 0) ∧ recKind matR = 2 ∧ ((matS .absent none).engines 1 (recTherm matR)).contains 0 = true ∧
      mxStatic matR = 0 ∧ (matS .absent none).nameHome 1 (recOut matR) = .own ∧
      (∀ j ∈ mxInputs matR, (matS .absent none).nameHome 1 (recIn matR j) = .own ∧ ((matS .absent none).version 1 (recIn matR j)).any (fun w =>
        w.state == .complete && decide (mxNeed matR j ≤ 4096 * w.g)) = true) ∧
      ((matS .absent none).versionOrNew 1 (recOut matR)).state = .absent ∧
      (matS .absent none).granulesUsed (slotSlice ((matS .absent none).versionOrNew 1 (recOut matR)).slot) + ((mxDesc matR).toNat % 64 + 1) ≤
        (matS .absent none).wayGranules (slotSlice ((matS .absent none).versionOrNew 1 (recOut matR)).slot) ∧
      (matS .absent none).entryNeed 1 (recOut matR) = 0) ∧
    ((matS .absent (some (matM .run))).mayDispatch 3 = some (poolE matR .ready 0) ∧ ((matS .absent (some (matM .run))).core 0).matrix ≠ none ∧
      ((matS .absent (some (matM .run))).engines 1 0).contains 0 = true) ∧
    (((matS .vopen (some (matM .run))).core 0).matrix = some (matM .run) ∧ (matM .run).fetched < mxK matR / 64) ∧
    (({ matM .run with fetched := 1 } : MxTask).fetched = mxK matR / 64 ∧ (matS .vopen none).version 1 (recOut matR) = some (outV .vopen) ∧
      (matS .vopen none).nameHome 1 (recOut matR) = .own ∧ mxM matR * mxN matR * mxOw matR / 8 ≤ 4096 * (outV .vopen).g) ∧
    ((matM .sealing).writes = [] ∧ (matM .sealing).code = 0 ∧ (matM .sealing).ue.first = none ∧ mxCons matR = false ∧ (outV .vopen).waiters = [] ∧
      (matS .vopen (some (matM .sealing))).entry 3 = some (poolE matR .ready 0) ∧ ({ matS .vopen none with kn := {} } : State).kn.kernels = []) ∧
    ((matM .stopped).state = .stopped ∧ (matM .stopped).code = 0 ∧ (matM .stopped).bad = [] ∧ (matM .stopped).ue.first = none ∧ (outV .vopen).acc = false) ∧
    (mxInt matR = true ∧ mxOt matR = 0 ∧ (matM .run).bad = [] ∧ 63 < mxM matR ∧ 127 < mxN matR) := by
  and_intros <;> decide +kernel

/-! ### Kernels, passage, contexts, saved slots -/

/-- A kernel image: a segment and an entry, with the code word NOP; its digest was worked out by another program. -/
def imageN : Nat := 0x4000000000000000000000000000000000000000000ffffffff0000000200000000abce9d60807e7b2e38a4c68b0f9c8a64b4a4013822146ea61c67397a714b7991004f4f8a2ba8610a5d838d9358c9cdda91cab423596614202512e0edc4bf87480000000000000000000000000000000000000000000000000000000000000002000000000000000200010001000000000000000000001000000000004b514d49
def image : List Byte := bytesOf 162 imageN

/-- The image's digest is the SHA3-512 of its bytes with the digest field zero (14 R283). -/
theorem test_sha3_image : sha3 (imBlank image) = imDigest image := by decide +kernel

/-! ### Kernels, passage, contexts, saved slots: the states -/

/-- A command of the loader for kernel 2 of context 1 with LCORE_KBASE 0x1000; another for kernel 1. -/
def cmd2 : Word := 0x100000210000
def cmd1 : Word := 0x4000100000110000
def kern2 (st : KState) : Kernel := { wordKernel with kid := 2, state := st }
def loadS (im : List Byte) (cmd : Word) : State :=
  { pageS im with kn := { kernels := [kern2 .loading], kbusy := true, kcmd := cmd } }
def partOf (r : Except LoadStop (List Byte) × State) : List Byte := r.1.toOption.getD []
def stopOf (r : Except LoadStop (List Byte) × State) : Option LoadStop := match r.1 with | .error st => some st | .ok _ => none
/-- The image as it is read, whether it has no room, and what stops the read of the tables and of the rest. -/
def loaded (s : State) (cmd : Word) : List Byte × Bool × Option LoadStop × Option LoadStop :=
  let h := s.readTables 1 (cmd.toNat % 2 ^ 16)
  let k := h.2.kernelOf (partOf h) 2 1 (cmd.toNat / 2 ^ 32 % 2 ^ 20) (cmd.toNat % 2 ^ 16)
  let im := h.2.readPart 1 (imLength (partOf h))
  (partOf im, h.2.noRoom k, stopOf h, stopOf im)
/-- The same image with a data part that reaches into page 1, which the context may not execute. -/
def longS : State := { loadS (image.set 0x1D 16) cmd2 with pg := { unitTlb := [(0x30FF, page5), (0x30FF, { page5 with vpn := 1, leaf := 0x6041 })] } }
/-- A kernel whose overlay area takes its one segment, and the command for it. -/
def ovlK : Kernel := { kern2 .sealed with ovl := 1, resLen := 2, segments := [{ off := 0, len := 2, cores := [] }], digest := imDigest image }
def cmdO : Word := 0x8000000200210000
def ovlS (busy : Bool) : State := { pageS image with kn := { kernels := [ovlK], kbusy := busy, kcmd := cmdO } }
def useS : State := { pageS [] with slots := [(0, { slotS with kid := 1 })] }

theorem test_witness_KernelAndPassageSteps_loader :
    ((pageS []).kn.kbusy = false ∧ (pageS []).kernel 2 = none ∧ (2 = cmd2.toNat / 2 ^ 20 % 2 ^ 12 ∧ 1 = cmd2.toNat / 2 ^ 16 % 16)) ∧
    ((pageS []).sealedFor 1 1 = some wordKernel ∧ (pageS []).useCount 1 = 0 ∧ useS.sealedFor 1 1 = some wordKernel ∧ useS.useCount 1 ≠ 0 ∧
      (pageS []).sealedFor 2 1 = none ∧ (ovlS false).sealedFor 2 1 = some ovlK ∧
      (ovlK.overlayRange cmdO).toOption = some ({ off := 0, len := 2, cores := [] }, 2)) ∧
    ((loadS image cmd2).kn.kbusy = true ∧ kcOp cmd2 = 0 ∧ (loadS image cmd2).kernel 2 = some (kern2 .loading) ∧
      loaded (loadS image cmd2) cmd2 = (image, false, none, none) ∧ imData image = [] ∧ (loadS image cmd2).kn.cwrites = none) ∧
    stopOf ((loadS (image.set 148 1) cmd2).readTables 1 0) = some (.result 3) ∧ loaded (loadS image 0xFF00000210000) 0xFF00000210000 = (image, true, none, none) ∧
    ((loaded longS cmd2).2 = (false, none, some (.result 6))) ∧
    (loaded (loadS (image.set 64 0) cmd2) cmd2 = (image.set 64 0, false, none, none) ∧ imBlank (image.set 64 0) = imBlank image ∧
      imDigest (image.set 64 0) ≠ imDigest image) ∧
    ((ovlS true).kn.kbusy = true ∧ kcOp cmdO = 2 ∧ (ovlS true).sealedFor 2 1 = some ovlK ∧ loaded (ovlS true) 1 = (image, false, none, none) ∧
      imDigest image = ovlK.digest ∧ (match ovlK.overlayRange 0x8000000000210000 with | .error n => n | .ok _ => 0) = 4) ∧
    stopOf (({ ovlS true with mem := [] } : State).readTables 1 1) = some (.result 3) := by
  and_intros <;> decide +kernel

/-- A passage kernel of one segment on core 0, reservations for it, and its transfers. -/
def passK2 : Kernel := { kern2 .sealed with pass := true, segments := [{ off := 0, len := 2, cores := [0] }] }
def resMsg (a : Option Nat) : Msg := { msgOf (.reserve 2 0 2048 0 [] []) with sid := some 0, answer := a }
def passCtx : Context := { state := .resident, phsize := 2 }
def resS (ks : List Kernel) (rings : List (Nat × Nat × Nat)) (a : Option Nat) (f : List Word) : State :=
  { State.reset with
    msgs := [(5, resMsg a)]
    slots := [(0, slotS)]
    kn := { kernels := ks, rings := rings }
    zn := { zones := [(0, { state := .throttled, flow := 30 })] }
    cx := { ctxs := [(1, passCtx)] }
    hl := { harvest := f }
    o := { nextId := 9 } }
def upCores (s : State) : List Nat := (((passK2.segments[0]?).map Segment.cores).getD []).filter (fun c => s.coreUp c &&
  ((s.zone (zoneOf c)).state == .flowing || (s.zone (zoneOf c)).state == .throttled))
def roomy (s : State) : List Nat := (upCores s).filter (fun c => decide ((s.kn.rings.filter (fun r => r.1 == 1 && r.2.1 == c)).length < (s.ctx 1).phsize))
def granted (s : State) : Prop := s.ready 5 = some (resMsg none) ∧ s.sealedFor 2 1 = some passK2 ∧ (s.ctx 1).phsize ≠ 0
def move0 : Transfer := { ctx := 1, kid := 2, fromCore := 1, fromSlot := 15, core := 0, place := 1, seg := 0, image := 7, live := 2048, pc := 0 }
/-- No slice of the last-level TLB is live, so that the second read of an arrival finds its page by a walk, or not at all. -/
def moveS (t : Transfer) (ks : List Kernel) : State :=
  { pageS (List.replicate 16 (1 : Byte)) with
    kn := { kernels := ks, transfers := [(4, t)] }
    vs := { live := 0 }
    cx := { ctxs := [(1, { passCtx with phbase := -8192 })] } }
def arrived : Transfer := { move0 with live := 0, written := true, accepted := some 0, reserved := some 15 }
/-- Both parts of the head arrival's image are read: the first is not longer than its space. -/
def arrivalRead (s : State) : Bool :=
  match s.engRead 0x4000 1 ((s.ctx 1).placeVa 0 1) (0x1000 + arrived.live) 0 false true with
  | (.ok (regs, _), u) =>
    decide (regs.length ≤ 0x1800) && (match u.engRead 0x4000 1 ((s.ctx 1).placeVa 0 1 + 0x1800) 176 0 false true with | (.ok _, _) => true | _ => false)
  | _ => false
/-- Context 1's page 1 lies at physical page 6. -/
def twoPages (s : State) : State := { s with mem := s.mem.write 0x4008 [0xC1, 0x63] }

theorem test_witness_KernelAndPassageSteps_passage :
    ((resS [] [] none []).ready 5 = some (resMsg none) ∧ (resS [] [] none []).sealedFor 2 1 = none ∧ ((resS [] [] none []).ctx 1).phsize ≠ 0) ∧
    (({ resS [] [] none [] with cx := {} } : State).ready 5 = some (resMsg none) ∧ (({ resS [] [] none [] with cx := {} } : State).ctx 1).phsize = 0) ∧
    (granted (resS [passK2] [] none [1]) ∧ upCores (resS [passK2] [] none [1]) = []) ∧
    (granted (resS [passK2] [(1, 0, 0), (1, 0, 1)] none []) ∧ upCores (resS [passK2] [(1, 0, 0), (1, 0, 1)] none []) ≠ [] ∧
      (resS [passK2] [(1, 0, 0), (1, 0, 1)] none []).fewest 2 0 (roomy (resS [passK2] [(1, 0, 0), (1, 0, 1)] none [])) = none) ∧
    (granted (resS [passK2] [(1, 0, 0)] none []) ∧ (resS [passK2] [(1, 0, 0)] none []).fewest 2 0 (roomy (resS [passK2] [(1, 0, 0)] none [])) = some 0 ∧
      (List.range 2).find? (fun p => !((resS [passK2] [(1, 0, 0)] none []).kn.rings.any (fun r => r == (1, 0, p)))) = some 1) ∧
    (∀ a ∈ [1, 2, 4 + 64 * 143 + 63], kget (resS [passK2] [] (some a) []).msgs 5 = some (resMsg (some a)) ∧ (resMsg (some a)).sid = some 0 ∧
      ((resS [passK2] [] (some a) []).slot 0).map (fun x => (x.ctx, x.ueRegs)) = some (1, []) ∧ 5 < (resS [passK2] [] (some a) []).o.nextId) ∧
    (kget (moveS { move0 with writes := some [] } []).kn.transfers 4 = some { move0 with writes := some [] } ∧ move0.written = false) ∧
    ((moveS arrived []).headArrival 0 = some (4, arrived) ∧ (moveS arrived []).kernel 2 = none) ∧
    ((twoPages (moveS arrived [passK2])).headArrival 0 = some (4, arrived) ∧ (twoPages (moveS arrived [passK2])).kernel 2 = some passK2 ∧
      arrivalRead (twoPages (moveS arrived [passK2])) = true) ∧
    ({ resS [] [] none [] with msgs := [(5, msgOf (.startNotice 2 0 143 1 63))] } : State).ready 5 = some (msgOf (.startNotice 2 0 143 1 63)) := by
  unfold granted; and_intros <;> decide +kernel

/-- A context record: the root table at 0x1000, dies [agent 0], PHSIZE 64, cause 31 at offset 2. -/
def ctxRec : Nat := 0x1000 + 0x8000 * 2 ^ (8 * 0x30) + 64 * 2 ^ (64 * 12) + 3 * 2 ^ (8 * 0x80 + 32 * 31)
def ctxS (k : Context) (r : Nat) : State := { net with mem := Memory.write [] 256 (bytesOf 256 r), cx := { ctxs := [(15, k)] }, slots := [] }
def saved15 : Saved := { saved0 with ctx := 15 }
def withImage (s : State) : State := { s with cx := { s.cx with saved := [saved15] } }
def withSlot (s : State) : State := { s with slots := [(0, { slotS with ctx := 15 })] }

theorem test_witness_ContextAndSavedSlotSteps_contexts :
    ((ctxS {} ctxRec).cx.builds = [] ∧ (ctxS {} ctxRec).isOwn (256 / 2 ^ 42) = true ∧ 256 % 2 ^ 42 + 256 ≤ (ctxS {} ctxRec).memBytes ∧ (ctxS {} ctxRec).ueMem = [] ∧
      (ctxS {} ctxRec).mem.readN (256 % 2 ^ 42) 256 = ctxRec ∧ ((ctxS {} ctxRec).ctx 15).state = .free ∧ ((ctxS {} ctxRec).ctx 15).busy = false ∧
      ctxRecordForm ctxRec = true ∧ (ctxS {} ctxRec).ctxRecordAgents ctxRec = true) ∧
    ctxRecordForm (ctxRec + 1) = false ∧ (ctxS {} ctxRec).ctxRecordAgents 0 = false ∧
    (∀ st ∈ [CState.built, .admitted, .resident, .draining, .saved, .faulted, .retired],
      ((ctxS { state := st } 0).ctx 15).state = st ∧ ((ctxS { state := st } 0).ctx 15).busy = false ∧
        ((ctxS { state := st } 0).ctx 15).faultAt ≠ some (ctxS { state := st } 0).t.cycle) ∧
    ((ctxS { state := .faulted, faultAt := some 0 } 0).ctx 15).faultAt = some (ctxS { state := .faulted, faultAt := some 0 } 0).t.cycle ∧
    ((withSlot (ctxS { state := .resident } 0)).slots.any (fun p => p.2.ctx == 15) = true ∧ (ctxS { state := .resident } 0).slots.any (fun p => p.2.ctx == 15) = false ∧
      (ctxS { state := .resident } 0).cx.saved.any (fun v => v.ctx == 15) = false ∧ (withImage (ctxS { state := .saved } 0)).cx.saved.any (fun v => v.ctx == 15) = true) ∧
    ((ctxS { state := .retired } 0).vs.versions.any (fun v => v.ctx == 15) = false ∧
      ({ ctxS { state := .retired } 0 with vs := { versions := [{ v0 with ctx := 15 }] } } : State).vs.versions.any (fun v => v.ctx == 15) = true) ∧
    (({ net with t := { cycle := 1024 }, cores := [(143, { active := [1, 15] })] } : State).t.cycle % 1024 = 0 ∧
      (15 : Nat) ∈ ({ net with t := { cycle := 1024 }, cores := [(143, { active := [1, 15] })] } : State).portActive 143 { active := [1, 15] }) := by
  and_intros <;> decide +kernel

/-- A DRAINING context's slot 2303; the image of a thread of context 1, as it was read back. -/
def drainS : State := { State.reset with slots := [(2303, { slotS with space := 4096 })], cx := { ctxs := [(1, { state := .draining, busy := true })], saveOrder := 3 } }
def thread1 : Saved := { saved0 with ctx := 1, written := true, image := some 0x4042, place := some (0, 192), slot := { slotS with space := 4096, group := 7, xlat := [] } }
def depImg : Dep := { dep0 with sid := savedBase, dst := .main 0 }
def restS (l : List Saved) : State := { workS (poolE rec0 .waiting 0) with
  slots := [], deps := [(7, depImg)], cx := { ctxs := [(1, { state := .resident, busy := true, restoring := true })], saved := l } }

theorem test_witness_ContextAndSavedSlotSteps_saved :
    ((drainS.slot 2303).map (fun x => (x.status, x.openPkt, x.results, x.pairMode, x.space)) = some (.ready, none, [], false, 4096) ∧
      (drainS.ctx 1).state = .draining ∧ (∀ p ∈ drainS.deps, p.2.sid ≠ 2303) ∧ (∀ w ∈ drainS.cx.saved, w.order < drainS.cx.saveOrder) ∧
      (drainS.core (2303 / 16)).saveFit ((0x1100 + 65 * 4096 / 64 + 4095) / 4096) = some 192) ∧
    (kget (restS [{ thread1 with image := none }]).deps 7 = some depImg ∧ depImg.outstanding = 0 ∧
      (restS [{ thread1 with image := none }]).image depImg.sid = some { thread1 with image := none } ∧ thread1.written = true ∧ thread1.writes = [] ∧
      thread1.place = some (0, 192)) ∧
    (((restS [thread1]).ctx 1).state = .resident ∧ (restS [thread1]).nextUnit 1 = [thread1] ∧ thread1.image = some 0x4042 ∧ thread1.checks 0x4042 = true ∧
      thread1.back = none ∧ thread1.deps = [] ∧ thread1.slot.recvs = [] ∧ (restS [thread1]).slots = [] ∧ (restS [thread1]).slots.any (fun p => thread1.slot.group == p.2.group) = false ∧
      (restS [thread1]).couldHold 1 [thread1] = true ∧ ((restS [thread1]).unitPlace 1 [thread1]).1 = some [(0, [0])]) ∧
    ((restS []).nextUnit 1 = [] ∧ ((restS []).ctx 1).restoring = true) := by
  and_intros <;> decide +kernel

/-- A slot with the largest register space; 2048 live bytes are the most that a departure ships. -/
theorem test_witness_ImagesRoundTrip : (cur wS).ueRegs = [] ∧ 2048 ≤ 2048 ∧ (cur wS).space % 4096 = 0 ∧ (cur wS).space ≤ 65536 ∧ 2 ^ 32 - 1 < 2 ^ 32 := by
  and_intros <;> decide +kernel

/-! ### The host port, links, discovery, packets of other agents -/

/-- A die of 1 GiB whose bring-up has ended. -/
def hostS : State := { net with bt := { bstep := 6 }, slots := [], kn := {}, lk := { net.lk with hwbase := 2 ^ 42 } }
/-- The window at the die's own memory. -/
def hostOwn : State := { hostS with lk := { net.lk with hwbase := 0 } }
/-- A host write to agent `a` that is on its way, and one that waits on this die. -/
def waitS (a : Nat) : State := { hostS with deps := [(6, { dep0 with outstanding := 1 })], lk := { hostS.lk with hostWrites := [(a, 6)] } }
def heldBack : State := { hostS with lk := { hostS.lk with hostHeld := [(0, 0, [1])] } }
def windowEnd : Nat := 0x4000000 + 2 ^ 30 - 8

theorem free_of {s : State} {c a n : Nat} (h : s.slots = [] ∧ s.kn.kernels = []) : ¬Claims.Guarded s c a n := by
  rintro (⟨p, hp, -⟩ | ⟨k, hk, -⟩)
  · rw [h.1] at hp; cases hp
  · rw [h.2] at hk; cases hk

theorem test_witness_HostSteps :
    State.reset.bt.bstep < 6 ∧ ¬(0 = 0 ∧ 0xD0000 ≤ 0xCFFF8 ∧ 0xCFFF8 + 8 ≤ 0xE0000) ∧ 6 ≤ hostS.bt.bstep ∧ Claims.HostStill hostS ∧
    ((∀ i, i < 8 → hostS.fused ((0x1FFFF8 + i) / 0x100000) = false) ∧ 0x8FFFFF8 + 8 ≤ 0x9000000 ∧ ∀ p ∈ hostS.slots, p.2.pairMode = false) ∧
    (Claims.HostStill hostOwn ∧ Claims.windowPa hostOwn windowEnd = lastPa ∧ hostOwn.isOwn (lastPa / 2 ^ 42) = true ∧ lastPa % 2 ^ 42 + 8 = hostOwn.memBytes ∧
      hostOwn.ueMem = [] ∧ hostOwn.lineHeld lastPa = false ∧ windowEnd + 8 ≤ 2 ^ 36) ∧
    (heldBack.lk.hostHeld ≠ [] ∧ 6 ≤ heldBack.bt.bstep) ∧ (∃ w ∈ (waitS 1).lk.hostWrites, (waitS 1).settled w.2 = false) ∧
    (∃ w ∈ (waitS 0).lk.hostWrites, w.1 = (waitS 0).ownAgent ∧ (waitS 0).settled w.2 = false) ∧
    (Claims.windowPa hostS (0x4000000 + 248) = 2 ^ 42 + 248 ∧ hostS.isOwn ((2 ^ 42 + 248) / 2 ^ 42) = false ∧ (2 ^ 42 + 248) % 256 + 8 ≤ 256) ∧
    ((bytesOf 8 7).length = 8 ∧ (bytesOf 513 7).length = 513 ∧ 0x103FFF8 % 8 = 0 ∧ 0x1000000 ≤ 0x103FFF8 ∧ 0x103FFF8 + 8 ≤ 0x1040000) ∧
    (hostS.fused 143 = true ∧ hostS.fused 0 = false ∧ ¬Claims.Guarded hostS 0 0xFFFF8 8) ∧
    (Claims.Guarded { hostS with slots := [(15, slotS)] } 0 0 8 ∧ Claims.Guarded { hostS with slots := [(0, { slotS with pairMode := true })] } 1 0 8 ∧
      Claims.Guarded { hostS with kn := { kernels := [{ wordKernel with codeLen := 8, resLen := 8 }] } } 0 7 1) := by
  refine ⟨?_, ?_, ?_, ⟨rfl, rfl⟩, ⟨?_, ?_, fun p hp => nomatch hp⟩, ⟨⟨rfl, rfl⟩, ?_⟩, ?_, ?_, ?_, ?_, ?_, ⟨?_, ?_, free_of ⟨rfl, rfl⟩⟩,
    Or.inl ⟨_, List.mem_singleton.mpr rfl, by decide⟩, Or.inl ⟨_, List.mem_singleton.mpr rfl, Or.inr (by decide)⟩,
    Or.inr ⟨_, List.mem_singleton.mpr rfl, by decide +kernel⟩⟩ <;> and_intros <;> decide +kernel

/-- Module 7 in a state. -/
def linkS (l : Link) : State := { net with lk := { net.lk with links := [(7, l)], paths := [(1, [7])] } }
def linkN (st : LinkState) : Link := { state := st, peerUid := some 5 }
/-- A packet of this die for agent 1, and a link that holds it. -/
def out1 : Packet := { typ := 0, src := 0, dst := 1, tag := 3 }
def flit0 : Flit := { seq := 0, ack := 4095, ackV := true, nak := false, crcOk := true, cred := [0, 1, 2, 3] }

def idleL : Link := { linkN .up with idleOn := 1, credits := List.replicate 4 32, granted := 32 }

theorem test_witness_LinkSteps :
    (∀ st ∈ [LinkState.down, .training, .discovery, .up, .degraded, .fenced, .sleep, .waking], (linkS (linkN st)).link 7 = linkN st) ∧
    ((linkN .up).queue = [] ∧ (linkN .up).unacked = []) ∧
    ((linkS { linkN .up with queue := [out1] }).link 7 = { linkN .up with queue := [out1] } ∧ out1.rsp = false ∧ out1.typ ≠ 0x0D ∧ out1.typ ≠ 0x0E ∧
      (linkS (linkN .up)).isOwn out1.src = true ∧ (∀ n ∈ kgetD (linkS (linkN .up)).lk.paths out1.dst [], n = 7)) ∧
    ((linkN .training).failures < 2 ∧ 2 ≤ ({ linkN .training with failures := 2 } : Link).failures) ∧
    ((linkS (linkN .training)).lk.topoDone = true ∧ (linkN .training).peerUid = some 5 ∧ (linkN .training).peerUid ≠ some 6 ∧
      ({ linkS (linkN .training) with lk := { (linkS (linkN .training)).lk with topoDone := false } } : State).lk.topoDone = false) ∧
    (Claims.Idle { linkS idleL with t := { time := 1000 } } idleL ∧ ¬Claims.Idle (linkS idleL) idleL) ∧
    (flit0.crcOk = true ∧ flit0.seq % 4096 = (linkN .up).recvSeq ∧ flit0.nak = false ∧ flit0.ackV = true ∧
      ({ linkN .up with unacked := [(4095, none), (0, some out1)] } : Link).unacked = (4095, none) :: [(0, some out1)] ∧ (flit0.ack + 4096 - 4095) % 4096 ≤ 2) ∧
    (({ flit0 with seq := 4095 } : Flit).seq % 4096 ≠ 0 ∧ (0 + 4096 - 4095 % 4096) % 4096 ≤ 2048 ∧ 2048 < (0 + 4096 - 2047 % 4096) % 4096 ∧ (0 + 4096 - 2048 % 4096) % 4096 ≤ 2048) ∧
    ((4095 + 4096 - 4095) % 4096 = 0 ∧ (linkN .up).sameReplays < 7 ∧ 7 ≤ ({ linkN .up with sameReplays := 7 } : Link).sameReplays) := by
  unfold Claims.Idle; and_intros <;> decide +kernel

def rec1 : DiscoverRec := { uid := 5, role := 0, fixedId := none, winGib := 1, peers := [], fence := false }
def fresh : State := { State.reset with idn := { uid := 4 }, bt := { bstep := 5 }, lk := { recordAt := 0 } }
def timeP : Packet := { typ := 0x0B, vc := 2, src := 1 }

theorem test_witness_DiscoveryAndTimeSteps :
    (fresh.lk.topoDone = false ∧ rec1.uid ≠ fresh.idn.uid ∧ fresh.lk.records.contains rec1 = false) ∧
    (({ net with lk := { net.lk with uids := [(1, 5)] } } : State).agentOf 5 = some 1 ∧ net.isOwn 1 = false ∧ net.agentUp 1 = true ∧ net.lk.topoDone = true) ∧
    (fresh.bt.bstep = 5 ∧ fresh.lk.recordAt + 20000 ≤ ({ fresh with t := { time := 20000 } } : State).now ∧ (∀ m, m < 8 → (fresh.link m).state ≠ .training)) ∧
    (net.now < kgetD net.lk.heard 1 0 + 16000 ∧ kgetD net.lk.heard 1 0 + 16000 ≤ ({ net with t := { time := 16000 } } : State).now) ∧
    (kget ({ net with msgs := [(5, { msgOf (.gett 0) with sent := true, dsts := [1] })] } : State).msgs 5 = some { msgOf (.gett 0) with sent := true, dsts := [1] }) ∧
    (net.transit timeP = false ∧ net.isOwn timeP.src = false) ∧
    (({ net with lk := { net.lk with topoMaster := 1 } } : State).isOwn 1 = false ∧
      ((Claims.heard { net with lk := { net.lk with topoMaster := 1 } } timeP).link ({ net with lk := { net.lk with topoMaster := 1 } } : State).masterPort).peer = timeP.src) := by
  and_intros <;> decide +kernel

/-- A packet of agent 1 for the last eight bytes of memory. -/
def far (typ : Nat) : Packet := { typ := typ, src := 1, tag := 5, ctx := 1, lsz := 3, addr := BitVec.ofNat 64 lastPa, enables := 255, data := List.replicate 8 (9 : Byte) }
def farV (typ op : Nat) (a : Word) : Packet := { far typ with space := 1, addr := 0, op := op, arg1 := a }
def bankAddr : Word := 0x1FF8
def bankS : State := { net with cores := [(0, { shad := 2 })] }
def netV (v : Version) : State := { net with vs := { versions := [v] }, cx := { ctxs := [(1, { state := .resident, nsmap := [some 0] })] } }
def proxy0 : ProxyCopy := { ctx := 1, handle := 0, gen := 3, g := 1 }
def netP (x : ProxyCopy) (m : Msg) : State := { netV v0 with vs := { proxies := [x] }, msgs := [(5, m)], o := { nextId := 6 } }

theorem test_witness_RemoteRequests :
    (∀ t ∈ [0, 1, 2, 4, 5, 6, 13, 14], net.transit (far t) = false) ∧ net.isOwn 1 = false ∧
    Claims.Names net (far 0) lastPa 8 ∧
    (({ far 0 with addr := BitVec.ofNat 64 (lastPa + 8) } : Packet).addr.toNat % 2 ^ 42 = lastPa + 8 ∧ net.memBytes < lastPa + 8 + 2 ^ 3 ∧ lastPa + 8 < 2 ^ 41) ∧
    ((net.ctx 15).state.admitted' = false ∧ (net.ctx 1).state.admitted' = true) ∧
    ((netV v0).version 1 0 = some v0 ∧ v0.state = .vopen ∧ v0.acc = false ∧ (4088 : Word).toNat + 8 ≤ 4096 * v0.g ∧ (2 : Nat).testBit 16 = false ∧
      v0.manual = false ∧ v0.count + (4095 : Word).toNat % 4096 ≤ 4095) ∧
    (Claims.NamesBank bankS { far 0 with space := 2, addr := bankAddr } false 0 (0x100000 - 4096 * 66 - 4096 * 2 + 0x1FF8) 8 ∧
      Claims.NamesBank bankS { far 1 with space := 2, addr := bankAddr } true 0 (0x100000 - 4096 * 66 + 0x1FF8) 8 ∧
      bankS.bankOk 1 0 0x2000 8 = false ∧ bankS.bankOk 1 1 0 8 = false) ∧
    ((far 13).addr.toNat % 2 ^ 42 + 512 > net.memBytes ∧ ({ far 13 with addr := 0 } : Packet).addr.toNat % 2 ^ 42 + 512 ≤ net.memBytes ∧ net.agentUp 1 = true) ∧
    ((netP proxy0 { msgOf (.gett 0) with sent := true }).msgs.map (fun p => (p.1, p.2.op, p.2.sent)) = [(5, .gett 0, true)] ∧ (7 : Word).toNat % 256 = 7) ∧
    (net.proxy 1 0 = none ∧ (netP proxy0 (msgOf (.proxy 0 true))).proxy 1 0 = some proxy0 ∧ proxy0.waiters = []) ∧
    ((netV { v0 with state := .complete }).version 1 0 = some { v0 with state := .complete } ∧ kgetD net.lk.paths 1 [] = [0] ∧ (net.link 0).state = .up) ∧
    (kget (netP proxy0 (msgOf (.proxy 0 true))).msgs 5 = some (msgOf (.proxy 0 true)) ∧ proxy0.gen + proxy0.slot * 2 ^ 32 = (3 : Word).toNat ∧ proxy0.got + 512 < 4096 * proxy0.g ∧
      4096 * proxy0.g ≤ ({ proxy0 with got := 3584 } : ProxyCopy).got + 512 ∧ 5 < (netP proxy0 (msgOf (.proxy 0 true))).o.nextId) ∧
    (kget ({ net with msgs := [(5, { msgOf (.gett 0) with retryAt := some 0 })] } : State).msgs 5 = some { msgOf (.gett 0) with retryAt := some 0 } ∧ net.t.cycle < 1) ∧
    (kget ({ net with msgs := [(5, { msgOf (.gett 0) with sent := true, dsts := [1], dep := some 6 })] } : State).msgs 5 =
      some { msgOf (.gett 0) with sent := true, dsts := [1], dep := some 6 }) ∧
    (({ netV v0 with msgs := [(5, { msgOf (.notice 0 1 false) with retryAt := some 0 })] } : State).version 1 0 = some v0 ∧ net.agentUp 2 = false) := by
  unfold Claims.Names Claims.NamesBank; and_intros <;> decide +kernel

/-! ### Zones, pairs, regions, health, bring-up -/

/-- Zone 17 with readings that ask for nothing, at a time. -/
def zoneQ (st : ZState) : Zone := { state := st, flow := 80, tin := 15, goodSince := some 0 }
def zoneS (q : Zone) (now : Nat) : State := { State.reset with
  zn := { zones := (17, q) :: [] }, t := { time := now }, bt := { bstep := 4 }, slots := [] }
/-- All zones cool, at bring-up step 3. -/
def coolS : State := { zoneS (zoneQ .priming) 100000000 with
  zn := { zones := (List.range 20).map (fun z => (z, zoneQ .priming)) }, bt := { bstep := 3 } }
def sched1 : Sched := { time := 5, actn := BitVec.ofNat 64 (2 ^ 63 + 17 * 2 ^ 8 + 255) }
def schedS : State := { zoneS (zoneQ .flowing) 5 with zn := { zones := [(17, zoneQ .flowing)], scheds := [(15, sched1)] } }
def read17 (hot : Nat) (void : Bool) : List Sensors := List.replicate 18 { tj0 := hot, tj1 := 0, tj2 := 0, tj3 := 0, tin := 20, tout := 30, void := void, flow := 30, dp := 1 }

theorem test_witness_ZoneSteps :
    (∀ st ∈ [ZState.priming, .flowing, .throttled, .evacuating, .drained, .failed], (zoneS (zoneQ st) 0).zone 17 = zoneQ st) ∧
    (125 * 256 + 124) % 256 < (125 * 256 + 124) / 2 ^ 8 % 256 ∧ (0x1E001E : Word).toNat % 2 ^ 16 ≤ (0x1E001E : Word).toNat / 2 ^ 16 % 2 ^ 16 ∧
    (0x1D001E : Word).toNat / 2 ^ 16 % 2 ^ 16 < (0x1D001E : Word).toNat % 2 ^ 16 ∧ 20 ≤ (0x1400 : Word).toNat / 2 ^ 8 % 32 ∧ (0x1300 : Word).toNat / 2 ^ 8 % 32 < 20 ∧
    ((∀ k, k < 16 → (kgetD (zoneS (zoneQ .flowing) 0).zn.scheds k {}).actn.getLsbD 63 = false) ∧ kgetD schedS.zn.scheds 15 {} = sched1 ∧
      sched1.actn.getLsbD 63 = true ∧ sched1.time.toNat ≤ schedS.now ∧ sched1.actn.toNat / 2 ^ 8 % 32 = 17 ∧
      (∀ j, j < 16 → j ≠ 15 → (kgetD schedS.zn.scheds j {}).actn.getLsbD 63 = false) ∧ (schedS.zone 17).state = .flowing) ∧
    ((read17 104 false)[17]?.map Sensors.tj0 = some 104 ∧ (zoneS (zoneQ .flowing) 0).zn.tjHi = 105 ∧ (zoneS (zoneQ .flowing) 0).zn.tjShut = 125 ∧
      (zoneQ .flowing).minF ≤ 30 % 2 ^ 15 ∧ (read17 105 true)[17]?.map Sensors.void = some true ∧ (zoneQ .flowing).seen[2]?.getD false = false) ∧
    (Claims.Calm (zoneS (zoneQ .priming) 0) (zoneQ .priming) ∧ (zoneS (zoneQ .priming) 99999999).now < 0 + 100000000 ∧
      0 + 100000000 ≤ (zoneS (zoneQ .priming) 100000000).now ∧ (zoneS (zoneQ .priming) 100000000).bt.bfail = false ∧ 4 ≤ (zoneS (zoneQ .priming) 0).bt.bstep) ∧
    (coolS.zone 17 = zoneQ .priming ∧ Claims.Calm coolS (zoneQ .priming) ∧ coolS.bt.bstep = 3 ∧ Claims.CoolantChecked coolS ∧
      ¬Claims.CoolantChecked (zoneS (zoneQ .priming) 0)) ∧
    ((zoneS (zoneQ .throttled) 1000000).now = 0 + 1000000 ∧ (zoneQ .throttled).tj.foldl max 0 + 5 < (zoneS (zoneQ .throttled) 1000000).zn.tjHi) ∧
    ((zoneS (zoneQ .evacuating) 1999).now < (zoneQ .evacuating).evacAt + 2000 ∧ (zoneS (zoneQ .evacuating) 2000).slots = [] ∧
      (zoneS (zoneQ .evacuating) 2000).cores.any (fun p => p.2.matrix.isSome) = false ∧ Claims.CoreIn 143 17 ∧
      ({ zoneS (zoneQ .evacuating) 2000 with slots := [(2303, slotS)] } : State).slot 2303 = some slotS) ∧
    ((zoneQ .drained).gateAt = none ∧ (zoneQ .drained).pulses < 8 ∧ ({ zoneQ .drained with gateAt := some 0 } : Zone).gateAt = some 0 ∧
      0 + 10000000 + 200000000 * 0 ≤ (zoneS { zoneQ .drained with gateAt := some 0 } 10000000).now) ∧
    (0 < ({ zoneQ .drained with pulses := 1 } : Zone).pulses ∧ (zoneQ .drained).minF ≤ (zoneQ .drained).flow ∧ (zoneQ .drained).void = false ∧
      (zoneS { zoneQ .drained with pulses := 1 } 200000000).now ≤ 0 + 200000000) ∧
    (({ zoneQ .drained with pulses := 8, void := true } : Zone).pulses = 8 ∧ ({ zoneQ .drained with pulses := 8, void := true } : Zone).void = true) := by
  unfold Claims.Calm Claims.CoolantChecked Claims.CoreIn; and_intros <;> decide +kernel

/-- Pair 71: cores 142 and 143. -/
def pairC (p : PairState) : CoreSt := { pair := p }
def pairS (p : PairState) : State := { State.reset with
  cores := [(142, pairC p)], slots := [(2272, { slotS with pairMode := true })], msgs := [(5, { msgOf (.gett 0) with buffered := true })] }
def pairQ : PairState := { comparing := true, buffer := [5], slots := [(2272, slotS)] }
def regionS (r : Region) : State := { State.reset with hl := { regions := [((State.reset).regionOf 35, r)] } }

theorem test_witness_PairAndRegionSteps :
    ((pairS {}).core 142 = pairC {} ∧ (pairC {}).pair.comparing = false ∧ 2272 / 16 = 142 ∧ ((pairS {}).slot 2272).map Slot.pairMode = some true) ∧
    ((pairS pairQ).core 142 = pairC pairQ ∧ pairQ.comparing = true ∧ pairQ.fpA = pairQ.fpB ∧ kget (pairS pairQ).msgs 5 = some { msgOf (.gett 0) with buffered := true }) ∧
    (({ pairQ with fpB := 1 } : PairState).fpA ≠ 1 ∧ pairQ.rerun = false ∧ pairQ.slots = [(2272, slotS)] ∧ slotS.status = .ready ∧ pairQ.redo = [] ∧
      ((pairS pairQ).slot 2272).isSome = true) ∧
    (({ pairQ with fpB := 1, rerun := true } : PairState).rerun = true ∧ ((pairS pairQ).region ((pairS pairQ).regionOf (142 / 4))).state = 0) ∧
    (∀ n, n < 4 → ((regionS { state := n }).region ((regionS { state := n }).regionOf 35)).state = n) ∧
    ((∀ i ∈ kgetD (regionS { state := 1 }).hl.drain ((State.reset).regionOf 35) [], kget (regionS { state := 1 }).msgs i = none) ∧
      (regionS { state := 1 }).kn.kernels = []) ∧ (State.reset.region 7).state = 0 := by
  and_intros <;> decide +kernel

def monQ : Monitor := { sel := 0x80060000 }

theorem test_witness_HealthSteps :
    (State.reset.liveSlice 63 = true ∧ (63, 1023, 15) ∉ State.reset.vs.waysOff ∧ kgetD State.reset.vs.wayErrs (63 * 2 ^ 24 + 1023 * 2 ^ 5 + 15) 0 ≠ 2) ∧
    (63, 1023, 15) ∈ ({ State.reset with vs := { waysOff := [(63, 1023, 15)] } } : State).vs.waysOff ∧
    kgetD ({ State.reset with vs := { wayErrs := [(63 * 2 ^ 24 + 1023 * 2 ^ 5 + 15, 2)] } } : State).vs.wayErrs (63 * 2 ^ 24 + 1023 * 2 ^ 5 + 15) 0 = 2 ∧
    (net.isOwn ((2 ^ 30 - 32) / 2 ^ 42) = true ∧ (2 ^ 30 - 32) % 2 ^ 42 / 32 * 32 + 32 ≤ net.memBytes) ∧
    ((State.reset.monitor 15).sel.getLsbD 31 = false ∧ monQ.sel.getLsbD 31 = true ∧ monQ.sel.toNat / 2 ^ 16 % 256 = 6 ∧
      ({ State.reset with hl := { mons := [(15, monQ)] } } : State).monitor 15 = monQ) ∧
    (State.reset.hl.lifeAt ≤ State.reset.now ∧ (State.reset.now - 0) / 60000000000 = 0 ∧ 0 < (({ State.reset with t := { time := 60000000000 } } : State).now - 0) / 60000000000) ∧
    net.agentKnown net.ownAgent = true ∧ (net.ctx 1).state.admitted' = true := by
  and_intros <;> decide +kernel

def part0 : FusedPart := { step := 15, uid := 7, arb := 63, fused := [143], gran := [], ways := [], live := 1, tablesOk := true }
def copyN (n : Nat) : FlashCopy := { keyOk := true, sigOk := true, svn := n }
def bootS (n now : Nat) : State := { State.reset with bt := { bstep := n }, t := { time := now } }
def attS : State := { net with bt := { bstep := 6, attBusy := true, nonce := bytesOf 8 7, attBuf := BitVec.ofNat 64 (2 ^ 30 - 4883) } }

theorem test_witness_BringUpSteps :
    (part0.tablesOk = true ∧ max State.reset.bt.arb (part0.arb % 64) ≤ (copyN 63).svn ∧ ¬(max State.reset.bt.arb (part0.arb % 64) ≤ (copyN 62).svn) ∧
      (copyN 63).keyOk = true ∧ (copyN 63).sigOk = true ∧ ({ part0 with tablesOk := false } : FusedPart).tablesOk = false) ∧
    ((bootS 3 9999999999).bt.bstepAt + 10000000000 > (bootS 3 9999999999).now ∧ (bootS 3 10000000000).bt.bstepAt + 10000000000 ≤ (bootS 3 10000000000).now ∧
      (bootS 3 0).bt.bfail = false ∧ (bootS 4 0).bt.bstep = 4) ∧
    (∀ k ∈ ([{ trained := true, height := 16, density := 32, grade := 100 }, { trained := true, height := 8, density := 24, grade := 64 }] : List Stack),
      k.trained = true ∧ k.height ∈ [8, 12, 16] ∧ k.density ∈ [24, 32] ∧ k.grade ∈ [64, 80, 100]) ∧
    (attS.bt.attBusy = true ∧ attS.bt.attWrite = none ∧ attS.bt.nonce.length = 8 ∧ attS.local' attS.bt.attBuf.toNat = true ∧
      attS.bt.attBuf.toNat % 2 ^ 42 + 4883 = attS.memBytes ∧ net.bt.attBusy = false) ∧ (wS.slot wS.o.cur).isSome = true := by
  and_intros <;> decide +kernel

/-! ### Register writes and the machine as a whole -/

theorem test_witness_RegisterWrites :
    (∀ c, c < 16 → (State.reset.ctx c).state ≠ .resident) ∧ (net.ctx 1).state = .resident ∧ State.reset.kn.kbusy = false ∧ (loadS [] cmd2).kn.kbusy = true ∧
    ((0xFF1 : Word).toNat % 16 = 1 ∧ (0xFF1 : Word).toNat / 2 ^ 4 % 16 = 15) ∧
    ((0x80000FFE_FFFFFFFF : Word).toNat / 2 ^ 52 % 2 ^ 10 = 0 ∧ (0x80000FFE_FFFFFFFF : Word).toNat / 2 ^ 20 % 2 ^ 12 ≠ 0 ∧
      (0x80000FFE_FFFFFFFF : Word).getLsbD 32 = false ∧ (0x80000FFE_FFFFFFFF : Word).toNat / 2 ^ 62 = 2) ∧
    State.reset.lk.hctx < 16 ∧ (kgetD State.reset.hl.pairCtx 15 (4, false)).1 < 128 := by
  and_intros <;> decide +kernel

/-- ADD at pc 0 of slot 0, and a word that is no instruction. -/
def runS (ws : List Nat) : State := State.reset.loadWords (bytesOfWords ws)
def wordsAtB (s : State) (ws : List Nat) : Bool := (List.range ws.length).all (fun j => s.fetchable 0 (cur s) ((cur s).wordAt j) &&
  s.inSegment 0 (cur s) (cur s).pc.toNat ((cur s).wordAt j) && ws[j]? == some ((s.core 0).loc.readN ((cur s).wordAt j) 2))

theorem wordsAt_of {s : State} {ws : List Nat} (h : wordsAtB s ws = true) : Claims.WordsAt s 0 (cur s) ws := by
  intro j w hj
  have hl : j < ws.length := by
    rcases Nat.lt_or_ge j ws.length with h' | h'
    · exact h'
    · rw [List.getElem?_eq_none h'] at hj; cases hj
  simp only [wordsAtB, List.all_eq_true, List.mem_range, Bool.and_eq_true, beq_iff_eq] at h
  obtain ⟨⟨h1, h2⟩, h3⟩ := h j hl
  exact ⟨h1, h2, Option.some.inj (hj.symm.trans h3)⟩

/-- A die with nothing to do, in a cycle that starts no period. -/
def pairRun : State := { runS [0x0400] with slots := [(0, { ((runS [0x0400]).slot 0).getD {} with pairMode := true })] }
def idle : State := { State.reset with t := { cycle := 1 } }

theorem test_witness_StepRunsDecoded :
    (Claims.WordsAt (runS [0xF405, 0x1064]) 0 (cur (runS [0xF405, 0x1064])) [0xF405, 0x1064] ∧
      decode [0xF405, 0x1064] = .ok (.add { Chain.zero with hasX := true, a := 3, b := 4, c := 5 }) 2 ∧
      (Instr.add { Chain.zero with hasX := true, a := 3, b := 4, c := 5 }).wf = true ∧ (runS [0xF405, 0x1064]).o.agenda = [] ∧
      (runS [0xF405, 0x1064]).nextIssue = some (0, cur (runS [0xF405, 0x1064])) ∧ (cur (runS [0xF405, 0x1064])).late = none ∧
      (cur (runS [0xF405, 0x1064])).status = .ready) ∧
    (pairRun.nextIssue = some (0, cur pairRun) ∧ (cur pairRun).pairMode = true ∧ Claims.WordsAt pairRun 0 (cur pairRun) [0x0400]) ∧
    (Claims.WordsAt (runS [0xF405, 0xF405]) 0 (cur (runS [0xF405, 0xF405])) [0xF405, 0xF405] ∧ decode [0xF405, 0xF405] = .illegal 0xF405 1) ∧
    ({ runS [] with kn := {} } : State).fetchable 0 (cur (runS [])) ((cur (runS [])).wordAt 0) = false ∧
    (phaseOf (.write (far 1)) ≠ .now ∧ phaseOf .timeTick = .now ∧
      ({ State.reset with o := { agenda := [.write (far 1), .timeTick] } } : State).o.agenda = [.write (far 1)] ++ .timeTick :: []) ∧
    ((∀ i ∈ idle.o.agenda, phaseOf i ≠ .now) ∧ idle.nextIssue = none ∧ idle.nextDue 1 dueClasses = none ∧
      (({ idle with t := { cycle := 1024 } } : State).nextDue 1 dueClasses).isSome = true ∧ ({ idle with t := { cycle := 1024 } } : State).nextIssue = none) := by
  and_intros <;> first | exact wordsAt_of (by decide +kernel) | decide +kernel



theorem test_witness_DecodeEncode : (∃ o c, Instr.slotOp (.nop Chain.zero) = some (o, c)) ∧ (Instr.nop Chain.zero).wf = true ∧
    (Instr.vadd { Chain.zero with hasX := true, hasP := true, hasA := true, a := 127, b := 127, c := 127, mod := 8, stall := 7, gang := 3, lmask := 7 }).wf = true :=
  ⟨⟨_, _, rfl⟩, by decide +kernel, by decide +kernel⟩

/-- An outcome that is a next state. -/
def isNext (o : Host.Outcome State Fault Refusal) : Bool := match o with | .next _ => true | _ => false
theorem next_of {o : Host.Outcome State Fault Refusal} (h : isNext o = true) : ∃ t : State, o = .next t := by
  cases o <;> simp [isNext] at h; exact ⟨_, rfl⟩

theorem test_witness_MemoryStaysCanonical : Claims.Canonical State.reset ∧ Claims.Canonical (runS [0x0400]) ∧ ∃ t : State, step (runS [0x0400]) = .next t :=
  ⟨⟨by decide +kernel, by decide +kernel⟩, ⟨by decide +kernel, by decide +kernel⟩, next_of (by decide +kernel)⟩

end Sys2Proof.Tests
end

section
/-!
What a read of memory gives after a write (00 R3; log 4: an address that is not listed reads as 0).
-/

namespace Sys2Proof

theorem kget_append {α : Type} (l r : KMap α) (i : Nat) : kget (l ++ r) i = (kget l i).or (kget r i) := by
  induction l with
  | nil => rfl
  | cons p l ih =>
    obtain ⟨k, u⟩ := p
    by_cases h : k = i
    · simp [kget, h]
    · simpa [kget, h] using ih

theorem kget_filter_key {α : Type} (m : KMap α) (f : Nat → Bool) (i : Nat) :
    kget (m.filter fun p => f p.1) i = if f i then kget m i else none := by
  induction m with
  | nil => simp
  | cons p m ih =>
    obtain ⟨k, u⟩ := p
    by_cases h : k = i
    · subst h
      cases hf : f k <;> simp_all [kget]
    · cases hf : f k <;> simp_all [kget]

namespace Machine

/-- The cells of bytes hold the bytes that are not 0, each under its address. -/
theorem kget_cellsOf (a b : Nat) (bs : List Byte) :
    kget (cellsOf a bs) b = if a ≤ b then bs[b - a]?.filter (· != 0) else none := by
  induction bs generalizing a with
  | nil => simp [cellsOf]
  | cons c bs ih =>
    have hhead : kget (cellsOf a (c :: bs)) b = if a = b then (some c).filter (· != 0) else kget (cellsOf (a + 1) bs) b := by
      simp only [cellsOf]
      split
      · subst ‹c = 0›
        split
        · rw [ih, if_neg (by omega)]
          rfl
        · rfl
      · simp only [kget]
        split
        · rw [Option.filter_some, if_pos (bne_iff_ne.2 ‹¬c = 0›)]
        · rfl
    rw [hhead, ih]
    rcases Nat.lt_trichotomy b a with h | rfl | h
    · rw [if_neg (by omega), if_neg (by omega), if_neg (by omega)]
    · simp
    · obtain ⟨d, rfl⟩ := Nat.exists_eq_add_of_lt h
      have hd : a + d + 1 - a = d + 1 := by omega
      have hd' : a + d + 1 - (a + 1) = d := by omega
      rw [if_neg (by omega), if_pos (by omega), if_pos (by omega), hd, hd', List.getElem?_cons_succ]

/-- Bytes that are written are read back, and every other address reads as it did. -/
theorem Memory.read_write (m : Memory) (a b : Nat) (bs : List Byte) :
    (m.write a bs).read b = if a ≤ b ∧ b < a + bs.length then bs[b - a]?.getD 0 else m.read b := by
  simp only [Memory.read, Memory.write, kgetD, kget_append, kget_filter_key m (fun k => decide (k < a)),
    kget_filter_key m (fun k => decide (a + bs.length ≤ k)), kget_cellsOf, decide_eq_true_eq]
  rcases Nat.lt_or_ge b a with hlo | hlo
  · rw [if_pos hlo, if_neg (by omega), if_neg (by omega), if_neg (by omega)]
    simp
  · rcases Nat.lt_or_ge b (a + bs.length) with hhi | hhi
    · rw [if_neg (by omega), if_pos hlo, if_neg (by omega), if_pos ⟨hlo, hhi⟩]
      by_cases h0 : bs[b - a]'(by omega) = 0#8 <;> simp [List.getElem?_eq_getElem (show b - a < bs.length by omega), Option.filter_some, h0]
    · rw [if_neg (by omega), if_pos hlo, if_pos hhi, if_neg (by omega), List.getElem?_eq_none (by omega)]
      simp

/-- Settles O33: `Memory.wf_write` keeps the canonical form, `Memory.read_write` gives every byte. -/
theorem memoryReadsBack : Obligations.MemoryReadsBack := by
  unfold Obligations.MemoryReadsBack
  exact fun m a b bs hm => ⟨Memory.wf_write hm a bs, Memory.read_write m a b bs⟩

end Machine

end Sys2Proof
end

section
/-!
Every instruction, every event of a cycle and every step of the die answers a next state (00 R6; 18 R354).
-/

namespace Sys2Proof.Machine

/-- An outcome that is a next state: no stop of the machine. -/
def Answers (o : Host.Outcome State Fault Refusal) : Prop := ∃ t : State, o = .next t

theorem answers_next (t : State) : Answers (.next t) := ⟨t, rfl⟩

/-! ### The instructions -/

/-- A packet that passes through is sent on; one that is acted upon answers as its meaning does. -/
theorem State.packetStep_answers (s : State) (p : Packet) {f : State → Host.Outcome State Fault Refusal} (hf : ∀ s, Answers (f s)) :
    Answers (s.packetStep p f) := by
  rcases s.packetStep_cases p f with h | h | h <;> rw [h]
  · exact hf s
  · exact hf (s.hear p.src)
  · exact answers_next _

/-- The meaning of an instruction is a next state outright, or one in every branch of its definition. -/
theorem exec_answers (i : Instr) (s : State) : Answers (exec i s) := by
  cases i with simp only [exec]
  -- slots and the SFU (04, 07)
  | stallEnd sid => fun_cases execStallEnd sid s <;> exact answers_next _
  | resultWrite sid => fun_cases execResultWrite sid s <;> exact answers_next _
  | deposit rid response => fun_cases execDeposit rid response s <;> exact answers_next _
  | yieldTimeout sid => fun_cases execYieldTimeout sid s <;> exact answers_next _
  | waittComplete sid => fun_cases execWaittComplete sid s <;> exact answers_next _
  | lateFault sid => fun_cases execLateFault sid s <;> exact answers_next _
  | sfuStart core => fun_cases execSfuStart core s <;> exact answers_next _
  | sfuResult core => fun_cases execSfuResult core s <;> exact answers_next _
  | illegalEncoding w pos => fun_cases execIllegalEncoding w pos s <;> exact answers_next _
  -- paging and memory (08, 09)
  | walkEnd wid => fun_cases execWalkEnd wid s <;> exact answers_next _
  | fqReplay => fun_cases execFqReplay s <;> exact answers_next _
  | homeAccess rid => fun_cases execHomeAccess rid s <;> exact answers_next _
  | sliceSplitWrite v => fun_cases execSliceSplitWrite v s <;> exact answers_next _
  | sliceSplitDone => fun_cases execSliceSplitDone s <;> exact answers_next _
  | lmapWrite core v => fun_cases execLmapWrite core v s <;> exact answers_next _
  | xtopWrite core v => fun_cases execXtopWrite core v s <;> exact answers_next _
  -- tile versions (10)
  | versionOpenAtHome rid => fun_cases execVersionOpenAtHome rid s <;> exact answers_next _
  | versionStoreAtHome rid => fun_cases execVersionStoreAtHome rid s <;> exact answers_next _
  | versionSealAtHome rid => fun_cases execVersionSealAtHome rid s <;> exact answers_next _
  | versionContribution rid => fun_cases execVersionContribution rid s <;> exact answers_next _
  | versionLoadAtHome rid => fun_cases execVersionLoadAtHome rid s <;> exact answers_next _
  | versionProbeAtHome rid => fun_cases execVersionProbeAtHome rid s <;> exact answers_next _
  | versionCountChange rid => fun_cases execVersionCountChange rid s <;> exact answers_next _
  | versionReclaimEnd ctx h => fun_cases execVersionReclaimEnd ctx h s <;> exact answers_next _
  | nameAllocation rid => fun_cases execNameAllocation rid s <;> exact answers_next _
  | versionPoison ctx h offset => fun_cases execVersionPoison ctx h offset s <;> exact answers_next _
  -- the queue (12)
  | taskDispatch entry => fun_cases execTaskDispatch entry s <;> exact answers_next _
  | groupTaskDispatch entry => fun_cases execGroupTaskDispatch entry s <;> exact answers_next _
  | hostPost offset data => fun_cases execHostPost offset data s <;> exact answers_next _
  | packetLeave sid => fun_cases execPacketLeave sid s <;> exact answers_next _
  | sendTruncTimeout sid => fun_cases execSendTruncTimeout sid s <;> exact answers_next _
  | packetAccept p => fun_cases execPacketAccept p s <;> exact answers_next _
  -- the engines (13)
  | matrixDispatch entry core => fun_cases execMatrixDispatch entry core s <;> exact answers_next _
  | tileFetch core => fun_cases execTileFetch core s <;> exact answers_next _
  | matrixFoldEnd core => fun_cases execMatrixFoldEnd core s <;> exact answers_next _
  | matrixSeal core => fun_cases execMatrixSeal core s <;> exact answers_next _
  | matrixStop core => fun_cases execMatrixStop core s <;> exact answers_next _
  | channelPush rid => fun_cases execChannelPush rid s <;> exact answers_next _
  | copyStart ch => fun_cases execCopyStart ch s <;> exact answers_next _
  | copyComplete ch => fun_cases execCopyComplete ch s <;> exact answers_next _
  | copyFail ch => fun_cases execCopyFail ch s <;> exact answers_next _
  | copyTaskDispatch entry => fun_cases execCopyTaskDispatch entry s <;> exact answers_next _
  | bteChannelEnable ch => fun_cases execBteChannelEnable ch s <;> exact answers_next _
  | bteChannelDisable ch => fun_cases execBteChannelDisable ch s <;> exact answers_next _
  | flush ch => fun_cases execFlush ch s <;> exact answers_next _
  | resume ch => fun_cases execResume ch s <;> exact answers_next _
  | fifoPush rid => fun_cases execFifoPush rid s <;> exact answers_next _
  | fifoPop rid => fun_cases execFifoPop rid s <;> exact answers_next _
  -- kernels and passage (14, 15)
  | kernelLoad cmd => fun_cases execKernelLoad cmd s <;> exact answers_next _
  | kernelUnload cmd => fun_cases execKernelUnload cmd s <;> exact answers_next _
  | kernelOverlay cmd => fun_cases execKernelOverlay cmd s <;> exact answers_next _
  | badcmd cmd => fun_cases execBadcmd cmd s <;> exact answers_next _
  | kernelLoadEnd => fun_cases execKernelLoadEnd s <;> exact answers_next _
  | kernelOverlayEnd => fun_cases execKernelOverlayEnd s <;> exact answers_next _
  | passageReserve rid => fun_cases execPassageReserve rid s <;> exact answers_next _
  | passageGrant rid => fun_cases execPassageGrant rid s <;> exact answers_next _
  | passageImageWritten rid => fun_cases execPassageImageWritten rid s <;> exact answers_next _
  | arrivalStart core => fun_cases execArrivalStart core s <;> exact answers_next _
  | startNotice rid => fun_cases execStartNotice rid s <;> exact answers_next _
  -- groups and launches (16)
  | groupPlace deal => fun_cases execGroupPlace deal s <;> exact answers_next _
  | launchPost v ctx => fun_cases execLaunchPost v ctx s <;> exact answers_next _
  | launchCountRead l => fun_cases execLaunchCountRead l s <;> exact answers_next _
  | launchDealRound l => fun_cases execLaunchDealRound l s <;> exact answers_next _
  | launchReleaseTime l => fun_cases execLaunchReleaseTime l s <;> exact answers_next _
  -- barriers and stealing (17)
  | barrierArm q => fun_cases execBarrierArm q s <;> exact answers_next _
  | barrierClear q => fun_cases execBarrierClear q s <;> exact answers_next _
  | barrierArrival q => fun_cases execBarrierArrival q s <;> exact answers_next _
  | barrierWait q => fun_cases execBarrierWait q s <;> exact answers_next _
  | barrierQuery q => fun_cases execBarrierQuery q s <;> exact answers_next _
  | stealSend ctx pulled => fun_cases execStealSend ctx pulled s <;> exact answers_next _
  -- contexts (18)
  | ctxBuild ctx pa => fun_cases execCtxBuild ctx pa s <;> exact answers_next _
  | contextReclaimEnd ctx => fun_cases execContextReclaimEnd ctx s <;> exact answers_next _
  | slotSave sid => fun_cases execSlotSave sid s <;> exact answers_next _
  | savedSlotPlace ctx => fun_cases execSavedSlotPlace ctx s <;> exact answers_next _
  | replyToImage rid response => fun_cases execReplyToImage rid response s <;> exact answers_next _
  | qosPeriodStart => fun_cases execQosPeriodStart s <;> exact answers_next _
  -- the host, the links and their packets (18, 19)
  | hostRead bar offset size => fun_cases execHostRead bar offset size s <;> exact answers_next _
  | hostWrite bar offset data => fun_cases execHostWrite bar offset data s <;> exact answers_next _
  | hostLocalWrite offset data => fun_cases execHostLocalWrite offset data s <;> exact answers_next _
  | linkEnable m v => fun_cases execLinkEnable m v s <;> exact answers_next _
  | retrain m => fun_cases execRetrain m s <;> exact answers_next _
  | linkTrainingEnd m r => fun_cases execLinkTrainingEnd m r s <;> exact answers_next _
  | laneRepair m => fun_cases execLaneRepair m s <;> exact answers_next _
  | linkIdleTimeout m => fun_cases execLinkIdleTimeout m s <;> exact answers_next _
  | linkWake m => fun_cases execLinkWake m s <;> exact answers_next _
  | linkWakeEnd m ok => fun_cases execLinkWakeEnd m ok s <;> exact answers_next _
  | discover m r => fun_cases execDiscover m r s <;> exact answers_next _
  | discoveryEnd => fun_cases execDiscoveryEnd s <;> exact answers_next _
  | retryResend rid => fun_cases execRetryResend rid s <;> exact answers_next _
  | agentDownTimeout agent => fun_cases execAgentDownTimeout agent s <;> exact answers_next _
  | acknowledgement rid answer => fun_cases execAcknowledgement rid answer s <;> exact answers_next _
  | flitReceive m f => fun_cases execFlitReceive m f s <;> exact answers_next _
  -- zones (20)
  | zonePrimed z => fun_cases execZonePrimed z s <;> exact answers_next _
  | zoneThrottleEnd z => fun_cases execZoneThrottleEnd z s <;> exact answers_next _
  | evacuationSaveEnd z => fun_cases execEvacuationSaveEnd z s <;> exact answers_next _
  | zoneGateEnd z => fun_cases execZoneGateEnd z s <;> exact answers_next _
  | reprimePulse z => fun_cases execReprimePulse z s <;> exact answers_next _
  | reprimeResult z => fun_cases execReprimeResult z s <;> exact answers_next _
  | valveSchedWrite k actn v => fun_cases execValveSchedWrite k actn v s <;> exact answers_next _
  | zoneAllocWrite z v => fun_cases execZoneAllocWrite z v s <;> exact answers_next _
  | zoneLimitWrite v => fun_cases execZoneLimitWrite v s <;> exact answers_next _
  -- pairs, regions and health (21)
  | pairCheckpoint pair => fun_cases execPairCheckpoint pair s <;> exact answers_next _
  | pairCompareEnd pair => fun_cases execPairCompareEnd pair s <;> exact answers_next _
  | regionFence grotto => fun_cases execRegionFence grotto s <;> exact answers_next _
  | regionDrained grotto => fun_cases execRegionDrained grotto s <;> exact answers_next _
  | regionResetEnd grotto => fun_cases execRegionResetEnd grotto s <;> exact answers_next _
  | regionDefWrite r v => fun_cases execRegionDefWrite r v s <;> exact answers_next _
  | correctedError slice set way => fun_cases execCorrectedError slice set way s <;> exact answers_next _
  | scrub pa corrected stored => fun_cases execScrub pa corrected stored s <;> exact answers_next _
  | monClear m => fun_cases execMonClear m s <;> exact answers_next _
  | lifetimeUpdate => fun_cases execLifetimeUpdate s <;> exact answers_next _
  | uncorrectableError w => fun_cases execUncorrectableError w s <;> exact answers_next _
  | monitorSample m v => fun_cases execMonitorSample m v s <;> exact answers_next _
  -- reset and bring-up (22)
  | dieReset part copyA copyB => fun_cases execDieReset part copyA copyB s <;> exact answers_next _
  | bringupTimeout => fun_cases execBringupTimeout s <;> exact answers_next _
  | hbm4TrainingEnd stackList => fun_cases execHbm4TrainingEnd stackList s <;> exact answers_next _
  | arbRaise v => fun_cases execArbRaise v s <;> exact answers_next _
  | attestationStart v => fun_cases execAttestationStart v s <;> exact answers_next _
  | attestationDone => fun_cases execAttestationDone s <;> exact answers_next _
  -- packets of other agents that the die acts upon only where it is their end
  | launchDeal p | roomReport p | exitReport p | mirrorUpdate p | leaderQuery p | barrierReleasePacket p | steal p | grant p =>
    refine s.packetStep_answers p fun s => ?_
    dsimp only
    repeat' split
    all_goals exact answers_next _
  | _ => exact answers_next _

/-! ### The turn of a slot -/

theorem State.paired_answers (s : State) (sid : Nat) (i : Instr) {r : Host.Outcome State Fault Refusal} (hr : Answers r) :
    Answers (s.paired sid i r) := by
  obtain ⟨t, rfl⟩ := hr
  exact answers_next _

/-- An instruction that cannot be fetched, and a word that is none, are traps of the slot. -/
theorem State.runSlot_answers (s : State) (sid : Nat) (x : Slot) : Answers (s.runSlot sid x) := by
  unfold State.runSlot
  cases s.fetch (sid / 16) x with
  | run i =>
    dsimp only
    split
    · exact s.paired_answers sid i (exec_answers i s)
    · exact exec_answers i s
  | illegal w pos => exact exec_answers (.illegalEncoding w pos) s
  | fault c v => exact answers_next _

theorem State.issueSlot_answers (s : State) (sid : Nat) (x : Slot) : Answers (s.issueSlot sid x) := by
  rcases s.issueSlot_cases sid x with h | ⟨-, h⟩ | h <;> rw [h]
  · exact exec_answers (.waittComplete sid) _
  · exact exec_answers (.lateFault sid) _
  · exact State.runSlot_answers _ sid x

/-! ### The events of a cycle -/

theorem State.take_answers (s : State) (k : Phase) : Answers (s.take k) := by
  unfold State.take
  split
  · exact exec_answers _ _
  · exact answers_next _

/-- A message at its home starts one step of the home. -/
theorem State.arriveMsg_answers (s : State) (rid : Nat) (m : Msg) : Answers (s.arriveMsg rid m) := by
  unfold State.arriveMsg
  cases m.op with
  | vname => exact exec_answers (.nameAllocation rid) s
  | vopen => exact exec_answers (.versionOpenAtHome rid) s
  | vstore => exact exec_answers (.versionStoreAtHome rid) s
  | vseal => exact exec_answers (.versionSealAtHome rid) s
  | vacc => exact exec_answers (.versionContribution rid) s
  | vload | vwait => exact exec_answers (.versionLoadAtHome rid) s
  | vprobe => exact exec_answers (.versionProbeAtHome rid) s
  | vref | vrel | vconsume => exact exec_answers (.versionCountChange rid) s
  | push =>
    dsimp only
    split
    · exact exec_answers (.fifoPush rid) s
    · split
      · exact exec_answers (.channelPush rid) s
      · exact exec_answers (.homeAccess rid) s
  | pop =>
    dsimp only
    split
    · exact exec_answers (.fifoPop rid) s
    · exact exec_answers (.homeAccess rid) s
  | packet => exact exec_answers (.packetAccept (.inNetwork rid)) s
  | reserve => exact exec_answers (.passageReserve rid) s
  | startNotice => exact exec_answers (.startNotice rid) s
  | barrier op =>
    match op with
    | 0 => exact exec_answers (.barrierArm (.own rid)) s
    | 1 => exact exec_answers (.barrierClear (.own rid)) s
    | 3 => exact exec_answers (.barrierWait (.own rid)) s
    | 4 => exact exec_answers (.barrierQuery (.own rid)) s
    | 2 | _ + 5 => exact exec_answers (.barrierArrival (.own rid)) s
  | _ => exact exec_answers (.homeAccess rid) s

theorem State.giveAnswer_answers (s : State) (rid : Nat) : Answers (s.giveAnswer rid) := by
  unfold State.giveAnswer
  split
  · exact exec_answers (.passageGrant rid) s
  · exact exec_answers (.acknowledgement rid 0) s

theorem State.dispatchMatrix_answers (s : State) (i : Nat) : Answers (s.dispatchMatrix i) := by
  unfold State.dispatchMatrix
  split
  · exact exec_answers (.matrixDispatch i _) s
  · exact answers_next _

theorem State.matrixStep_answers (s : State) (c : Nat) : Answers (s.matrixStep c) := by
  fun_cases State.matrixStep s c
  · exact answers_next _
  · exact exec_answers (.matrixStop c) s
  · exact exec_answers (.matrixSeal c) s
  · exact exec_answers (.matrixFoldEnd c) s
  all_goals exact exec_answers (.tileFetch c) s

theorem State.copyStep_answers (s : State) (n : Nat) : Answers (s.copyStep n) := by
  fun_cases State.copyStep s n
  · exact exec_answers (.copyFail n) s
  · exact exec_answers (.copyComplete n) s
  · exact exec_answers (.copyStart n) s

theorem State.answerHost_answers (s : State) (i : Nat) : Answers (s.answerHost i) := by
  unfold State.answerHost
  split
  · exact exec_answers (.hostRead _ _ _) s
  · exact answers_next _

/-- Whichever of its events has its turn, a class of events answers a next state. -/
def Due.Answering (c : Due) : Prop := ∀ (n : Nat) (s : State), Answers (c.2 n s)

/-- Every class of a list answers a next state. -/
def AllAnswering (cs : List Due) : Prop := ∀ c ∈ cs, c.Answering

theorem allAnswering_nil : AllAnswering [] ↔ True := iff_true_intro fun _ h => nomatch h

theorem allAnswering_cons {c : Due} {cs : List Due} : AllAnswering (c :: cs) ↔ c.Answering ∧ AllAnswering cs := List.forall_mem_cons

theorem allAnswering_append {cs ds : List Due} : AllAnswering (cs ++ ds) ↔ AllAnswering cs ∧ AllAnswering ds := List.forall_mem_append

theorem arrivals_answering (k : Phase) : (arrivals k).Answering := fun _ s => s.take_answers k

theorem dueMsgs_answering (n : Nat) : (dueMsgs n).Answering := fun r s => by
  simp only [dueMsgs, due]
  split
  · exact s.arriveMsg_answers r _
  · exact answers_next s

/-- The class that has the turn is one of the list. -/
theorem State.nextDue_answers (s : State) {cs : List Due} (hcs : AllAnswering cs) {k : Nat} {r : Host.Outcome State Fault Refusal}
    (hr : s.nextDue k cs = some r) : Answers r := by
  induction cs generalizing k with
  | nil => cases hr
  | cons c cs ih =>
    obtain ⟨hc, hcs⟩ := allAnswering_cons.1 hcs
    unfold State.nextDue at hr
    split at hr
    · exact ih hcs hr
    · split at hr
      · exact ih hcs hr
      · cases hr
        exact hc _ _

/-! ### The classes of events -/

theorem dueBreaks_answering : AllAnswering dueBreaks := by
  simp only [dueBreaks, allAnswering_cons, allAnswering_nil, and_true]
  exact ⟨arrivals_answering _, fun n => exec_answers (.agentDownTimeout n), fun n => exec_answers (.pairCompareEnd n)⟩

theorem dueStalls_answering : AllAnswering dueStalls := by
  simp only [dueStalls, allAnswering_cons, allAnswering_nil, and_true]
  exact ⟨fun n => exec_answers (.yieldTimeout n), fun n => exec_answers (.stallEnd n)⟩

theorem dueResults_answering : AllAnswering dueResults := by
  simp only [dueResults, allAnswering_append, allAnswering_cons, allAnswering_nil, and_true]
  exact ⟨⟨⟨fun n => exec_answers (.sfuStart n), fun n => exec_answers (.sfuResult n), fun n => exec_answers (.resultWrite n)⟩,
    dueStalls_answering⟩, fun n => exec_answers (.sendTruncTimeout n)⟩

theorem dueRequests_answering : AllAnswering dueRequests := by
  simp only [dueRequests, allAnswering_cons, allAnswering_nil, and_true]
  exact ⟨fun _ => exec_answers .qosPeriodStart, fun _ _ => answers_next _, fun n => exec_answers (.packetLeave n), dueMsgs_answering 0,
    arrivals_answering _, arrivals_answering _, arrivals_answering _, arrivals_answering _, dueMsgs_answering 3, arrivals_answering _,
    dueMsgs_answering 1, arrivals_answering _, dueMsgs_answering 2⟩

theorem dueAnswers_answering : AllAnswering dueAnswers := by
  simp only [dueAnswers, allAnswering_cons, allAnswering_nil, and_true]
  exact ⟨fun r s => s.giveAnswer_answers r, fun n => exec_answers (.deposit n none), fun n => exec_answers (.replyToImage n none),
    fun r s => s.giveAnswer_answers r, fun n => exec_answers (.retryResend n), fun _ => exec_answers .vnoticeResend⟩

theorem dueWalks_answering : AllAnswering dueWalks := by
  simp only [dueWalks, allAnswering_cons, allAnswering_nil, and_true]
  exact ⟨fun _ _ => answers_next _, fun _ _ => answers_next _, fun n => exec_answers (.walkEnd n)⟩

theorem dueSaves_answering : AllAnswering dueSaves := by
  simp only [dueSaves, allAnswering_cons, allAnswering_nil, and_true]
  exact ⟨fun n => exec_answers (.pairCheckpoint n), fun _ _ => answers_next _, fun n => exec_answers (.slotSave n),
    fun n => exec_answers (.slotSave n), fun _ _ => answers_next _⟩

theorem dueSpills_answering : AllAnswering dueSpills := by
  simp only [dueSpills, allAnswering_cons, allAnswering_nil, and_true]
  exact fun _ _ => answers_next _

theorem dueZones_answering : AllAnswering dueZones := by
  simp only [dueZones, allAnswering_cons, allAnswering_nil, and_true]
  exact ⟨fun _ _ => answers_next _, fun n => exec_answers (.zonePrimed n), fun n => exec_answers (.zoneThrottleEnd n),
    fun n => exec_answers (.evacuationSaveEnd n), fun n => exec_answers (.zoneGateEnd n), fun n => exec_answers (.reprimeResult n),
    fun n => exec_answers (.reprimePulse n), fun _ => exec_answers .valveSchedFire⟩

theorem duePlacements_answering : AllAnswering duePlacements := by
  simp only [duePlacements, allAnswering_cons, allAnswering_nil, and_true]
  exact ⟨fun n => exec_answers (.savedSlotPlace n), fun n => exec_answers (.arrivalStart n), fun n => exec_answers (.groupPlace n),
    fun n => exec_answers (.taskReleaseTime n), fun n => exec_answers (.groupTaskDispatch n), fun n => exec_answers (.taskDispatch n),
    fun i s => s.dispatchMatrix_answers i, fun n => exec_answers (.copyTaskDispatch n), arrivals_answering _⟩

theorem dueEngines_answering : AllAnswering dueEngines := by
  simp only [dueEngines, allAnswering_cons, allAnswering_nil, and_true]
  exact ⟨fun n s => s.copyStep_answers n, fun c s => s.matrixStep_answers c, arrivals_answering _⟩

theorem dueKernels_answering : AllAnswering dueKernels := by
  simp only [dueKernels, allAnswering_cons, allAnswering_nil, and_true]
  exact ⟨fun _ => exec_answers .kernelLoadEnd, fun _ => exec_answers .kernelOverlayEnd, fun n => exec_answers (.passageImageWritten n)⟩

theorem dueLaunches_answering : AllAnswering dueLaunches := by
  simp only [dueLaunches, allAnswering_cons, allAnswering_nil, and_true]
  refine ⟨fun n s => ?_, fun n => exec_answers (.launchReleaseTime n), fun n => exec_answers (.launchCountRead n),
    fun n => exec_answers (.launchDealRound n), fun c => exec_answers (.stealSend c false)⟩
  simp only [due]
  split
  · exact exec_answers (.launchPost _ _) s
  · exact answers_next s

theorem dueContexts_answering : AllAnswering dueContexts := by
  simp only [dueContexts, allAnswering_cons, allAnswering_nil, and_true]
  refine ⟨fun c s => ?_, fun n => exec_answers (.contextReclaimEnd n), fun i s => ?_, fun _ => exec_answers .sliceSplitDone⟩
  · simp only [due]
    split
    · exact exec_answers (.ctxBuild c _) s
    · exact answers_next s
  · simp only [due]
    split
    · exact exec_answers (.versionReclaimEnd _ _) s
    · exact answers_next s

theorem dueRegions_answering : AllAnswering dueRegions := by
  simp only [dueRegions, allAnswering_cons, allAnswering_nil, and_true]
  exact ⟨fun n => exec_answers (.regionDrained n), fun n => exec_answers (.regionResetEnd n)⟩

theorem dueLinks_answering : AllAnswering dueLinks := by
  simp only [dueLinks, allAnswering_cons, allAnswering_nil, and_true]
  exact ⟨fun n => exec_answers (.linkIdleTimeout n), fun n => exec_answers (.linkWake n), fun _ => exec_answers .discoveryEnd,
    fun _ => exec_answers .timeTick, fun _ => exec_answers .bringupTimeout⟩

theorem dueRest_answering : AllAnswering dueRest := by
  simp only [dueRest, allAnswering_cons, allAnswering_nil, and_true]
  exact ⟨fun i s => s.answerHost_answers i, fun _ => exec_answers .attestationDone, fun _ => exec_answers .lifetimeUpdate⟩

theorem dueClasses_answering : AllAnswering dueClasses := by
  simp only [dueClasses, allAnswering_append, and_assoc]
  exact ⟨dueBreaks_answering, dueResults_answering, dueRequests_answering, dueAnswers_answering, dueWalks_answering, dueSaves_answering,
    dueSpills_answering, dueZones_answering, duePlacements_answering, dueEngines_answering, dueKernels_answering, dueLaunches_answering,
    dueContexts_answering, dueRegions_answering, dueLinks_answering, dueRest_answering, dueStalls_answering⟩

/-! ### The die -/

theorem step_answers (s : State) : Answers (step s) := by
  rcases step_cases s with ⟨i, l, -, h⟩ | ⟨-, sid, x, -, h⟩ | ⟨-, -, r, hr, h⟩ | ⟨-, -, -, h⟩ <;> rw [h]
  · exact exec_answers i _
  · exact s.issueSlot_answers sid x
  · exact s.nextDue_answers dueClasses_answering hr
  · exact answers_next _

/-- Settles O58: every instruction answers in every branch of its meaning, and a step is an instruction, the turn of a slot, an event
that is due, or the end of a cycle. -/
theorem noStepStops : Obligations.NoStepStops := by
  unfold Obligations.NoStepStops
  exact fun s => ⟨fun i => exec_answers i s, step_answers s⟩

end Sys2Proof.Machine
end

section
/-!
What a container of lanes gives under `elem` (02 R23).
-/

namespace Sys2Proof.Machine

/-! ### Containers of lanes (02 R23) -/

theorem elem_or (x y i w : Nat) : elem (x ||| y) i w = elem x i w ||| elem y i w := by
  simp only [elem, Nat.shiftRight_or_distrib, Nat.or_mod_two_pow]

/-- A value of `w` bits in lane `k` is that lane, and nothing of any other. -/
theorem elem_shiftLeft {v w : Nat} (hv : v < 2 ^ w) (k i : Nat) : elem (v <<< (k * w)) i w = if i = k then v else 0 := by
  rcases Nat.lt_trichotomy i k with hlt | rfl | hgt
  · obtain ⟨d, rfl⟩ := Nat.exists_eq_add_of_lt hlt
    rw [if_neg (by omega), elem, show (i + d + 1) * w = d * w + w + i * w by simp only [Nat.add_mul, Nat.one_mul]; omega, Nat.shiftLeft_add, Nat.shiftLeft_shiftRight,
      Nat.shiftLeft_add, Nat.shiftLeft_eq _ w, Nat.mul_mod_left]
  · rw [if_pos rfl, elem, Nat.shiftLeft_shiftRight, Nat.mod_eq_of_lt hv]
  · obtain ⟨d, rfl⟩ := Nat.exists_eq_add_of_lt hgt
    rw [if_neg (by omega), elem, show (k + d + 1) * w = k * w + (w + d * w) by simp only [Nat.add_mul, Nat.one_mul]; omega, Nat.shiftRight_add, Nat.shiftLeft_shiftRight,
      Nat.shiftRight_add, Nat.shiftRight_eq_div_pow v w, Nat.div_eq_of_lt hv, Nat.zero_shiftRight, Nat.zero_mod]

theorem ofLanes_succ (n w : Nat) (f : Nat → Nat) : ofLanes (n + 1) w f = ofLanes n w f ||| ((f n % 2 ^ w) <<< (n * w)) := by
  simp only [ofLanes, List.range_succ, List.foldl_append, List.foldl_cons, List.foldl_nil]

theorem ofLanes_lt (n w : Nat) (f : Nat → Nat) : ofLanes n w f < 2 ^ (n * w) := by
  induction n with
  | zero => simp [ofLanes]
  | succ n ih =>
    have hn : 2 ^ ((n + 1) * w) = 2 ^ w * 2 ^ (n * w) := by rw [Nat.succ_mul, Nat.pow_add, Nat.mul_comm]
    have hlane : (f n % 2 ^ w) <<< (n * w) < 2 ^ ((n + 1) * w) := by
      rw [Nat.shiftLeft_eq, hn]
      exact Nat.mul_lt_mul_of_pos_right (Nat.mod_lt _ (Nat.two_pow_pos w)) (Nat.two_pow_pos _)
    rw [ofLanes_succ]
    exact Nat.or_lt_two_pow (Nat.lt_of_lt_of_le ih (Nat.pow_le_pow_right (by decide) (Nat.mul_le_mul_right w (Nat.le_succ n)))) hlane

@[simp] theorem elem_ofLanes (n w : Nat) (f : Nat → Nat) (i : Nat) : elem (ofLanes n w f) i w = if i < n then f i % 2 ^ w else 0 := by
  induction n with
  | zero => simp [ofLanes, elem]
  | succ n ih =>
    rw [ofLanes_succ, elem_or, ih, elem_shiftLeft (Nat.mod_lt _ (Nat.two_pow_pos w))]
    rcases Nat.lt_trichotomy i n with h | rfl | h
    · rw [if_pos h, if_neg (by omega), if_pos (by omega), Nat.or_zero]
    · rw [if_neg (by omega), if_pos rfl, if_pos (by omega), Nat.zero_or]
    · rw [if_neg (by omega), if_neg (by omega), if_neg (by omega), Nat.or_zero]

/-! ### Lane-wise evaluation (02 R37; 03 R63) -/

theorem laneMap_succ (n w mask : Nat) (f : Nat → Nat × BitVec 6) :
    laneMap (n + 1) w mask f = if mask.testBit n
      then ((laneMap n w mask f).1 ||| (((f n).1 % 2 ^ w) <<< (n * w)), (laneMap n w mask f).2 ||| (f n).2)
      else laneMap n w mask f := by
  simp only [laneMap, List.range_succ, List.foldl_append, List.foldl_cons, List.foldl_nil]

/-- An inactive lane holds 0. -/
theorem laneMap_fst (n w mask : Nat) (f : Nat → Nat × BitVec 6) :
    (laneMap n w mask f).1 = ofLanes n w (fun i => if mask.testBit i then (f i).1 else 0) := by
  induction n with
  | zero => rfl
  | succ n ih =>
    rw [laneMap_succ, ofLanes_succ, ← ih]
    cases mask.testBit n <;> simp

theorem laneMap_flag (n w mask : Nat) (f : Nat → Nat × BitVec 6) (b : Nat) :
    (laneMap n w mask f).2.getLsbD b = true ↔ ∃ j, j < n ∧ mask.testBit j = true ∧ (f j).2.getLsbD b = true := by
  induction n with
  | zero => simp [laneMap]
  | succ n ih =>
    have hsplit : (∃ j, j < n + 1 ∧ mask.testBit j = true ∧ (f j).2.getLsbD b = true) ↔
        (∃ j, j < n ∧ mask.testBit j = true ∧ (f j).2.getLsbD b = true) ∨ (mask.testBit n = true ∧ (f n).2.getLsbD b = true) := by
      simp only [Nat.lt_succ_iff_lt_or_eq, or_and_right, exists_or, exists_eq_left]
    rw [hsplit, ← ih, laneMap_succ]
    cases mask.testBit n <;> simp

theorem laneBits_succ (n w : Nat) (p : Nat → Bool) :
    laneBits (n + 1) w p = if p n then laneBits n w p ||| (ones w <<< (n * w)) else laneBits n w p := by
  simp only [laneBits, List.range_succ, List.foldl_append, List.foldl_cons, List.foldl_nil]

theorem ones_mod (w : Nat) : ones w % 2 ^ w = ones w := Nat.mod_eq_of_lt (Nat.sub_lt (Nat.two_pow_pos w) Nat.one_pos)

theorem laneBits_eq (n w : Nat) (p : Nat → Bool) : laneBits n w p = ofLanes n w (fun i => if p i then ones w else 0) := by
  induction n with
  | zero => rfl
  | succ n ih =>
    rw [laneBits_succ, ofLanes_succ, ← ih]
    cases p n <;> simp [ones_mod]

theorem elem_laneMap (n w mask : Nat) (f : Nat → Nat × BitVec 6) (i : Nat) :
    elem (laneMap n w mask f).1 i w = if i < n ∧ mask.testBit i = true then (f i).1 % 2 ^ w else 0 := by
  rw [laneMap_fst, elem_ofLanes]
  cases mask.testBit i <;> simp

theorem elem_laneBits (n w : Nat) (p : Nat → Bool) (i : Nat) :
    elem (laneBits n w p) i w = if i < n ∧ p i = true then 2 ^ w - 1 else 0 := by
  have hones : ones w % 2 ^ w = 2 ^ w - 1 := ones_mod w
  rw [laneBits_eq, elem_ofLanes]
  cases p i <;> simp [hones]

/-- Settles O10: results and lane bits are containers of lanes with 0 in the inactive ones, and every active lane adds its flags. -/
theorem laneElements : Obligations.LaneElements := by
  unfold Obligations.LaneElements
  exact fun n w mask f i _ => ⟨elem_laneMap n w mask f i, fun b _ => laneMap_flag n w mask f b, elem_laneBits n w mask.testBit i⟩

end Sys2Proof.Machine
end

section
/-!
The product of an integer matrix task (13 R264, R266; 02 R43).
-/

namespace Sys2Proof.Machine

/-! ### Integers of the element types (02 R24) -/

theorem claimsInt_eq_intOf (t : Ty) (x : Nat) : Claims.int t x = intOf t x := by
  simp only [Claims.int, intOf, sextNat, BitVec.toInt_eq_toNat_cond, BitVec.toNat_ofNat]

theorem wrapNat_lt (z : Int) (w : Nat) : wrapNat z w < 2 ^ w := by
  have hpos : (0 : Int) < ((2 ^ w : Nat) : Int) := Int.natCast_pos.2 (Nat.two_pow_pos w)
  have hlt := Int.emod_lt_of_pos z hpos
  unfold wrapNat
  omega

theorem wrapNat_natCast {n w : Nat} (h : n < 2 ^ w) : wrapNat (n : Int) w = n := by
  rw [wrapNat, ← Int.natCast_emod, Int.toNat_natCast, Nat.mod_eq_of_lt h]

/-- Wrapping an addend before a sum changes nothing. -/
theorem wrapNat_wrapNat_add (y z : Int) (w : Nat) : wrapNat ((wrapNat y w : Nat) + z) w = wrapNat (y + z) w := by
  have hpos : (0 : Int) < ((2 ^ w : Nat) : Int) := Int.natCast_pos.2 (Nat.two_pow_pos w)
  have hcast : ((wrapNat y w : Nat) : Int) = y % ((2 ^ w : Nat) : Int) := Int.toNat_of_nonneg (Int.emod_nonneg y (Int.ne_of_gt hpos))
  rw [wrapNat, hcast, Int.emod_add_emod, ← wrapNat]

theorem foldl_add_eq_add_sum (g : Nat → Int) (l : List Nat) (z : Int) : l.foldl (fun z k => z + g k) z = z + (l.map g).sum := by
  induction l generalizing z with
  | nil => simp
  | cons k l ih => rw [List.foldl_cons, ih, List.map_cons, List.sum_cons, Int.add_assoc]

/-! ### The K-blocks (13 R266) -/

theorem pairOk_int {a b : Ty} (hp : pairOk a b = true) (hi : a.isInt = true) : a.width = 8 ∧ b.width = 8 := by
  simp only [pairOk, Bool.or_eq_true, Bool.and_eq_true, beq_iff_eq] at hp
  obtain (((⟨rfl, -⟩ | ⟨hf, -⟩) | ⟨ha, hb⟩) | ⟨rfl, -⟩) | ⟨rfl, -⟩ := hp
  · simp [Ty.isInt] at hi
  · cases a <;> simp [Ty.isInt, Ty.isF8] at hi hf
  · rcases ha with rfl | rfl <;> rcases hb with rfl | rfl <;> exact ⟨rfl, rfl⟩
  · simp [Ty.isInt] at hi
  · simp [Ty.isInt] at hi

/-- The operands of an accepted integer task are bytes (13 R260). -/
theorem mxWidth_of_int {r : Nat} (hs : mxStatic r = 0) (hi : mxInt r = true) (b : Bool) : mxWidth r b = 8 := by
  have hpair : pairOk (mxTa r) (mxTb r) = true := by
    cases hp : pairOk (mxTa r) (mxTb r) with
    | true => rfl
    | false =>
      simp only [mxStatic, hp, Bool.not_false, Bool.or_true, Bool.true_or, if_true] at hs
      split at hs <;> cases hs
  obtain ⟨hta, htb⟩ := pairOk_int hpair hi
  cases b
  · exact hta
  · exact htb

section
variable {m : MxTask} (hbad : m.bad = [])
include hbad

theorem MxTask.badAt_of_none (input byte kb : Nat) : m.badAt input byte kb = false := by simp [MxTask.badAt, hbad]

theorem MxTask.cinBad_of_none (e : Nat) : m.cinBad e = false := by simp [MxTask.cinBad, m.badAt_of_none hbad]

theorem MxTask.start_of_none (i j : Nat) :
    m.start i j = if mxCin m.record then elem (kgetD m.data 2 0) (i * mxN m.record + j) 32 else 0 := by
  simp [MxTask.start, m.cinBad_of_none hbad]

theorem MxTask.start_lt (i j : Nat) : m.start i j < 2 ^ 32 := by
  rw [m.start_of_none hbad]
  split
  · exact Nat.mod_lt _ (Nat.two_pow_pos 32)
  · exact Nat.two_pow_pos 32

end

/-- The product of one k in element (i, j) of an integer task. -/
def MxTask.intTerm (m : MxTask) (i j k : Nat) : Int :=
  intOf (mxTa m.record) (m.code' false i k).1 * intOf (mxTb m.record) (m.code' true j k).1

section
variable {m : MxTask} (hbad : m.bad = []) (hint : mxInt m.record = true)
include hbad hint

theorem MxTask.fold1_int (i j kb acc : Nat) :
    m.fold1 i j kb acc = (wrapNat (acc + (((List.range 64).map (fun q => 64 * kb + q)).map (m.intTerm i j)).sum) 32, 0) := by
  rw [← foldl_add_eq_add_sum]
  simp [MxTask.fold1, hint, MxTask.intTerm, MxTask.code', m.badAt_of_none hbad]

/-- The accumulator after `n` K-blocks: what it starts from plus the products of the first 64 n values of k, wrapped. -/
theorem MxTask.foldl_fold1_int (i j n : Nat) :
    (List.range n).foldl (fun (a : Nat × BitVec 6) kb => ((m.fold1 i j kb a.1).1, a.2 ||| (m.fold1 i j kb a.1).2)) (m.start i j, 0) =
      (wrapNat (m.start i j + ((List.range (64 * n)).map (m.intTerm i j)).sum) 32, 0) := by
  induction n with
  | zero => simp [wrapNat_natCast (m.start_lt hbad i j)]
  | succ n ih =>
    rw [List.range_succ, List.foldl_append, ih, List.foldl_cons, List.foldl_nil, m.fold1_int hbad hint, wrapNat_wrapNat_add, Int.add_assoc,
      ← List.sum_append, ← List.map_append, Nat.mul_succ, List.range_add]
    simp

theorem MxTask.acc_int (i j : Nat) :
    m.acc i j = (wrapNat (m.start i j + ((List.range (64 * m.folded)).map (m.intTerm i j)).sum) 32, 0) :=
  m.foldl_fold1_int hbad hint i j m.folded

end

/-! ### The output (13 R264) -/

/-- Cells of `w` bits without flags laid side by side are a container of lanes. -/
theorem foldl_cells_eq_ofLanes {w : Nat} {c : Nat → Nat × BitVec 6} (hlt : ∀ e, (c e).1 < 2 ^ w) (hflag : ∀ e, (c e).2 = 0) (n : Nat) :
    (List.range n).foldl (fun (a : Nat × BitVec 6) e => (a.1 + (c e).1 * 2 ^ (w * e), a.2 ||| (c e).2)) (0, 0) =
      (ofLanes n w (fun e => (c e).1), 0) := by
  induction n with
  | zero => rfl
  | succ n ih =>
    have hadd := Nat.shiftLeft_add_eq_or_of_lt (ofLanes_lt n w (fun e => (c e).1)) (c n).1
    rw [List.range_succ, List.foldl_append, ih, List.foldl_cons, List.foldl_nil, ofLanes_succ, Nat.mod_eq_of_lt (hlt n), Nat.or_comm, ← hadd,
      Nat.shiftLeft_eq, Nat.mul_comm w n, hflag n, Nat.add_comm]
    simp

/-- An integer task's output of 32-bit elements holds the accumulators, row by row, and has no flag. -/
theorem MxTask.output_int {m : MxTask} (hbad : m.bad = []) (hint : mxInt m.record = true) (hot : mxOt m.record = 0) :
    m.output = (ofLanes (mxM m.record * mxN m.record) 32 (fun e => (m.acc (e / mxN m.record) (e % mxN m.record)).1), 0) := by
  have hcell : ∀ i j, m.cell i j = m.acc i j := fun i j => by simp [MxTask.cell, hot]
  have how : mxOw m.record = 32 := by simp [mxOw, hot]
  have hcells := foldl_cells_eq_ofLanes (w := 32) (c := fun e => m.acc (e / mxN m.record) (e % mxN m.record))
    (fun e => by rw [m.acc_int hbad hint]; exact wrapNat_lt _ _) (fun e => by rw [m.acc_int hbad hint]) (mxM m.record * mxN m.record)
  simpa only [MxTask.output, hcell, how] using hcells

/-- Element (i, j) of an integer task's output, with every K-block folded (13 R266; 02 R43). -/
theorem MxTask.elem_output_int {m : MxTask} (hint : mxInt m.record = true) (hot : mxOt m.record = 0) (hbad : m.bad = [])
    {i j : Nat} (hi : i < mxM m.record) (hj : j < mxN m.record) :
    elem m.output.1 (i * mxN m.record + j) 32 = wrapNat (m.start i j + ((List.range (64 * m.folded)).map (m.intTerm i j)).sum) 32 := by
  have hplace : i * mxN m.record + j < mxM m.record * mxN m.record :=
    calc i * mxN m.record + j < (i + 1) * mxN m.record := by rw [Nat.succ_mul]; omega
      _ ≤ mxM m.record * mxN m.record := Nat.mul_le_mul_right _ hi
  have hrow : (i * mxN m.record + j) / mxN m.record = i := by
    rw [Nat.mul_comm, Nat.mul_add_div (by omega), Nat.div_eq_of_lt hj, Nat.add_zero]
  have hcol : (i * mxN m.record + j) % mxN m.record = j := by rw [Nat.mul_comm, Nat.mul_add_mod, Nat.mod_eq_of_lt hj]
  rw [m.output_int hbad hint hot, elem_ofLanes, if_pos hplace, hrow, hcol, m.acc_int hbad hint, Nat.mod_eq_of_lt (wrapNat_lt _ _)]

/-- The product of an integer matrix task, in terms of the values of its operands (13 R264, R266; 02 R43). -/
theorem MxTask.output_is_product (m : MxTask) (r : Nat) (a b : Nat → Nat → Int) (hr : r = m.record) (hs : mxStatic r = 0) (hint : mxInt r = true)
    (hot : mxOt r = 0) (hbad : m.bad = []) (hfold : m.folded = mxK r / 64)
    (ha : ∀ i k, a i k = Claims.int (mxTa r) (elem (kgetD m.data 0 0) ((64 * mxBand r false + i) * mxK r + k) 8))
    (hb : ∀ j k, b j k = Claims.int (mxTb r) (elem (kgetD m.data 1 0) ((64 * mxBand r true + j) * mxK r + k) 8))
    (i j : Nat) (hi : i < mxM r) (hj : j < mxN r) :
    elem m.output.1 (i * mxN r + j) 32 = (((if mxCin r then (elem (kgetD m.data 2 0) (i * mxN r + j) 32 : Int) else 0) +
      (List.range (mxK r)).foldl (fun z k => z + a i k * b j k) 0) % 2 ^ 32).toNat ∧ m.output.2 = 0 := by
  subst hr
  have hterm : ∀ k, m.intTerm i j k = a i k * b j k := fun k => by
    rw [ha, hb, claimsInt_eq_intOf, claimsInt_eq_intOf]
    simp [MxTask.intTerm, MxTask.code', mxWidth_of_int hs hint]
  have hk : 64 * m.folded = mxK m.record := by rw [hfold, mxK]; omega
  have hstart : ((m.start i j : Nat) : Int) = if mxCin m.record then (elem (kgetD m.data 2 0) (i * mxN m.record + j) 32 : Int) else 0 := by
    rw [m.start_of_none hbad]
    split <;> rfl
  refine ⟨?_, by rw [m.output_int hbad hint hot]⟩
  rw [m.elem_output_int hint hot hbad hi hj, foldl_add_eq_add_sum (fun k => a i k * b j k), Int.zero_add, hk, hstart, funext hterm]
  rfl

end Sys2Proof.Machine
end

section
/-!
What the steps of a matrix task use of versions, notices and the pool: entries written and found, a creation, a store and a seal at the home,
an entry that retires (10 R204 to R209, R217; 12 R243, R247).
-/

namespace Sys2Proof.Machine

variable {s : State}

/-! ### The version table (10 R199) -/

@[simp] theorem State.version_setVersion (s : State) (v : Version) : (s.setVersion v).version v.ctx v.handle = some v := by
  have hnone : (s.otherVersions v.ctx v.handle).find? (fun u => u.ctx == v.ctx && u.handle == v.handle) = none := by
    rw [List.find?_eq_none]
    intro u hu
    simpa only [Bool.not_eq_true', Bool.not_eq_true] using (List.mem_filter.1 hu).2
  simp [State.version, State.setVersion, hnone]

theorem State.version_key {ctx : Nat} {h : Word} {v : Version} (hv : s.version ctx h = some v) : v.ctx = ctx ∧ v.handle = h := by
  simpa [State.version] using List.find?_some hv

theorem State.versionOrNew_key (s : State) (ctx : Nat) (h : Word) : (s.versionOrNew ctx h).ctx = ctx ∧ (s.versionOrNew ctx h).handle = h := by
  unfold State.versionOrNew
  cases hv : s.version ctx h with
  | none => exact ⟨rfl, rfl⟩
  | some v => exact s.version_key hv

/-- An entry written is the one found under its context and handle. -/
theorem State.version_setVersion_of_key (s : State) {v : Version} {ctx : Nat} {h : Word} (hkey : v.ctx = ctx ∧ v.handle = h) :
    (s.setVersion v).version ctx h = some v := by
  obtain ⟨rfl, rfl⟩ := hkey
  exact s.version_setVersion v

/-! ### Creation and stores at the home (10 R202, R207, R208) -/

@[simp] theorem State.unholdFull_pl (ctx : Nat) (h : Word) : (s.unholdFull ctx h).pl = s.pl := by
  unfold State.unholdFull
  split <;> rfl

@[simp] theorem State.unholdFull_cores (ctx : Nat) (h : Word) : (s.unholdFull ctx h).cores = s.cores := by
  unfold State.unholdFull
  split <;> rfl

/-- An ABSENT version with room in the ways and for its entry is created OPEN. -/
theorem State.vopenAt_absent {ctx : Nat} {h desc : Word} (cnt : Word) (acc : Bool) (op : Nat) (replay : Bool)
    (habs : (s.versionOrNew ctx h).state = .absent)
    (hroom : s.granulesUsed (slotSlice (s.versionOrNew ctx h).slot) + (desc.toNat % 64 + 1) ≤ s.wayGranules (slotSlice (s.versionOrNew ctx h).slot))
    (hneed : s.entryNeed ctx h = 0) :
    ∃ w : Version, s.vopenAt ctx h desc cnt acc op replay = (0, (s.unholdFull ctx h).setVersion w) ∧ (w.ctx = ctx ∧ w.handle = h) ∧
      w.state = .vopen ∧ w.g = desc.toNat % 64 + 1 := by
  have hg : bitsOf 5 0 desc.toNat = desc.toNat % 64 := by simp [bitsOf]
  have hmake : s.makeRoom (slotSlice (s.versionOrNew ctx h).slot) (desc.toNat % 64 + 1) 0 = some s := by
    simp [State.makeRoom, Nat.sub_eq_zero_of_le hroom]
  simp only [State.vopenAt, habs, hneed, hg, hmake, ne_eq, not_true_eq_false, if_false]
  exact ⟨_, rfl, s.versionOrNew_key ctx h, rfl, rfl⟩

/-- A store that an OPEN version of plain stores takes. -/
theorem State.vstoreAt_open {ctx : Nat} {h : Word} {v : Version} {off size : Nat} (data : Nat) (replay : Bool) (hv : s.version ctx h = some v)
    (hopen : v.state = .vopen) (hacc : v.acc = false) (hsize : off + size ≤ 4096 * v.g) :
    s.vstoreAt ctx h off size data replay =
      (0, s.setVersion { v with data := setBits (8 * (off + size) - 1) (8 * off) v.data data, rpl := v.rpl || replay }) := by
  simp [State.vstoreAt, hv, hopen, hacc, Version.shut, Nat.not_lt.2 hsize]

/-! ### Notices (10 R212, R217) -/

/-- A packet queues at a module and may have drawn a free choice. -/
theorem State.sendPacket_eq (s : State) (dst tag ctx : Nat) (p : Packet) :
    ∃ o lk, s.sendPacket dst tag ctx p = { s with o := o, lk := lk } := by
  rcases s.out_cases (.packet { p with dst := dst, src := s.ownAgent, tag := tag, ctx := ctx }) with ⟨_, _, _, -, h⟩ | h
  · exact ⟨_, _, h⟩
  · exact ⟨_, s.lk, h⟩

theorem State.sendNotice_eq (s : State) (v : Version) (reclaim : Bool) (agent : Nat) :
    ∃ o msgs lk, s.sendNotice v reclaim agent = { s with o := o, msgs := msgs, lk := lk } := by
  simp only [State.sendNotice]
  exact (State.sendPacket_eq _ _ _ _ _).imp fun o ⟨lk, h⟩ => ⟨_, lk, h⟩

/-- Notices are messages, with packets queued at modules. -/
theorem State.notify_eq (s : State) (v : Version) (reclaim : Bool) :
    ∃ o msgs lk, s.notify v reclaim = { s with o := o, msgs := msgs, lk := lk } := by
  unfold State.notify
  generalize v.subs.filter s.agentUp = agents
  induction agents generalizing s with
  | nil => exact ⟨s.o, s.msgs, s.lk, rfl⟩
  | cons a agents ih =>
    obtain ⟨o, msgs, lk, hnotice⟩ := s.sendNotice_eq v reclaim a
    obtain ⟨o', msgs', lk', h⟩ := ih (s.sendNotice v reclaim a)
    refine ⟨o', msgs', lk', h.trans ?_⟩
    rw [hnotice]

section
variable (v : Version) (reclaim : Bool)

@[simp] theorem State.notify_vs : (s.notify v reclaim).vs = s.vs := by obtain ⟨o, msgs, lk, h⟩ := s.notify_eq v reclaim; rw [h]
@[simp] theorem State.notify_pl : (s.notify v reclaim).pl = s.pl := by obtain ⟨o, msgs, lk, h⟩ := s.notify_eq v reclaim; rw [h]
@[simp] theorem State.notify_kn : (s.notify v reclaim).kn = s.kn := by obtain ⟨o, msgs, lk, h⟩ := s.notify_eq v reclaim; rw [h]
@[simp] theorem State.notify_mem : (s.notify v reclaim).mem = s.mem := by obtain ⟨o, msgs, lk, h⟩ := s.notify_eq v reclaim; rw [h]
@[simp] theorem State.notify_cores : (s.notify v reclaim).cores = s.cores := by obtain ⟨o, msgs, lk, h⟩ := s.notify_eq v reclaim; rw [h]

end

theorem State.version_notify (v : Version) (reclaim : Bool) (ctx : Nat) (h : Word) : (s.notify v reclaim).version ctx h = s.version ctx h := by
  simp only [State.version, State.notify_vs]

/-! ### The seal and what follows it (10 R205, R209, R216, R217) -/

/-- `t` is `s` but for the version table, the cores' L1s, messages and links: the pool, the kernels, memory and the matrix tasks are as they were. -/
structure SealFrame (s t : State) : Prop where
  pl : t.pl = s.pl
  kn : t.kn = s.kn
  mem : t.mem = s.mem
  matrix : ∀ c, (t.core c).matrix = (s.core c).matrix
  nextMatrix : ∀ c, (t.core c).nextMatrix = (s.core c).nextMatrix

theorem SealFrame.refl (s : State) : SealFrame s s := ⟨rfl, rfl, rfl, fun _ => rfl, fun _ => rfl⟩

theorem SealFrame.trans {s t u : State} (h : SealFrame s t) (k : SealFrame t u) : SealFrame s u :=
  ⟨k.pl.trans h.pl, k.kn.trans h.kn, k.mem.trans h.mem, fun c => (k.matrix c).trans (h.matrix c), fun c => (k.nextMatrix c).trans (h.nextMatrix c)⟩

/-- Updates that keep the cores themselves. -/
theorem SealFrame.of_cores {s t : State} (hpl : t.pl = s.pl) (hkn : t.kn = s.kn) (hmem : t.mem = s.mem) (hcores : t.cores = s.cores) : SealFrame s t :=
  ⟨hpl, hkn, hmem, fun c => by simp only [State.core, hcores], fun c => by simp only [State.core, hcores]⟩

theorem State.setVersion_frame (s : State) (v : Version) : SealFrame s (s.setVersion v) := .of_cores rfl rfl rfl rfl

theorem State.notify_frame (s : State) (v : Version) (reclaim : Bool) : SealFrame s (s.notify v reclaim) :=
  .of_cores (s.notify_pl v reclaim) (s.notify_kn v reclaim) (s.notify_mem v reclaim) (s.notify_cores v reclaim)

theorem State.forget_frame (s : State) (ds : List Nat) : SealFrame s (s.forget ds) := .of_cores rfl rfl rfl rfl

/-- Only L1s lose lines at a reclaim. -/
theorem State.uncacheVersion_frame (s : State) (tag : Nat × Nat) : SealFrame s (s.uncacheVersion tag) := by
  refine ⟨rfl, rfl, rfl, fun c => ?_, fun c => ?_⟩ <;>
  · simp only [State.core, State.uncacheVersion, kget_kmap]
    cases kget s.cores c with
    | none => rfl
    | some k =>
      simp only [Option.map_some, Option.getD_some]
      split <;> rfl

theorem State.reclaimStart_frame (s : State) (v : Version) : SealFrame s (s.reclaimStart v) :=
  ((s.uncacheVersion_frame _).trans (State.setVersion_frame _ _)).trans (State.notify_frame _ _ _)

theorem State.settle_frame (s : State) (v : Version) : SealFrame s (s.settle v) := by
  unfold State.settle
  split
  · exact s.reclaimStart_frame v
  · exact s.setVersion_frame v

/-- The entry after a seal or decrement stands as written, or DEAD with its data. -/
theorem State.version_settle (s : State) (v : Version) : ∃ w : Version, (s.settle v).version v.ctx v.handle = some w ∧
    w.sealed = v.sealed ∧ w.data = v.data ∧ w.aflags = v.aflags := by
  unfold State.settle
  split
  · refine ⟨{ v with state := .dead, poisonDead := v.bad }, ?_, rfl, rfl, rfl⟩
    rw [State.reclaimStart, State.version_notify]
    exact State.version_setVersion_of_key _ ⟨rfl, rfl⟩
  · exact ⟨v, s.version_setVersion v, rfl, rfl, rfl⟩

/-- The seal of a version that nobody waits for. -/
theorem State.sealVersion_unawaited {s : State} {v : Version} (hw : v.waiters = []) :
    SealFrame s (s.sealVersion v) ∧ ∃ w : Version, (s.sealVersion v).version v.ctx v.handle = some w ∧ w.sealed = true ∧ w.data = v.data ∧
      w.aflags = v.aflags := by
  simp only [State.sealVersion, hw, List.foldl_nil]
  exact ⟨(((State.setVersion_frame _ _).trans (State.setVersion_frame _ _)).trans (State.notify_frame _ _ _)).trans (State.settle_frame _ _),
    State.version_settle _ _⟩

/-- An engine's seal of its OPEN output version at home. -/
theorem State.outSeal_open {ctx : Nat} {h : Word} {v : Version} (replay : Bool) (fl : Nat) (hown : s.nameHome ctx h = .own)
    (hv : s.version ctx h = some v) (hopen : v.state = .vopen) (hacc : v.acc = false) (hw : v.waiters = []) :
    SealFrame s (s.outSeal ctx h replay false fl []) ∧ ∃ w : Version, (s.outSeal ctx h replay false fl []).version ctx h = some w ∧ w.sealed = true ∧
      w.data = v.data ∧ w.aflags = v.aflags ||| BitVec.ofNat 6 fl := by
  obtain ⟨rfl, rfl⟩ := s.version_key hv
  simp only [State.outSeal, hown, State.vsealAt, hv, hopen, hacc, Version.shut]
  exact State.sealVersion_unawaited hw

/-! ### Entries of the pool (12 R243, R247) -/

theorem State.unloadEnd_of_no_kernels (h : s.kn.kernels = []) : s.unloadEnd = s := by simp [State.unloadEnd, h]

/-- An entry that retires is EMPTY, of the next generation. -/
theorem State.retire_eq {i : Nat} {e : PoolEntry} (he : s.entry i = some e) (hk : s.kn.kernels = []) :
    ∃ pl : Pool, s.retire i = { s with pl := pl } ∧ kget pl.pool i = none ∧ pl.pgens = kset s.pl.pgens i ((s.pgen i + 1) % 2 ^ 16) := by
  have hempty : ∃ pl : Pool, s.emptyEntry i = { s with pl := pl } ∧ kget pl.pool i = none ∧ pl.pgens = kset s.pl.pgens i ((s.pgen i + 1) % 2 ^ 16) := by
    simp only [State.emptyEntry, he]
    exact ⟨_, rfl, kget_kdel_same _ _, rfl⟩
  obtain ⟨pl, h, hpool, hgens⟩ := hempty
  refine ⟨pl, ?_, hpool, hgens⟩
  rw [State.retire, h]
  exact State.unloadEnd_of_no_kernels hk

/-- An entry that starts is RUNNING; only the pool changes. -/
theorem State.deal_eq {i : Nat} {e : PoolEntry} (he : s.entry i = some e) :
    ∃ pl : Pool, s.deal i e = { s with pl := pl } ∧ kget pl.pool i = some { e with state := .running } := by
  simp only [State.deal, State.runEntry, he]
  exact ⟨_, rfl, kget_kset_same _ _ _⟩

theorem State.mayDispatch_entry {i : Nat} {e : PoolEntry} (h : s.mayDispatch i = some e) : s.entry i = some e := by
  unfold State.mayDispatch at h
  split at h
  · cases h
  · dsimp only at h
    split at h
    · cases h
      assumption
    · cases h

end Sys2Proof.Machine
end

section
/-!
The steps of a matrix task (13 R267 to R270).
-/

namespace Sys2Proof.Machine

variable {s : State}

/-! ### A core's engine -/

theorem State.core_setMatrix (s : State) (c : Nat) (m : MxTask) : (s.setMatrix c m).core c = { s.core c with matrix := some m } := by
  rw [State.setMatrix, State.core_modCore, if_pos rfl]

theorem State.entry_setMatrix (s : State) (c : Nat) (m : MxTask) (i : Nat) : (s.setMatrix c m).entry i = s.entry i := rfl

/-! ### CHECK (13 R269) -/

/-- CHECK of a record finds nothing wrong and waits for nothing: the inputs are COMPLETE at this die and large enough, and OUT is ABSENT at this
die with room for it. -/
structure CheckPasses (s : State) (ctx r : Nat) : Prop where
  static : mxStatic r = 0
  outHome : s.nameHome ctx (recOut r) = .own
  inputs : ∀ j ∈ mxInputs r, s.nameHome ctx (recIn r j) = .own ∧ ∃ w, s.version ctx (recIn r j) = some w ∧ w.state = .complete ∧ mxNeed r j ≤ 4096 * w.g
  absent : (s.versionOrNew ctx (recOut r)).state = .absent
  room : s.granulesUsed (slotSlice (s.versionOrNew ctx (recOut r)).slot) + ((mxDesc r).toNat % 64 + 1) ≤
    s.wayGranules (slotSlice (s.versionOrNew ctx (recOut r)).slot)
  entryRoom : s.entryNeed ctx (recOut r) = 0

/-- The pool and the cores have no part in it. -/
theorem CheckPasses.of_pl_cores {ctx r : Nat} (h : CheckPasses s ctx r) (pl : Pool) (cores : KMap CoreSt) :
    CheckPasses { s with pl := pl, cores := cores } ctx r :=
  ⟨h.static, h.outHome, h.inputs, h.absent, h.room, h.entryRoom⟩

/-- A COMPLETE input at its home is found with its data. -/
theorem State.mxInput_complete {m : MxTask} {k : Nat} {w : Version} (c : Nat) (hown : s.nameHome m.ctx (recIn m.record k) = .own)
    (hw : s.version m.ctx (recIn m.record k) = some w) (hc : w.state = .complete) : s.mxInput c m k = (.data w.g w.data, s) := by
  simp [State.mxInput, hown, hw, hc]

/-- Finding inputs that leave the state as it is. -/
theorem State.mxFind_eq {c : Nat} {m : MxTask} (hm : (s.core c).matrix = some m) (hsame : ∀ k ∈ mxInputs m.record, (s.mxInput c m k).2 = s) :
    s.mxFind c m = ((mxInputs m.record).map (fun k => (k, (s.mxInput c m k).1)), s) := by
  have key : ∀ (l : List Nat) (found : List (Nat × MxIn)), (∀ k ∈ l, (s.mxInput c m k).2 = s) →
      l.foldl (fun (acc : List (Nat × MxIn) × State) k => (acc.1 ++ [(k, (acc.2.mxInput c (((acc.2.core c).matrix).getD m) k).1)],
        (acc.2.mxInput c (((acc.2.core c).matrix).getD m) k).2)) (found, s) = (found ++ l.map (fun k => (k, (s.mxInput c m k).1)), s) := by
    intro l
    induction l with
    | nil => simp
    | cons k l ih =>
      intro found hl
      obtain ⟨hk, hl⟩ := List.forall_mem_cons.1 hl
      simp only [List.foldl_cons, hm, Option.getD_some, hk] at ih ⊢
      rw [ih _ hl, List.map_cons, List.append_assoc, List.singleton_append]
  exact key (mxInputs m.record) [] hsame

/-- Inputs found with enough data are no failure. -/
theorem mxInputCode_of_data {r : Nat} {found : List (Nat × MxIn)} (h : ∀ p ∈ found, ∃ g d, p.2 = .data g d ∧ mxNeed r p.1 ≤ 4096 * g) :
    mxInputCode r found = 0 := by
  have hdata : ∀ f : Nat × MxIn → Bool, (∀ k g d, mxNeed r k ≤ 4096 * g → f (k, .data g d) = false) → found.any f = false := by
    intro f hf
    rw [List.any_eq_false]
    rintro ⟨k, x⟩ hp
    obtain ⟨g, d, rfl, hn⟩ := h _ hp
    simp [hf k g d hn]
  unfold mxInputCode
  rw [hdata _ (fun k g d hn => by simpa using hn), hdata _ (fun k g d _ => by simp), hdata _ (fun k g d _ => rfl), hdata _ (fun k g d _ => by simp)]
  rfl

/-- Data gathered input by input: a step that writes the data found under the input's number, and nothing under another. -/
theorem kget_foldl_pin {f : KMap Nat → Nat × MxIn → KMap Nat} (hset : ∀ d k g v, f d (k, .data g v) = kset d k v)
    (hother : ∀ d p j, j ≠ p.1 → kget (f d p) j = kget d j) {x : Nat → MxIn} {j g v : Nat} (hx : x j = .data g v) (l : List Nat) (d : KMap Nat)
    (hj : j ∈ l ∨ kget d j = some v) : kget ((l.map (fun k => (k, x k))).foldl f d) j = some v := by
  induction l generalizing d with
  | nil => exact hj.resolve_left (List.not_mem_nil)
  | cons k l ih =>
    rw [List.map_cons, List.foldl_cons]
    refine ih (f d (k, x k)) ?_
    by_cases hk : j = k
    · subst hk
      exact .inr (by rw [hx, hset, kget_kset_same])
    · rcases hj with hj | hj
      · exact .inl ((List.mem_cons.1 hj).resolve_left hk)
      · exact .inr (by rw [hother _ _ _ hk, hj])

section
variable {c : Nat} {m : MxTask} (h : CheckPasses s m.ctx m.record)
include h

theorem CheckPasses.mxInput {k : Nat} (hk : k ∈ mxInputs m.record) : ∃ z, s.version m.ctx (recIn m.record k) = some z ∧
    s.mxInput c m k = (.data z.g z.data, s) ∧ mxNeed m.record k ≤ 4096 * z.g := by
  obtain ⟨hown, z, hz, hc, hn⟩ := h.inputs k hk
  exact ⟨z, hz, State.mxInput_complete c hown hz hc, hn⟩

theorem CheckPasses.mxFind (hm : (s.core c).matrix = some m) :
    s.mxFind c m = ((mxInputs m.record).map (fun k => (k, (s.mxInput c m k).1)), s) :=
  State.mxFind_eq hm fun k hk => by
    obtain ⟨z, -, hz, -⟩ := h.mxInput (c := c) hk
    rw [hz]

theorem CheckPasses.found {p : Nat × MxIn} (hp : p ∈ (mxInputs m.record).map (fun k => (k, (s.mxInput c m k).1))) :
    ∃ g d, p.2 = .data g d ∧ mxNeed m.record p.1 ≤ 4096 * g := by
  obtain ⟨k, hk, rfl⟩ := List.mem_map.1 hp
  obtain ⟨z, -, hz, hn⟩ := h.mxInput (c := c) hk
  exact ⟨z.g, z.data, congrArg Prod.fst hz, hn⟩

theorem CheckPasses.outOpen : ∃ w : Version, s.outOpen m.ctx (recOut m.record) (mxDesc m.record) (mxCount m.record) m.replay none =
      (some 0, none, (s.unholdFull m.ctx (recOut m.record)).setVersion w) ∧ (w.ctx = m.ctx ∧ w.handle = recOut m.record) ∧
    w.state = .vopen ∧ w.g = (mxDesc m.record).toNat % 64 + 1 := by
  obtain ⟨w, hopen, hkey, hw, hg⟩ := State.vopenAt_absent (mxCount m.record) false 0 m.replay h.absent h.room h.entryRoom
  exact ⟨w, by simp [State.outOpen, h.outHome, hopen], hkey, hw, hg⟩

end

/-- A task in CHECK that passes pins its inputs, creates OUT and runs. -/
theorem State.mxCheck_passes {c : Nat} {m : MxTask} (hm : (s.core c).matrix = some m) (hst : m.state = .check) (h : CheckPasses s m.ctx m.record) :
    ∃ (u : State) (y : MxTask) (w : Version), s.mxCheck c = u.setMatrix c y ∧ u.pl = s.pl ∧ u.version m.ctx (recOut m.record) = some w ∧
      w.state = .vopen ∧ w.g = (mxDesc m.record).toNat % 64 + 1 ∧ y.entry = m.entry ∧ y.state = .run ∧ y.fetched = m.fetched ∧ y.record = m.record ∧
      y.ctx = m.ctx ∧ ∀ j ∈ mxInputs m.record, ∀ z, s.version m.ctx (recIn m.record j) = some z → kget y.data j = some z.data := by
  have hwait : ((mxInputs m.record).map (fun k => (k, (s.mxInput c m k).1))).any (fun p => p.2 == .wait) = false := by
    rw [List.any_eq_false]
    intro p hp
    obtain ⟨g, d, hd, -⟩ := h.found hp
    simp [hd]
  obtain ⟨w, hout, hkey, hw, hg⟩ := h.outOpen
  simp only [State.mxCheck, hm, hst, h.static, ne_eq, not_true_eq_false, if_false, h.mxFind hm, Option.getD_some, hwait, Bool.false_eq_true,
    mxInputCode_of_data (fun p hp => h.found hp), hout]
  refine ⟨_, _, w, rfl, s.unholdFull_pl _ _, State.version_setVersion_of_key _ hkey, hw, hg, rfl, rfl, rfl, rfl, rfl, fun j hj z hz => ?_⟩
  have hx : (s.mxInput c m j).1 = .data z.g z.data := by
    obtain ⟨y, hy, hin, -⟩ := h.mxInput (c := c) hj
    cases hy.symm.trans hz
    exact congrArg Prod.fst hin
  dsimp only
  refine kget_foldl_pin (x := fun k => (s.mxInput c m k).1) (fun d k g v => rfl) (fun d p j hj => ?_) hx _ [] (.inl hj)
  obtain ⟨k, x⟩ := p
  cases x with
  | data g v => exact kget_kset_other d v hj
  | _ => rfl

/-! ### Dispatch (13 R268) -/

/-- The task that an entry given to an engine starts as. -/
def State.matrixTask (s : State) (i : Nat) (e : PoolEntry) : MxTask :=
  { entry := i, handle := s.taskHandle i, ctx := e.ctx, record := e.record, state := .check, replay := e.replay }

theorem State.matrixDispatch_eq {core i : Nat} {e : PoolEntry} (he : s.mayDispatch i = some e) (hkind : recKind e.record = 2)
    (hroom : (s.engines e.ctx (recTherm e.record)).contains core = true) :
    exec (.matrixDispatch i core) s = .next (if ((s.deal i e).core core).matrix.isNone then ((s.deal i e).setMatrix core (s.matrixTask i e)).mxCheck core
      else (s.deal i e).modCore core (fun k => { k with nextMatrix := some (s.matrixTask i e) })) := by
  simp only [exec, execMatrixDispatch, he, hkind, hroom, and_self, if_true]
  split <;> rfl

section
variable {core i : Nat} {e : PoolEntry} (he : s.mayDispatch i = some e) (hkind : recKind e.record = 2)
  (hroom : (s.engines e.ctx (recTherm e.record)).contains core = true)
include he hkind hroom

/-- An engine at work takes the task as its next one. -/
theorem matrixDispatch_behind (hbusy : (s.core core).matrix ≠ none) :
    ∃ t : State, exec (.matrixDispatch i core) s = .next t ∧ t.entry i = some { e with state := .running } ∧
      (t.core core).matrix = (s.core core).matrix ∧
      (t.core core).nextMatrix = some (s.matrixTask i e) := by
  obtain ⟨pl, hdeal, hrun⟩ := State.deal_eq (s.mayDispatch_entry he)
  have hsome : ((s.deal i e).core core).matrix.isNone = false := by
    rw [hdeal]
    exact Option.isNone_eq_false_iff.2 (Option.isSome_iff_ne_none.2 hbusy)
  refine ⟨(s.deal i e).modCore core (fun k => { k with nextMatrix := some (s.matrixTask i e) }), ?_, ?_, ?_, ?_⟩
  · rw [State.matrixDispatch_eq he hkind hroom, hsome, if_neg Bool.false_ne_true]
  · rw [hdeal]; exact hrun
  · rw [State.core_modCore, if_pos rfl, hdeal]; rfl
  · rw [State.core_modCore, if_pos rfl]

/-- An idle engine takes the task, and CHECK passes at once. -/
theorem matrixDispatch_passes (hidle : (s.core core).matrix = none) (hcheck : CheckPasses s e.ctx e.record) :
    ∃ (t : State) (m : MxTask) (w : Version), exec (.matrixDispatch i core) s = .next t ∧ t.entry i = some { e with state := .running } ∧
      (t.core core).matrix = some m ∧ m.entry = i ∧ m.state = .run ∧ m.fetched = 0 ∧ m.record = e.record ∧ m.ctx = e.ctx ∧
      (∀ j ∈ mxInputs e.record, ∀ z, s.version e.ctx (recIn e.record j) = some z → kget m.data j = some z.data) ∧
      t.version e.ctx (recOut e.record) = some w ∧ w.state = .vopen ∧ w.g = (mxDesc e.record).toNat % 64 + 1 := by
  obtain ⟨pl, hdeal, hrun⟩ := State.deal_eq (s.mayDispatch_entry he)
  have hnone : ((s.deal i e).core core).matrix.isNone = true := by
    rw [hdeal]
    exact Option.isNone_iff_eq_none.2 hidle
  obtain ⟨u, y, w, hafter, hpl, hout, hw, hg, hentry, hst, hfetched, hrecord, hctx, hpin⟩ := State.mxCheck_passes
    (s := (s.deal i e).setMatrix core (s.matrixTask i e)) (congrArg CoreSt.matrix (State.core_setMatrix _ core _)) rfl
    (by rw [hdeal]; exact hcheck.of_pl_cores pl _)
  have hexec : exec (.matrixDispatch i core) s = .next (u.setMatrix core y) := by
    rw [State.matrixDispatch_eq he hkind hroom, hnone, if_pos rfl, hafter]
  refine ⟨_, y, w, hexec, ?_, congrArg CoreSt.matrix (u.core_setMatrix core y), hentry, hst, hfetched, hrecord, hctx, fun j hj z hz => hpin j hj z ?_,
    hout, hw, hg⟩
  · rw [State.entry_setMatrix, State.entry, hpl, State.setMatrix_pl, hdeal]
    exact hrun
  · rw [hdeal]
    exact hz

end

/-! ### The course of a task that runs (13 R267, R270) -/

/-- The output written into its OPEN version at home. -/
theorem State.mxWrite_open {m : MxTask} {v : Version} {bytes : Nat} (x : Nat) (hown : s.nameHome m.ctx (recOut m.record) = .own)
    (hv : s.version m.ctx (recOut m.record) = some v) (hopen : v.state = .vopen) (hacc : v.acc = false) (hsize : bytes ≤ 4096 * v.g) :
    ∃ w : Version, s.mxWrite m x bytes = ([], s.setVersion w) ∧ (w.ctx = m.ctx ∧ w.handle = recOut m.record) ∧ w.state = .vopen ∧
      w.data = setBits (8 * bytes - 1) 0 v.data x := by
  have hkey := s.version_key hv
  have hstore := State.vstoreAt_open (off := 0) (size := bytes) x m.replay hv hopen hacc (by rwa [Nat.zero_add])
  simp only [State.mxWrite, hown, hstore, Nat.zero_add]
  exact ⟨_, rfl, hkey, hopen, rfl⟩

/-- The end of a task without a failure or a zeroed element logs nothing. -/
theorem State.mxEnd_clean {m : MxTask} {e : PoolEntry} (c : Nat) (hcode : m.code = 0) (hue : m.ue.first = none) (he : s.entry m.entry = some e)
    (hk : s.kn.kernels = []) :
    ∃ pl : Pool, s.mxEnd c m = ({ s with pl := pl }).modCore c (fun k => { k with matrix := k.nextMatrix, nextMatrix := none }) ∧
      kget pl.pool m.entry = none ∧ pl.pgens = kset s.pl.pgens m.entry ((s.pgen m.entry + 1) % 2 ^ 16) := by
  have hlog : s.mxLog c m = s := by simp [State.mxLog, hcode, hue]
  obtain ⟨pl, hretire, hpool, hgens⟩ := State.retire_eq he hk
  exact ⟨pl, by rw [State.mxEnd, hlog, hretire], hpool, hgens⟩

section
variable {core : Nat} {m : MxTask} (hm : (s.core core).matrix = some m)
include hm

theorem tileFetch_run (hst : m.state = .run) (hlt : m.fetched < mxK m.record / 64) :
    exec (.tileFetch core) s = .next (s.setCore core { s.core core with
      matrix := some { m with fetched := m.fetched + 1, folded := max m.folded (m.fetched - 2) } }) := by
  have hsub : m.fetched + 1 - 3 = m.fetched - 2 := by omega
  simp only [exec, execTileFetch, hm, hst, hlt, if_true, hsub]
  rfl

/-- The last fold writes the output at its home. -/
theorem matrixFoldEnd_run {v : Version} (hst : m.state = .run) (hall : m.fetched = mxK m.record / 64)
    (hown : s.nameHome m.ctx (recOut m.record) = .own) (hv : s.version m.ctx (recOut m.record) = some v) (hopen : v.state = .vopen) (hacc : v.acc = false)
    (hsize : mxM m.record * mxN m.record * mxOw m.record / 8 ≤ 4096 * v.g) :
    ∃ (t : State) (y : MxTask) (w : Version), exec (.matrixFoldEnd core) s = .next t ∧ (t.core core).matrix = some y ∧ y.state = .sealing ∧
      y.flags = ({ m with folded := m.fetched } : MxTask).output.2 ∧ t.version m.ctx (recOut m.record) = some w ∧ w.state = .vopen ∧
      w.data = setBits (8 * (mxM m.record * mxN m.record * mxOw m.record / 8) - 1) 0 v.data ({ m with folded := m.fetched } : MxTask).output.1 ∧
      t.mem = s.mem := by
  obtain ⟨w, hwrite, hkey, hw, hdata⟩ := State.mxWrite_open ({ m with folded := m.fetched } : MxTask).output.1 hown hv hopen hacc hsize
  obtain ⟨y, hexec, hy, hflags⟩ : ∃ y : MxTask, exec (.matrixFoldEnd core) s = .next ((s.setVersion w).setMatrix core y) ∧ y.state = .sealing ∧
      y.flags = ({ m with folded := m.fetched } : MxTask).output.2 := by
    simp only [exec, execMatrixFoldEnd, hm, hst, hall, and_self, if_true] at hwrite ⊢
    exact ⟨_, congrArg (fun r => Host.Outcome.next (State.setMatrix r.2 core _)) hwrite, rfl, rfl⟩
  exact ⟨_, y, w, hexec, congrArg CoreSt.matrix (State.core_setMatrix _ core y), hy, hflags, State.version_setVersion_of_key _ hkey, hw, hdata, rfl⟩

/-- A task whose output is performed seals it, retires, and gives the engine to the next one. -/
theorem matrixSeal_unawaited {v : Version} {e : PoolEntry} (hst : m.state = .sealing) (hwr : m.writes = []) (hcode : m.code = 0) (hue : m.ue.first = none)
    (hcons : mxCons m.record = false) (hown : s.nameHome m.ctx (recOut m.record) = .own) (hv : s.version m.ctx (recOut m.record) = some v)
    (hopen : v.state = .vopen) (hacc : v.acc = false) (hw : v.waiters = []) (he : s.entry m.entry = some e) (hk : s.kn.kernels = []) :
    ∃ (t : State) (w : Version), exec (.matrixSeal core) s = .next t ∧ (t.core core).matrix = (s.core core).nextMatrix ∧
      (t.core core).nextMatrix = none ∧ t.entry m.entry = none ∧ t.pgen m.entry = (s.pgen m.entry + 1) % 2 ^ 16 ∧
      t.version m.ctx (recOut m.record) = some w ∧ w.sealed = true ∧ w.data = v.data ∧ w.aflags = v.aflags ||| BitVec.ofNat 6 (m.flags.toNat % 32) ∧
      t.mem = s.mem := by
  obtain ⟨hframe, w, hversion, hsealed, hdata, hflags⟩ :=
    State.outSeal_open (s := s.forget []) m.replay (m.flags.toNat % 32) hown hv hopen hacc hw
  generalize hu : (s.forget []).outSeal m.ctx (recOut m.record) m.replay false (m.flags.toNat % 32) [] = u at *
  have hframe := (s.forget_frame []).trans hframe
  have hentry : u.entry m.entry = some e := by rw [State.entry, hframe.pl]; exact he
  obtain ⟨pl, hend, hpool, hgens⟩ := State.mxEnd_clean core hcode hue hentry (by rw [hframe.kn]; exact hk)
  refine ⟨u.mxEnd core m, w, ?_, ?_, ?_, ?_, ?_, ?_, hsealed, hdata, hflags, ?_⟩
  · simp [exec, execMatrixSeal, hm, hst, hwr, hcons, hu]
  all_goals rw [hend]
  · rw [State.core_modCore, if_pos rfl]
    exact hframe.nextMatrix core
  · rw [State.core_modCore, if_pos rfl]
  · exact hpool
  · simp only [State.pgen, kgetD, State.modCore_pl, hgens, kget_kset_same, Option.getD_some, hframe.pl]
  · exact hversion
  · exact hframe.mem

theorem matrixStop_clean (hst : m.state = .stopped) (hcode : m.code = 0) (hbad : m.bad = []) (hue : m.ue.first = none) :
    exec (.matrixStop core) s = .next (s.setCore core { s.core core with matrix := (s.core core).nextMatrix, nextMatrix := none }) := by
  simp only [exec, execMatrixStop, hm, hst, hbad, if_true, State.mxLog, hcode, hue]
  rfl

end

/-- Settles O42: a rule for each step of the task, and the product as the accumulators of its cells. -/
theorem matrixTasks : Obligations.MatrixTasks := by
  unfold Obligations.MatrixTasks
  refine ⟨?_, MxTask.output_is_product⟩
  rintro s core i _ rfl
  refine ⟨fun e he hkind hroom => ⟨matrixDispatch_behind he hkind hroom, ?_⟩, fun m hm => ⟨tileFetch_run hm, ?_, ?_, matrixStop_clean hm⟩⟩
  · rintro _ hidle hs hown hin rfl habs hway hneed
    exact matrixDispatch_passes he hkind hroom hidle ⟨hs, hown, hin, habs, hway, hneed⟩
  · rintro v _ hst hall rfl
    exact matrixFoldEnd_run hm hst hall
  · intro v e
    exact matrixSeal_unawaited hm

end Sys2Proof.Machine
end

section
/-!
Decoding inverts encoding: the rows of the opcode map, the words of a chain one after the other, and the fields that they carry
(03 R50 to R59, R71, R75).
-/

namespace Sys2Proof

/-! ### The opcode map (03 R71) -/

/-- A row's page and code fit their fields, the code is that of a base word, and its form is the one that decoding finds. -/
theorem Instr.slotOp_row {i : Instr} {o : OpInfo} {c : Chain} (h : i.slotOp = some (o, c)) :
    o.page < 4 ∧ o.code < 0x3C ∧ formOf o.page o.code = o.form := by
  cases i with cases h
  | _ => exact ⟨by decide, by decide, rfl⟩

/-- A slot instruction stands in the opcode map at its row; SEND, RECV and BARI are told from the others of their code by MOD. -/
theorem Instr.opcodeMap_slotOp {i : Instr} {o : OpInfo} {c : Chain} (h : i.slotOp = some (o, c)) (hm : o.modOk c.mod.toNat = true) :
    opcodeMap o.page o.code c.mod.toNat c = some i := by
  cases i with cases h
  | send c =>
    have hmod : c.mod.toNat = 0 ∨ c.mod.toNat = 1 := by simp [opSend] at hm; omega
    rcases hmod with h | h <;> rw [h] <;> rfl
  | sendLb c =>
    have hmod : c.mod.toNat = 2 := by simpa [opSendLb] using hm
    rw [hmod]; rfl
  | recvH c =>
    have hmod : c.mod.toNat = 1 ∨ c.mod.toNat = 5 := by simpa [opRecvH] using hm
    rcases hmod with h | h <;> rw [h] <;> rfl
  | recvW c =>
    have hmod : c.mod.toNat = 0 ∨ c.mod.toNat = 4 := by simpa [opRecvW] using hm
    rcases hmod with h | h <;> rw [h] <;> rfl
  | recvSp c =>
    have hmod : c.mod.toNat = 2 ∨ c.mod.toNat = 6 := by simpa [opRecvSp] using hm
    rcases hmod with h | h <;> rw [h] <;> rfl
  | recvSt c =>
    have hmod : c.mod.toNat = 3 := by simpa [opRecvSt] using hm
    rw [hmod]; rfl
  | bari c =>
    have hmod : c.mod.toNat = 0 := by simpa [opBari] using hm
    rw [hmod]; rfl
  | bariClr c =>
    have hmod : c.mod.toNat = 1 := by simpa [opBariClr] using hm
    rw [hmod]; rfl
  | _ => rfl

/-! ### Words read one after the other (03 R51, R73) -/

/-- The opcode and the payload of a word. -/
theorem bitsOf_word {op v : Nat} (hop : op < 64) (hv : v < 1024) : bitsOf 15 10 (op * 1024 + v) = op ∧ bitsOf 9 0 (op * 1024 + v) = v := by
  simp only [bitsOf, Nat.shiftRight_eq_div_pow]
  omega

theorem readWord_imm (q : Prefixes) {v : Nat} (hv : v < 1024) (hq : q.pos ≠ 4) :
    readWord q (0xF000 + v) = .more { q with pos := q.pos + 1, immHi := q.immHi * 1024 + v, nimm := q.nimm + 1 } := by
  obtain ⟨hop, hpay⟩ := bitsOf_word (op := 0x3C) (by decide) hv
  simp [readWord, hop, hpay, hq]

theorem readWord_xreg (q : Prefixes) {v : Nat} (hv : v < 1024) (hq : q.pos ≠ 4) (hx : q.x = none) :
    readWord q (0xF400 + v) = .more { q with pos := q.pos + 1, x := some v } := by
  obtain ⟨hop, hpay⟩ := bitsOf_word (op := 0x3D) (by decide) hv
  simp [readWord, hop, hpay, hq, hx]

theorem readWord_page (q : Prefixes) {v : Nat} (hv : v < 512) (hq : q.pos ≠ 4) (hp : q.p = none) :
    readWord q (0xF800 + v) = .more { q with pos := q.pos + 1, p := some v } := by
  obtain ⟨hop, hpay⟩ := bitsOf_word (op := 0x3E) (v := v) (by decide) (by omega)
  have hpage : bitsOf 9 7 v ≤ 3 := by simp only [bitsOf, Nat.shiftRight_eq_div_pow]; omega
  simp [readWord, hop, hpay, hq, hp, hpage]

theorem readWord_aux (q : Prefixes) {v : Nat} (hv : v < 1024) (h4 : v % 4 = 0) (hq : q.pos ≠ 4) (ha : q.a = none) :
    readWord q (0xFC00 + v) = .more { q with pos := q.pos + 1, a := some v } := by
  obtain ⟨hop, hpay⟩ := bitsOf_word (op := 0x3F) (by decide) hv
  have hlow : bitsOf 1 0 v = 0 := by simpa [bitsOf] using h4
  simp [readWord, hop, hpay, hq, ha, hlow]

theorem readWord_base (q : Prefixes) {code v : Nat} (hc : code < 0x3C) (hv : v < 1024) :
    readWord q (code * 1024 + v) = .done q (code * 1024 + v) := by
  obtain ⟨hop, -⟩ := bitsOf_word (op := code) (by omega) hv
  simp only [readWord, hop]
  rw [if_neg (by simp; omega), if_neg (by omega), if_neg (by omega), if_neg (by omega), if_neg (by omega)]

theorem immWords_length (hi n : Nat) : (immWords hi n).length = n := by
  induction n with
  | zero => rfl
  | succ n ih => simp [immWords, ih]

theorem decodeFrom_more {q q' : Prefixes} {w : Nat} (h : readWord q w = .more q') (ws : List Nat) :
    decodeFrom q (w :: ws) = decodeFrom q' ws := by
  simp only [decodeFrom, h]

/-- IMM words put their payloads below what has been read. -/
theorem decodeFrom_immWords (hi n : Nat) (ws : List Nat) (q : Prefixes) (hq : q.pos + n ≤ 4) :
    decodeFrom q (immWords hi n ++ ws) =
      decodeFrom { q with pos := q.pos + n, immHi := q.immHi * 1024 ^ n + hi % 1024 ^ n, nimm := q.nimm + n } ws := by
  induction n generalizing q with
  | zero => simp [immWords, Nat.mod_one]
  | succ n ih =>
    have hdigit : hi % 1024 ^ (n + 1) = hi / 1024 ^ n % 1024 * 1024 ^ n + hi % 1024 ^ n := by
      rw [Nat.pow_succ, Nat.mod_mul, Nat.add_comm, Nat.mul_comm (1024 ^ n)]
    rw [immWords, List.cons_append, decodeFrom_more (readWord_imm q (Nat.mod_lt _ (by decide)) (by omega)), ih _ (by simp only; omega), hdigit]
    congr 2
    · simp only; omega
    · rw [Nat.add_mul, Nat.mul_assoc, ← Nat.pow_succ', Nat.add_assoc]
    · simp only; omega

/-- The payload of XREG: the high bits of A and B, and C (03 R56). -/
def Chain.xregPayload (c : Chain) : Nat := (c.a.toNat / 32) * 256 + (c.b.toNat / 32) * 64 + c.c.toNat

/-- The payload of PAGE: the page and MOD (03 R57). -/
def Chain.pagePayload (c : Chain) (page : Nat) : Nat := page * 128 + c.mod.toNat

/-- The payload of AUX: STALL, GANG and LMASK (03 R59). -/
def Chain.auxPayload (c : Chain) : Nat := c.stall.toNat * 128 + c.gang.toNat * 32 + c.lmask.toNat * 4

/-- The immediate of a chain as the bits that its words carry, of which the base word has the lowest (03 R55). -/
def Chain.immBits (c : Chain) (f : Form) : Nat := wrapNat c.imm (10 * c.nimm + f.ownBits)

/-- The low ten bits of a chain's base word: A, and B or the immediate's own bits. -/
def Chain.basePayload (c : Chain) (f : Form) : Nat :=
  (c.a.toNat % 32) * 32 + if f.ownBits = 5 then c.immBits f % 32 else c.b.toNat % 32

/-- What has been read of a chain when its base word comes. -/
def Chain.prefixes (c : Chain) (o : OpInfo) : Prefixes where
  pos := c.nimm + c.hasX.toNat + c.hasP.toNat + c.hasA.toNat
  immHi := c.immBits o.form / 2 ^ o.form.ownBits % 1024 ^ c.nimm
  nimm := c.nimm
  x := if c.hasX then some c.xregPayload else none
  p := if c.hasP then some (c.pagePayload o.page) else none
  a := if c.hasA then some c.auxPayload else none

theorem encodeChain_eq (o : OpInfo) (c : Chain) :
    encodeChain o c = immWords (c.immBits o.form / 2 ^ o.form.ownBits) c.nimm ++ ((if c.hasX then [0xF400 + c.xregPayload] else []) ++
      ((if c.hasP then [0xF800 + c.pagePayload o.page] else []) ++ ((if c.hasA then [0xFC00 + c.auxPayload] else []) ++
        [o.code * 1024 + c.basePayload o.form]))) := by
  simp [encodeChain, Chain.immBits, Chain.xregPayload, Chain.pagePayload, Chain.auxPayload, Chain.basePayload, Nat.add_assoc]

theorem Chain.xregPayload_lt (c : Chain) : c.xregPayload < 1024 := by
  have ha := c.a.isLt; have hb := c.b.isLt; have hc := c.c.isLt
  unfold Chain.xregPayload; omega

theorem Chain.pagePayload_lt (c : Chain) {page : Nat} (h : page < 4) : c.pagePayload page < 512 := by
  have hm := c.mod.isLt
  unfold Chain.pagePayload; omega

theorem Chain.auxPayload_lt (c : Chain) : c.auxPayload < 1024 ∧ c.auxPayload % 4 = 0 := by
  have hs := c.stall.isLt; have hg := c.gang.isLt; have hl := c.lmask.isLt
  unfold Chain.auxPayload; omega

theorem Chain.basePayload_lt (c : Chain) (f : Form) : c.basePayload f < 1024 := by
  have ha := c.a.isLt
  unfold Chain.basePayload; split <;> omega

theorem encodeChain_length (o : OpInfo) (c : Chain) : (encodeChain o c).length = c.words := by
  rw [encodeChain_eq]
  cases hx : c.hasX <;> cases hp : c.hasP <;> cases ha : c.hasA <;> simp [Chain.words, hx, hp, ha, immWords_length]


theorem decodeFrom_xreg (b : Bool) (q : Prefixes) {v : Nat} (hv : v < 1024) (hq : q.pos + b.toNat ≤ 4) (hx : q.x = none) (ws : List Nat) :
    decodeFrom q ((if b then [0xF400 + v] else []) ++ ws) =
      decodeFrom { q with pos := q.pos + b.toNat, x := if b then some v else none } ws := by
  cases b with
  | false => simp [← hx]
  | true => exact decodeFrom_more (readWord_xreg q hv (by simp at hq; omega) hx) ws

theorem decodeFrom_page (b : Bool) (q : Prefixes) {v : Nat} (hv : v < 512) (hq : q.pos + b.toNat ≤ 4) (hp : q.p = none) (ws : List Nat) :
    decodeFrom q ((if b then [0xF800 + v] else []) ++ ws) =
      decodeFrom { q with pos := q.pos + b.toNat, p := if b then some v else none } ws := by
  cases b with
  | false => simp [← hp]
  | true => exact decodeFrom_more (readWord_page q hv (by simp at hq; omega) hp) ws

theorem decodeFrom_aux (b : Bool) (q : Prefixes) {v : Nat} (hv : v < 1024 ∧ v % 4 = 0) (hq : q.pos + b.toNat ≤ 4) (ha : q.a = none) (ws : List Nat) :
    decodeFrom q ((if b then [0xFC00 + v] else []) ++ ws) =
      decodeFrom { q with pos := q.pos + b.toNat, a := if b then some v else none } ws := by
  cases b with
  | false => simp [← ha]
  | true => exact decodeFrom_more (readWord_aux q hv.1 hv.2 (by simp at hq; omega) ha) ws

/-- Decoding a chain's words comes to its base word with its prefixes read. -/
theorem decodeFrom_encodeChain {o : OpInfo} {c : Chain} (hp : o.page < 4) (hw : c.words ≤ 5) (rest : List Nat) :
    decodeFrom {} (encodeChain o c ++ rest) = decodeFrom (c.prefixes o) ((o.code * 1024 + c.basePayload o.form) :: rest) := by
  unfold Chain.words at hw
  rw [encodeChain_eq]
  simp only [List.append_assoc]
  rw [decodeFrom_immWords _ _ _ _ (by simp only; omega), decodeFrom_xreg _ _ c.xregPayload_lt (by simp only; omega) rfl,
    decodeFrom_page _ _ (c.pagePayload_lt hp) (by simp only; omega) rfl, decodeFrom_aux _ _ c.auxPayload_lt (by simp only; omega) rfl]
  simp [Chain.prefixes]

/-! ### The fields of a chain (03 R55 to R59) -/

theorem toInt_ofNat_eq_sextNat (n w : Nat) : (BitVec.ofNat w n).toInt = sextNat n w := by
  simp [BitVec.toInt, sextNat]

theorem toNat_ofInt_eq_wrapNat (z : Int) (w : Nat) : (BitVec.ofInt w z).toNat = wrapNat z w := by
  simp [wrapNat]

/-- An immediate inside the range of `w` bits is the sign extension of them. -/
theorem sextNat_wrapNat {z : Int} {w : Nat} (hw : 0 < w) (hlo : -(2 ^ (w - 1) : Nat) ≤ z) (hhi : z < (2 ^ (w - 1) : Nat)) :
    sextNat (wrapNat z w) w = z := by
  rw [← toNat_ofInt_eq_wrapNat, ← toInt_ofNat_eq_sextNat, BitVec.ofNat_toNat, BitVec.setWidth_eq]
  exact BitVec.toInt_ofInt_eq_self hw (by exact_mod_cast hlo) (by exact_mod_cast hhi)

theorem wrapNat_lt (z : Int) (w : Nat) : wrapNat z w < 2 ^ w := by
  rw [← toNat_ofInt_eq_wrapNat]
  exact BitVec.isLt _

/-- The conditions of `Chain.fits` as propositions, one for each kind of word (03 R51, R55 to R59). -/
structure Chain.Fits (c : Chain) (o : OpInfo) : Prop where
  words : c.words ≤ 5
  page : c.hasP = false → o.page = 0 ∧ c.mod = 0
  xreg : c.hasX = false → c.a.toNat < 32 ∧ c.b.toNat < 32 ∧ c.c = 0
  immForm : o.form = .imm → c.b.toNat % 32 = 0
  aux : c.hasA = false → c.stall = 0 ∧ c.gang = 0 ∧ c.lmask = 0
  noImm : 10 * c.nimm + o.form.ownBits = 0 → c.imm = 0
  imm : 0 < 10 * c.nimm + o.form.ownBits → -(2 ^ (10 * c.nimm + o.form.ownBits - 1) : Nat) ≤ c.imm ∧ c.imm < (2 ^ (10 * c.nimm + o.form.ownBits - 1) : Nat)

theorem Chain.Fits.of_fits {c : Chain} {o : OpInfo} (h : c.fits o = true) : c.Fits o := by
  simp only [Chain.fits, Bool.and_eq_true] at h
  obtain ⟨⟨⟨⟨⟨hw, hp⟩, hx⟩, hb⟩, ha⟩, hi⟩ := h
  refine ⟨by simpa using hw, fun e => ?_, fun e => ?_, fun e => ?_, fun e => ?_, fun e => ?_, fun e => ?_⟩
  · simpa [e] using hp
  · simpa [e, and_assoc] using hx
  · simpa [e] using hb
  · simpa [e, and_assoc] using ha
  · simpa [e] using hi
  · rw [if_neg (by omega)] at hi
    simpa using hi

/-- Where a chain has no XREG, PAGE or AUX, its payload would be the 0 that stands for it. -/
theorem Chain.Fits.payloads {c : Chain} {o : OpInfo} (h : c.Fits o) : (c.prefixes o).x.getD 0 = c.xregPayload ∧
    (c.prefixes o).p.getD 0 = c.pagePayload o.page ∧ (c.prefixes o).a.getD 0 = c.auxPayload := by
  refine ⟨?_, ?_, ?_⟩
  · cases hx : c.hasX with
    | true => simp [Chain.prefixes, hx]
    | false =>
      obtain ⟨ha, hb, hc⟩ := h.xreg hx
      simp [Chain.prefixes, hx, Chain.xregPayload, Nat.div_eq_of_lt ha, Nat.div_eq_of_lt hb, hc]
  · cases hp : c.hasP with
    | true => simp [Chain.prefixes, hp]
    | false => simp [Chain.prefixes, hp, Chain.pagePayload, h.page hp]
  · cases ha : c.hasA with
    | true => simp [Chain.prefixes, ha]
    | false => simp [Chain.prefixes, ha, Chain.auxPayload, h.aux ha]

theorem Chain.bitsOf_xregPayload (c : Chain) : bitsOf 9 8 c.xregPayload = c.a.toNat / 32 ∧ bitsOf 7 6 c.xregPayload = c.b.toNat / 32 ∧
    bitsOf 5 0 c.xregPayload = c.c.toNat := by
  have ha := c.a.isLt; have hb := c.b.isLt; have hc := c.c.isLt
  simp only [bitsOf, Nat.shiftRight_eq_div_pow, Chain.xregPayload]
  omega

theorem Chain.bitsOf_pagePayload (c : Chain) {page : Nat} (h : page < 4) : bitsOf 9 7 (c.pagePayload page) = page ∧
    bitsOf 6 0 (c.pagePayload page) = c.mod.toNat := by
  have hm := c.mod.isLt
  simp only [bitsOf, Nat.shiftRight_eq_div_pow, Chain.pagePayload]
  omega

theorem Chain.bitsOf_auxPayload (c : Chain) : bitsOf 9 7 c.auxPayload = c.stall.toNat ∧ bitsOf 6 5 c.auxPayload = c.gang.toNat ∧
    bitsOf 4 2 c.auxPayload = c.lmask.toNat := by
  have hs := c.stall.isLt; have hg := c.gang.isLt; have hl := c.lmask.isLt
  simp only [bitsOf, Nat.shiftRight_eq_div_pow, Chain.auxPayload]
  omega

/-- The fields A and B of a base word. -/
theorem bitsOf_base (code a : Nat) {own : Nat} (h : own < 32) : bitsOf 9 5 (code * 1024 + (a % 32 * 32 + own)) = a % 32 ∧
    bitsOf 4 0 (code * 1024 + (a % 32 * 32 + own)) = own := by
  simp only [bitsOf, Nat.shiftRight_eq_div_pow]
  omega

theorem Form.ownBits_cases (f : Form) : f = .imm ∧ f.ownBits = 5 ∨ f ≠ .imm ∧ f.ownBits = 0 := by
  cases f <;> simp [Form.ownBits]

theorem Chain.Fits.immOf_prefixes {c : Chain} {o : OpInfo} (h : c.Fits o) :
    immOf (c.prefixes o) o.form.ownBits (if o.form.ownBits = 5 then c.immBits o.form % 32 else 0) = c.imm := by
  have hn : (c.prefixes o).nimm = c.nimm := rfl
  rw [immOf, hn]
  split
  · exact (h.noImm ‹_›).symm
  · obtain ⟨hlo, hhi⟩ := h.imm (by omega)
    have hbits : (c.prefixes o).immHi * 2 ^ o.form.ownBits + (if o.form.ownBits = 5 then c.immBits o.form % 32 else 0) = c.immBits o.form := by
      have hlt : c.immBits o.form < 2 ^ (10 * c.nimm + o.form.ownBits) := wrapNat_lt _ _
      have h1024 : 2 ^ (10 * c.nimm) = 1024 ^ c.nimm := by rw [Nat.pow_mul]
      have hhi : (c.prefixes o).immHi = c.immBits o.form / 2 ^ o.form.ownBits :=
        Nat.mod_eq_of_lt (Nat.div_lt_of_lt_mul (by rwa [← h1024, ← Nat.pow_add, Nat.add_comm]))
      rw [hhi]
      rcases o.form.ownBits_cases with ⟨-, hb⟩ | ⟨-, hb⟩ <;> simp only [hb]
      · simp; omega
      · simp
    rw [hbits]
    exact sextNat_wrapNat (by omega) hlo hhi

theorem Chain.prefixes_isSome (c : Chain) (o : OpInfo) : (c.prefixes o).x.isSome = c.hasX ∧ (c.prefixes o).p.isSome = c.hasP ∧
    (c.prefixes o).a.isSome = c.hasA := by
  simp only [Chain.prefixes]
  exact ⟨by cases c.hasX <;> rfl, by cases c.hasP <;> rfl, by cases c.hasA <;> rfl⟩

theorem Chain.Fits.chainOf_prefixes {c : Chain} {o : OpInfo} (h : c.Fits o) (hpage : o.page < 4) :
    chainOf (c.prefixes o) (o.code * 1024 + c.basePayload o.form) o.form = c := by
  obtain ⟨hx, hp, ha⟩ := h.payloads
  obtain ⟨hhasX, hhasP, hhasA⟩ := c.prefixes_isSome o
  obtain ⟨hxa, hxb, hxc⟩ := c.bitsOf_xregPayload
  obtain ⟨-, hmod⟩ := c.bitsOf_pagePayload hpage
  obtain ⟨hstall, hgang, hlmask⟩ := c.bitsOf_auxPayload
  obtain ⟨hA, hB⟩ := bitsOf_base o.code c.a.toNat (own := if o.form.ownBits = 5 then c.immBits o.form % 32 else c.b.toNat % 32) (by split <;> omega)
  have himm : (if o.form.ownBits = 5 then (if o.form.ownBits = 5 then c.immBits o.form % 32 else c.b.toNat % 32) else 0) =
      if o.form.ownBits = 5 then c.immBits o.form % 32 else 0 := by split <;> rfl
  have hb : c.b.toNat / 32 * 32 + (if o.form.ownBits = 5 then 0 else
      if o.form.ownBits = 5 then c.immBits o.form % 32 else c.b.toNat % 32) = c.b.toNat := by
    rcases o.form.ownBits_cases with ⟨hf, e⟩ | ⟨-, e⟩ <;> simp only [e]
    · have := h.immForm hf
      simp; omega
    · simp; omega
  have hn : (c.prefixes o).nimm = c.nimm := rfl
  simp only [chainOf, hx, hp, ha, hhasX, hhasP, hhasA, hxa, hxb, hxc, hmod, hstall, hgang, hlmask, Chain.basePayload, hA, hB, himm, hb, hn,
    h.immOf_prefixes, Nat.div_add_mod', BitVec.ofNat_toNat, BitVec.setWidth_eq]

/-! ### The instruction -/

theorem Instr.wf_slotOp {i : Instr} {o : OpInfo} {c : Chain} (h : i.slotOp = some (o, c)) (hwf : i.wf = true) :
    c.Fits o ∧ c.legal o = true := by
  simp only [Instr.wf, h, Bool.and_eq_true] at hwf
  exact ⟨.of_fits hwf.1, hwf.2⟩

theorem Chain.modOk_of_legal {c : Chain} {o : OpInfo} (h : c.legal o = true) : o.modOk c.mod.toNat = true := by
  simp only [Chain.legal, Bool.and_eq_true] at h
  obtain ⟨⟨⟨⟨-, hm⟩, -⟩, -⟩, -⟩ := h
  exact hm

/-- The prefixes and the base word of a well-formed slot instruction name that instruction. -/
theorem instrOf_prefixes {i : Instr} {o : OpInfo} {c : Chain} (hop : i.slotOp = some (o, c)) (hwf : i.wf = true) :
    instrOf (c.prefixes o) (o.code * 1024 + c.basePayload o.form) = some i := by
  obtain ⟨hfits, hlegal⟩ := Instr.wf_slotOp hop hwf
  obtain ⟨hpage, hcode, hform⟩ := Instr.slotOp_row hop
  obtain ⟨-, hp, -⟩ := hfits.payloads
  obtain ⟨hpg, -⟩ := c.bitsOf_pagePayload hpage
  obtain ⟨hop', -⟩ := bitsOf_word (op := o.code) (by omega) (c.basePayload_lt o.form)
  simp only [instrOf, hp, hpg, hop', hform, hfits.chainOf_prefixes hpage]
  exact Instr.opcodeMap_slotOp hop (Chain.modOk_of_legal hlegal)

theorem lt_of_mem_immWords {hi n w : Nat} (h : w ∈ immWords hi n) : w < 2 ^ 16 := by
  induction n with
  | zero => simp [immWords] at h
  | succ n ih =>
    rcases List.mem_cons.1 h with rfl | h
    · omega
    · exact ih h

/-- Every word of a chain has 16 bits. -/
theorem lt_of_mem_encodeChain {o : OpInfo} {c : Chain} (hp : o.page < 4) (hc : o.code < 0x3C) {w : Nat} (h : w ∈ encodeChain o c) : w < 2 ^ 16 := by
  have hx := c.xregPayload_lt
  have hpg := c.pagePayload_lt hp
  have ha := c.auxPayload_lt
  have hb := c.basePayload_lt o.form
  rw [encodeChain_eq] at h
  simp only [List.mem_append, List.mem_singleton, List.mem_ite_nil_right] at h
  rcases h with h | ⟨-, rfl⟩ | ⟨-, rfl⟩ | ⟨-, rfl⟩ | rfl
  · exact lt_of_mem_immWords h
  all_goals omega

theorem decode_encodeChain {i : Instr} {o : OpInfo} {c : Chain} (hop : i.slotOp = some (o, c)) (hwf : i.wf = true) (rest : List Nat) :
    decode (encodeChain o c ++ rest) = .ok i c.words := by
  obtain ⟨hfits, -⟩ := Instr.wf_slotOp hop hwf
  obtain ⟨hpage, hcode, -⟩ := Instr.slotOp_row hop
  rw [decode, decodeFrom_encodeChain hpage hfits.words]
  simp only [decodeFrom, readWord_base _ hcode (c.basePayload_lt o.form), instrOf_prefixes hop hwf]
  rfl

/-- Settles O57: decoding comes to the base word with the prefixes read, and they give the chain's fields back. -/
theorem decodeEncode : Obligations.DecodeEncode := by
  unfold Obligations.DecodeEncode
  intro i o c rest hop hwf
  obtain ⟨hfits, -⟩ := Instr.wf_slotOp hop hwf
  obtain ⟨hpage, hcode, -⟩ := Instr.slotOp_row hop
  have henc : encode i = encodeChain o c := by simp only [encode, hop]
  rw [henc, encodeChain_length]
  exact ⟨decode_encodeChain hop hwf rest, by simp [Chain.words], hfits.words, fun w => lt_of_mem_encodeChain hpage hcode⟩

/-- Settles O56: each row is evaluated. -/
theorem encodedWords : Obligations.EncodedWords := by
  unfold Obligations.EncodedWords
  decide

end Sys2Proof
end

section
/-!
The issue of a slot instruction as its row of the opcode map has it: the checks of its words and its privilege (03 R73 items 4 and 5).
-/

namespace Sys2Proof.Machine

/-- The meaning of a slot instruction is the issue of a body under the instruction's row of the opcode map. -/
theorem exec_eq_issue {i : Instr} {o : OpInfo} {c : Chain} (h : i.slotOp = some (o, c)) (s : State) :
    ∃ body, exec i s = .next (s.issue o c body) := by
  cases i with cases h
  | _ => exact ⟨_, rfl⟩

/-- Words that are not legal for the slot trap ILLEGAL. -/
theorem State.issue_illegal {s : State} {o : OpInfo} {c : Chain} {y : Slot} (hy : s.slot s.o.cur = some y)
    (h : c.legal o = false ∨ (y.snapshot s.t.cycle).gangBad o c = true) (body : Body) :
    s.issue o c body = s.takeTrap s.o.cur (y.snapshot s.t.cycle) .illegal (baseTval o c) false := by
  have hbad : (!c.legal o || (y.snapshot s.t.cycle).gangBad o c) = true := by simpa using h
  simp only [State.issue, hy, hbad, if_true]

@[simp] theorem Slot.snapshot_sup (x : Slot) (cycle : Nat) : (x.snapshot cycle).sup = x.sup := by
  unfold Slot.snapshot; split <;> rfl

/-- Legal words of a supervisor instruction trap PRIV in a user slot. -/
theorem State.issue_priv {s : State} {o : OpInfo} {c : Chain} {y : Slot} (hy : s.slot s.o.cur = some y) (hp : o.priv = true) (hsup : y.sup = false)
    (hlegal : c.legal o = true) (hgang : (y.snapshot s.t.cycle).gangBad o c = false) (body : Body) :
    s.issue o c body = s.takeTrap s.o.cur (y.snapshot s.t.cycle) .priv (baseTval o c) false := by
  simp [State.issue, hy, hlegal, hgang, hp, hsup]

/-- Settles O4: the traps of the issue, whatever the instruction's body is. -/
theorem illegalAndPrivilegedWordsTrap : Obligations.IllegalAndPrivilegedWordsTrap := by
  unfold Obligations.IllegalAndPrivilegedWordsTrap
  constructor
  · intro i o c s y hop hp hy hsup hlegal hgang
    obtain ⟨body, hexec⟩ := exec_eq_issue hop s
    rw [hexec, State.issue_priv hy hp hsup hlegal hgang]
  · intro i o c s y hop hy hbad
    obtain ⟨body, hexec⟩ := exec_eq_issue hop s
    rw [hexec, State.issue_illegal hy hbad]

end Sys2Proof.Machine
end

section
/-!
The end of a cycle: what it does before the clock moves leaves the clock as it was (04 R82).
-/

namespace Sys2Proof.Machine

variable (s : State)

/-- A fold of steps that keep the clock keeps it. -/
theorem foldl_t {α : Type} {f : State → α → State} (h : ∀ s a, (f s a).t = s.t) (l : List α) : (l.foldl f s).t = s.t := by
  induction l generalizing s with
  | nil => rfl
  | cons a l ih => rw [List.foldl_cons, ih, h]

/-- The same where a value goes with the state. -/
theorem foldl_snd_t {α β : Type} {f : β × State → α → β × State} (h : ∀ z a, (f z a).2.t = z.2.t) (l : List α) (z : β × State) :
    (l.foldl f z).2.t = z.2.t := by
  induction l generalizing z with
  | nil => rfl
  | cons a l ih => rw [List.foldl_cons, ih, h]

/-! ### Packets that leave and answers to requests -/

@[simp] theorem State.route_t (a : Nat) : (s.route a).2.t = s.t := by
  unfold State.route; split <;> rfl

@[simp] theorem State.out_t (x : OutItem) : (s.out x).t = s.t := by
  cases x <;> simp [State.out, State.toLink]

@[simp] theorem State.refusePacket_t (p : Packet) (r : Nat) : (s.refusePacket p r).t = s.t := by simp [State.refusePacket]

@[simp] theorem State.respond_t (p q : Packet) : (s.respond p q).t = s.t := by
  fun_cases State.respond s p q <;> simp

@[simp] theorem State.sendPacket_t (dst tag ctx : Nat) (p : Packet) : (s.sendPacket dst tag ctx p).t = s.t := by simp [State.sendPacket]

@[simp] theorem State.answerMsg_t (rid : Nat) (m : Msg) (bits : Nat) (ue : List UeEvent) : (s.answerMsg rid m bits ue).t = s.t := by
  unfold State.answerMsg; split <;> simp

@[simp] theorem State.ackMsg_t (rid : Nat) (m : Msg) (code : Nat) : (s.ackMsg rid m code).t = s.t := by
  unfold State.ackMsg; split <;> simp

@[simp] theorem State.modHeld_t (sid : Nat) (f : Slot → Slot) : (s.modHeld sid f).t = s.t := by
  unfold State.modHeld; split <;> simp

@[simp] theorem State.orphaned_t (count : Bool) : (s.orphaned count).t = s.t := by cases count <;> rfl

@[simp] theorem State.lateFor_t (sid : Option Nat) (f : LateFault) (count : Bool) : (s.lateFor sid f count).t = s.t := by
  fun_cases State.lateFor s sid f count <;> simp

@[simp] theorem State.nackMsg_t (rid : Nat) (m : Msg) : (s.nackMsg rid m).t = s.t := by
  simp only [State.nackMsg]; split
  · simp
  · split <;> simp

@[simp] theorem State.portAnswer_t (q : HomeReq) (write : Bool) (r : PortRes) : (s.portAnswer q write r).t = s.t := by
  fun_cases State.portAnswer s q write r <;> simp

/-! ### Ports of engines -/

theorem State.fifoPopStep_t {s t : State} {f : Nat} (h : s.fifoPopStep f = some t) : t.t = s.t := by
  simp only [State.fifoPopStep] at h
  split at h
  · cases h
  · split at h
    · cases h; simp
    · split at h
      · cases h; simp
      · split at h
        · cases h; simp
        · cases h

theorem State.fifoStep_t {s t : State} {f : Nat} (h : s.fifoStep f = some t) : t.t = s.t := by
  simp only [State.fifoStep] at h
  split at h
  · exact State.fifoPopStep_t h
  · split at h
    · cases h; simp
    · split at h
      · cases h; simp
      · split at h
        · cases h; simp
        · exact State.fifoPopStep_t h

@[simp] theorem State.fifoSteps_t (f n : Nat) : (s.fifoSteps f n).t = s.t := by
  induction n generalizing s with
  | zero => rfl
  | succ n ih =>
    unfold State.fifoSteps
    split
    · rw [ih, State.fifoStep_t ‹_›]
    · rfl

@[simp] theorem State.serveFifo_t (f : Nat) : (s.serveFifo f).t = s.t := by simp [State.serveFifo]

theorem State.channelStep_t {s t : State} {n : Nat} (h : s.channelStep n = some t) : t.t = s.t := by
  simp only [State.channelStep] at h
  split at h
  · cases h
  · split at h
    · cases h; simp
    · split at h
      · cases h; simp
      · split at h
        · cases h; simp
        · cases h

@[simp] theorem State.channelSteps_t (f n : Nat) : (s.channelSteps f n).t = s.t := by
  induction n generalizing s with
  | zero => rfl
  | succ n ih =>
    unfold State.channelSteps
    split
    · rw [ih, State.channelStep_t ‹_›]
    · rfl

@[simp] theorem State.serveChannel_t (f : Nat) : (s.serveChannel f).t = s.t := by simp [State.serveChannel]

@[simp] theorem State.fifoLoad_t (ctx f port : Nat) : (s.fifoLoad ctx f port).2.t = s.t := by
  simp only [State.fifoLoad]
  split
  · rfl
  · split
    · split <;> simp
    · split <;> rfl

@[simp] theorem State.fifoPope_t (ctx f port : Nat) (nw : Bool) (r : HomeReq) : (s.fifoPope ctx f port nw r).t = s.t := by
  simp only [State.fifoPope]
  split
  · simp
  · split <;> simp

@[simp] theorem State.portPope_t (ctx off : Nat) (nw : Bool) (r : HomeReq) : (s.portPope ctx off nw r).t = s.t := by
  unfold State.portPope; split <;> simp

@[simp] theorem State.portLoad_t (ctx : Nat) (host : Bool) (off : Nat) : (s.portLoad ctx host off).2.t = s.t := by
  unfold State.portLoad; split
  · simp
  · split
    · rfl
    · split <;> rfl

@[simp] theorem State.dropPost_t (full : Bool) : (s.dropPost full).t = s.t := by
  simp only [State.dropPost]; split <;> split <;> simp

@[simp] theorem State.fifoPush_t (ctx f port : Nat) (r : HomeReq) : (s.fifoPush ctx f port r).t = s.t := by
  simp only [State.fifoPush]; split <;> simp

@[simp] theorem State.chanPush_t (n port : Nat) (r : HomeReq) : (s.chanPush n port r).t = s.t := by
  simp only [State.chanPush]; split <;> simp

@[simp] theorem State.portStore_t (ctx off : Nat) (r : HomeReq) : (s.portStore ctx off r).t = s.t := by
  unfold State.portStore; repeat' split
  all_goals simp

@[simp] theorem State.unpark_t (p : Packet) : (s.unpark p).t = s.t := by
  simp only [State.unpark]; split <;> simp

/-! ### Task pool and inbox -/

@[simp] theorem State.pick_t (l : List Nat) : (s.pick l).2.t = s.t := by
  unfold State.pick; split <;> rfl

@[simp] theorem State.runEntry_t (i : Nat) : (s.runEntry i).t = s.t := by
  unfold State.runEntry; split <;> rfl

@[simp] theorem State.giveNext_t (d i : Nat) : (s.giveNext d i).t = s.t := by
  unfold State.giveNext; split <;> simp

@[simp] theorem State.serveNexts_t (ctx : Nat) (l : List Nat) : (s.serveNexts ctx l).t = s.t := by
  induction l generalizing s with
  | nil => rfl
  | cons rid l ih =>
    unfold State.serveNexts
    split
    · exact ih _
    · split
      · exact ih _
      · have h := s.pick_t (s.qualifying ctx true)
        split
        · rw [ih]; simp_all
        · simp_all

@[simp] theorem State.tryReady_t (i : Nat) : (s.tryReady i).t = s.t := by
  simp only [State.tryReady]; split
  · split
    · split <;> simp
    · rfl
  · rfl

@[simp] theorem State.countDown_t (i gen : Nat) : (s.countDown i gen).t = s.t := by
  unfold State.countDown; split
  · split <;> simp
  · rfl

@[simp] theorem State.serveWaiting_t : s.serveWaiting.t = s.t := by
  unfold State.serveWaiting; split
  · rfl
  · exact foldl_t s (fun s c => s.serveNexts_t c _) _

@[simp] theorem State.serveRecvs_t (c : Nat) : (s.serveRecvs c).t = s.t := by
  refine foldl_t s (fun s i => ?_) _
  dsimp only
  split
  · rfl
  · split <;> simp

@[simp] theorem State.enterInbox_t (c : Nat) (e : InboxEntry) : (s.enterInbox c e).t = s.t := by
  simp only [State.enterInbox, State.serveRecvs_t, State.endYields]
  split
  · split <;> rfl
  · rfl

@[simp] theorem State.takeFromDie_t (core : Nat) (h : Word) (ws : List Word) : (s.takeFromDie core h ws).t = s.t := by
  unfold State.takeFromDie; split
  · simp
  · split <;> simp

@[simp] theorem State.retryInbox_t : s.retryInbox.t = s.t := foldl_t _ (fun s _ => s.takeFromDie_t _ _ _) _

/-! ### Versions -/

@[simp] theorem State.cacheVersion_t (core ctx : Nat) (tag : Nat × Nat) (off size v : Nat) : (s.cacheVersion core ctx tag off size v).t = s.t := by
  unfold State.cacheVersion
  have h := s.draw_t
  rcases hd : s.draw with ⟨f, u⟩
  rw [hd] at h
  dsimp only
  split <;> exact h

@[simp] theorem State.answerLoad_t (d : Nat) (h : Word) (tag : Nat × Nat) (g data : Nat) (bad : Bool) (l : VLoad) :
    (s.answerLoad d h tag g data bad l).t = s.t := by
  simp only [State.answerLoad]
  split
  · rfl
  · split
    · simp
    · split
      · rw [State.modDep_t]; split
        · split <;> simp
        · rfl
      · repeat' split
        all_goals simp

@[simp] theorem State.launchInput_t (l count : Nat) (bad : Bool) : (s.launchInput l count bad).t = s.t := rfl

@[simp] theorem State.serveWaiter_t (h : Word) (tag : Nat × Nat) (g data : Nat) (bad : Bool) (w : Waiter) :
    (s.serveWaiter h tag g data bad w).t = s.t := by
  unfold State.serveWaiter; split <;> simp

@[simp] theorem State.serveAtHome_t (v : Version) (w : Waiter) : (s.serveAtHome v w).2.t = s.t := by simp [State.serveAtHome]

@[simp] theorem State.sendNotice_t (v : Version) (reclaim : Bool) (agent : Nat) : (s.sendNotice v reclaim agent).t = s.t := by
  simp [State.sendNotice, State.newId]

@[simp] theorem State.notify_t (v : Version) (reclaim : Bool) : (s.notify v reclaim).t = s.t := foldl_t s (fun s a => s.sendNotice_t v reclaim a) _

@[simp] theorem State.reclaimStart_t (v : Version) : (s.reclaimStart v).t = s.t := by simp [State.reclaimStart, State.uncacheVersion]

@[simp] theorem State.settle_t (v : Version) : (s.settle v).t = s.t := by unfold State.settle; split <;> simp

@[simp] theorem State.sealVersion_t (v : Version) : (s.sealVersion v).t = s.t := by
  simp [State.sealVersion, foldl_snd_t]

@[simp] theorem State.vstoreAt_t (ctx : Nat) (h : Word) (off size data : Nat) (replay : Bool) : (s.vstoreAt ctx h off size data replay).2.t = s.t := by
  unfold State.vstoreAt; repeat' split
  all_goals rfl

@[simp] theorem State.vaccAt_t (ctx : Nat) (h : Word) (j w data : Nat) (replay : Bool) : (s.vaccAt ctx h j w data replay).2.t = s.t := by
  simp only [State.vaccAt]; repeat' split
  all_goals simp

@[simp] theorem State.holdFull_t (ctx : Nat) (h : Word) : (s.holdFull ctx h).t = s.t := by
  simp only [State.holdFull]; split
  · rfl
  · split <;> simp

@[simp] theorem State.unholdFull_t (ctx : Nat) (h : Word) : (s.unholdFull ctx h).t = s.t := by
  unfold State.unholdFull; split <;> rfl

@[simp] theorem State.spill_t (slice n : Nat) : (s.spill slice n).t = s.t := by
  refine foldl_snd_t (fun z v => ?_) _ (n, s)
  dsimp only
  split <;> rfl

theorem State.makeRoom_t {s t : State} {slice g n : Nat} (h : s.makeRoom slice g n = some t) : t.t = s.t := by
  simp only [State.makeRoom] at h
  split at h
  · cases h; rfl
  · split at h
    · cases h; simp
    · cases h

@[simp] theorem State.vopenAt_t (ctx : Nat) (h desc cnt : Word) (acc : Bool) (op : Nat) (replay : Bool) :
    (s.vopenAt ctx h desc cnt acc op replay).2.t = s.t := by
  simp only [State.vopenAt]; split
  · simp
  · split
    · simp
    · simp [State.makeRoom_t ‹_›]

@[simp] theorem State.vsealAt_t (ctx : Nat) (h : Word) (replay poison : Bool) (fl : Nat) : (s.vsealAt ctx h replay poison fl).2.t = s.t := by
  unfold State.vsealAt; repeat' split
  all_goals simp

@[simp] theorem State.vrefAt_t (ctx : Nat) (h : Word) (n : Nat) (replay : Bool) : (s.vrefAt ctx h n replay).2.t = s.t := by
  unfold State.vrefAt; repeat' split
  all_goals rfl

@[simp] theorem State.vrelAt_t (ctx : Nat) (h : Word) (n : Nat) (replay : Bool) : (s.vrelAt ctx h n replay).2.t = s.t := by
  unfold State.vrelAt; repeat' split
  all_goals simp

@[simp] theorem State.vnameAt_t (ctx n r : Nat) : (s.vnameAt ctx n r).2.t = s.t := by
  simp only [State.vnameAt]; split <;> rfl

@[simp] theorem State.vconsumeAt_t (ctx : Nat) (h : Word) : (s.vconsumeAt ctx h).t = s.t := by
  unfold State.vconsumeAt; split
  · split <;> simp
  · rfl

@[simp] theorem State.applyConsumes_t (ctx : Nat) (h : Word) (n : Nat) : (s.applyConsumes ctx h n).t = s.t := by
  induction n generalizing s with
  | zero => rfl
  | succ n ih => rw [State.applyConsumes, ih, State.vconsumeAt_t]

/-! ### Packets that wait -/

@[simp] theorem State.holdPacket_t (p : Packet) : (s.holdPacket p).t = s.t := rfl

@[simp] theorem State.bankDo_t (core kind off w : Nat) (op : AmoOp) (y : Nat) : (s.bankDo core kind off w op y).2.2.t = s.t := by
  simp only [State.bankDo]; repeat' split
  all_goals rfl

@[simp] theorem State.replicaWritten_t (p : Packet) : (s.replicaWritten p).t = s.t := by
  unfold State.replicaWritten; repeat' split
  all_goals rfl

@[simp] theorem State.sendReplica_t (rid : Nat) (m : Msg) : (s.sendReplica rid m).t = s.t := by
  unfold State.sendReplica; split <;> simp

@[simp] theorem State.relay_t (p w response : Packet) : (s.relay p w response).t = s.t := by
  simp only [State.relay, State.newId, apply_ite State.t, State.respond_t, State.sendReplica_t, State.post_t, ite_self]

@[simp] theorem State.freeLine_t (p : Packet) : (s.freeLine p).t = s.t := by
  unfold State.freeLine; split <;> rfl

@[simp] theorem State.holdLine_t (p : Packet) : (s.holdLine p).t = s.t := rfl

@[simp] theorem State.hostLocalWrite_t (o : Nat) (data : List Byte) : (s.hostLocalWrite o data).t = s.t := by
  simp only [State.hostLocalWrite]; split <;> rfl

@[simp] theorem State.start_t (i : Instr) : (s.start i).t = s.t := rfl

@[simp] theorem State.startRegWrite_t (ctx off n v : Nat) : (s.startRegWrite ctx off n v).t = s.t := by
  unfold State.startRegWrite; split <;> rfl

theorem State.amoAt_t {s : State} {ctx off va : Nat} {op : AmoOp} {w y : Nat} {r : Nat × List UeEvent × State} (h : s.amoAt ctx off va op w y = some r) :
    r.2.2.t = s.t := by
  simp only [State.amoAt] at h
  split at h
  · obtain rfl := Option.some.inj h
    dsimp only; split <;> rfl
  · split at h
    · obtain rfl := Option.some.inj h
      dsimp only; split <;> simp
    · cases h

@[simp] theorem State.readIn_t (p : Packet) : (s.readIn p).t = s.t := by
  simp only [State.readIn]; repeat' split
  all_goals simp

@[simp] theorem State.writeIn_t (p : Packet) : (s.writeIn p).t = s.t := by
  simp only [State.writeIn]; repeat' split
  all_goals simp

@[simp] theorem State.fetchIn_t (p : Packet) : (s.fetchIn p).t = s.t := by
  simp only [State.fetchIn]; split
  · split
    · rw [State.applyConsumes_t]
      exact foldl_t s (fun s _ => s.respond_t _ _) _
    · simp
  · split <;> simp

@[simp] theorem State.subIn_t (p : Packet) : (s.subIn p).t = s.t := by
  simp only [State.subIn]; split
  · simp
  · split <;> simp

@[simp] theorem State.tlbDrop_t (scope va ctx : Nat) (lines : Bool) : (s.tlbDrop scope va ctx lines).t = s.t := by cases lines <;> rfl

@[simp] theorem State.atomicIn_t (p : Packet) : (s.atomicIn p).t = s.t := by
  simp only [State.atomicIn]
  split
  · simp
  · split
    · split
      · simp
      · split
        · simp
        · split
          · have h := State.amoAt_t ‹s.amoAt _ _ _ _ _ _ = some _›
            dsimp only at h
            split <;> simp [h]
          · simp
    · repeat' split
      all_goals simp [State.newId]

@[simp] theorem State.retryPackets_t : s.retryPackets.t = s.t := by
  refine foldl_t _ (fun s p => ?_) _
  split <;> simp

@[simp] theorem State.servePorts_t : s.servePorts.t = s.t := by
  unfold State.servePorts
  rw [foldl_t _ (fun s n => s.serveChannel_t n), foldl_t _ (fun s n => s.serveFifo_t n)]

/-! ### The host -/

@[simp] theorem State.hostReply_t (r : Option (List Byte)) : (s.hostReply r).t = s.t := by simp [State.hostReply]

@[simp] theorem State.hostRegWrite_t (o : Nat) (data : List Byte) : (s.hostRegWrite o data).t = s.t := by
  unfold State.hostRegWrite; split
  · simp
  · split <;> rfl

@[simp] theorem State.hostPush_t (off : Nat) (data : List Byte) : (s.hostPush off data).t = s.t := by
  simp only [State.hostPush, State.newId]; split <;> simp

@[simp] theorem State.hostAsk_t (pa n : Nat) (op : Piece → MsgOp) (after : List Nat) (load : Bool) : (s.hostAsk pa n op after load).2.t = s.t := by
  simp only [State.hostAsk, State.newId]
  rw [foldl_t]
  exact fun s q => rfl

@[simp] theorem State.hostSend_t (pa : Nat) (data : List Byte) : (s.hostSend pa data).t = s.t := by simp [State.hostSend]

@[simp] theorem State.hostMemWrite_t (o : Nat) (data : List Byte) : (s.hostMemWrite o data).t = s.t := by
  simp only [State.hostMemWrite]; repeat' split
  all_goals simp

@[simp] theorem State.hostWriteHere_t (bar o : Nat) (data : List Byte) : (s.hostWriteHere bar o data).t = s.t := by
  simp only [State.hostWriteHere]; repeat' split
  all_goals simp

@[simp] theorem State.hostNext_t : s.hostNext.t = s.t := by
  unfold State.hostNext; split
  · rfl
  · split
    · simp
    · rfl

@[simp] theorem State.hostSettle_t : s.hostSettle.t = s.t := by
  simp only [State.hostSettle]; split
  · rfl
  · exact foldl_t s (fun s _ => s.hostReply_t none) _

/-! ### Rooms, saves and flits -/

@[simp] theorem State.dateOpen_t : s.dateOpen.t = s.t := rfl

@[simp] theorem State.sendDeal_t (p : Packet) : (s.sendDeal p).t = s.t := by
  simp only [State.sendDeal, State.newId]; split <;> simp

@[simp] theorem State.reportRooms_t : s.reportRooms.t = s.t := by
  simp only [State.reportRooms]; split
  · rfl
  · exact foldl_t _ (fun s _ => s.sendDeal_t _) _

@[simp] theorem State.sendFlits_t : s.sendFlits.t = s.t := by
  refine foldl_t s (fun s m => ?_) _
  dsimp only
  repeat' split
  all_goals rfl

/-- A cycle's end moves the clock by one tick and opens the next cycle's scans. -/
theorem State.tick_t : s.tick.t = s.t.tick := by simp [State.tick]

end Sys2Proof.Machine
end

section
/-!
A step as the turn of a slot: its words are fetched as decoding reads them (03 R50, R73; 04 R79), and what has its turn where no slot
may issue (04 R82; log 1).
-/

namespace Sys2Proof

/-- A word that lets the chain go on is read at one of the first four positions and moves the position on by one (03 R51). -/
theorem readWord_more_pos {q q' : Prefixes} {w : Nat} (h : readWord q w = .more q') : q'.pos = q.pos + 1 ∧ q.pos ≠ 4 := by
  simp only [readWord] at h
  split at h
  · cases h
  · rename_i h4
    have h4' : 0x3C ≤ bitsOf 15 10 w → q.pos ≠ 4 := by simpa using h4
    repeat' split at h
    all_goals cases h
    all_goals exact ⟨rfl, h4' (by omega)⟩

namespace Machine

/-- What a fetch finds where decoding the words gives this; nothing where they end inside a chain. -/
def Fetched.ofDecoded : Decoded → Option Fetched
  | .ok i _ => some (.run i)
  | .illegal w pos => some (.illegal w pos)
  | .short => none

/-- A fetch that finds words finds what decoding them gives; a chain that has not ended leaves one of five words to be read. -/
theorem State.fetchFrom_eq {s : State} {core : Nat} {x : Slot} {f : Fetched} (ws : List Nat) (q : Prefixes) (n : Nat) (hn : q.pos + n = 4)
    (hws : ∀ j w, ws[j]? = some w → s.fetchWord core x (q.pos + j) = .ok w) (hf : Fetched.ofDecoded (decodeFrom q ws) = some f) :
    s.fetchFrom core x q (n + 1) = f := by
  induction ws generalizing q n with
  | nil => cases hf
  | cons w ws ih =>
    have hw : s.fetchWord core x q.pos = .ok w := hws 0 w rfl
    simp only [State.fetchFrom, hw]
    simp only [decodeFrom] at hf
    cases hr : readWord q w with
    | bad v pos => simpa [hr, Fetched.ofDecoded] using hf
    | done q' base =>
      cases hi : instrOf q' base <;> simpa [hr, hi, Fetched.ofDecoded] using hf
    | more q' =>
      obtain ⟨hpos, h4⟩ := readWord_more_pos hr
      obtain ⟨m, rfl⟩ : ∃ m, n = m + 1 := ⟨n - 1, by omega⟩
      refine ih q' m (by omega) (fun j v hj => ?_) (by simpa [hr] using hf)
      rw [hpos, Nat.add_assoc, Nat.add_comm 1 j]
      exact hws (j + 1) v hj

/-- The fetch of a slot at whose pc these words stand. -/
theorem State.fetch_of_wordsAt {s : State} {sid : Nat} {x : Slot} {ws : List Nat} {f : Fetched} (h : Claims.WordsAt s sid x ws)
    (hf : Fetched.ofDecoded (decode ws) = some f) : s.fetch (sid / 16) x = f := by
  refine State.fetchFrom_eq ws {} 4 rfl (fun j w hj => ?_) hf
  obtain ⟨hfetch, hseg, rfl⟩ := h j w hj
  rw [show ({} : Prefixes).pos + j = j from Nat.zero_add j]
  exact State.fetchWord_ok hfetch hseg

/-- A word that may not be fetched is the fault of the fetch. -/
theorem State.fetch_overlay {s : State} {core : Nat} {x : Slot} (h : s.fetchable core x (x.wordAt 0) = false) :
    s.fetch core x = .fault .overlay (BitVec.ofNat 64 (x.wordAt 0)) := by
  simp [State.fetch, State.fetchFrom, State.fetchWord, h]

theorem takeFirst_eq_none {k : Phase} {l : List Instr} (h : ∀ i ∈ l, phaseOf i ≠ k) : takeFirst k l = none := by
  induction l with
  | nil => rfl
  | cons i l ih =>
    rw [takeFirst, if_neg (h i List.mem_cons_self), ih fun j hj => h j (List.mem_cons_of_mem _ hj)]
    rfl

theorem takeFirst_append {k : Phase} {l : List Instr} (h : ∀ j ∈ l, phaseOf j ≠ k) {i : Instr} (hi : phaseOf i = k) (r : List Instr) :
    takeFirst k (l ++ i :: r) = some (i, l ++ r) := by
  induction l with
  | nil => rw [List.nil_append, takeFirst, if_pos hi]; rfl
  | cons j l ih =>
    rw [List.cons_append, takeFirst, if_neg (h j List.mem_cons_self), ih fun j hj => h j (List.mem_cons_of_mem _ hj)]
    rfl

/-- A slot that waits for no time and has no late fault runs the instruction at its pc on its turn. -/
theorem State.issueSlot_eq_runSlot {s : State} {sid : Nat} {x : Slot} (hl : x.late = none) (ht : ∀ u c, x.status ≠ .stalled (.time u c)) :
    s.issueSlot sid x = (s.turn sid).runSlot sid x := by
  simp only [State.issueSlot, hl]
  split
  · exact absurd ‹_› (ht _ _)
  all_goals rfl

/-- Where no started step waits, the slot that issues next runs its instruction. -/
theorem step_eq_runSlot {s : State} {sid : Nat} {x : Slot} (ha : ∀ i ∈ s.o.agenda, phaseOf i ≠ .now) (hn : s.nextIssue = some (sid, x))
    (hl : x.late = none) (ht : ∀ u c, x.status ≠ .stalled (.time u c)) : step s = (s.turn sid).runSlot sid x := by
  rw [← State.issueSlot_eq_runSlot hl ht]
  simp only [step, State.advance, takeFirst_eq_none ha, hn]

@[simp] theorem Clock.tick_cycle (t : Clock) : t.tick.cycle = t.cycle + 1 := by
  simp only [Clock.tick]; split <;> rfl

/-- Settles O55: the fetch is the decoding of the words, and the agenda, the slots, the events and the end of the cycle follow one another. -/
theorem stepRunsDecoded : Obligations.StepRunsDecoded := by
  unfold Obligations.StepRunsDecoded
  refine fun s => ⟨fun sid x ws ha hn hl ht => ?_, fun i l r hnot hnow hag => ?_, fun ha hn => ⟨fun r hr => ?_, fun hd => ?_⟩⟩
  · have hstep := step_eq_runSlot ha hn hl ht
    refine ⟨fun i n hw hdec _ _ => ?_, fun w n hw hdec _ => ?_, ?_⟩
    · have hfetch : (s.turn sid).fetch (sid / 16) x = .run i := State.fetch_of_wordsAt (s := s.turn sid) hw (by rw [hdec]; rfl)
      simp only [hstep, State.runSlot, hfetch]
    · have hfetch : (s.turn sid).fetch (sid / 16) x = .illegal w n := State.fetch_of_wordsAt (s := s.turn sid) hw (by rw [hdec]; rfl)
      simp only [hstep, State.runSlot, hfetch]
      rfl
    · rintro a rfl hno
      have hfetch := State.fetch_overlay (s := s.turn sid) hno
      simp only [hstep, State.runSlot, hfetch]
  · simp only [step, State.advance, hag, takeFirst_append hnot hnow]
  · simp only [step, State.advance, takeFirst_eq_none ha, hn, hr]
  · refine ⟨s.tick, by simp only [step, State.advance, takeFirst_eq_none ha, hn, hd], ?_, rfl, rfl⟩
    rw [State.tick_t, Clock.tick_cycle]

end Machine

end Sys2Proof
end

section
/-!
The slot after a result of its instruction, and a register view that reaches beyond its o-register (03 R64 to R67).
-/

namespace Sys2Proof.Machine

/-- The slot whose instruction has taken effect, whatever the effect leaves in the SFU's queue and the counts of errors. -/
theorem State.slot_took (s : State) (x : Slot) (c : Chain) (e : Effect) :
    (s.took x c e).slot s.o.cur = some (x.complete s.t.cycle c e) := by
  have henq : ((s.setSlot s.o.cur (x.complete s.t.cycle c e)).enqueueSfu s.o.cur x.pc e).slot s.o.cur = some (x.complete s.t.cycle c e) := by
    unfold State.enqueueSfu
    split <;> simp [State.slot, State.setSlot, State.modCore, State.setCore]
  simp only [State.took, State.settleSlot, State.consumed]
  split <;> exact henq

/-- A new slot after the scalar result 1 in o2. -/
def oneInO2 : Slot := Slot.complete {} 0 Chain.zero { writes := scalarResult {} 2 1 }

/-- The tile of operand value 1 is read from o1's first byte over 4 KiB and so takes in o2, which `overlaps` does not count as shared. -/
theorem oneInO2_tile_changes : overlaps (Slot.reg {} .tile 1).loc View.tile.size (Slot.reg {} .scalar 2).loc 8 = false ∧
    oneInO2.readReg (Slot.reg {} .tile 1) ≠ Slot.readReg {} (Slot.reg {} .tile 1) := by
  decide +kernel

/-- Refutes O12: its frame ranges over the tile and accumulator views of o-registers too, operands that 03 R66 makes ILLEGAL.  A scalar
result 1 in o2 of a new slot changes the model's reading of the tile of operand value 1, which reaches from o1 over o2 to o7. -/
theorem not_resultsWritten : ¬ Obligations.ResultsWritten := by
  unfold Obligations.ResultsWritten
  rintro ⟨hscalar, -⟩
  obtain ⟨y, hy, -, -, -, -, -, hframe, -⟩ := hscalar State.reset {} Chain.zero 2 1 0 (by decide) (fun off h => by cases h)
  have hslot : y = oneInO2 := Option.some.inj (hy.symm.trans (State.slot_took ..))
  obtain ⟨hapart, hchanged⟩ := oneInO2_tile_changes
  exact hchanged (hslot ▸ hframe .tile 1 (by decide) hapart)

end Sys2Proof.Machine
end

section
/-!
Traps that an instruction asks for itself (05 R117; 18 R356, R358).
-/

namespace Sys2Proof.Machine

/-- On the turn of a slot an instruction whose body asks for a trap takes it. -/
theorem Turn.issue_trap {s : State} {o : OpInfo} {c : Chain} {x : Slot} (h : Turn s o c x) {body : Body} {cause : Cause} {v : Word}
    (hb : body s.o.cur c x s = (s, .error (.trap cause v))) : s.issue o c body = s.takeTrap s.o.cur x cause v false := by
  rw [h.issue, hb]; rfl

/-- The causes have codes of one byte (18 R354). -/
theorem Cause.code_lt (cause : Cause) : cause.code < 2 ^ 8 := by
  cases cause <;> decide

/-- A trap with a handler goes there with the address, the value and the cause saved, and writes no register (18 R356). -/
theorem State.takeTrap_of_handler {s : State} {sid off : Nat} {x : Slot} {cause : Cause} {k : Kernel} (tval : Word)
    (hact : x.trapc.getLsbD 13 = false) (htab : (s.ctx x.ctx).traptab[cause.code]? = some (true, off))
    (hk : s.sealedFor (s.ctx x.ctx).hkid x.ctx = some k) :
    ∃ w : Word, w.toNat % 2 ^ 8 = cause.code ∧ s.takeTrap sid x cause tval false = s.setSlot sid { x with
      epc := x.pc, tval := tval, trapc := w, sup := true, handler := true, pc := BitVec.ofNat 64 (k.kbase + off), status := .ready, xlat := [] } := by
  have hbit : x.trapc.toNat.testBit 13 = false := hact
  refine ⟨BitVec.ofNat 64 ((cause.code + if x.sup then 2 ^ 14 else 0) ||| 2 ^ 13), ?_, ?_⟩
  · have hcode := cause.code_lt
    have hmod : (cause.code + if x.sup then 2 ^ 14 else 0) % 2 ^ 8 = cause.code := by split <;> omega
    rw [BitVec.toNat_ofNat, Nat.mod_mod_of_dvd _ (by decide), Nat.or_mod_two_pow, hmod]
    exact Nat.or_zero _
  · simp [State.takeTrap, htab, hk, hbit]

/-- Settles O5: the bodies of TRAP and BREAK ask for the trap, and the handler of BREAK finds the registers as they were. -/
theorem trapAndBreakTrap : Obligations.TrapAndBreakTrap := by
  unfold Obligations.TrapAndBreakTrap
  rintro s x c v rfl
  have hbrk (h : Turn s opBrk c x) : exec (.brk c) s = .next (s.takeTrap s.o.cur x .brk (softTval c) false) :=
    congrArg Host.Outcome.next (h.issue_trap rfl)
  refine ⟨fun h => congrArg Host.Outcome.next (h.issue_trap rfl), hbrk, fun k off h hact htab hk => ?_⟩
  obtain ⟨w, hw, htrap⟩ := State.takeTrap_of_handler (sid := s.o.cur) (cause := .brk) (softTval c) hact htab hk
  exact ⟨_, (hbrk h).trans (congrArg Host.Outcome.next htrap), rfl, rfl, hw, rfl, rfl, rfl, rfl, rfl⟩

end Sys2Proof.Machine
end

section
/-!
Control transfers outside a passage kernel's segment borders (05 R111, R112).
-/

namespace Sys2Proof.Machine

variable {s : State} {o : OpInfo} {c : Chain} {x : Slot} {p : Option Partner}

/-- On the turn of a slot a transfer that stays in its segment takes its effect. -/
theorem Turn.transfer (h : Turn s o c x) {b : RegBody} {e : Effect} (hb : b none c x = .ok e)
    (hstay : ∀ t, e.jump = some t → s.leaves x t = none) : s.issue o c (Machine.transfer b) = s.took x c e := by
  rw [h.issue]
  simp only [Machine.transfer, hb]
  cases hj : e.jump with
  | none => rfl
  | some t => simp only [hstay t hj]; rfl

/-- On the turn of a slot a transfer whose body asks for a trap takes it. -/
theorem Turn.transfer_trap (h : Turn s o c x) {b : RegBody} {cause : Cause} {v : Word} (hb : b none c x = .error (.trap cause v)) :
    s.issue o c (Machine.transfer b) = s.takeTrap s.o.cur x cause v false :=
  h.issue_trap (by simp only [Machine.transfer, hb])

/-- The condition of BR on the bits of its operand. -/
theorem brTaken_s64 (m : Nat) (w : Word) : brTaken m (s64 w.toNat) = Claims.taken m w := by
  have h0 : (w.toInt == 0) = (w == 0) := by rw [Bool.eq_iff_iff, beq_iff_eq, beq_iff_eq, ← BitVec.toInt_inj]; rfl
  have hlt : decide (w.toInt < 0) = w.slt 0 := rfl
  rw [s64_toNat]
  unfold brTaken Claims.taken
  split
  · exact congrArg not h0
  · exact h0
  · exact hlt
  · rename_i h₀ h₁ h₂
    rw [if_neg h₀, if_neg h₁, if_neg h₂, ← hlt]
    simp only [← decide_not, Int.not_lt, ge_iff_le]

/-- BR with a usable condition. -/
theorem Usable.brBody (h : Usable x [x.reg .scalar c.a.toNat] [x.reg .scalar c.a.toNat] []) :
    Machine.brBody p c x = .ok {
      ue := x.operandUe c.a.toNat
      jump := if Claims.taken (c.mod.toNat % 4) (x.operand c.a.toNat) then some (Claims.target x c) else none } := by
  simp only [Machine.brBody, h.check, ← brTaken_s64, Slot.operand_toNat]
  rfl

/-- CALL with a usable link. -/
theorem Usable.callBody (h : Usable x [x.reg .scalar c.a.toNat] [] [x.reg .scalar c.a.toNat]) :
    Machine.callBody p c x = .ok {
      writes := scalarResult x c.a.toNat (Claims.after x c).toNat, jump := some (Claims.target x c) } := by
  simp only [Machine.callBody, h.check]
  rfl

/-- RET with a usable register: ALIGN at an odd address, else the transfer. -/
theorem Usable.retBody (h : Usable x [x.reg .scalar c.a.toNat] [x.reg .scalar c.a.toNat] []) :
    Machine.retBody p c x = if (x.operand c.a.toNat).toNat % 2 = 1 then .error (.trap .align (x.operand c.a.toNat))
      else .ok { ue := x.operandUe c.a.toNat, jump := some (x.operand c.a.toNat) } := by
  simp only [Machine.retBody, h.check, Slot.operand_toNat]
  rfl

/-- JMPI with usable registers: ALIGN at an odd address, else the link and the transfer. -/
theorem Usable.jmpiBody (h : Usable x [x.reg .scalar c.a.toNat, x.reg .scalar c.b.toNat] [x.reg .scalar c.b.toNat] [x.reg .scalar c.a.toNat]) :
    Machine.jmpiBody p c x = if (x.operand c.b.toNat).toNat % 2 = 1 then .error (.trap .align (x.operand c.b.toNat))
      else .ok { writes := scalarResult x c.a.toNat (Claims.after x c).toNat, ue := x.operandUe c.b.toNat, jump := some (x.operand c.b.toNat) } := by
  simp only [Machine.jmpiBody, h.check, Slot.operand_toNat]
  rfl

/-- Settles O2: each body has an effect whose target, if there is one, stays in the segment, or asks for ALIGN. -/
theorem controlTransfers : Obligations.ControlTransfers := by
  unfold Obligations.ControlTransfers
  refine ⟨fun s x c => ⟨fun h hu hl => ?br, fun h hl => ?jmp, fun h hu hl => ?call, fun h hu he hl => ?ret, fun h hu he hl => ?jmpi⟩,
    fun s x c => ⟨fun h hu ho => ?retOdd, fun h hu ho => ?jmpiOdd⟩⟩
  all_goals refine congrArg Host.Outcome.next ?_
  case br =>
    refine h.transfer hu.brBody fun t ht => ?_
    obtain ⟨-, ht⟩ := Option.ite_none_right_eq_some.mp ht
    exact Option.some.inj ht ▸ hl
  case jmp => exact h.transfer (b := jmpBody) rfl fun t ht => Option.some.inj ht ▸ hl
  case call => exact h.transfer hu.callBody fun t ht => Option.some.inj ht ▸ hl
  case ret => exact h.transfer (hu.retBody.trans (if_neg (by omega))) fun t ht => Option.some.inj ht ▸ hl
  case jmpi => exact h.transfer (hu.jmpiBody.trans (if_neg (by omega))) fun t ht => Option.some.inj ht ▸ hl
  case retOdd => exact h.transfer_trap (hu.retBody.trans (if_pos ho))
  case jmpiOdd => exact h.transfer_trap (hu.jmpiBody.trans (if_pos ho))

end Sys2Proof.Machine
end

section
/-!
YIELD and WAITT at issue, and what ends a slot's waiting (03 R60, R61; 04 R83; 05 R115, R116; 10 R214).
-/

namespace Sys2Proof.Machine

/-- YIELD leaves the slot behind it, idle to its last cycle (05 R115). -/
theorem exec_yield {s : State} {c : Chain} {x : Slot} (h : Turn s opYield c x) :
    exec (.yield c) s = .next (s.setSlot s.o.cur { x with
      pc := Claims.after x c, xlat := []
      status := .stalled (.yield (s.t.cycle + 1024) (if c.stall = 0 then 0 else s.t.cycle + 16 * (1 + c.stall.toNat))) }) := by
  have hzero : c.stall.toNat = 0 ↔ c.stall = 0 := by rw [← BitVec.toNat_inj]; rfl
  have hissue : s.issue opYield c yieldBody = _ := h.issue yieldBody
  simp only [yieldBody, hzero] at hissue
  exact congrArg Host.Outcome.next hissue

/-- WAITT with usable registers completes with the time base, or waits at itself (05 R116). -/
theorem Usable.waittBody {s : State} {c : Chain} {x : Slot} {sid : Nat}
    (h : Usable x [x.reg .scalar c.a.toNat, x.reg .scalar c.b.toNat] [x.reg .scalar c.b.toNat] [x.reg .scalar c.a.toNat]) :
    Machine.waittBody sid c x s = if (x.operand c.b.toNat).toNat ≤ s.now then (s, .ok (.go (waittEffect x c s.now (x.operandUe c.b.toNat))))
      else (s, .ok (.setStatus { x.captureAll (x.operandUe c.b.toNat) with status := .stalled (.time (x.operand c.b.toNat).toNat c) })) := by
  simp only [Machine.waittBody, h.check, Slot.operand_toNat]
  rfl

/-- A result whose masks cancel what older results write there leaves none where there are none. -/
theorem Pending.overrides_nil (p : Pending) : p.overrides [] = [] := by
  unfold Pending.overrides
  induction p.writes with
  | nil => rfl
  | cons w ws ih =>
    rw [List.foldl_cons]
    split <;> exact ih

/-- The only result of a slot, once it is due, is written and no longer waits. -/
theorem Slot.writeResults_single {x : Slot} {p : Pending} {due : Pending → Bool} (h : due p = true) :
    x.writeResults due [] [p] = { x.writeDue p with results := [] } := by
  simp only [Slot.writeResults, h, if_true, Pending.overrides_nil]

section
variable {s : State} {sid : Nat} {x : Slot} (hs : s.slot sid = some x)
include hs

/-- A stall count ends where no request of the core waits for the SFU. -/
theorem execStallEnd_ready {u : Nat} (hst : x.status = .stalled (.count u)) (hu : u ≤ s.t.cycle + 1) (hsfu : (s.core (sid / 16)).sfu = []) :
    execStallEnd sid s = .next (s.setSlot sid { x with status := .ready }) := by
  simp [execStallEnd, hs, hst, hu, hsfu]

/-- A YIELD without a stall count ends with its last cycle. -/
theorem execYieldTimeout_ready {d : Nat} (hst : x.status = .stalled (.yield d 0)) (hd : d ≤ s.t.cycle + 1) :
    execYieldTimeout sid s = .next (s.setSlot sid { x with status := .ready }) := by
  simp only [execYieldTimeout, hs, hst, hd, if_true, Slot.unyield]

/-- A WAITT whose time has come completes at an issue cycle of its slot. -/
theorem execWaittComplete_took {t : Nat} {c : Chain} (hst : x.status = .stalled (.time t c)) (ht : t ≤ s.now)
    (hcyc : s.t.cycle % 16 = sid % 16) (hcur : s.o.cur = sid) :
    execWaittComplete sid s = .next (s.took (x.snapshot s.t.cycle) c (waittEffect x c s.now [])) := by
  simp only [execWaittComplete, hs, hst]
  rw [if_pos ⟨ht, hcyc⟩, State.took, hcur]

/-- A READY slot stands at a boundary, where its late fault is taken. -/
theorem execLateFault_trap {f : LateFault} (hst : x.status = .ready) (hl : x.late = some f) :
    execLateFault sid s = .next (s.takeTrap sid x f.cause f.tval true) := by
  simp only [execLateFault, hs, hst, hl, if_true]

/-- The only result of a slot, of fixed latency and due, is written. -/
theorem execResultWrite_single {p : Pending} (hr : x.results = [p]) (hsfu : p.sfu = false) (hdue : p.due ≤ s.t.cycle) :
    execResultWrite sid s = .next (s.setSlot sid { x.writeDue p with results := [] }) := by
  simp only [execResultWrite, hs, hr]
  rw [Slot.writeResults_single (by simp [hsfu, hdue])]

end

/-- Settles O8: YIELD and WAITT by their bodies, the ends of waiting one by one. -/
theorem waiting : Obligations.Waiting := by
  unfold Obligations.Waiting
  refine ⟨fun s x c => ⟨exec_yield, fun h hu => ⟨fun hle => ?_, fun hlt => ?_⟩⟩, fun s sid x hs =>
    ⟨fun _ => execStallEnd_ready hs, fun _ => execYieldTimeout_ready hs, fun _ _ => execWaittComplete_took hs,
      fun _ => execLateFault_trap hs, fun _ => execResultWrite_single hs⟩⟩
  all_goals
    have hissue : s.issue opWaitt c waittBody = _ := h.issue waittBody
    rw [hu.waittBody] at hissue
  · rw [if_pos hle] at hissue
    exact congrArg Host.Outcome.next hissue
  · rw [if_neg (by omega)] at hissue
    exact congrArg Host.Outcome.next hissue

end Sys2Proof.Machine
end

section
/-!
The values of the scalar instructions in the vocabulary of the statements (05 R106 to R110).
-/

namespace Sys2Proof.Machine

/-- A result of the model as a word with its flags. -/
def asWord (r : Nat × BitVec 6) : Word × BitVec 6 := (BitVec.ofNat 64 r.1, r.2)

theorem ofNat_toNat_word (w : Word) : BitVec.ofNat 64 w.toNat = w := by simp

/-- A result that is a word's number, as that word. -/
@[simp] theorem asWord_toNat (w : Word) (f : BitVec 6) : asWord (w.toNat, f) = (w, f) := by simp [asWord]

theorem ofNat_wrapNat (z : Int) : BitVec.ofNat 64 (wrapNat z 64) = BitVec.ofInt 64 z := by
  rw [wrapNat_ofInt, ofNat_toNat_word]

theorem toNat_eq_zero_iff (w : Word) : w.toNat = 0 ↔ w = 0 := by rw [← BitVec.toNat_inj]; rfl

/-! ### Saturation (05 R107) -/

/-- A clamp to a range, by where the exact result lies. -/
theorem clamped_eq {lo hi : Int} (h : lo ≤ hi) (z : Int) : Claims.clamped lo hi z =
    if z < lo then (BitVec.ofInt 64 lo, fSAT) else if z > hi then (BitVec.ofInt 64 hi, fSAT) else (BitVec.ofInt 64 z, 0) := by
  unfold Claims.clamped
  rcases Int.lt_or_le z lo with hlo | hlo
  · have hclamp : max lo (min hi z) = lo := by omega
    rw [if_pos hlo, if_neg (by omega), hclamp]
  rcases Int.lt_or_le hi z with hhi | hhi
  · have hclamp : max lo (min hi z) = hi := by omega
    rw [if_neg (by omega), if_pos hhi, if_neg (by omega), hclamp]
  · have hclamp : max lo (min hi z) = z := by omega
    rw [if_pos ⟨hlo, hhi⟩, if_neg (by omega), if_neg (by omega), hclamp]

/-- sat(z, i64) is the clamp to the signed range. -/
theorem asWord_satInt (z : Int) : asWord (satInt .i64 z) = Claims.clamped (-(2 ^ 63)) (2 ^ 63 - 1) z := by
  have hsat : satInt .i64 z = if z < -(2 ^ 63) then (wrapNat (-(2 ^ 63)) 64, fSAT)
    else if z > 2 ^ 63 - 1 then (wrapNat (2 ^ 63 - 1) 64, fSAT) else (wrapNat z 64, 0) := rfl
  rw [hsat, clamped_eq (by decide), apply_ite asWord, apply_ite asWord]
  simp only [asWord, ofNat_wrapNat]

/-- The model's clamp to 0 to 2^64 - 1. -/
theorem asWord_clampUnsigned (z : Int) :
    asWord (if z < 0 then (0, fSAT) else if z > (2 ^ 64 : Nat) - 1 then (2 ^ 64 - 1, fSAT) else (z.toNat, 0)) =
      Claims.clamped 0 (2 ^ 64 - 1) z := by
  have hhi : ((2 ^ 64 : Nat) : Int) - 1 = 2 ^ 64 - 1 := rfl
  rw [clamped_eq (by decide), hhi]
  split
  · rfl
  split
  · rfl
  · rw [asWord, ← ofNat_wrapNat, wrapNat, Int.emod_eq_of_lt (by omega) (by omega)]

/-- The SAT forms, by MOD[1:0]. -/
theorem asWord_saturate (m : Nat) (zs zu : Int) : asWord (saturate m zs zu) = Claims.saturated m zs zu := by
  unfold saturate Claims.saturated
  split
  · exact asWord_satInt zs
  · exact asWord_clampUnsigned zu
  · rename_i h1 h2
    rw [if_neg h1, if_neg h2, asWord, ofNat_wrapNat]

/-! ### Products and quotients (05 R106; 02 R26) -/

theorem asWord_wrapNat (z : Int) : asWord (wrapNat z 64, 0) = Claims.plain (BitVec.ofInt 64 z) := by
  rw [asWord, ofNat_wrapNat]; rfl

theorem asWord_divS (x y : Word) : asWord (divS x.toNat y.toNat) =
    if y = 0 then (if x.toInt < 0 then -1 else BitVec.ofNat 64 (2 ^ 63 - 1), fDZ) else Claims.plain (BitVec.ofInt 64 (x.toInt.tdiv y.toInt)) := by
  simp only [divS, toNat_eq_zero_iff, s64_toNat]
  split
  · split <;> rfl
  · exact asWord_wrapNat _

theorem asWord_divU (x y : Word) : asWord (divU x.toNat y.toNat) = if y = 0 then (-1, fDZ) else Claims.plain (x / y) := by
  simp only [divU, toNat_eq_zero_iff]
  split
  · rfl
  · exact asWord_toNat (x / y) 0

theorem asWord_remS (x y : Word) : asWord (remS x.toNat y.toNat) =
    if y = 0 then (x, fDZ) else Claims.plain (BitVec.ofInt 64 (x.toInt - x.toInt.tdiv y.toInt * y.toInt)) := by
  simp only [remS, toNat_eq_zero_iff, s64_toNat]
  split
  · exact asWord_toNat x fDZ
  · rw [asWord_wrapNat, Int.tmod_def, Int.mul_comm]

/-- The remainder of words is what the quotient leaves. -/
theorem sub_div_mul_eq_mod (x y : Word) : x - x / y * y = x % y := by
  refine (BitVec.sub_eq_iff_eq_add).mpr (BitVec.eq_of_toNat_eq ?_)
  rw [BitVec.toNat_add, BitVec.toNat_mul, BitVec.toNat_umod, BitVec.toNat_udiv, Nat.add_mod_mod, Nat.mod_add_div', Nat.mod_eq_of_lt x.isLt]

theorem asWord_remU (x y : Word) : asWord (remU x.toNat y.toNat) = if y = 0 then (x, fDZ) else Claims.plain (x - x / y * y) := by
  simp only [remU, toNat_eq_zero_iff, sub_div_mul_eq_mod]
  split
  · exact asWord_toNat x fDZ
  · exact asWord_toNat (x % y) 0

/-! ### Bits and shifts (05 R106) -/

/-- x AND NOT y, as the model writes it on numbers. -/
theorem and_xor_toNat (x y : Word) : x.toNat &&& (x.toNat ^^^ y.toNat) = (x &&& ~~~y).toNat := by
  rw [← BitVec.toNat_xor, ← BitVec.toNat_and]
  congr 1
  ext i hi
  simp only [BitVec.getElem_and, BitVec.getElem_xor, BitVec.getElem_not]
  cases x[i] <;> cases y[i] <;> rfl

theorem asWord_sar (x y : Word) :
    asWord (wrapNat (s64 x.toNat / (2 ^ (y.toNat % 64) : Nat)) 64, 0) = Claims.plain (x.sshiftRight (y.toNat % 64)) := by
  rw [asWord_wrapNat, s64_toNat, ← Int.shiftRight_eq_div_pow, BitVec.sshiftRight_eq]

/-- The parts of a rotation share no bit, so that their sum is their union. -/
theorem asWord_rol (x y : Word) : asWord ((x.toNat <<< (y.toNat % 64)) + x.toNat >>> (64 - y.toNat % 64), 0) =
    Claims.plain (x.rotateLeft (y.toNat % 64)) := by
  have hk : y.toNat % 64 < 64 := Nat.mod_lt _ (by decide)
  generalize y.toNat % 64 = k at hk
  have hlow : x.toNat >>> (64 - k) < 2 ^ k := by
    rw [Nat.shiftRight_eq_div_pow]
    refine Nat.div_lt_of_lt_mul ?_
    rw [← Nat.pow_add, Nat.sub_add_cancel (Nat.le_of_lt hk)]
    exact x.isLt
  rw [BitVec.rotateLeft_def, Nat.mod_eq_of_lt hk, Nat.shiftLeft_add_eq_or_of_lt hlow, asWord, BitVec.ofNat_or, ← BitVec.toNat_ushiftRight,
    ofNat_toNat_word]
  rfl

/-! ### Orders and comparisons (05 R106) -/

theorem asWord_ofBool (b : Bool) : asWord (ofBool b, 0) = Claims.plain (Claims.truth b) := by
  cases b <;> rfl

theorem asWord_ite {p : Prop} [Decidable p] (x y : Word) :
    asWord (if p then x.toNat else y.toNat, 0) = Claims.plain (if p then x else y) := by
  rw [← apply_ite BitVec.toNat, asWord_toNat]; rfl

theorem toNat_beq (x y : Word) : (x.toNat == y.toNat) = (x == y) := by
  rw [Bool.eq_iff_iff, beq_iff_eq, beq_iff_eq, BitVec.toNat_inj]

/-! ### Carry-less products (05 R106) -/

/-- The first `n` bits of y contribute alike on numbers and on 128-bit values. -/
theorem clmulN_toNat (x y : Word) {n : Nat} (h : n ≤ 64) : clmulN n x.toNat y.toNat =
    ((List.range n).foldl (fun p i => if y.getLsbD i then p ^^^ (x.zeroExtend 128 <<< i) else p) (0 : BitVec 128)).toNat := by
  induction n with
  | zero => rfl
  | succ n ih =>
    have hbit : y.toNat.testBit n = y.getLsbD n := rfl
    have hshift : (x.zeroExtend 128 <<< n).toNat = x.toNat <<< n := by
      have hx : x.toNat < 2 ^ 64 := x.isLt
      have hlt : x.toNat <<< n < 2 ^ 128 := by
        rw [Nat.shiftLeft_eq]
        calc x.toNat * 2 ^ n < 2 ^ 64 * 2 ^ n := Nat.mul_lt_mul_of_pos_right hx (Nat.two_pow_pos n)
          _ ≤ 2 ^ 64 * 2 ^ 64 := Nat.mul_le_mul_left _ (Nat.pow_le_pow_right (by decide) (by omega))
          _ = 2 ^ 128 := by decide
      rw [BitVec.toNat_shiftLeft, BitVec.toNat_setWidth, Nat.mod_eq_of_lt (b := 2 ^ 128) (by omega : x.toNat < 2 ^ 128), Nat.mod_eq_of_lt hlt]
    rw [clmulN, ih (by omega), hbit, List.range_succ, List.foldl_append, List.foldl_cons, List.foldl_nil]
    split
    · rw [BitVec.toNat_xor, hshift]
    · exact Nat.xor_zero _

theorem asWord_clmul (x y : Word) : asWord (clmulN 64 x.toNat y.toNat, 0) = Claims.plain ((Claims.carryless x y).truncate 64) := by
  rw [clmulN_toNat x y (Nat.le_refl _), asWord, BitVec.ofNat_toNat]; rfl

theorem asWord_clmulh (x y : Word) :
    asWord (clmulN 64 x.toNat y.toNat / 2 ^ 64, 0) = Claims.plain ((Claims.carryless x y >>> 64).truncate 64) := by
  rw [clmulN_toNat x y (Nat.le_refl _), ← Nat.shiftRight_eq_div_pow, ← BitVec.toNat_ushiftRight, asWord, BitVec.ofNat_toNat]; rfl

/-! ### Counts and byte reversal (05 R106, R110) -/

theorem ofNat_clz (x : Word) :
    BitVec.ofNat 64 (64 - sigBits x.toNat) = BitVec.ofNat 64 (if x = 0 then 64 else 63 - x.toNat.log2) := by
  simp only [sigBits, toNat_eq_zero_iff]
  split
  · rfl
  · rw [Nat.sub_add_eq, Nat.sub_right_comm]

/-- The lowest one bit among the bits from `k` on. -/
theorem ctzFrom_eq (n k x : Nat) : ctzFrom n k x = ((List.range' k n).find? (fun i => x.testBit i)).getD (k + n) := by
  induction n generalizing k with
  | zero => rfl
  | succ n ih =>
    rw [ctzFrom, List.range'_succ, List.find?_cons, ih, Nat.add_assoc, Nat.add_comm 1 n]
    cases x.testBit k <;> rfl

theorem ctzFrom_toNat (x : Word) : ctzFrom 64 0 x.toNat = ((List.range 64).find? (fun i => x.getLsbD i)).getD 64 := by
  rw [ctzFrom_eq, List.range_eq_range']; rfl

theorem popN_eq (n x : Nat) : popN n x = ((List.range n).filter (fun i => x.testBit i)).length := by
  induction n with
  | zero => rfl
  | succ n ih =>
    rw [popN, ih, List.range_succ, List.filter_append, List.length_append, List.filter_cons, List.filter_nil]
    cases x.testBit n <;> rfl

/-- Byte j of the reversal of `n` bytes is byte n - 1 - j; of the reversal of the upper `k` of them, too. -/
theorem bswapN_upper {n k : Nat} (h : k ≤ n) (x : Nat) :
    bswapN k (x / 256 ^ (n - k)) = (List.range k).foldl (fun z j => z + x / 256 ^ (n - 1 - j) % 256 * 256 ^ j) 0 := by
  induction k with
  | zero => rfl
  | succ k ih =>
    have hpos : n - k = n - (k + 1) + 1 := by omega
    have hnext : x / 256 ^ (n - (k + 1)) / 256 = x / 256 ^ (n - k) := by rw [Nat.div_div_eq_div_mul, ← Nat.pow_succ, Nat.succ_eq_add_one, ← hpos]
    have hbyte : n - (k + 1) = n - 1 - k := by omega
    rw [bswapN, hnext, ih (by omega), List.range_succ, List.foldl_append, List.foldl_cons, List.foldl_nil, hbyte, Nat.add_comm]

theorem ofNat_bswapN {m : Nat} (h : m < 3) (x : Word) :
    BitVec.ofNat 64 (bswapN (8 / 2 ^ m) x.toNat) = Claims.reversedBytes (if m = 0 then 8 else if m = 1 then 4 else 2) x := by
  have hwidth : 8 / 2 ^ m = if m = 0 then 8 else if m = 1 then 4 else 2 := by
    obtain rfl | rfl | rfl : m = 0 ∨ m = 1 ∨ m = 2 := by omega
    all_goals rfl
  rw [hwidth, Claims.reversedBytes, ← bswapN_upper (Nat.le_refl _), Nat.sub_self, Nat.pow_zero, Nat.div_one]

/-! ### Bit fields (05 R109) -/

/-- Sign extension of a field of at least one bit. -/
theorem sextNat_succ {z w : Nat} (h : z < 2 ^ (w + 1)) : sextNat z (w + 1) = if 2 ^ w ≤ z then (z : Int) - 2 ^ (w + 1) else z := by
  rw [sextNat, Nat.mod_eq_of_lt h]
  have hpow : 2 ^ (w + 1) = 2 * 2 ^ w := Nat.pow_succ'
  split
  · rw [if_neg (by omega)]
  · rw [if_pos (by omega)]; push_cast; rfl

/-- The value of EXT on the number of its operand, as the model computes it. -/
def extField (x n : Nat) : Nat :=
  let z := (x >>> bitsOf 5 0 n) % 2 ^ (bitsOf 11 6 n + 1)
  if n / 4096 = 1 then wrapNat (sextNat z (bitsOf 11 6 n + 1)) 64 else z

theorem ofNat_extField (x : Word) (n : Nat) : BitVec.ofNat 64 (extField x.toNat n) = Claims.extracted x n := by
  have hpos : bitsOf 5 0 n = n % 64 := rfl
  have hwidth : bitsOf 11 6 n = n / 64 % 64 := congrArg (· % 64) (Nat.shiftRight_eq_div_pow n 6)
  have hlt : x.toNat / 2 ^ (n % 64) % 2 ^ (n / 64 % 64 + 1) < 2 ^ (n / 64 % 64 + 1) := Nat.mod_lt _ (Nat.two_pow_pos _)
  simp only [extField, Claims.extracted, hpos, hwidth, Nat.shiftRight_eq_div_pow, sextNat_succ hlt, Nat.add_sub_cancel]
  by_cases hs : n / 4096 = 1
  · rw [if_pos hs, ofNat_wrapNat]
    by_cases hneg : 2 ^ (n / 64 % 64) ≤ x.toNat / 2 ^ (n % 64) % 2 ^ (n / 64 % 64 + 1)
    · rw [if_pos hneg, if_pos ⟨hs, hneg⟩]
    · rw [if_neg hneg, if_neg (fun h => hneg h.2)]; rfl
  · rw [if_neg hs, if_neg (fun h => hs h.1)]

end Sys2Proof.Machine
end

section
/-!
The scalar instructions complete with the values of 05 R106 to R110 and R114.
-/

namespace Sys2Proof.Machine

/-- A scalar result is the same for a number and for the word that it stands for. -/
theorem scalarResult_ofNat (x : Slot) (d n : Nat) : scalarResult x d (BitVec.ofNat 64 n).toNat = scalarResult x d n :=
  scalarResult_congr x d (by rw [BitVec.toNat_ofNat, Nat.mod_mod])

/-- What is to be known of a three-form instruction: its meaning is the issue of a function of two operands with the value and the flags
that the statement names. -/
def ScalarThreeRow (e : (Chain → Instr) × OpInfo × Nat × (Nat → Word → Word → Word × BitVec 6)) : Prop :=
  ∃ f : Chain → Nat → Nat → Nat × BitVec 6,
    (∀ c s, exec (e.1 c) s = .next (s.issue e.2.1 c (regs (fun p c x => scalar3 e.2.2.1 (f c) p c x)))) ∧
    ∀ c (v w : Word), asWord (f c v.toNat w.toNat) = e.2.2.2 (c.mod.toNat % 4) v w

/-- The same of a two-form instruction, for legal words. -/
def ScalarTwoRow (e : (Chain → Instr) × OpInfo × (Nat → Word → Word)) : Prop :=
  ∃ f : Chain → Nat → Nat,
    (∀ c s, exec (e.1 c) s = .next (s.issue e.2.1 c (regs (fun p c x => scalar2 (f c) p c x)))) ∧
    ∀ c (v : Word), c.legal e.2.1 = true → BitVec.ofNat 64 (f c v.toNat) = e.2.2 (c.mod.toNat % 4) v

theorem scalarThree_rows : ∀ e ∈ Claims.scalarThree, ScalarThreeRow e := by
  simp only [Claims.scalarThree, List.forall_mem_cons]
  exact ⟨
    -- ADD, SUB, MUL, MULH, MULHN
    ⟨_, fun _ _ => rfl, fun _ v w => by rw [asWord_saturate, s64_toNat, s64_toNat]; rfl⟩,
    ⟨_, fun _ _ => rfl, fun _ v w => by rw [asWord_saturate, s64_toNat, s64_toNat]; rfl⟩,
    ⟨_, fun _ _ => rfl, fun _ v w => by rw [asWord_saturate, s64_toNat, s64_toNat]; rfl⟩,
    ⟨_, fun _ _ => rfl, fun _ v w => by rw [asWord_wrapNat, s64_toNat, s64_toNat]; rfl⟩,
    ⟨_, fun _ _ => rfl, fun _ _ _ => rfl⟩,
    -- DIV, DIVN, REM, REMN
    ⟨_, fun _ _ => rfl, fun _ => asWord_divS⟩,
    ⟨_, fun _ _ => rfl, fun _ => asWord_divU⟩,
    ⟨_, fun _ _ => rfl, fun _ => asWord_remS⟩,
    ⟨_, fun _ _ => rfl, fun _ => asWord_remU⟩,
    -- AND, OR, XOR, ANDN
    ⟨_, fun _ _ => rfl, fun _ v w => asWord_toNat (v &&& w) 0⟩,
    ⟨_, fun _ _ => rfl, fun _ v w => by rw [← BitVec.toNat_or, asWord_toNat]; rfl⟩,
    ⟨_, fun _ _ => rfl, fun _ v w => by rw [← BitVec.toNat_xor, asWord_toNat]; rfl⟩,
    ⟨_, fun _ _ => rfl, fun _ v w => by rw [and_xor_toNat, asWord_toNat]; rfl⟩,
    -- SHL, SHR, SAR, ROL
    ⟨_, fun _ _ => rfl, fun _ _ _ => rfl⟩,
    ⟨_, fun _ _ => rfl, fun _ v w => by rw [← BitVec.toNat_ushiftRight, asWord_toNat]; rfl⟩,
    ⟨_, fun _ _ => rfl, fun _ => asWord_sar⟩,
    ⟨_, fun _ _ => rfl, fun _ => asWord_rol⟩,
    -- MIN, MAX, MINN, MAXN
    ⟨_, fun _ _ => rfl, fun _ v w => by rw [asWord_ite, s64_toNat, s64_toNat]⟩,
    ⟨_, fun _ _ => rfl, fun _ v w => by rw [asWord_ite, s64_toNat, s64_toNat]⟩,
    ⟨_, fun _ _ => rfl, fun _ v w => by rw [Nat.min_def, asWord_ite]⟩,
    ⟨_, fun _ _ => rfl, fun _ v w => by rw [Nat.max_def, asWord_ite]⟩,
    -- SEQ, SNE, SLT, SLTN
    ⟨_, fun _ _ => rfl, fun _ v w => by rw [asWord_ofBool, toNat_beq]⟩,
    ⟨_, fun _ _ => rfl, fun _ v w => by rw [asWord_ofBool, bne, toNat_beq]; rfl⟩,
    ⟨_, fun _ _ => rfl, fun _ v w => by rw [asWord_ofBool, s64_toNat, s64_toNat]; rfl⟩,
    ⟨_, fun _ _ => rfl, fun _ v w => asWord_ofBool _⟩,
    -- CLMUL, CLMULH
    ⟨_, fun _ _ => rfl, fun _ => asWord_clmul⟩,
    ⟨_, fun _ _ => rfl, fun _ => asWord_clmulh⟩,
    List.forall_mem_nil _⟩

/-- The words of a legal instruction have a MOD that is defined for it. -/
theorem Chain.modOk_of_legal {c : Chain} {o : OpInfo} (h : c.legal o = true) : o.modOk c.mod.toNat = true := by
  simp only [Chain.legal, Bool.and_eq_true] at h
  obtain ⟨⟨⟨⟨-, hmod⟩, -⟩, -⟩, -⟩ := h
  exact hmod

theorem scalarTwo_rows : ∀ e ∈ Claims.scalarTwo, ScalarTwoRow e := by
  simp only [Claims.scalarTwo, List.forall_mem_cons]
  refine ⟨
    -- MOV, CLZ, CTZ, POPC, BSWAP
    ⟨_, fun _ _ => rfl, fun _ v _ => ofNat_toNat_word v⟩,
    ⟨_, fun _ _ => rfl, fun _ v _ => ofNat_clz v⟩,
    ⟨_, fun _ _ => rfl, fun _ v _ => congrArg (BitVec.ofNat 64) (ctzFrom_toNat v)⟩,
    ⟨_, fun _ _ => rfl, fun _ v _ => congrArg (BitVec.ofNat 64) (popN_eq 64 v.toNat)⟩,
    ⟨_, fun _ _ => rfl, fun c v h => ?_⟩,
    List.forall_mem_nil _⟩
  have hmod : c.mod.toNat < 3 := by simpa [opBswap] using Chain.modOk_of_legal h
  exact ofNat_bswapN (Nat.lt_of_le_of_lt (Nat.mod_le _ _) hmod) v

variable {s : State} {o : OpInfo} {c : Chain} {x : Slot} {p : Option Partner}

/-- A three-form instruction of a row completes with the row's value. -/
theorem ScalarThreeRow.exec_eq {e : (Chain → Instr) × OpInfo × Nat × (Nat → Word → Word → Word × BitVec 6)} (he : ScalarThreeRow e)
    (h : Turn s e.2.1 c x) (hu : Usable x [x.reg .scalar c.a.toNat, x.reg .scalar c.b.toNat, x.reg .scalar c.c.toNat]
      [x.reg .scalar c.b.toNat, x.reg .scalar c.c.toNat] [x.reg .scalar c.a.toNat]) :
    exec (e.1 c) s = .next (s.took x c {
      writes := scalarResult x c.a.toNat (e.2.2.2 (c.mod.toNat % 4) (x.operand c.b.toNat) (x.operand c.c.toNat)).1.toNat
      flags := (e.2.2.2 (c.mod.toNat % 4) (x.operand c.b.toNat) (x.operand c.c.toNat)).2
      ue := x.operandUe c.b.toNat ++ x.operandUe c.c.toNat
      latency := e.2.2.1 }) := by
  obtain ⟨f, hexec, hval⟩ := he
  rw [hexec, ← hval, asWord, scalarResult_ofNat]
  exact congrArg Host.Outcome.next (h.regs hu.scalar3)

/-- A two-form instruction on usable registers. -/
theorem Usable.scalar2 {f : Nat → Nat}
    (h : Usable x [x.reg .scalar c.a.toNat, x.reg .scalar c.b.toNat] [x.reg .scalar c.b.toNat] [x.reg .scalar c.a.toNat]) :
    Machine.scalar2 f p c x = .ok {
      writes := scalarResult x c.a.toNat (f (x.operand c.b.toNat).toNat), ue := x.operandUe c.b.toNat } := by
  simp only [Machine.scalar2, h.check, Slot.operand_toNat]
  rfl

/-- A two-form instruction of a row completes with the row's value. -/
theorem ScalarTwoRow.exec_eq {e : (Chain → Instr) × OpInfo × (Nat → Word → Word)} (he : ScalarTwoRow e) (h : Turn s e.2.1 c x)
    (hu : Usable x [x.reg .scalar c.a.toNat, x.reg .scalar c.b.toNat] [x.reg .scalar c.b.toNat] [x.reg .scalar c.a.toNat]) :
    exec (e.1 c) s = .next (s.took x c {
      writes := scalarResult x c.a.toNat (e.2.2 (c.mod.toNat % 4) (x.operand c.b.toNat)).toNat
      ue := x.operandUe c.b.toNat }) := by
  obtain ⟨f, hexec, hval⟩ := he
  rw [hexec, ← hval c _ h.legal, scalarResult_ofNat]
  exact congrArg Host.Outcome.next (h.regs hu.scalar2)

/-- An instruction with an immediate and a source in C, on usable registers. -/
theorem Usable.scalarImm {f : Nat → Int → Nat × BitVec 6} {r : Word × BitVec 6}
    (h : Usable x [x.reg .scalar c.a.toNat, x.reg .scalar c.c.toNat] [x.reg .scalar c.c.toNat] [x.reg .scalar c.a.toNat])
    (hval : asWord (f (x.operand c.c.toNat).toNat c.imm) = r) :
    Machine.scalarImm f p c x = .ok {
      writes := scalarResult x c.a.toNat r.1.toNat, flags := r.2, ue := x.operandUe c.c.toNat } := by
  rw [← hval, asWord, scalarResult_ofNat]
  simp only [Machine.scalarImm, h.check, Slot.operand_toNat]
  rfl

/-- MOVI with a usable destination. -/
theorem Usable.moviBody (h : Usable x [x.reg .scalar c.a.toNat] [] [x.reg .scalar c.a.toNat]) :
    Machine.moviBody p c x = .ok { writes := scalarResult x c.a.toNat (BitVec.ofInt 64 c.imm).toNat } := by
  simp only [Machine.moviBody, h.check, ← wrapNat_ofInt]
  rfl

/-- ADDI on usable registers. -/
theorem Usable.addiBody
    (h : Usable x [x.reg .scalar c.a.toNat, x.reg .scalar c.c.toNat] [x.reg .scalar c.c.toNat] [x.reg .scalar c.a.toNat]) :
    Machine.addiBody p c x = .ok {
      writes := scalarResult x c.a.toNat (Claims.saturated (c.mod.toNat % 4) ((x.operand c.c.toNat).toInt + c.imm) ((x.operand c.c.toNat).toNat + c.imm)).1.toNat
      flags := (Claims.saturated (c.mod.toNat % 4) ((x.operand c.c.toNat).toInt + c.imm) ((x.operand c.c.toNat).toNat + c.imm)).2
      ue := x.operandUe c.c.toNat } :=
  h.scalarImm (by rw [asWord_saturate, s64_toNat]; rfl)

/-- EXT on usable registers. -/
theorem Usable.extBody
    (h : Usable x [x.reg .scalar c.a.toNat, x.reg .scalar c.c.toNat] [x.reg .scalar c.c.toNat] [x.reg .scalar c.a.toNat]) :
    Machine.extBody p c x = .ok {
      writes := scalarResult x c.a.toNat (Claims.extracted (x.operand c.c.toNat) c.imm.toNat).toNat
      ue := x.operandUe c.c.toNat } :=
  h.scalarImm (f := fun x i => (extField x i.toNat, 0)) (r := (Claims.extracted (x.operand c.c.toNat) c.imm.toNat, 0)) (by rw [asWord, ofNat_extField])

/-- SEL on usable registers. -/
theorem Usable.selBody (h : Usable x [x.reg .scalar c.a.toNat, x.reg .scalar c.b.toNat, x.reg .scalar c.c.toNat]
      [x.reg .scalar c.b.toNat, x.reg .scalar c.c.toNat, x.reg .scalar c.a.toNat] [x.reg .scalar c.a.toNat]) :
    Machine.selBody p c x = .ok {
      writes := scalarResult x c.a.toNat (if x.operand c.a.toNat ≠ 0 then x.operand c.b.toNat else x.operand c.c.toNat).toNat
      ue := x.operandUe c.b.toNat ++ x.operandUe c.c.toNat ++ x.operandUe c.a.toNat } := by
  simp only [Machine.selBody, h.check, ← toNat_eq_zero_iff, apply_ite BitVec.toNat, Slot.operand_toNat, Ne]
  rfl

/-- Settles O1: the rows of the tables, and the bodies of the other instructions. -/
theorem scalarResults : Obligations.ScalarResults := by
  unfold Obligations.ScalarResults
  refine ⟨fun e he s x c => (scalarThree_rows e he).exec_eq, fun e he s x c => (scalarTwo_rows e he).exec_eq,
    fun s x c => ⟨fun h hu => ?movi, fun h hu => ?addi, fun h hu => ?ext, fun h hu => ?sel, fun h => ?nop⟩⟩
  all_goals refine congrArg Host.Outcome.next ?_
  case movi => exact h.regs hu.moviBody
  case addi => exact h.regs hu.addiBody
  case ext => exact h.regs hu.extBody
  case sel => exact h.regs hu.selBody
  case nop => exact h.regs (b := nopBody) rfl

end Sys2Proof.Machine
end

section
/-!
Registers of a lane-wise instruction, with and without a gang partner, and its effect (03 R62; 04 R94; 06 R120, R125, R126).
-/

namespace Sys2Proof.Machine

variable {s : State} {o : OpInfo} {c : Chain} {x : Slot}

/-- Usable registers pass every check together with a main-file register of the gang partner that is full and, where the slot checks it, written. -/
theorem Usable.check_gang {all src dst : List Reg} {p : Partner} {r : Reg} {off : Nat} (h : Usable x all src dst) (hr : r.loc = .main off)
    (hfull : firstEmpty p.view.empty off r.size = none) (hset : x.chk = true → unwrittenIn p.view.results r = false) :
    x.checkUses { all := all, src := src, dst := dst } (some (p, r)) = .ok () := by
  obtain ⟨v, loc, n⟩ := r
  obtain rfl : loc = .main off := hr
  have hplain := h.check
  unfold Slot.checkUses at hplain ⊢
  have hspace := forIn_checkSpace x all h.inside
  have hsrc : src.findSome? (fun r => x.awaits r) = none := by simpa using h.full
  simp only [hspace, hsrc, hfull] at hplain ⊢
  cases hc : x.chk with
  | false =>
    rw [hc] at hplain
    exact hplain
  | true =>
    have hwritten : src.find? (fun r => unwrittenIn x.results r) = none := by simpa using h.settled hc
    simp only [hc, hwritten] at hplain
    simp only [hwritten, hset hc]
    exact hplain

/-- A gang offset is legal only where operand B lies in the main file (03 R62). -/
theorem Chain.main_of_gang (h : c.legal o = true) (hg : c.gang ≠ 0) : 8 ≤ c.b.toNat := by
  simp only [Chain.legal, Bool.and_eq_true] at h
  obtain ⟨⟨-, hgang⟩, -⟩ := h
  simp only [Bool.or_eq_true, beq_iff_eq, hg, false_or, Bool.and_eq_true, decide_eq_true_eq] at hgang
  obtain ⟨⟨-, hb⟩, -⟩ := hgang
  exact hb

/-- An operand value from 8 on selects a register of the main file. -/
theorem Slot.reg_loc_main (x : Slot) (w : View) {v : Nat} (h : 8 ≤ v) : ∃ off, (x.reg w v).loc = .main off := by
  unfold Slot.reg
  rw [if_neg (by omega), if_neg (by omega)]
  exact ⟨_, rfl⟩

/-- Usable registers pass the checks of an instruction whose operand B may be the gang partner's. -/
theorem Usable.checkGang {all src dst : List Reg} {w : View} (h : Usable x all (Claims.ownA s x c (x.reg w c.b.toNat) ++ src) dst)
    (hlegal : c.legal o = true) (hp : PartnerUsable s x c (x.reg w c.b.toNat)) :
    Machine.checkGang (s.gangPartner s.o.cur x c) x { all := all, src := src, dst := dst } (x.reg w c.b.toNat) = .ok () := by
  unfold Claims.ownA at h
  cases hq : s.gangPartner s.o.cur x c with
  | none =>
    rw [hq] at h
    exact h.check
  | some q =>
    have hg : c.gang ≠ 0 := fun h0 => by simp [State.gangPartner, h0] at hq
    obtain ⟨off, hoff⟩ := x.reg_loc_main w (Chain.main_of_gang hlegal hg)
    obtain ⟨hfull, hset⟩ := hp q hq off hoff
    rw [hq] at h
    exact Usable.check_gang h hoff hfull hset

/-- A lane-wise instruction on usable registers has the effect of its lanes, of latency one. -/
theorem vecOp_of_laneReady {e : Claims.LaneOp} (hlegal : c.legal o = true) (h : Claims.LaneReady s x c e.three e.readsD) :
    vecOp e.three e.readsD e.lane (s.gangPartner s.o.cur x c) c x = .ok { Claims.laneEffect e s x c with latency := 1 } := by
  obtain ⟨hu, hp⟩ := h
  rw [List.append_assoc, List.append_assoc] at hu
  have hcheck := hu.checkGang hlegal hp
  rw [← List.append_assoc] at hcheck
  unfold vecOp
  simp only [Claims.laneView] at hcheck
  simp only [hcheck, Claims.laneEffect, Claims.laneOperands, Claims.laneView]
  cases hl : chainL0 c with
  | false => rfl
  | true =>
    cases hm : (x.lmaskBits c).testBit 0 <;> rfl

end Sys2Proof.Machine
end

section
/-!
The special function unit: requests are queued, started and written (07 R155, R156, R158).
-/

namespace Sys2Proof.Machine

variable {s : State} {o : OpInfo} {c : Chain} {x : Slot}

/-! ### The instructions -/

/-- An SFU function as a lane-wise instruction, of latency four behind its start. -/
def sfuLaneOp (make : Chain → Instr) (o : OpInfo) (fn : SfuFn) : Claims.LaneOp :=
  Claims.LaneOp.mk make o false false 4 (fun t rm p _ _ => sfuFn fn t rm p)

/-- On usable registers an SFU instruction has the effect of its lanes, with the occupancy of its form. -/
theorem sfuBody_of_laneReady (hlegal : c.legal o = true) (h : Claims.LaneReady s x c false false) (make : Chain → Instr) (fn : SfuFn) :
    sfuBody fn (s.gangPartner s.o.cur x c) c x =
      .ok { Claims.laneEffect (sfuLaneOp make o fn) s x c with sfu := some (if chainL0 c then 1 else 4) } := by
  have hlanes : vecOp false false (fun t rm p _ _ => sfuFn fn t rm p) (s.gangPartner s.o.cur x c) c x = _ :=
    vecOp_of_laneReady (e := sfuLaneOp make o fn) hlegal h
  have hlatency : (Claims.laneEffect (sfuLaneOp make o fn) s x c).latency = 4 := by
    unfold Claims.laneEffect; split <;> rfl
  simp only [sfuBody, delayed, hlanes]
  rw [← hlatency]
  rfl

/-- With no earlier SFU result outstanding an SFU instruction takes its effect. -/
theorem Turn.sfuIssue (h : Turn s o c x) (hnone : x.results.any (fun p => p.sfu) = false) {b : RegBody} {e : Effect}
    (hb : b (s.gangPartner s.o.cur x c) c x = .ok e) : s.issue o c (Machine.sfuIssue b) = s.took x c e := by
  rw [← h.regs hb, h.issue, h.issue]
  simp only [Machine.sfuIssue, hnone]
  rfl

/-- While an earlier SFU result of the slot is outstanding an SFU instruction is held. -/
theorem Turn.sfuIssue_held (h : Turn s o c x) (hsome : x.results.any (fun p => p.sfu) = true) (b : RegBody) :
    s.issue o c (Machine.sfuIssue b) = s.setSlot s.o.cur { x with status := .stalled .sfu } := by
  rw [h.issue]
  simp only [Machine.sfuIssue, hsome]
  rfl

/-- What the statement says of one SFU instruction. -/
def SfuIssues (make : Chain → Instr) (o : OpInfo) (fn : SfuFn) : Prop :=
  ∀ (s : State) (x : Slot) (c : Chain), Turn s o c x → Claims.LaneReady s x c false false →
    (x.results.any (fun p => p.sfu) = false →
      exec (make c) s = .next (s.took x c { Claims.laneEffect (sfuLaneOp make o fn) s x c with sfu := some (if chainL0 c then 1 else 4) })) ∧
    (x.results.any (fun p => p.sfu) = true → exec (make c) s = .next (s.setSlot s.o.cur { x with status := .stalled .sfu }))

/-- An instruction whose meaning is the issue of an SFU function is queued or held. -/
theorem sfuIssues_of_exec {make : Chain → Instr} {o : OpInfo} {fn : SfuFn}
    (hexec : ∀ c s, exec (make c) s = .next (s.issue o c (sfuIssue (sfuBody fn)))) : SfuIssues make o fn := by
  intro s x c h hr
  rw [hexec]
  exact ⟨fun hnone => congrArg Host.Outcome.next (h.sfuIssue hnone (sfuBody_of_laneReady h.legal hr make fn)),
    fun hsome => congrArg Host.Outcome.next (h.sfuIssue_held hsome _)⟩

/-! ### The unit -/

/-- The start of a slot's only result moves its due cycle to the end of the 64 cycles from then on. -/
theorem Slot.sfuStarts_results {p : Pending} (hres : x.results = [p]) (hsfu : p.sfu = true) (cycle : Nat) :
    (x.sfuStarts cycle).results = [{ p with due := cycle + 63 }] := by
  simp [Slot.sfuStarts, hres, hsfu]

/-- The start of a request changes the slot in its results, its status and the lengthening of its stall only. -/
theorem Slot.sfuStarts_frame (x : Slot) (cycle : Nat) :
    { x.sfuStarts cycle with results := x.results, status := x.status, longer := x.longer } = x := by
  unfold Slot.sfuStarts; split <;> rfl

/-- The write of a slot's only result, an SFU result, leaves none. -/
theorem Slot.sfuWrite_single {p : Pending} (hres : x.results = [p]) (hsfu : p.sfu = true) :
    x.sfuWrite = { x.writeDue p with results := [] } := by
  rw [Slot.sfuWrite, hres, Slot.writeResults_single hsfu]

@[simp] theorem State.core_modSlot (s : State) (i c : Nat) (f : Slot → Slot) : (s.modSlot i f).core c = s.core c := rfl
@[simp] theorem State.slot_setCore (s : State) (c i : Nat) (k : CoreSt) : (s.setCore c k).slot i = s.slot i := rfl

variable {core : Nat} {q : SfuEntry}

/-- A request of a slot that waits alone starts when the unit is free, and keeps it for its occupancy. -/
theorem execSfuStart_single (hq : (s.core core).sfu = [q]) (himage : q.image = none) (hstart : q.start = none)
    (hfree : (s.core core).sfuFree ≤ s.t.cycle) :
    execSfuStart core s = .next ((s.setCore core { s.core core with
      sfu := [{ q with start := some s.t.cycle }], sfuFree := s.t.cycle + q.occ }).modSlot q.sid (fun x => x.sfuStarts s.t.cycle)) := by
  have hbusy : ¬ s.t.cycle < (s.core core).sfuFree := Nat.not_lt.2 hfree
  simp [execSfuStart, hq, hstart, himage, hbusy]

/-- The result of a slot's request that waits alone is written when its 64 cycles have passed. -/
theorem execSfuResult_single {c : Nat} (hq : (s.core core).sfu = [q]) (himage : q.image = none) (hstart : q.start = some c)
    (hdue : c + 63 ≤ s.t.cycle) :
    execSfuResult core s = .next ((s.setCore core { s.core core with sfu := [] }).modSlot q.sid Slot.sfuWrite) := by
  have hpassed : ¬ s.t.cycle < c + 63 := Nat.not_lt.2 hdue
  simp [execSfuResult, hq, hstart, himage, hpassed]

/-- Settles O35: each instruction is the issue of its function; the unit acts on its one request and on the request's slot. -/
theorem specialFunctionResults : Obligations.SpecialFunctionResults := by
  unfold Obligations.SpecialFunctionResults
  refine ⟨?_, fun s core occ q x p hq himage hocc hx hres hsfu => ⟨fun hstart hfree => ?_, fun c hstart hdue => ?_⟩⟩
  · simp only [List.forall_mem_cons]
    exact ⟨sfuIssues_of_exec (fn := .rcp) fun _ _ => rfl, sfuIssues_of_exec (fn := .rsq) fun _ _ => rfl,
      sfuIssues_of_exec (fn := .exp2) fun _ _ => rfl, sfuIssues_of_exec (fn := .log2) fun _ _ => rfl,
      sfuIssues_of_exec (fn := .sin) fun _ _ => rfl, sfuIssues_of_exec (fn := .cos) fun _ _ => rfl,
      sfuIssues_of_exec (fn := .tanh) fun _ _ => rfl, sfuIssues_of_exec (fn := .sigm) fun _ _ => rfl, List.forall_mem_nil _⟩
  · refine ⟨_, x.sfuStarts s.t.cycle, execSfuStart_single hq himage hstart hfree, ?free, ?queue, ?slot,
      Slot.sfuStarts_results hres hsfu _, x.sfuStarts_frame _, rfl⟩
    case free => simp [hocc]
    case queue => simp
    case slot => simp [State.slot_modSlot, hx]
  · refine ⟨_, execSfuResult_single hq himage hstart hdue, ?queue, ?slot, rfl, ?others⟩
    case queue => simp
    case slot => simp [State.slot_modSlot, hx, Slot.sfuWrite_single hres hsfu]
    case others => exact fun k hk => by simp [State.slot_modSlot, hk]

end Sys2Proof.Machine
end

section
/-!
The reductions over lanes of VRED and VSCAN, and their values in the vocabulary of the statements (07 R152, R153).
-/

namespace Sys2Proof.Machine

/-! ### Types that a selector allows (06 R119; 07 R152) -/

theorem chainTy_isInt (c : Chain) : (chainTy c).isInt = tyI c.mod.toNat := by
  have hcodes : ∀ n < 16, (Ty.ofCode n).isInt = (decide (n ≤ 7) || n == 15) := by decide
  exact hcodes _ (Nat.mod_lt _ (by decide))

theorem chainTy_isF (c : Chain) : (chainTy c).isF = tyF c.mod.toNat := by
  have hcodes : ∀ n < 16, (Ty.ofCode n).isF = (n == 8 || n == 9 || n == 10) := by decide
  exact hcodes _ (Nat.mod_lt _ (by decide))

/-- A selection and its type are among those of 07 R152: sums, minima and maxima of integers or floats, largest magnitudes of floats, bitwise
operations. -/
inductive RedOk (t : Ty) : Nat → Prop
  | sum (h : t.isInt = true ∨ t.isF = true) : RedOk t 0
  | min (h : t.isInt = true ∨ t.isF = true) : RedOk t 1
  | max (h : t.isInt = true ∨ t.isF = true) : RedOk t 2
  | maxabs (h : t.isF = true) : RedOk t 3
  | and : RedOk t 4
  | or : RedOk t 5
  | xor : RedOk t 6

theorem RedOk.lt {t : Ty} {sel : Nat} (h : RedOk t sel) : sel < 7 := by
  cases h <;> decide

theorem RedOk.of_redOk {c : Chain} {sel : Nat} (h : redOk c.mod.toNat sel = true) : RedOk (chainTy c) sel := by
  unfold redOk at h
  simp only [← chainTy_isInt, ← chainTy_isF] at h
  split at h
  · exact .sum (by simpa using h)
  · exact .min (by simpa using h)
  · exact .max (by simpa using h)
  · exact .maxabs h
  · exact .and
  · exact .or
  · exact .xor
  · cases h

/-! ### A selection over a list of codes -/

/-- The selecting and bitwise operations as one fold over the codes. -/
def redFold (sel : Nat) (t : Ty) (xs : List Nat) : Nat := xs.foldl (redStep sel t) (redIdentity sel t)

/-- What VRED writes for a selection other than a sum: the fold, a NaN where all lanes are, sign-extended for a signed type. -/
theorem redValue_of_ne_zero {sel : Nat} (h : sel ≠ 0) (t : Ty) (rm : RMode) (xs : List Nat) :
    redValue sel t rm xs =
      (let z := if (sel = 1 ∨ sel = 2) ∧ t.isF ∧ xs ≠ [] then (if xs.all (fun x => fdec t x == .nan) then t.nan else redFold sel t xs)
        else redFold sel t xs
       if (sel = 1 ∨ sel = 2) ∧ t.signed then wrapNat (sextNat z t.width) 64 else z, 0) := by
  cases xs <;> simp [redValue, h, redFold]

/-- A minimum or maximum of integers is one of the two codes. -/
theorem minmaxLane_mem {t : Ty} (ht : t.isInt = true) (big : Bool) (rm : RMode) (p r q : Nat) :
    (minmaxLane big t rm p r q).1 = p ∨ (minmaxLane big t rm p r q).1 = r := by
  simp only [minmaxLane, ht, if_true]
  split
  · exact .inl rfl
  · exact .inr rfl

theorem intOf_minLane {t : Ty} (ht : t.isInt = true) (p r : Nat) :
    intOf t (minmaxLane false t .rne p r 0).1 = min (intOf t p) (intOf t r) := by
  rw [minmaxLane, if_pos ht, Int.min_def]
  by_cases h : intOf t p ≤ intOf t r <;> simp [h]

theorem intOf_maxLane {t : Ty} (ht : t.isInt = true) (p r : Nat) :
    intOf t (minmaxLane true t .rne p r 0).1 = max (intOf t p) (intOf t r) := by
  rw [minmaxLane, if_pos ht, Int.max_def]
  by_cases h : intOf t p ≤ intOf t r <;> simp [h]

/-- The minimum or maximum of integer codes is a code. -/
theorem redFold_lt {t : Ty} (ht : t.isInt = true) {sel : Nat} (hsel : sel = 1 ∨ sel = 2) {xs : List Nat} (hxs : ∀ v ∈ xs, v < 2 ^ t.width) :
    redFold sel t xs < 2 ^ t.width := by
  have hid : redIdentity sel t < 2 ^ t.width := by
    rcases hsel with rfl | rfl <;> (cases t with cases ht | _ => decide)
  refine List.foldlRecOn (motive := fun z => z < 2 ^ t.width) xs (redStep sel t) hid (fun z hz v hv => ?_)
  have hmem : redStep sel t z v = z ∨ redStep sel t z v = v := by
    rcases hsel with rfl | rfl <;> exact minmaxLane_mem ht _ .rne z v 0
  rcases hmem with h | h
  · rw [h]; exact hz
  · rw [h]; exact hxs v hv

theorem intOf_redFold_min {t : Ty} (ht : t.isInt = true) (xs : List Nat) :
    intOf t (redFold 1 t xs) = (xs.map (Claims.int t)).foldl min (Claims.greatest t) := by
  have hid : intOf t (redIdentity 1 t) = Claims.greatest t := by
    cases t with cases ht | _ => decide
  rw [List.foldl_map, ← hid]
  exact (List.foldl_hom (intOf t) (fun z v => by rw [claimsInt_eq_intOf]; exact (intOf_minLane ht z v).symm)).symm

theorem intOf_redFold_max {t : Ty} (ht : t.isInt = true) (xs : List Nat) :
    intOf t (redFold 2 t xs) = (xs.map (Claims.int t)).foldl max (Claims.least t) := by
  have hid : intOf t (redIdentity 2 t) = Claims.least t := by
    cases t with cases ht | _ => decide
  rw [List.foldl_map, ← hid]
  exact (List.foldl_hom (intOf t) (fun z v => by rw [claimsInt_eq_intOf]; exact (intOf_maxLane ht z v).symm)).symm

/-- A code of an integer type as 64 bits hold its integer, sign-extended where the type is signed. -/
theorem toNat_ofInt_intOf {t : Ty} (ht : t.isInt = true) {z : Nat} (hz : z < 2 ^ t.width) :
    (BitVec.ofInt 64 (intOf t z)).toNat = if t.signed then wrapNat (sextNat z t.width) 64 else z := by
  unfold intOf
  split
  · rw [toNat_ofInt_eq_wrapNat]
  · have hw : 2 ^ t.width ≤ 2 ^ 64 := Nat.pow_le_pow_right (by decide) (by cases t <;> decide)
    rw [Nat.mod_eq_of_lt hz, toNat_ofInt_eq_wrapNat, wrapNat_natCast (Nat.lt_of_lt_of_le hz hw)]

/-! ### The values of VRED and VSCAN -/

theorem Ty.signed_of_isF {t : Ty} (h : t.isF = true) : t.signed = false := by
  cases t with cases h | _ => rfl

theorem Ty.isInt_of_isF {t : Ty} (h : t.isF = true) : t.isInt = false := by
  cases t with cases h | _ => rfl

theorem Ty.isF_of_isInt {t : Ty} (h : t.isInt = true) : t.isF = false := by
  cases t with cases h | _ => rfl

/-- Minima and maxima of integer codes. -/
theorem redValue_minmax_int {t : Ty} (ht : t.isInt = true) {sel : Nat} (hsel : sel = 1 ∨ sel = 2) (rm : RMode) {xs : List Nat}
    (hxs : ∀ v ∈ xs, v < 2 ^ t.width) : redValue sel t rm xs = (Claims.selected sel t xs, 0) := by
  have hcode := toNat_ofInt_intOf ht (redFold_lt ht hsel hxs)
  rw [redValue_of_ne_zero (by omega)]
  rcases hsel with rfl | rfl
  · rw [intOf_redFold_min ht] at hcode
    simp [Claims.selected, ht, Ty.isF_of_isInt ht, hcode]
  · rw [intOf_redFold_max ht] at hcode
    simp [Claims.selected, ht, Ty.isF_of_isInt ht, hcode]

/-- Minima and maxima of floating codes: NaN where all lanes are NaN. -/
theorem redValue_minmax_float {t : Ty} (ht : t.isF = true) {sel : Nat} (hsel : sel = 1 ∨ sel = 2) (rm : RMode) (xs : List Nat) :
    redValue sel t rm xs = (Claims.selected sel t xs, 0) := by
  have hstep (big : Bool) : (fun z v => (minmaxLane big t .rne z v 0).1) = fminmax t big := by
    funext z v
    simp [minmaxLane, Ty.isInt_of_isF ht]
  have hfold : redFold sel t xs = xs.foldl (fminmax t (sel == 2)) (infCode t (sel == 2)) := by
    rcases hsel with rfl | rfl
    · rw [redFold, redIdentity, if_pos ht]; exact congrArg (xs.foldl · _) (hstep false)
    · rw [redFold, redIdentity, if_pos ht]; exact congrArg (xs.foldl · _) (hstep true)
  have hselected : Claims.selected sel t xs =
      if xs ≠ [] ∧ xs.all (fun v => fdec t v == .nan) = true then t.nan else redFold sel t xs := by
    simp [Claims.selected, hsel, Ty.isInt_of_isF ht, hfold]
  rw [redValue_of_ne_zero (by omega), hselected]
  by_cases hne : xs = []
  · simp only [hne, Ty.signed_of_isF ht, ne_eq, not_true_eq_false, and_false, false_and, Bool.false_eq_true, if_false]
  · simp only [hsel, ht, hne, Ty.signed_of_isF ht, ne_eq, not_false_eq_true, and_true, true_and, and_false, Bool.false_eq_true, if_true, if_false]

/-- The largest magnitude of the finite lanes; a magnitude is all bits but the sign. -/
theorem redValue_maxabs {t : Ty} (ht : t.isF = true) (rm : RMode) (xs : List Nat) :
    redValue 3 t rm xs = (Claims.selected 3 t xs, 0) := by
  rw [redValue_of_ne_zero (by decide)]
  cases t with cases ht | _ => rfl

/-- The sums, minima, maxima, largest magnitudes and bitwise operations of 07 R152 over codes of the type. -/
theorem redValue_selected {sel : Nat} {t : Ty} (h : RedOk t sel) (hsel : sel ≠ 0) (rm : RMode) {xs : List Nat} (hxs : ∀ v ∈ xs, v < 2 ^ t.width) :
    redValue sel t rm xs = (Claims.selected sel t xs, 0) := by
  cases h with
  | sum _ => exact absurd rfl hsel
  | min h => exact h.elim (fun h => redValue_minmax_int h (.inl rfl) rm hxs) (fun h => redValue_minmax_float h (.inl rfl) rm xs)
  | max h => exact h.elim (fun h => redValue_minmax_int h (.inr rfl) rm hxs) (fun h => redValue_minmax_float h (.inr rfl) rm xs)
  | maxabs h => exact redValue_maxabs h rm xs
  | and => rw [redValue_of_ne_zero hsel]; rfl
  | or => rw [redValue_of_ne_zero hsel]; rfl
  | xor => rw [redValue_of_ne_zero hsel]; rfl

/-- The sum of integer codes. -/
theorem foldl_add_intOf (t : Ty) (xs : List Nat) : xs.foldl (fun z v => z + intOf t v) (0 : Int) = Claims.total t xs := by
  simp only [Claims.total, List.foldl_map, claimsInt_eq_intOf]

/-- The value of VRED as the statement has it. -/
theorem redValue_eq {sel : Nat} {t : Ty} (h : RedOk t sel) (rm : RMode) {xs : List Nat} (hxs : ∀ v ∈ xs, v < 2 ^ t.width) :
    redValue sel t rm xs =
      (if sel ≠ 0 then Claims.selected sel t xs
        else if t.isInt then (Claims.total t xs % 2 ^ 64).toNat
        else (roundVal .f32 rm (floatSum t rm xs).1 (floatSum t rm xs).2).1,
       if sel ≠ 0 ∨ t.isInt = true then 0 else (roundVal .f32 rm (floatSum t rm xs).1 (floatSum t rm xs).2).2) := by
  by_cases hsel : sel = 0
  · subst hsel
    cases ht : t.isInt <;> simp [redValue, ht, foldl_add_intOf, wrapNat]
  · simp [redValue_selected h hsel rm hxs, hsel]

/-- The value of a lane of VSCAN as the statement has it. -/
theorem scanValue_eq {sel : Nat} {t : Ty} (h : RedOk t sel) (rm : RMode) {xs : List Nat} (hxs : ∀ v ∈ xs, v < 2 ^ t.width) :
    scanValue sel t rm xs =
      if sel ≠ 0 then (Claims.selected sel t xs % 2 ^ t.width, 0)
      else if t.isInt then Claims.wrapped t (Claims.total t xs)
      else roundVal t rm (floatSum t rm xs).1 (floatSum t rm xs).2 := by
  by_cases hsel : sel = 0
  · subst hsel
    cases ht : t.isInt <;> simp [scanValue, ht, foldl_add_intOf, wrapNat, Claims.wrapped]
  · simp [scanValue, redValue_selected h hsel rm hxs, hsel]

/-! ### The instructions -/

theorem elem_lt (x i w : Nat) : elem x i w < 2 ^ w := Nat.mod_lt _ (Nat.two_pow_pos w)

/-- The words of a legal instruction meet its own condition. -/
theorem Chain.extra_of_legal {c : Chain} {o : OpInfo} (h : c.legal o = true) : o.extra c = true := by
  simp only [Chain.legal, Bool.and_eq_true] at h
  obtain ⟨-, hextra⟩ := h
  exact hextra

/-- Every element that lanes of a register read is a code of the type. -/
theorem forall_mem_map_elem {w v : Nat} (is : List Nat) : ∀ z ∈ is.map (fun i => elem v i w), z < 2 ^ w := by
  simp [elem_lt]

/-- Settles O16: the bodies compute `redValue` and `scanValue` of the codes in the active lanes, which are the statement's values. -/
theorem reductionsComplete : Obligations.ReductionsComplete := by
  unfold Obligations.ReductionsComplete
  rintro s x c t n m sel el ue rfl rfl rfl rfl hel rfl
  obtain rfl : el = fun i => elem (x.readUe (x.reg .vector c.b.toNat) (chainTy c).width).1 i (chainTy c).width := funext hel
  refine ⟨fun h hu xs hxs => ?vred, fun h hu xs z hxs hz => ?vscan⟩
  all_goals refine congrArg Host.Outcome.next (h.regs ?_)
  case vred =>
    have hok : RedOk (chainTy c) c.c.toNat := .of_redOk (Chain.extra_of_legal h.legal)
    have hsel : c.c.toNat % 8 = c.c.toNat := Nat.mod_eq_of_lt (Nat.lt_trans hok.lt (by decide))
    have hval := redValue_eq hok (chainRm c) (hxs ▸ forall_mem_map_elem _)
    subst hxs
    simp only [vredBody, hu.check, hval, hsel]
    rfl
  case vscan =>
    have hextra : (decide (c.c.toNat < 16) && redOk c.mod.toNat (c.c.toNat % 8)) = true := Chain.extra_of_legal h.legal
    obtain ⟨-, hsel⟩ := Bool.and_eq_true_iff.1 hextra
    have hval (i : Nat) := scanValue_eq (.of_redOk hsel) (chainRm c) (hxs i ▸ forall_mem_map_elem _)
    obtain rfl := funext hxs
    subst hz
    simp only [vscanBody, hu.check, hval]
    rfl

end Sys2Proof.Machine
end

section
/-!
Atomics and fences: what finding a page, dropping lines of an L1 and sending an atomic leave as it was, and the request that leaves with one
(06 R135; 08 R169; 09 R175, R186, R191 to R193).
-/

namespace Sys2Proof.Machine

/-! ### What a memory instruction leaves as it was before its request (08 R169; 09 R175) -/

theorem kept_refl (a : Option Msg) : Claims.Kept a a := .inl rfl

theorem kept_trans {a b d : Option Msg} (h : Claims.Kept a b) (k : Claims.Kept b d) : Claims.Kept a d := by
  rcases h with rfl | ⟨m, ps, f, rfl, hop, rfl⟩
  · exact k
  · rcases k with rfl | ⟨n, qs, g, hn, -, rfl⟩
    · exact .inr ⟨m, ps, f, rfl, hop, rfl⟩
    · cases hn
      exact .inr ⟨m, ps, f, rfl, hop, rfl⟩

/-- What stays as it was while an access finds its pages and lines leave the L1s: all but cached translations, free choices, the L1s and
which fills are still installed. -/
structure LineFrame (s t : State) : Prop where
  cur : t.o.cur = s.o.cur
  nextId : t.o.nextId = s.o.nextId
  cycle : t.t.cycle = s.t.cycle
  slots : t.slots = s.slots
  mem : t.mem = s.mem
  deps : t.deps = s.deps
  hl : t.hl = s.hl
  loc : ∀ i, (t.core i).loc = (s.core i).loc
  msgs : ∀ r, Claims.Kept (kget s.msgs r) (kget t.msgs r)

theorem LineFrame.refl (s : State) : LineFrame s s := ⟨rfl, rfl, rfl, rfl, rfl, rfl, rfl, fun _ => rfl, fun _ => kept_refl _⟩

theorem LineFrame.trans {s t u : State} (h : LineFrame s t) (k : LineFrame t u) : LineFrame s u :=
  ⟨k.cur.trans h.cur, k.nextId.trans h.nextId, k.cycle.trans h.cycle, k.slots.trans h.slots, k.mem.trans h.mem, k.deps.trans h.deps,
    k.hl.trans h.hl, fun i => (k.loc i).trans (h.loc i), fun r => kept_trans (h.msgs r) (k.msgs r)⟩

/-- A run of steps that each keep the frame keeps it. -/
theorem LineFrame.foldl {α : Type} {f : State → α → State} (hf : ∀ s a, LineFrame s (f s a)) (l : List α) (s : State) : LineFrame s (l.foldl f s) := by
  induction l generalizing s with
  | nil => exact .refl s
  | cons a l ih => exact (hf s a).trans (ih _)

theorem State.keepOne_frame {α : Type} [DecidableEq α] (s : State) (l set : List α) (n : Nat) (q : α) : LineFrame s (s.keepOne l set n q).2 := by
  have hdraw : LineFrame s s.draw.2 := ⟨rfl, rfl, rfl, rfl, rfl, rfl, rfl, fun _ => rfl, fun _ => kept_refl _⟩
  simp only [State.keepOne]
  split
  · exact .refl s
  · split <;> exact hdraw

theorem State.tlbFill_frame (s : State) (e : TlbEntry) (t : Nat) : LineFrame s (s.tlbFill e t) := by
  have hpg (t : State) (pg : Paging) : LineFrame t { t with pg := pg } :=
    ⟨rfl, rfl, rfl, rfl, rfl, rfl, rfl, fun _ => rfl, fun _ => kept_refl _⟩
  refine LineFrame.trans ?_ (hpg _ _)
  split
  · exact s.keepOne_frame ..
  · split <;> exact s.keepOne_frame ..

theorem State.tlbTouch_frame (s : State) (ctx va : Nat) (ts : List Nat) : LineFrame s (s.tlbTouch ctx va ts) := by
  simp only [State.tlbTouch]
  split
  · exact .refl s
  · split
    · exact LineFrame.foldl (fun s t => s.tlbFill_frame _ t) _ s
    · exact .refl s

theorem found_frame (s : State) (x : Slot) (ls : List Located) : LineFrame s (Claims.found s x ls) :=
  LineFrame.foldl (fun s _ => s.tlbTouch_frame ..) ls s

theorem State.noFill_frame (s : State) (core : Nat) (p : Bool → List (Nat × Nat) → Bool) : LineFrame s (s.noFill core p) := by
  refine ⟨rfl, rfl, rfl, rfl, rfl, rfl, rfl, fun _ => rfl, fun r => ?_⟩
  simp only [State.noFill, kget_kmap]
  cases hm : kget s.msgs r with
  | none => exact kept_refl _
  | some m =>
    simp only [Option.map_some]
    split
    · split
      · exact .inr ⟨m, _, _, rfl, ‹_›, rfl⟩
      · exact kept_refl _
    · exact kept_refl _

/-- A change of a core that leaves its local memory. -/
theorem State.modCore_frame (s : State) (core : Nat) {f : CoreSt → CoreSt} (hf : (f (s.core core)).loc = (s.core core).loc) :
    LineFrame s (s.modCore core f) := by
  refine ⟨rfl, rfl, rfl, rfl, rfl, rfl, rfl, fun i => ?_, fun _ => kept_refl _⟩
  rw [State.core_modCore]
  split
  · subst ‹i = core›; exact hf
  · rfl

theorem State.dropStored_frame (s : State) (core : Nat) (bytes : List (Nat × Nat)) : LineFrame s (s.dropStored core bytes) :=
  (s.modCore_frame core rfl).trans (State.noFill_frame ..)

theorem State.dropWritable_frame (s : State) (core : Nat) : LineFrame s (s.dropWritable core) :=
  (s.modCore_frame core rfl).trans (State.noFill_frame ..)

/-! ### An access whose lanes are all reachable (06 R135 items 1 to 3) -/

theorem State.memHold_of_unheld {s : State} {x : Slot} (h : Claims.Unheld s x) (deposits : Bool) : s.memHold s.o.cur x deposits = .ok () := by
  obtain ⟨hacq, hroom⟩ := h
  simp [State.memHold, hacq, Nat.not_le.2 hroom]

/-- A translated lane that its leaf permits has its physical address. -/
theorem State.lane_of_translated {s : State} {x : Slot} {a : Access} {q : Located} (h : Claims.Translated s x q.l.va q.leaf)
    (hpa : q.pa = leafPa q.leaf q.l.va) (hok : s.checkLeaf q.leaf (!x.sup) true a q.pa = .ok) :
    s.lane (s.o.cur / 16) x (!x.sup) a q.l.va = .pa q.pa q.leaf := by
  rw [hpa] at hok ⊢
  rcases h with ⟨e, he, hfault, hleaf⟩ | ⟨hnone, htlb⟩
  · simp [State.lane, he, hfault, hleaf, hok]
  · simp [State.lane, hnone, htlb, hok]

/-- The TLBs that learn of an access's pages are those of the core of the slot whose turn it is, throughout. -/
theorem foldl_tlbTouch_eq_found (s : State) (x : Slot) (ls : List Located) :
    ls.foldl (fun t q => t.tlbTouch x.ctx q.l.va (t.coreTlbs (s.o.cur / 16) q.l.va)) s = Claims.found s x ls := by
  have key (t : State) (ht : t.o.cur = s.o.cur) :
      ls.foldl (fun t q => t.tlbTouch x.ctx q.l.va (t.coreTlbs (s.o.cur / 16) q.l.va)) t = Claims.found t x ls := by
    induction ls generalizing t with
    | nil => rfl
    | cons q ls ih =>
      rw [List.foldl_cons, ih _ ((t.tlbTouch_frame ..).cur.trans ht), ← ht]
      rfl
  exact key s rfl

/-- Lanes that are translated and permitted are found, and the nearer TLBs learn of their pages. -/
theorem State.translate_of_lanes {s : State} {x : Slot} {a : Access} {ls : List Located}
    (h : ∀ q ∈ ls, s.lane (s.o.cur / 16) x (!x.sup) a q.l.va = .pa q.pa q.leaf) :
    s.translate s.o.cur x a (ls.map (fun q => q.l.va)) = (Claims.found s x ls, .ok (ls.map (fun q => (q.pa, q.leaf)))) := by
  have hres : (ls.map (fun q => q.l.va)).map (fun v => (v, s.lane (s.o.cur / 16) x (!x.sup) a v)) =
      ls.map (fun q => (q.l.va, LaneRes.pa q.pa q.leaf)) := by
    rw [List.map_map]
    exact List.map_congr_left fun q hq => congrArg (Prod.mk _) (h q hq)
  have hmiss : (ls.map (fun q => (q.l.va, LaneRes.pa q.pa q.leaf))).filter (fun r => r.2 == .miss) = [] := by simp [List.filter_eq_nil_iff]
  simp only [State.translate, hres, hmiss, List.isEmpty_nil, if_true, List.foldl_map, List.filterMap_map, foldl_tlbTouch_eq_found]
  split
  · next hfind =>
    obtain ⟨q, -, hq⟩ := List.mem_map.1 (List.mem_of_find?_eq_some hfind)
    cases hq
  · exact congrArg (fun ps => (Claims.found s x ls, Except.ok ps)) (congrFun List.filterMap_eq_map ls)

/-- A list all of whose elements pass is taken whole (stated here because the modules do not import Mathlib). -/
theorem takeWhile_eq_self {α : Type} {p : α → Bool} {l : List α} (h : ∀ a ∈ l, p a = true) : l.takeWhile p = l := by
  simpa using List.takeWhile_append_of_pos (l₂ := []) h

/-- Reachable lanes pass every check of an access. -/
theorem State.access_of_reaches {s : State} {x : Slot} {a : Access} {align : Nat} {lanes : List Lane} {ls : List Located}
    (h : Claims.Reaches s x a align lanes ls) : s.access s.o.cur x a align lanes = (Claims.found s x ls, .ok ls) := by
  obtain ⟨rfl, haligned, htrans, hperm, hwatch⟩ := h
  have hgood : (ls.map Located.l).takeWhile (fun l => l.va % align == 0) = ls.map Located.l :=
    takeWhile_eq_self fun l hl => beq_iff_eq.2 (haligned l hl)
  have hlane : ∀ q ∈ ls, s.lane (s.o.cur / 16) x (!x.sup) a q.l.va = .pa q.pa q.leaf := fun q hq =>
    State.lane_of_translated (htrans q hq).1 (htrans q hq).2 (hperm q hq)
  have hwatch' : (Claims.found s x ls).watchHit x.ctx a (ls.map Located.l) = none := by
    simpa only [State.watchHit, (found_frame s x ls).hl] using hwatch
  have hzip : ((ls.map Located.l).zip (ls.map (fun q => (q.pa, q.leaf)))).map (fun q => Located.mk q.1 q.2.1 q.2.2) = ls := by
    simp [List.zip_map', Function.comp_def]
  have htr := State.translate_of_lanes hlane
  simp only [State.access, hgood, List.map_map, Function.comp_def, htr, List.drop_length, hwatch', hzip]

/-- The effective address of a memory form is the sum modulo 2^64 (09 R189). -/
theorem effAddr_operand (x : Slot) (c : Chain) : effAddr (x.readUe (x.reg .scalar c.b.toNat) 64).1 c.imm = Claims.address x c := by
  rw [effAddr, wrapNat_ofInt, BitVec.ofInt_add, BitVec.ofInt_natCast]
  rfl

/-! ### Sending an atomic (09 R175, R186, R191, R192) -/

/-- Order and path of an AMO or CAS by its MOD (09 R186, R191). -/
def atomicKind (m : Nat) : Kind := { ordered := true, acquire := bitsOf 6 5 m % 2 == 1, release := decide (2 ≤ bitsOf 6 5 m), fab := true }

theorem bitsOf_six_five (m : Nat) : bitsOf 6 5 m = m / 32 % 4 := by simp [bitsOf, Nat.shiftRight_eq_div_pow]

theorem atomicKind_acquire (m : Nat) : (atomicKind m).acquire = (m / 32).testBit 0 := by
  simp only [atomicKind, bitsOf_six_five]
  rw [Nat.testBit_zero, Nat.mod_mod_of_dvd _ (by decide : 2 ∣ 4)]
  rfl

theorem atomicKind_release (m : Nat) : (atomicKind m).release = (m / 32).testBit 1 := by
  simp only [atomicKind, bitsOf_six_five]
  rw [Nat.testBit_succ, Nat.testBit_zero, decide_eq_decide]
  omega

/-- The operation of AMO by MOD[3:0], as the statement lists it (09 R192). -/
theorem amoOpOf_eq (m : Nat) :
    amoOpOf (bitsOf 3 0 m) = ([.add, .and, .or, .xor, .min, .max, .minn, .maxn, .swap][m % 16]?).getD .swap := by
  have hcodes : ∀ n < 16, amoOpOf n = ([.add, .and, .or, .xor, .min, .max, .minn, .maxn, .swap][n]?).getD .swap := by decide
  exact hcodes (m % 16) (Nat.mod_lt _ (by decide))

/-- The operation that an atomic's request carries: of CAS with what it expects, of AMO by its code. -/
def atomicOp (cas : Bool) (x : Slot) (c : Chain) (w : Nat) : AmoOp :=
  if cas then .cas ((x.operand c.a.toNat).toNat % 2 ^ (8 * w))
  else ([.add, .and, .or, .xor, .min, .max, .minn, .maxn, .swap][c.mod.toNat % 16]?).getD .swap

/-- The events of an atomic's operands. -/
def atomicUe (cas : Bool) (x : Slot) (c : Chain) : List UeEvent :=
  x.operandUe c.b.toNat ++ x.operandUe c.c.toNat ++ if cas then x.operandUe c.a.toNat else []

/-- The slot of an atomic: its destination is empty, and an acquire holds it until deposit `id`. -/
def atomicSlot (x : Slot) (c : Chain) (id : Nat) : Slot :=
  { (x.markEmpty (x.reg .scalar c.a.toNat).loc 8) with acqHold := if (atomicKind c.mod.toNat).acquire then [id] else [] }

theorem atomicSlot_pc (x : Slot) (c : Chain) (id : Nat) : (atomicSlot x c id).pc = x.pc := by
  have hpc (l : Loc) : (x.markEmpty l 8).pc = x.pc := by cases l <;> rfl
  exact hpc _

/-- The die once its L1s hold no line that an atomic changes, nor, for an acquire, a writable one. -/
def State.atomicDropped (s : State) (sid : Nat) (x : Slot) (c : Chain) (q : Located) : State :=
  let t := s.dropStored (sid / 16) (s.lineBytes x.ctx [q])
  if (atomicKind c.mod.toNat).acquire then t.dropWritable (sid / 16) else t

theorem State.atomicDropped_frame (s : State) (sid : Nat) (x : Slot) (c : Chain) (q : Located) : LineFrame s (s.atomicDropped sid x c q) := by
  simp only [State.atomicDropped]
  split
  · exact (s.dropStored_frame ..).trans (State.dropWritable_frame ..)
  · exact s.dropStored_frame ..

/-- The deposit that awaits an atomic's old value. -/
def atomicDep (sid : Nat) (x : Slot) (c : Chain) : Dep :=
  { sid := sid, dst := (x.reg .scalar c.a.toNat).loc, len := 8, mask := ones 64, outstanding := 1, isLoad := true, idem := false
    acq := (atomicKind c.mod.toNat).acquire }

/-- The die with an atomic's deposit noted and its request at the port. -/
def State.sendAtomic (s : State) (sid : Nat) (x : Slot) (c : Chain) (cas : Bool) (w : Nat) (q : Located) : State :=
  let k := atomicKind c.mod.toNat
  let op : MsgOp := .amo (atomicOp cas x c w) w ((x.operand c.c.toNat).toNat % 2 ^ (8 * w))
  (({ s.newId.2 with deps := kset s.deps s.o.nextId (atomicDep sid x c) } : State).request sid
    { groupMsg sid x k [q] (some s.o.nextId) op true with isLoad := true } k.release w).2

section
variable (s : State) (sid : Nat) (x : Slot) (c : Chain) (cas : Bool) (w : Nat) (q : Located) {i : Nat} (hi : s.o.nextId = i)
include hi

theorem State.sendAtomic_dep : kget (s.sendAtomic sid x c cas w q).deps i = some (atomicDep sid x c) := by
  subst hi
  exact kget_kset_same ..

theorem State.sendAtomic_msg : ∃ n, kget (s.sendAtomic sid x c cas w q).msgs (i + 1) = some n ∧ n.dep = some i ∧ n.pa = q.pa ∧
    n.rel = (c.mod.toNat / 32).testBit 1 ∧ n.ordered = true ∧ n.fab = true ∧
    n.op = .amo (atomicOp cas x c w) w ((x.operand c.c.toNat).toNat % 2 ^ (8 * w)) := by
  subst hi
  exact ⟨_, kget_kset_same .., rfl, rfl, atomicKind_release _, rfl, rfl, rfl⟩

/-- Earlier requests are as they were. -/
theorem State.sendAtomic_msgs_earlier {r : Nat} (hr : r < i) : kget (s.sendAtomic sid x c cas w q).msgs r = kget s.msgs r := by
  subst hi
  exact kget_kset_other _ _ (Nat.ne_of_lt (Nat.lt_succ_of_lt hr))

end

/-- A slot at the pc of a memory instruction is settled behind it, as the statements have it. -/
theorem settled_leaveMem (s : State) {x y : Slot} (hpc : y.pc = x.pc) (c : Chain) (ue : List UeEvent) :
    { (y.leaveMem c ue) with xlat := [], status := stallStatus s.t.cycle c.stall.toNat } = Claims.left s x y c ue := by
  simp only [Slot.leaveMem, Claims.left, Slot.nextPc, hpc, Claims.after]

section
variable {s : State} {x : Slot} {c : Chain} {cas : Bool} {w : Nat} {q : Located} (hw : w = if c.mod.toNat.testBit 4 then 4 else 8)
  (hfree : Claims.Unheld s x)
  (hu : Usable x [x.reg .scalar c.a.toNat, x.reg .scalar c.b.toNat, x.reg .scalar c.c.toNat]
    ([x.reg .scalar c.b.toNat, x.reg .scalar c.c.toNat] ++ if cas then [x.reg .scalar c.a.toNat] else []) [x.reg .scalar c.a.toNat])
  (hr : Claims.Reaches s x .atomic w [scalarLane (Claims.address x c) w] [q]) (he : leafE q.leaf = false)
include hw hfree hu hr he

/-- The body of an atomic on a reachable place outside the apertures. -/
theorem atomicBody_of_reaches : atomicBody cas s.o.cur c x s =
    (((Claims.found s x [q]).atomicDropped s.o.cur x c q).sendAtomic s.o.cur x c cas w q,
      .ok (.set ((atomicSlot x c s.o.nextId).leaveMem c (atomicUe cas x c)))) := by
  have hid : ((Claims.found s x [q]).atomicDropped s.o.cur x c q).o.nextId = s.o.nextId :=
    ((found_frame ..).trans (State.atomicDropped_frame ..)).nextId
  have hhold := State.memHold_of_unheld hfree true
  obtain ⟨hacq, -⟩ := hfree
  simp only [atomicBody, hhold, hu.check, effAddr_operand, ← hw, State.access_of_reaches hr, List.headD_cons, he, Bool.false_eq_true, if_false,
    amoOpOf_eq, State.sendAtomic, atomicOp, Slot.operand_toNat, hacq]
  rw [← hid]
  cases cas
  · rfl
  · rfl

/-- An atomic on a reachable place outside the apertures: the page is found, lines leave the L1s, and the request with its deposit leaves. -/
theorem exec_atomic (h : Turn s (if cas then opCas else opAmo) c x) : ∃ t, LineFrame s t ∧
    exec (if cas then .cas c else .amo c) s = .next ((t.sendAtomic s.o.cur x c cas w q).setSlot s.o.cur
      (Claims.left s x (atomicSlot x c s.o.nextId) c (atomicUe cas x c))) := by
  have hframe := (found_frame s x [q]).trans ((Claims.found s x [q]).atomicDropped_frame s.o.cur x c q)
  have hexec : exec (if cas then .cas c else .amo c) s = .next (s.issue (if cas then opCas else opAmo) c (atomicBody cas)) := by
    cases cas
    · rfl
    · rfl
  refine ⟨_, hframe, ?_⟩
  rw [hexec, h.issue, atomicBody_of_reaches hw hfree hu hr he, ← settled_leaveMem s (atomicSlot_pc ..), ← hframe.cycle]
  rfl

end

/-! ### Fences (09 R193) -/

/-- A fill that is not installed is waited for as before. -/
theorem State.fenceWaits_noFill (s : State) (core sid kind scope : Nat) (p : Bool → List (Nat × Nat) → Bool) :
    (s.noFill core p).fenceWaits sid kind scope = s.fenceWaits sid kind scope := by
  simp only [State.fenceWaits, State.noFill, kmap, List.any_map]
  congr 3
  funext ⟨r, m⟩
  simp only [Function.comp_apply]
  split
  · split <;> rfl
  · rfl

theorem State.fenceWaits_dropWritable (s : State) (core sid kind scope : Nat) :
    (s.dropWritable core).fenceWaits sid kind scope = s.fenceWaits sid kind scope :=
  State.fenceWaits_noFill ..

/-- The die as a fence leaves it each time it looks: a fence with a scope, other than a release, drops the writable lines of its core's L1
(log 35). -/
def State.fenceDropped (s : State) (m : Nat) : State := if m % 8 ≠ 0 ∧ m / 8 % 4 ≠ 2 then s.dropWritable (s.o.cur / 16) else s

/-- What a fence does: it goes on without a scope or with nothing to wait for, and is held else. -/
theorem fenceBody_eq {s : State} {x : Slot} {c : Chain} (hfree : Claims.Unheld s x) :
    fenceBody s.o.cur c x s = (s.fenceDropped c.mod.toNat,
      if c.mod.toNat % 8 ≠ 0 ∧ s.fenceWaits s.o.cur (c.mod.toNat / 8 % 4) (c.mod.toNat % 8) = true then .error (.hold .fence) else .ok (.go {})) := by
  have hkind : bitsOf 4 3 c.mod.toNat = c.mod.toNat / 8 % 4 := by simp [bitsOf, Nat.shiftRight_eq_div_pow]
  have hscope : bitsOf 2 0 c.mod.toNat = c.mod.toNat % 8 := by simp [bitsOf]
  simp only [fenceBody, State.memHold_of_unheld hfree, hkind, hscope, State.fenceDropped]
  by_cases hs : c.mod.toNat % 8 = 0
  · simp [hs]
  · by_cases hk : c.mod.toNat / 8 % 4 = 2
    · cases hw : s.fenceWaits s.o.cur 2 (c.mod.toNat % 8) <;> simp [hs, hk, hw]
    · cases hw : s.fenceWaits s.o.cur (c.mod.toNat / 8 % 4) (c.mod.toNat % 8) <;> simp [hs, hk, hw, State.fenceWaits_dropWritable]

theorem State.fenceDropped_cur (s : State) (m : Nat) : (s.fenceDropped m).o.cur = s.o.cur := by
  unfold State.fenceDropped
  split <;> rfl

/-- Settles O20: an atomic leaves by `exec_atomic`, whose request and deposit are read off `sendAtomic`; a fence is what `fenceBody_eq` says. -/
theorem atomicsAndFences : Obligations.AtomicsAndFences := by
  unfold Obligations.AtomicsAndFences
  rintro s x c m w q rfl hw hfree
  refine ⟨fun cas h hu hr he => ?atomic, fun h kind t hkind ht => ?fence⟩
  case atomic =>
    obtain ⟨t, hf, hexec⟩ := exec_atomic hw hfree hu hr he h
    obtain ⟨n, hn, hdep, hpa, hrel, hord, hfab, hop⟩ := t.sendAtomic_msg s.o.cur x c cas w q hf.nextId
    refine ⟨_, _, atomicDep s.o.cur x c, n, hexec, (State.slot_setSlot ..).trans (if_pos rfl), ?left, ?dep, rfl, rfl, rfl, rfl, rfl, hn, hdep,
      hpa, hrel, hord, hfab, hop, hf.mem, hf.loc, fun k hk => ?others, fun r hr => ?kept⟩
    case left =>
      rw [← atomicKind_acquire]
      rfl
    case dep => rw [State.setSlot_deps, State.sendAtomic_dep (hi := hf.nextId)]
    case others => exact (State.slot_setSlot ..).trans ((if_neg hk).trans (congrArg (kget · k) hf.slots))
    case kept =>
      rw [State.setSlot_msgs, State.sendAtomic_msgs_earlier (hi := hf.nextId) (hr := hr)]
      exact hf.msgs r
  case fence =>
    obtain rfl := hkind
    obtain rfl : t = s.fenceDropped c.mod.toNat := ht
    have hexec : exec (.fence c) s = .next (s.issue opFence c fenceBody) := rfl
    rw [hexec, h.issue, fenceBody_eq hfree]
    refine ⟨fun hdone => ?_, fun hs hwait => ?_⟩
    · have hgo : ¬(c.mod.toNat % 8 ≠ 0 ∧ s.fenceWaits s.o.cur (c.mod.toNat / 8 % 4) (c.mod.toNat % 8) = true) := by
        rintro ⟨hs, hwait⟩
        rcases hdone with hzero | hnone
        · exact hs hzero
        · simp [hwait] at hnone
      rw [if_neg hgo, State.took, State.fenceDropped_cur]
    · rw [if_pos ⟨hs, hwait⟩]
      rfl

end Sys2Proof.Machine
end

section
/-!
The version table after an entry is written or freed, and its steps: the seal, the names of a range, the end of a reclaim, poison
(10 R198 to R200, R205, R217, R219; 21 R418).
-/

namespace Sys2Proof.Machine

variable {s : State} {v : Version} {ctx : Nat} {h : Word}

/-! ### The table (10 R199) -/

/-- What is found without the entry of one version: nothing under its key, and every other version as it was. -/
theorem State.find?_otherVersions (s : State) (c : Nat) (g : Word) (ctx : Nat) (h : Word) :
    (s.otherVersions c g).find? (fun v => v.ctx == ctx && v.handle == h) = if ctx = c ∧ h = g then none else s.version ctx h := by
  rw [State.otherVersions, State.version]
  split
  · rename_i hkey
    obtain ⟨rfl, rfl⟩ := hkey
    rw [List.find?_eq_none]
    intro v hv
    simpa only [Bool.not_eq_true', Bool.not_eq_true] using (List.mem_filter.1 hv).2
  · rename_i hne
    rw [List.find?_filter]
    congr 1
    funext v
    rw [Bool.eq_iff_iff]
    simp only [Bool.not_eq_true', Bool.and_eq_true, Bool.and_eq_false_imp, beq_iff_eq, beq_eq_false_iff_ne, ne_eq, decide_eq_true_eq,
      and_iff_right_iff_imp]
    rintro ⟨rfl, rfl⟩ hctx hh
    exact hne ⟨hctx, hh⟩

theorem State.version_setVersion_other (s : State) (hne : ¬(ctx = v.ctx ∧ h = v.handle)) : (s.setVersion v).version ctx h = s.version ctx h := by
  have hlast : [v].find? (fun u => u.ctx == ctx && u.handle == h) = none := by
    simpa using fun (hctx : v.ctx = ctx) (hh : v.handle = h) => hne ⟨hctx.symm, hh.symm⟩
  have hrest := s.find?_otherVersions v.ctx v.handle ctx h
  rw [if_neg hne] at hrest
  rw [State.version, State.setVersion, List.find?_append, hlast, hrest, Option.or_none]

/-- An entry freed is found no more, and every other version is as it was. -/
theorem State.version_freeVersion (s : State) (v : Version) (ctx : Nat) (h : Word) :
    (s.freeVersion v).version ctx h = if ctx = v.ctx ∧ h = v.handle then none else s.version ctx h :=
  s.find?_otherVersions v.ctx v.handle ctx h

/-- `t` is `s` but for the entry of one version and what is not said here: every other version, memory and the slots are as they were. -/
structure VersionFrame (c : Nat) (g : Word) (s t : State) : Prop where
  others : ∀ ctx h, ¬(ctx = c ∧ h = g) → t.version ctx h = s.version ctx h
  mem : t.mem = s.mem
  slots : t.slots = s.slots

theorem VersionFrame.trans {c : Nat} {g : Word} {s t u : State} (h : VersionFrame c g s t) (k : VersionFrame c g t u) : VersionFrame c g s u :=
  ⟨fun ctx e hne => (k.others ctx e hne).trans (h.others ctx e hne), k.mem.trans h.mem, k.slots.trans h.slots⟩

theorem State.setVersion_versionFrame (s : State) (v : Version) : VersionFrame v.ctx v.handle s (s.setVersion v) :=
  ⟨fun _ _ hne => s.version_setVersion_other hne, rfl, rfl⟩

theorem State.notify_versionFrame (s : State) (v : Version) (reclaim : Bool) (c : Nat) (g : Word) : VersionFrame c g s (s.notify v reclaim) := by
  refine ⟨fun ctx h _ => State.version_notify .., s.notify_mem v reclaim, ?_⟩
  obtain ⟨o, msgs, lk, hnotify⟩ := s.notify_eq v reclaim
  rw [hnotify]

theorem State.reclaimStart_versionFrame (s : State) (v : Version) : VersionFrame v.ctx v.handle s (s.reclaimStart v) :=
  have huncache : VersionFrame v.ctx v.handle s (s.uncacheVersion (v.slot, v.gen)) := ⟨fun _ _ _ => rfl, rfl, rfl⟩
  (huncache.trans (State.setVersion_versionFrame _ { v with state := .dead, poisonDead := v.bad })).trans (State.notify_versionFrame ..)

/-! ### The seal (10 R205) -/

/-- The version counts its consumers, none is left, and it has been sealed (10 R204, R205 item 5). -/
def Version.spent (v : Version) : Bool := !v.manual && v.count == 0 && (v.state == .complete || (v.state == .poisoned && v.sealed))

theorem State.settle_of_spent (s : State) (hspent : v.spent = true) : s.settle v = s.reclaimStart v := if_pos hspent

theorem State.settle_of_not_spent (s : State) (hspent : v.spent = false) : s.settle v = s.setVersion v :=
  if_neg (Bool.not_eq_true _ ▸ hspent)

theorem State.settle_versionFrame (s : State) (v : Version) : VersionFrame v.ctx v.handle s (s.settle v) := by
  cases hspent : v.spent
  · exact s.settle_of_not_spent hspent ▸ s.setVersion_versionFrame v
  · exact s.settle_of_spent hspent ▸ s.reclaimStart_versionFrame v

/-- The entry of a version whose reclaim starts. -/
theorem State.version_reclaimStart (s : State) (v : Version) :
    (s.reclaimStart v).version v.ctx v.handle = some { v with state := .dead, poisonDead := v.bad } := by
  rw [State.reclaimStart, State.version_notify]
  exact State.version_setVersion_of_key _ ⟨rfl, rfl⟩

/-- The entry after a seal or a decrement: DEAD when it is spent, else as written. -/
theorem State.version_settle_entry (s : State) (v : Version) : (s.settle v).version v.ctx v.handle =
    some (if v.spent then { v with state := .dead, poisonDead := v.bad } else v) := by
  cases hspent : v.spent
  · rw [s.settle_of_not_spent hspent]
    exact s.version_setVersion v
  · rw [s.settle_of_spent hspent]
    exact s.version_reclaimStart v

/-- The entry that the seal of an OPEN version writes. -/
def Version.completed (v : Version) (cycle : Nat) : Version := { v with sealed := true, state := .complete, waiters := [], doneAt := cycle }

/-- The seal of an OPEN version that nobody waits for: its entry is written, notices leave, and its count is looked at. -/
theorem State.sealVersion_open (hopen : v.state = .vopen) (hw : v.waiters = []) : s.sealVersion v =
    (((s.setVersion (v.completed s.t.cycle)).setVersion (v.completed s.t.cycle)).notify (v.completed s.t.cycle) false).settle
      (v.completed s.t.cycle) := by
  simp only [State.sealVersion, hw, hopen, List.foldl_nil]
  rfl

theorem State.sealVersion_versionFrame (hopen : v.state = .vopen) (hw : v.waiters = []) : VersionFrame v.ctx v.handle s (s.sealVersion v) := by
  rw [State.sealVersion_open hopen hw]
  exact (((s.setVersion_versionFrame (v.completed s.t.cycle)).trans (State.setVersion_versionFrame _ (v.completed s.t.cycle))).trans
    (State.notify_versionFrame ..)).trans (State.settle_versionFrame _ (v.completed s.t.cycle))

theorem Version.completed_spent (v : Version) (cycle : Nat) : (v.completed cycle).spent = decide (v.manual = false ∧ v.count = 0) := by
  rw [Bool.eq_iff_iff]
  simp [Version.spent, Version.completed]

/-- The sealed entry: COMPLETE, or DEAD when it counts consumers and none is left, with its data and shape. -/
theorem State.version_sealVersion (hopen : v.state = .vopen) (hw : v.waiters = []) :
    ∃ w : Version, (s.sealVersion v).version v.ctx v.handle = some w ∧ w.sealed = true ∧ w.data = v.data ∧ w.g = v.g ∧ w.count = v.count ∧
      w.gen = v.gen ∧ w.slot = v.slot ∧ w.state = if v.manual = false ∧ v.count = 0 then .dead else .complete := by
  rw [State.sealVersion_open hopen hw]
  refine ⟨_, State.version_settle_entry _ (v.completed s.t.cycle), ?_⟩
  rw [Version.completed_spent]
  by_cases hspent : v.manual = false ∧ v.count = 0 <;> simp [hspent, Version.completed]

/-! ### Names (10 R198) -/

theorem execNameAllocation_own {rid n r : Nat} {m : Msg} (hdue : Claims.Due s rid m) (hop : m.op = .vname n r) (hhome : s.rangeHome m.ctx r = .own) :
    exec (.nameAllocation rid) s = .next ((s.vnameAt m.ctx n r).2.answerMsg rid m (s.vnameAt m.ctx n r).1 []) := by
  have hready : s.ready rid = some m := hdue
  simp only [exec, execNameAllocation, hready, hop, hhome]

/-- Names that the range still has are allotted from its next one on. -/
theorem State.vnameAt_fits {n r k : Nat} (hk : k = kgetD s.vs.names (ctx * 16 + r) 0) (hfits : k + n ≤ 0x0FFFFFFF) :
    s.vnameAt ctx n r = (r * 2 ^ 28 + k, { s with vs := { s.vs with names := kset s.vs.names (ctx * 16 + r) (k + n) } }) := by
  subst hk
  exact if_neg (Nat.not_lt.2 hfits)

theorem State.vnameAt_over {n r k : Nat} (hk : k = kgetD s.vs.names (ctx * 16 + r) 0) (hover : 0x0FFFFFFF < k + n) :
    s.vnameAt ctx n r = (0xFFFFFFFF, s) := by
  subst hk
  exact if_pos hover

/-! ### Reclaim and poison (10 R200, R217, R219; 21 R418) -/

theorem execVersionReclaimEnd_dead (hv : s.version ctx h = some v) (hdead : v.state = .dead) (hdone : s.reclaimDone ctx h = true) :
    exec (.versionReclaimEnd ctx h) s = .next (s.freeVersion v) := by
  simp [exec, execVersionReclaimEnd, hv, hdead, hdone]

/-- A version that is OPEN or COMPLETE is poisoned by an uncorrectable error in its data, which is logged. -/
theorem execVersionPoison_live {off : Nat} (hv : s.version ctx h = some v) (hlive : v.state = .vopen ∨ v.state = .complete)
    (hpoison : v.poisonDead = false) (hoff : off < 4096 * v.g) :
    exec (.versionPoison ctx h off) s = .next (((s.setVersion { v with state := .poisoned, sealed := v.state == .complete }).pinBad ctx h off).monLog
      h (slotSlice v.slot) (off / 32) ctx 2) := by
  rcases hlive with hst | hst <;> simp [exec, execVersionPoison, hv, hst, Version.bad, hpoison, Nat.not_le.2 hoff]

/-- Settles O25: the seal by `version_sealVersion` and its frame, the other steps by what each of them writes. -/
theorem versionSteps : Obligations.VersionSteps := by
  unfold Obligations.VersionSteps
  refine ⟨fun s v hopen hw _ => ?sealed, fun s => ⟨fun rid m n r k hdue hop hhome hk => ⟨fun hfits => ?fits, fun hover => ?exhausted⟩,
    fun ctx h v hv hdead hdone => ?reclaim, fun ctx h v off hv hlive hpoison hoff => ?poison⟩⟩
  case sealed =>
    have hframe : VersionFrame v.ctx v.handle s (s.sealVersion v) := State.sealVersion_versionFrame hopen hw
    exact ⟨State.version_sealVersion hopen hw, hframe.others, hframe.mem, hframe.slots⟩
  case fits =>
    rw [execNameAllocation_own hdue hop hhome, State.vnameAt_fits hk hfits]
    exact ⟨_, rfl, congrArg (Option.getD · 0) (kget_kset_same ..), rfl⟩
  case exhausted => rw [execNameAllocation_own hdue hop hhome, State.vnameAt_over hk hover]
  case reclaim =>
    obtain ⟨rfl, rfl⟩ := s.version_key hv
    refine ⟨s.freeVersion v, execVersionReclaimEnd_dead hv hdead hdone, ?_, congrArg (Option.getD · 0) (kget_kset_same ..), fun c g hne => ?_, rfl⟩
    · rw [State.version_freeVersion, if_pos ⟨rfl, rfl⟩]
    · rw [State.version_freeVersion, if_neg hne]
  case poison =>
    have hkey := s.version_key hv
    exact ⟨_, _, execVersionPoison_live hv hlive hpoison hoff, State.version_setVersion_of_key _ hkey, rfl, rfl, rfl, rfl⟩

end Sys2Proof.Machine
end

section
/-!
Version requests at their home on this die: what each of them does to the entry, and how it is answered (10 R199, R204 to R209, R215,
R216, R218).
-/

namespace Sys2Proof.Machine

variable {s : State} {rid : Nat} {m : Msg} {ctx : Nat} {h : Word} {v : Version} {replay : Bool}

/-! ### Answers at the home (10 R204, R214) -/

@[simp] theorem State.versionDone_zero : s.versionDone rid m h 0 = s.ackMsg rid m 0 := rfl

/-- A message that is ready is one of the die's messages. -/
theorem State.kget_of_ready (hready : s.ready rid = some m) : kget s.msgs rid = some m := by
  unfold State.ready at hready
  split at hready
  · split at hready
    · cases hready
    · cases hready
      assumption
  · cases hready

theorem State.versionStep_own (hown : s.nameHome m.ctx h = .own) (f : State → Nat × State) (p : Packet) :
    s.versionStep rid m h f p = (f s).2.versionDone rid m h (f s).1 := by
  simp only [State.versionStep, State.versionHome, hown]

/-- A message on which a slot is STALLED holds the answer. -/
theorem State.ackMsg_stalls (hstalls : m.stalls = true) (code : Nat) :
    s.ackMsg rid m code = s.modMsg rid (fun x => { x with answer := some code }) := if_pos hstalls

/-! ### VOPEN (10 R202, R207) -/

@[simp] theorem State.unholdFull_msgs (ctx : Nat) (h : Word) : (s.unholdFull ctx h).msgs = s.msgs := by
  unfold State.unholdFull
  split <;> rfl

/-- The entry of a version as VOPEN's operands give it, with `spill` granules in the extension region. -/
def Version.opened (v : Version) (desc cnt : Word) (acc : Bool) (op : Nat) (replay : Bool) (spill : Nat) : Version :=
  { v with
    state := .vopen, sealed := false, acc := acc, manual := cnt.toNat % 4096 == 0, rpl := replay, poisonDead := false, count := cnt.toNat % 4096
    ty := desc.toNat / 64 % 16, rows := desc.toNat / 2 ^ 10 % 4096 + 1, cols := desc.toNat / 2 ^ 22 % 4096 + 1, g := desc.toNat % 64 + 1
    op := op, n := cnt.toNat / 2 ^ 16 % 1024 + 1, arrived := [], windows := [], aflags := 0, spill := spill, data := 0 }

/-- An ABSENT version with room in the ways and for its entry is created as the operands give it. -/
theorem State.vopenAt_opened {desc : Word} (cnt : Word) (acc : Bool) (op : Nat) (replay : Bool) (habs : (s.versionOrNew ctx h).state = .absent)
    (hroom : s.granulesUsed (slotSlice (s.versionOrNew ctx h).slot) + (desc.toNat % 64 + 1) ≤ s.wayGranules (slotSlice (s.versionOrNew ctx h).slot))
    (hneed : s.entryNeed ctx h = 0) :
    ∃ spill, s.vopenAt ctx h desc cnt acc op replay =
      (0, (s.unholdFull ctx h).setVersion ((s.versionOrNew ctx h).opened desc cnt acc op replay spill)) := by
  have hmake : s.makeRoom (slotSlice (s.versionOrNew ctx h).slot) (desc.toNat % 64 + 1) 0 = some s := by
    simp [State.makeRoom, Nat.sub_eq_zero_of_le hroom]
  have hg : bitsOf 5 0 desc.toNat = desc.toNat % 64 := by simp [bitsOf]
  simp only [State.vopenAt, habs, hneed, hg, hmake, ne_eq, not_true_eq_false, if_false]
  refine ⟨(s.unholdFull ctx h).bornSpilled (slotSlice (s.versionOrNew ctx h).slot) (desc.toNat % 64 + 1), ?_⟩
  simp [Version.opened, bitsOf, Nat.shiftRight_eq_div_pow]

theorem execVersionOpenAtHome_own {desc cnt : Word} {acc : Bool} {op : Nat} (hdue : Claims.Due s rid m) (hown : s.nameHome m.ctx h = .own)
    (hop : m.op = .vopen h desc cnt acc op replay) :
    exec (.versionOpenAtHome rid) s = .next (if (s.vopenAt m.ctx h desc cnt acc op replay).1 = 2 then (s.vopenAt m.ctx h desc cnt acc op replay).2
      else (s.vopenAt m.ctx h desc cnt acc op replay).2.ackMsg rid m (s.vopenAt m.ctx h desc cnt acc op replay).1) := by
  have hready : s.ready rid = some m := hdue
  simp only [exec, execVersionOpenAtHome, hready, hop, State.versionHome, hown]

/-- VOPEN of an ABSENT version for which there is room: the entry is created and the slot's request is answered. -/
theorem execVersionOpenAtHome_absent {desc cnt : Word} {acc : Bool} {op : Nat} (hdue : Claims.Due s rid m) (hown : s.nameHome m.ctx h = .own)
    (hop : m.op = .vopen h desc cnt acc op replay) (habs : (s.versionOrNew m.ctx h).state = .absent)
    (hroom : s.granulesUsed (slotSlice (s.versionOrNew m.ctx h).slot) + (desc.toNat % 64 + 1) ≤
      s.wayGranules (slotSlice (s.versionOrNew m.ctx h).slot))
    (hneed : s.entryNeed m.ctx h = 0) (hstalls : m.stalls = true) :
    ∃ t spill, exec (.versionOpenAtHome rid) s = .next t ∧
      t.version m.ctx h = some ((s.versionOrNew m.ctx h).opened desc cnt acc op replay spill) ∧
      kget t.msgs rid = some { m with answer := some 0 } := by
  obtain ⟨spill, hopened⟩ := State.vopenAt_opened cnt acc op replay habs hroom hneed
  refine ⟨_, spill, execVersionOpenAtHome_own hdue hown hop, ?_, ?_⟩
  · rw [hopened, if_neg (show (0 : Nat) ≠ 2 by decide), State.ackMsg_stalls hstalls]
    exact State.version_setVersion_of_key (s.unholdFull m.ctx h) (s.versionOrNew_key m.ctx h)
  · rw [hopened, if_neg (show (0 : Nat) ≠ 2 by decide), State.ackMsg_stalls hstalls, State.msgs_modMsg, if_pos rfl, State.setVersion_msgs,
      State.unholdFull_msgs, State.kget_of_ready hdue]
    rfl

/-! ### STV, VSEAL, VACC (10 R205, R208, R209, R218) -/

theorem execVersionStoreAtHome_own {off size data : Nat} (hdue : Claims.Due s rid m) (hown : s.nameHome m.ctx h = .own)
    (hop : m.op = .vstore h off size data replay) :
    exec (.versionStoreAtHome rid) s = .next ((s.vstoreAt m.ctx h off size data replay).2.versionDone rid m h
      (s.vstoreAt m.ctx h off size data replay).1) := by
  have hready : s.ready rid = some m := hdue
  simp only [exec, execVersionStoreAtHome, hready, hop, State.versionStep_own hown]

theorem execVersionSealAtHome_own {poison : Bool} {fl : Nat} (hdue : Claims.Due s rid m) (hown : s.nameHome m.ctx h = .own)
    (hop : m.op = .vseal h replay poison fl) :
    exec (.versionSealAtHome rid) s = .next ((s.vsealAt m.ctx h replay poison fl).2.versionDone rid m h (s.vsealAt m.ctx h replay poison fl).1) := by
  have hready : s.ready rid = some m := hdue
  simp only [exec, execVersionSealAtHome, hready, hop, State.versionStep_own hown]

/-- A seal that an OPEN version takes: one that does not combine. -/
theorem State.vsealAt_open (poison : Bool) (fl : Nat) (hv : Claims.Open s ctx h v) (hacc : v.acc = false) :
    s.vsealAt ctx h replay poison fl = (0, s.sealVersion { v with
      rpl := v.rpl || replay, state := if poison then .poisoned else .vopen, aflags := v.aflags ||| BitVec.ofNat 6 fl }) := by
  obtain ⟨hv, hopen⟩ := hv
  simp [State.vsealAt, hv, hopen, hacc, Version.shut]

theorem execVersionContribution_own {j w data : Nat} (hdue : Claims.Due s rid m) (hown : s.nameHome m.ctx h = .own)
    (hop : m.op = .vacc h j w data replay) :
    exec (.versionContribution rid) s = .next ((s.vaccAt m.ctx h j w data replay).2.versionDone rid m h (s.vaccAt m.ctx h j w data replay).1) := by
  have hready : s.ready rid = some m := hdue
  simp only [exec, execVersionContribution, hready, hop, State.versionStep_own hown]

/-- A contribution keeps how many there are to be. -/
theorem Version.contribute_open {j w data : Nat} (hopen : v.state = .vopen) :
    (v.contribute j w data replay).arrived.length = v.arrived.length + 1 ∧ (v.contribute j w data replay).n = v.n := by
  simp [Version.contribute, hopen]

/-- A contribution with a new index that an OPEN version takes, the last of which seals it. -/
theorem State.vaccAt_open {j w : Nat} (data : Nat) (hv : Claims.Open s ctx h v) (hacc : v.acc = true) (hj : j < v.n)
    (hnew : v.arrived.contains j = false) (hwindow : 512 * (w + 1) ≤ 4096 * v.g) :
    s.vaccAt ctx h j w data replay = (0, if v.arrived.length + 1 = v.n then
      (s.setVersion (v.contribute j w data replay)).sealVersion (v.contribute j w data replay)
      else s.setVersion (v.contribute j w data replay)) := by
  obtain ⟨hv, hopen⟩ := hv
  obtain ⟨hlen, hn⟩ := Version.contribute_open (j := j) (w := w) (data := data) (replay := replay) hopen
  have hmem : j ∉ v.arrived := by simpa using hnew
  simp [State.vaccAt, hv, hopen, hacc, hmem, Version.shut, hlen, hn, Nat.not_le.2 hj, Nat.not_lt.2 hwindow]
  split <;> rfl

/-! ### VREF, VREL, VPROBE (10 R215, R216) -/

theorem execVersionCountChange_vref {n : Nat} (hdue : Claims.Due s rid m) (hown : s.nameHome m.ctx h = .own) (hop : m.op = .vref h n replay) :
    exec (.versionCountChange rid) s = .next ((s.vrefAt m.ctx h n replay).2.versionDone rid m h (s.vrefAt m.ctx h n replay).1) := by
  have hready : s.ready rid = some m := hdue
  simp only [exec, execVersionCountChange, hready, hop, State.versionStep_own hown]

theorem execVersionCountChange_vrel {n : Nat} (hdue : Claims.Due s rid m) (hown : s.nameHome m.ctx h = .own) (hop : m.op = .vrel h n replay) :
    exec (.versionCountChange rid) s = .next ((s.vrelAt m.ctx h n replay).2.versionDone rid m h (s.vrelAt m.ctx h n replay).1) := by
  have hready : s.ready rid = some m := hdue
  simp only [exec, execVersionCountChange, hready, hop, State.versionStep_own hown]

/-- References that a version which counts its consumers takes. -/
theorem State.vrefAt_counted {n : Nat} (hv : s.version ctx h = some v) (habs : v.state ≠ .absent) (hdead : v.state ≠ .dead)
    (hmanual : v.manual = false) (hn : 0 < n) (hcount : v.count + n ≤ 4095) :
    s.vrefAt ctx h n false = (0, s.setVersion { v with count := v.count + n }) := by
  simp [State.vrefAt, hv, habs, hdead, hmanual, Nat.ne_of_gt hn, Nat.not_lt.2 hcount]

/-- Releases of a COMPLETE version that counts its consumers: reclaim starts when none is left. -/
theorem State.vrelAt_complete (n : Nat) (hv : s.version ctx h = some v) (hst : v.state = .complete) (hmanual : v.manual = false) :
    s.vrelAt ctx h n false = (0, if v.count ≤ n then s.reclaimStart { v with count := 0 } else s.setVersion { v with count := v.count - n }) := by
  have hat : s.vrelAt ctx h n false = (0, s.settle { v with count := v.count - n }) := by simp [State.vrelAt, hv, hst, hmanual]
  rw [hat]
  split
  · rename_i hle
    have hspent : ({ v with count := v.count - n } : Version).spent = true := by simp [Version.spent, hmanual, hst, Nat.sub_eq_zero_of_le hle]
    rw [State.settle_of_spent s hspent, Nat.sub_eq_zero_of_le hle]
  · rename_i hlt
    have hleft : ({ v with count := v.count - n } : Version).spent = false := by
      simp only [Version.spent, hmanual, Bool.not_false, Bool.true_and, Bool.and_eq_false_imp, beq_iff_eq]
      omega
    rw [State.settle_of_not_spent s hleft]

theorem execVersionProbeAtHome_own (hdue : Claims.Due s rid m) (hown : s.nameHome m.ctx h = .own) (hop : m.op = .vprobe h) :
    exec (.versionProbeAtHome rid) s = .next (s.answerMsg rid m (s.probeAt m.ctx h) []) := by
  have hready : s.ready rid = some m := hdue
  simp only [exec, execVersionProbeAtHome, hready, hop, State.versionHome, hown]

/-- Settles O23: each request is its function at the home, and the function's lemma says what it writes. -/
theorem versionRequestsAtHome : Obligations.VersionRequestsAtHome := by
  unfold Obligations.VersionRequestsAtHome
  refine fun s rid m h hdue hown => ⟨fun desc cnt acc op replay v hop hv habs hroom hneed hstalls => ?vopen,
    fun off size data replay v hop hv hacc hsize _ => ?vstore, fun replay poison fl v hop hv hacc => ?vseal,
    fun j w data replay v hop hv hacc hj hnew hwindow => ?vacc, fun n v hop hv habs hdead hmanual hn hcount => ?vref,
    fun n v hop hv hst hmanual => ?vrel, fun hop => ?vprobe⟩
  case vopen =>
    subst hv
    obtain ⟨t, spill, hexec, hw, hz⟩ := execVersionOpenAtHome_absent hdue hown hop habs hroom hneed hstalls
    exact ⟨t, _, _, hexec, hw, rfl, rfl, rfl, rfl, rfl, rfl, rfl, rfl, rfl, rfl, rfl, rfl, rfl, rfl, rfl, rfl, hz, rfl⟩
  case vstore =>
    obtain ⟨hv, hopen⟩ := hv
    rw [execVersionStoreAtHome_own hdue hown hop, State.vstoreAt_open data replay hv hopen hacc hsize, State.versionDone_zero]
  case vseal =>
    rw [execVersionSealAtHome_own hdue hown hop, State.vsealAt_open poison fl hv hacc, State.versionDone_zero]
  case vacc =>
    rw [execVersionContribution_own hdue hown hop, State.vaccAt_open data hv hacc hj hnew hwindow, State.versionDone_zero]
  case vref =>
    rw [execVersionCountChange_vref hdue hown hop, State.vrefAt_counted hv habs hdead hmanual hn hcount, State.versionDone_zero]
  case vrel =>
    rw [execVersionCountChange_vrel hdue hown hop, State.vrelAt_complete n hv hst hmanual, State.versionDone_zero]
  case vprobe =>
    rw [execVersionProbeAtHome_own hdue hown hop]
    rfl

end Sys2Proof.Machine
end

section
/-!
The version instructions: the requests that leave with them, and the deposits of those that ask for a value (10 R198, R207 to R209, R213,
R216, R218).
-/

namespace Sys2Proof.Machine

/-! ### Fields of operands -/

theorem bitsOf_three_one (m : Nat) : bitsOf 3 1 m = m / 2 % 8 := by simp [bitsOf, Nat.shiftRight_eq_div_pow]

/-- Index and window of VACC's operand (10 R218). -/
theorem bitsOf_contribution (n : Nat) : bitsOf 9 0 n = n % 1024 ∧ bitsOf 24 16 n = n / 2 ^ 16 % 512 := by
  simp [bitsOf, Nat.shiftRight_eq_div_pow]

/-- Number and range of VNAME's operand (10 R198). -/
theorem bitsOf_names (n : Nat) : bitsOf 11 0 n = n % 4096 ∧ bitsOf 19 16 n = n / 2 ^ 16 % 16 := by
  simp [bitsOf, Nat.shiftRight_eq_div_pow]

theorem hName_eq (h : Word) : hName h = h.toNat % 2 ^ 32 := by simp [hName, bitsOf]

/-- A scalar operand and its events are what is read of its register. -/
theorem Slot.readUe_scalar (x : Slot) (v : Nat) : x.readUe (x.reg .scalar v) 64 = ((x.operand v).toNat, x.operandUe v) :=
  Prod.ext (x.operand_toNat v).symm rfl

theorem Slot.markEmpty_pc (x : Slot) (l : Loc) (len : Nat) : (x.markEmpty l len).pc = x.pc := by cases l <;> rfl

/-! ### Requests of the slot -/

section
variable {s : State} {x : Slot} {c : Chain} {o : OpInfo} {body : Body} {m : Msg} {bytes : Nat} {ue : List UeEvent} (h : Turn s o c x)

/-- The die with a deposit noted and its request at the port. -/
def State.askFor (s : State) (sid : Nat) (z : Dep) (m : Msg) (bytes : Nat) : State :=
  (({ s.newId.2 with deps := kset s.deps s.o.nextId z } : State).request sid m false bytes).2

include h

/-- An instruction whose body sends a request and goes on. -/
theorem Turn.issue_sentOff {release : Bool}
    (hbody : body s.o.cur c x s = ((s.request s.o.cur m release bytes).2, .ok (.set (x.leaveMem c ue)))) :
    s.issue o c body = Claims.sentOff s x c m release bytes ue := by
  rw [h.issue, hbody, Claims.sentOff, ← settled_leaveMem s rfl]
  rfl

/-- An instruction whose body notes an empty deposit for its destination and asks for the value goes on with the destination empty. -/
theorem Turn.issue_asked {d : Reg} {op : MsgOp} {isLoad : Bool} {z : Dep}
    (hbody : body s.o.cur c x s = (s.askFor s.o.cur z m bytes, .ok (.set ((x.markEmpty d.loc d.size).leaveMem c ue))))
    (hz : z.sid = s.o.cur ∧ z.dst = d.loc ∧ z.len = d.size ∧ z.mask = ones (8 * d.size) ∧ z.outstanding = 1 ∧ z.nack = none ∧ z.fault = none ∧
      z.done = false)
    (hm : m.sid = some s.o.cur ∧ m.ctx = x.ctx ∧ m.op = op ∧ m.dep = some s.o.nextId ∧ m.isLoad = isLoad ∧ m.sent = false ∧ m.answer = none) :
    Claims.Asked s (s.issue o c body) x c d op isLoad ue := by
  have hleft := settled_leaveMem s (x.markEmpty_pc d.loc d.size) c ue
  rw [h.issue, hbody]
  refine ⟨?slot, ⟨z, kget_kset_same .., hz⟩, ⟨_, kget_kset_same .., hm⟩, fun r hr => ⟨?msgs, ?deps⟩, rfl, rfl, fun _ => rfl, fun k hk => ?others⟩
  case slot => exact (kget_kset_same ..).trans (congrArg some hleft)
  case msgs => exact kget_kset_other _ _ (Nat.ne_of_lt (Nat.lt_succ_of_lt hr))
  case deps => exact kget_kset_other _ _ (Nat.ne_of_lt hr)
  case others => exact kget_kset_other _ _ hk

end

/-! ### The bodies -/

section
variable {s : State} {x : Slot} {c : Chain} (hfree : Claims.Unheld s x)
include hfree

theorem stvBody_eq {v : Reg} (hv : v = x.reg (if c.mod.toNat.testBit 0 then .tile else .vector) c.a.toNat)
    (hu : Usable x [v, x.reg .scalar c.b.toNat, x.reg .scalar c.c.toNat] [v, x.reg .scalar c.b.toNat, x.reg .scalar c.c.toNat] [])
    (halign : (x.operand c.c.toNat).toNat % v.size = 0) :
    stvBody s.o.cur c x s = ((s.request s.o.cur { s.versionMsg s.o.cur x (x.operand c.b.toNat)
        (.vstore (x.operand c.b.toNat) (x.operand c.c.toNat).toNat v.size (x.readUe v 8).1 x.replay) with isStore := true } false v.size).2,
      .ok (.set (x.leaveMem c ((x.readUe v 8).2 ++ x.operandUe c.b.toNat ++ x.operandUe c.c.toNat)))) := by
  subst hv
  simp only [stvBody, State.memHold_of_unheld hfree, hu.check, Slot.readUe_scalar, halign, ne_eq, not_true_eq_false, if_false,
    BitVec.ofNat_toNat, BitVec.setWidth_eq]

theorem vopenBody_eq (hu : Usable x [x.reg .scalar c.a.toNat, x.reg .scalar c.b.toNat, x.reg .scalar c.c.toNat]
      [x.reg .scalar c.a.toNat, x.reg .scalar c.b.toNat, x.reg .scalar c.c.toNat] [])
    (hname : (x.operand c.a.toNat).toNat % 2 ^ 32 ≠ 0xFFFFFFFF) {r : Nat} {t : State}
    (hr : s.request s.o.cur { s.versionMsg s.o.cur x (x.operand c.a.toNat) (.vopen (x.operand c.a.toNat) (x.operand c.b.toNat) (x.operand c.c.toNat)
      (c.mod.toNat.testBit 0) (c.mod.toNat / 2 % 8) x.replay) with stalls := true } false 32 = (r, t)) :
    vopenBody s.o.cur c x s = (t, .ok (.answer r { ue := x.operandUe c.a.toNat ++ x.operandUe c.b.toNat ++ x.operandUe c.c.toNat })) := by
  simp only [vopenBody, State.memHold_of_unheld hfree, hu.check, Slot.readUe_scalar, BitVec.ofNat_toNat, BitVec.setWidth_eq, hName_eq, hname,
    if_false, bitsOf_three_one, hr]

theorem vsealBody_eq (hu : Usable x [x.reg .scalar c.a.toNat] [x.reg .scalar c.a.toNat] []) :
    vsealBody s.o.cur c x s = ((s.request s.o.cur { s.versionMsg s.o.cur x (x.operand c.a.toNat)
        (.vseal (x.operand c.a.toNat) x.replay false 0) with isStore := true, fab := true } true 32).2,
      .ok (.set (x.leaveMem c (x.operandUe c.a.toNat)))) := by
  simp only [vsealBody, State.memHold_of_unheld hfree, hu.check, Slot.readUe_scalar, BitVec.ofNat_toNat, BitVec.setWidth_eq]

theorem vaccBody_eq {v : Reg} (hv : v = x.reg .vector c.a.toNat)
    (hu : Usable x [v, x.reg .scalar c.b.toNat, x.reg .scalar c.c.toNat] [v, x.reg .scalar c.b.toNat, x.reg .scalar c.c.toNat] []) :
    vaccBody s.o.cur c x s = ((s.request s.o.cur { s.versionMsg s.o.cur x (x.operand c.b.toNat)
        (.vacc (x.operand c.b.toNat) ((x.operand c.c.toNat).toNat % 1024) ((x.operand c.c.toNat).toNat / 2 ^ 16 % 512) (x.readUe v 32).1 x.replay) with
          isStore := true, fab := true } true 512).2,
      .ok (.set (x.leaveMem c ((x.readUe v 32).2 ++ x.operandUe c.b.toNat ++ x.operandUe c.c.toNat)))) := by
  subst hv
  simp only [vaccBody, State.memHold_of_unheld hfree, hu.check, Slot.readUe_scalar, BitVec.ofNat_toNat, BitVec.setWidth_eq, bitsOf_contribution]

theorem countBody_eq (op : Word → Nat → Bool → MsgOp)
    (hu : Usable x [x.reg .scalar c.a.toNat, x.reg .scalar c.b.toNat] [x.reg .scalar c.a.toNat, x.reg .scalar c.b.toNat] []) :
    countBody op s.o.cur c x s = ((s.request s.o.cur { s.versionMsg s.o.cur x (x.operand c.a.toNat)
        (op (x.operand c.a.toNat) ((x.operand c.b.toNat).toNat % 4096) x.replay) with isStore := true, ordered := true } false 32).2,
      .ok (.set (x.leaveMem c (x.operandUe c.a.toNat ++ x.operandUe c.b.toNat)))) := by
  simp only [countBody, State.memHold_of_unheld hfree, hu.check, Slot.readUe_scalar, BitVec.ofNat_toNat, BitVec.setWidth_eq]

end

/-- The deposit of a version load or probe, with its request as it is sent again (18 R363). -/
def versionDep (sid : Nat) (d : Reg) (again : Msg) : Dep :=
  { sid := sid, dst := d.loc, len := d.size, mask := ones (8 * d.size), isLoad := true, sent := [again] }

/-- The request of a version load or probe. -/
def State.versionAsk (s : State) (sid : Nat) (x : Slot) (h : Word) (op : MsgOp) : Msg :=
  { s.versionMsg sid x h op with dep := some s.o.nextId, isLoad := true }

/-- What LDV asks for, and LDVL with size 0: the window that their operand and MOD give (10 R213). -/
def Slot.windowLoad (x : Slot) (c : Chain) (size : Nat) : VLoad :=
  { off := (x.operand c.c.toNat).toNat, size := size, cons := c.mod.toNat.testBit 1, pt := c.mod.toNat.testBit 2, replay := x.replay }

theorem State.sendVLoad_eq (s : State) (x : Slot) (c : Chain) (d : Reg) (h : Word) (op again : MsgOp) (ue : List UeEvent) :
    s.sendVLoad s.o.cur x c d h op again ue =
      (s.askFor s.o.cur (versionDep s.o.cur d (s.versionAsk s.o.cur x h again)) (s.versionAsk s.o.cur x h op) d.size,
        .ok (.set ((x.markEmpty d.loc d.size).leaveMem c ue))) := rfl

/-- An instruction that sends a version load or probe. -/
theorem Turn.issue_sendVLoad {s : State} {x : Slot} {c : Chain} {o : OpInfo} {body : Body} (h : Turn s o c x) {d : Reg} {g : Word}
    {op again : MsgOp} {ue : List UeEvent} (hbody : body s.o.cur c x s = s.sendVLoad s.o.cur x c d g op again ue) :
    Claims.Asked s (s.issue o c body) x c d op true ue :=
  h.issue_asked (hbody.trans (s.sendVLoad_eq x c d g op again ue)) ⟨rfl, rfl, rfl, rfl, rfl, rfl, rfl, rfl⟩ ⟨rfl, rfl, rfl, rfl, rfl, rfl, rfl⟩

section
variable {s : State} {x : Slot} {c : Chain} (hfree : Claims.Unheld s x)
include hfree

theorem ldvBody_eq {d : Reg} (hd : d = x.reg (if c.mod.toNat.testBit 0 then .tile else .vector) c.a.toNat)
    (hu : Usable x [d, x.reg .scalar c.b.toNat, x.reg .scalar c.c.toNat] [x.reg .scalar c.b.toNat, x.reg .scalar c.c.toNat] [d])
    (halign : (x.operand c.c.toNat).toNat % d.size = 0) :
    ldvBody s.o.cur c x s = s.sendVLoad s.o.cur x c d (x.operand c.b.toNat) (.vload (x.operand c.b.toNat) (x.windowLoad c d.size) 0)
      (.vload (x.operand c.b.toNat) { x.windowLoad c d.size with cons := false } 0) (x.operandUe c.b.toNat ++ x.operandUe c.c.toNat) := by
  subst hd
  simp only [ldvBody, State.memHold_of_unheld hfree, hu.check, Slot.readUe_scalar, halign, ne_eq, not_true_eq_false, if_false, BitVec.ofNat_toNat,
    BitVec.setWidth_eq, Slot.windowLoad]

theorem ldvlBody_eq (hu : Usable x [x.reg .scalar c.a.toNat, x.reg .scalar c.b.toNat, x.reg .scalar c.c.toNat]
      [x.reg .scalar c.b.toNat, x.reg .scalar c.c.toNat] [x.reg .scalar c.a.toNat])
    (halign : (x.operand c.c.toNat).toNat % 512 = 0) :
    ldvlBody s.o.cur c x s = s.sendVLoad s.o.cur x c (x.reg .scalar c.a.toNat) (x.operand c.b.toNat)
      (.vload (x.operand c.b.toNat) (x.windowLoad c 0) (x.operand c.c.toNat).toNat)
      (.vload (x.operand c.b.toNat) { x.windowLoad c 0 with cons := false } (x.operand c.c.toNat).toNat) (x.operandUe c.b.toNat ++ x.operandUe c.c.toNat) := by
  simp only [ldvlBody, State.memHold_of_unheld hfree, hu.check, Slot.readUe_scalar, halign, ne_eq, not_true_eq_false, if_false, BitVec.ofNat_toNat,
    BitVec.setWidth_eq, Slot.windowLoad]

theorem vprobeBody_eq (hu : Usable x [x.reg .scalar c.a.toNat, x.reg .scalar c.b.toNat] [x.reg .scalar c.b.toNat] [x.reg .scalar c.a.toNat]) :
    vprobeBody s.o.cur c x s = s.sendVLoad s.o.cur x c (x.reg .scalar c.a.toNat) (x.operand c.b.toNat) (.vprobe (x.operand c.b.toNat))
      (.vprobe (x.operand c.b.toNat)) (x.operandUe c.b.toNat) := by
  simp only [vprobeBody, State.memHold_of_unheld hfree, hu.check, Slot.readUe_scalar, BitVec.ofNat_toNat, BitVec.setWidth_eq]

/-- VNAME asks for the next names of a range, as many as its operand gives. -/
theorem Turn.issue_vname (h : Turn s opVname c x)
    (hu : Usable x [x.reg .scalar c.a.toNat, x.reg .scalar c.b.toNat] [x.reg .scalar c.b.toNat] [x.reg .scalar c.a.toNat]) :
    Claims.Asked s (s.issue opVname c vnameBody) x c (x.reg .scalar c.a.toNat)
      (.vname ((x.operand c.b.toNat).toNat % 4096 + 1) ((x.operand c.b.toNat).toNat / 2 ^ 16 % 16)) false (x.operandUe c.b.toNat) := by
  have hsize : (x.reg .scalar c.a.toNat).size = 8 := x.reg_size .scalar c.a.toNat
  refine h.issue_asked (z := { sid := s.o.cur, dst := (x.reg .scalar c.a.toNat).loc, len := 8, mask := ones 64, idem := false })
    (m := { s.versionMsg s.o.cur x (BitVec.ofNat 64 ((x.operand c.b.toNat).toNat / 2 ^ 16 % 16 * 2 ^ 28))
      (.vname ((x.operand c.b.toNat).toNat % 4096 + 1) ((x.operand c.b.toNat).toNat / 2 ^ 16 % 16)) with
        dep := some s.o.nextId, nackVal := x.operand c.b.toNat }) (bytes := 32) ?body ⟨rfl, rfl, hsize.symm, ?mask, rfl, rfl, rfl, rfl⟩
    ⟨rfl, rfl, rfl, rfl, rfl, rfl, rfl⟩
  case mask => rw [hsize]
  case body =>
    simp only [vnameBody, State.memHold_of_unheld hfree, hu.check, Slot.readUe_scalar, BitVec.ofNat_toNat, BitVec.setWidth_eq, bitsOf_names, hsize]
    rfl

end

/-- Settles O22: each instruction issues its body, and the body's lemma gives the request that leaves. -/
theorem versionInstructionsLeave : Obligations.VersionInstructionsLeave := by
  unfold Obligations.VersionInstructionsLeave
  rintro s x c m a b n rfl hfree rfl rfl rfl
  refine ⟨fun h hu hname => ?vopen, fun v hv h hu halign => ?vstore, fun h hu => ?vseal, fun v hv h hu => ?vacc, fun e he h hu => ?count,
    fun d hd h hu halign => ?ldv, fun h hu halign => ?ldvl, fun h hu => ?vprobe, fun h hu => ?vname⟩
  case vopen =>
    refine ⟨_, _, rfl, congrArg Host.Outcome.next ?_⟩
    rw [h.issue, vopenBody_eq hfree hu hname rfl]
  case vstore => exact congrArg Host.Outcome.next (h.issue_sentOff (stvBody_eq hfree hv hu halign))
  case vseal => exact congrArg Host.Outcome.next (h.issue_sentOff (vsealBody_eq hfree hu))
  case vacc => exact congrArg Host.Outcome.next (h.issue_sentOff (vaccBody_eq hfree hv hu))
  case count =>
    simp only [List.mem_cons, List.not_mem_nil, or_false] at he
    rcases he with rfl | rfl
    · exact congrArg Host.Outcome.next (h.issue_sentOff (countBody_eq hfree .vref hu))
    · exact congrArg Host.Outcome.next (h.issue_sentOff (countBody_eq hfree .vrel hu))
  case ldv => exact ⟨_, rfl, h.issue_sendVLoad (ldvBody_eq hfree hd hu halign)⟩
  case ldvl => exact ⟨_, rfl, h.issue_sendVLoad (ldvlBody_eq hfree hu halign)⟩
  case vprobe => exact ⟨_, rfl, h.issue_sendVLoad (vprobeBody_eq hfree hu)⟩
  case vname => exact ⟨_, rfl, h.issue_vname hfree hu⟩

end Sys2Proof.Machine
end

section
/-!
A consuming load of a COMPLETE version that counts its consumers and has none left (10 R204, R205, R216).
-/

namespace Sys2Proof.Machine

/-- A COMPLETE version that counts its consumers, with the count at 0. -/
def spentVersion : Version := { ctx := 1, handle := 0, state := .complete, sealed := true }

/-- A consuming load of the version's 4 KiB. -/
def consumingLoad : VLoad := { off := 0, size := 4096, cons := true, pt := false, replay := false }

/-- Its request, and the deposit that awaits the data. -/
def consumingLoadMsg : Msg :=
  { sid := none, ctx := 1, user := false, op := .vload 0 consumingLoad 0, pa := 0, after := [], dep := some 6 }
def consumingLoadDep : Dep := { sid := 0, dst := .o 1, len := 4096, mask := ones 32768 }

/-- A die at which name range 0 of context 1 is at home and that load is due as request 5. -/
def spentState : State := { State.reset with
  msgs := [(5, consumingLoadMsg)], deps := [(6, consumingLoadDep)], vs := { versions := [spentVersion] }, o := { nextId := 9 }
  cx := { ctxs := [(1, { state := .resident, nsmap := [some 0] })] } }

/-- The entry of the version after the load has reached the home. -/
def versionAfterLoad : Option Version :=
  match exec (.versionLoadAtHome 5) spentState with
  | .next t => t.version 1 0
  | _ => none

/-- The load takes nothing from a count of 0, so that the model leaves the entry as it is. -/
theorem versionAfterLoad_eq : versionAfterLoad = some spentVersion := by decide +kernel

theorem spentState_due : Claims.Due spentState 5 consumingLoadMsg ∧ spentState.nameHome 1 0 = .own ∧
    spentState.version 1 0 = some spentVersion ∧ spentState.loadRoom 1 0 = true := by
  unfold Claims.Due
  decide +kernel

/-- Refutes O24: its clause for consuming loads ranges over COMPLETE versions whose count is 0 already too, which neither a seal nor a
decrement leaves (both make them DEAD).  There the load changes nothing, so that the version stays COMPLETE where the clause has it DEAD. -/
theorem not_versionLoadsAndRefusals : ¬ Obligations.VersionLoadsAndRefusals := by
  unfold Obligations.VersionLoadsAndRefusals
  rintro ⟨-, hload⟩
  obtain ⟨hdue, hown, hversion, hroom⟩ := spentState_due
  obtain ⟨-, hcomplete, -⟩ := hload spentState 5 6 consumingLoadMsg 0 consumingLoad spentVersion consumingLoadDep hdue hown rfl rfl hversion rfl hroom
  obtain ⟨t, -, hexec, -, -, -, hcount⟩ := hcomplete rfl rfl (by decide) (by decide)
  obtain ⟨w, hw, -, -, hdead⟩ := hcount rfl rfl rfl
  have hafter : versionAfterLoad = t.version 1 0 := by rw [versionAfterLoad, hexec]
  have hsame : w = spentVersion := Option.some.inj (hw.symm.trans (hafter.symm.trans versionAfterLoad_eq))
  subst hsame
  exact absurd hdead (by decide)

end Sys2Proof.Machine
end

section
/-!
The return from a handler (18 R357).
-/

namespace Sys2Proof.Machine

/-- A number without the bits of a mask is the number less those bits. -/
theorem toNat_and_not {n : Nat} (w m : BitVec n) : (w &&& ~~~m).toNat = w.toNat - (w &&& m).toNat := by
  have hdisj : (w &&& ~~~m) &&& (w &&& m) = 0#n := by ext i hi; cases h : m[i] <;> simp [h]
  have hsum : (w &&& ~~~m) + (w &&& m) = w := by
    rw [BitVec.add_eq_or_of_and_eq_zero _ _ hdisj]
    ext i hi; cases h : m[i] <;> simp [h]
  have hnat := congrArg BitVec.toNat hsum
  rw [BitVec.toNat_add_of_and_eq_zero hdisj] at hnat
  omega

/-- A word whose bit 13 is written 0 (HACT of k.trapc, 18 R356). -/
theorem ofNat_setBits_bit13 (w : Word) : BitVec.ofNat 64 (setBits 13 13 w.toNat 0) = w &&& ~~~(0x2000#64) := by
  have hbit : (w &&& 0x2000#64).toNat = w.toNat / 2 ^ 13 % 2 * 2 ^ 13 := by
    have hone : (0x2000#64) = BitVec.twoPow 64 13 := by decide
    have hdiv : w.toNat / 2 ^ 13 % 2 = (w.getLsbD 13).toNat := (Nat.toNat_testBit w.toNat 13).symm
    rw [hone, BitVec.and_twoPow, hdiv]
    cases w.getLsbD 13 <;> rfl
  apply BitVec.eq_of_toNat_eq
  rw [toNat_and_not, hbit]
  simp only [setBits, bitsOf, Nat.shiftRight_eq_div_pow, BitVec.toNat_ofNat]
  omega

/-- Bit 0 of a word says whether its number is odd. -/
theorem toNat_mod_two (w : Word) : w.toNat % 2 = (w.getLsbD 0).toNat := by
  have h := Nat.toNat_testBit w.toNat 0
  rw [Nat.pow_zero, Nat.div_one] at h
  exact h.symm

/-- Settles O7: an odd k.epc asks for the trap, an even one leaves the slot as `Slot.eret` says. -/
theorem trapReturn : Obligations.TrapReturn := by
  unfold Obligations.TrapReturn
  intro s x c h hpass
  have hmod := toNat_mod_two x.epc
  constructor
  · intro hodd
    have hbody : eretBody s.o.cur c x s = (s, .error (.trap .align x.epc)) := by simp only [eretBody, hmod, hodd]; rfl
    exact congrArg Host.Outcome.next ((h.issue eretBody).trans (by rw [hbody]; rfl))
  · intro heven
    have hbody : eretBody s.o.cur c x s = (s, .ok (.set x.eret)) := by simp only [eretBody, hmod, heven, hpass]; rfl
    have hexec : s.issue opEret c eretBody = s.setSlot s.o.cur { x.eret with xlat := [], status := stallStatus s.t.cycle c.stall.toNat } :=
      (h.issue eretBody).trans (by rw [hbody]; rfl)
    refine ⟨_, congrArg Host.Outcome.next hexec, rfl, rfl, ofNat_setBits_bit13 _, rfl, fun hact => ?_, rfl⟩
    have hbit : x.trapc.toNat.testBit 13 = true := hact
    simp [Slot.eret, hbit]

end Sys2Proof.Machine
end

section
/-!
Instructions whose slot waits for an answer or asks for a value behind its own deposit, and the barrier instructions (17 R334 to R340).
-/

namespace Sys2Proof.Machine

/-! ### Requests for which the slot is STALLED -/

@[simp] theorem State.consumed_slot (s : State) (es : List UeEvent) (i : Nat) : (s.consumed es).slot i = s.slot i := by
  unfold State.consumed; split <;> rfl

@[simp] theorem State.consumed_msgs (s : State) (es : List UeEvent) : (s.consumed es).msgs = s.msgs := by
  unfold State.consumed; split <;> rfl

@[simp] theorem State.consumed_mem (s : State) (es : List UeEvent) : (s.consumed es).mem = s.mem := by
  unfold State.consumed; split <;> rfl

@[simp] theorem State.consumed_core (s : State) (es : List UeEvent) (i : Nat) : (s.consumed es).core i = s.core i := by
  unfold State.consumed; split <;> rfl

/-- An effect without a result captures its events. -/
theorem Slot.applyEffect_ue (x : Slot) (cycle : Nat) (ue : List UeEvent) : x.applyEffect cycle { ue := ue } = x.captureAll ue := by
  simp [Slot.applyEffect, Slot.applyWrites]

/-- The message of a slot's request as it stands at the port of the slot's core. -/
def State.requested (s : State) (sid : Nat) (m : Msg) (release : Bool) (bytes : Nat) : Msg :=
  { m with after := s.orderAfter sid m release ++ m.after, rel := release
           port := some { core := sid / 16, cost := portCost bytes, since := s.t.cycle } }

/-- A deposit that has just been noted, changed. -/
theorem State.modDep_noted (s : State) (r : Nat) (z : Dep) (f : Dep → Dep) :
    ({ s with deps := kset s.deps r z } : State).modDep r f = { s with deps := kset s.deps r (f z) } := by
  simp [State.modDep, kmod]

theorem State.request_eq (s : State) (sid : Nat) (m : Msg) (release : Bool) (bytes : Nat) :
    s.request sid m release bytes = (s.o.nextId, s.newId.2.post s.o.nextId (s.requested sid m release bytes)) := rfl

/-- The die with a deposit noted and its request at the port, behind the slot's earlier accesses when it is a release. -/
def State.noteAsk (s : State) (sid : Nat) (z : Dep) (m : Msg) (release : Bool) (bytes : Nat) : State :=
  (({ s.newId.2 with deps := kset s.deps s.o.nextId z } : State).request sid m release bytes).2

theorem State.kget_noteAsk_msgs (s : State) (sid : Nat) (z : Dep) (m : Msg) (release : Bool) (bytes : Nat) {r : Nat} (hr : r < s.o.nextId) :
    kget (s.noteAsk sid z m release bytes).msgs r = kget s.msgs r := kget_kset_other _ _ (Nat.ne_of_lt (Nat.lt_succ_of_lt hr))

section
variable {s u : State} {x : Slot} {c : Chain} {o : OpInfo} {body : Body} (h : Turn s o c x) (hframe : LineFrame s u)
include h hframe

/-- An instruction whose body sends a request for whose answer the slot waits. -/
theorem Turn.issue_stalled {m : Msg} {release : Bool} {bytes : Nat} {ue : List UeEvent} {p : Msg → Prop}
    (hbody : body s.o.cur c x s = ((u.request s.o.cur m release bytes).2, .ok (.answer u.o.nextId { ue := ue })))
    (hm : m.sid = some s.o.cur ∧ m.ctx = x.ctx ∧ m.stalls = true ∧ m.answer = none ∧ m.sent = false)
    (hp : ∀ after port, p { m with after := after, rel := release, port := port }) :
    Claims.Stalled s (s.issue o c body) x c ue p := by
  obtain ⟨hsid, hctx, hstalls, hanswer, hsent⟩ := hm
  rw [h.issue, hbody]
  refine ⟨u.o.nextId, ?slot, ⟨u.requested s.o.cur m release bytes, ?msg, hsid, hctx, hstalls, hanswer, hsent, hp _ _⟩, ?mem, fun i => ?loc, fun k hk => ?others⟩
  case slot =>
    refine (State.consumed_slot _ _ _).trans ((kget_kset_same ..).trans (congrArg some ?_))
    rw [Slot.applyEffect_ue, ← hframe.cycle]; rfl
  case msg => exact (congrArg (kget · _) (State.consumed_msgs _ _)).trans (kget_kset_same ..)
  case mem => exact (State.consumed_mem _ _).trans hframe.mem
  case loc => exact (congrArg CoreSt.loc (State.consumed_core _ _ i)).trans (hframe.loc i)
  case others => exact (State.consumed_slot _ _ _).trans ((kget_kset_other _ _ hk).trans (congrArg (kget · k) hframe.slots))

/-- An instruction whose body notes an empty deposit for its scalar destination and asks for the value goes on with the destination empty. -/
theorem Turn.issue_acquired {y : Slot} {d : Reg} {z : Dep} {m : Msg} {release : Bool} {bytes : Nat} {ue : List UeEvent} {p : Msg → Prop}
    (hbody : body s.o.cur c x s = (u.noteAsk s.o.cur z m release bytes, .ok (.set ((y.markEmpty d.loc 8).leaveMem c ue)))) (hy : y.pc = x.pc)
    (hz : z.sid = s.o.cur ∧ z.dst = d.loc ∧ z.len = 8 ∧ z.mask = ones 64 ∧ z.outstanding = 1 ∧ z.nack = none ∧ z.fault = none)
    (hm : m.sid = some s.o.cur ∧ m.ctx = x.ctx ∧ m.dep = some s.o.nextId ∧ m.sent = false ∧ m.answer = none)
    (hp : ∀ after port, p { m with after := after, rel := release, port := port }) :
    Claims.Acquired s (s.issue o c body) x y c d p ue := by
  obtain ⟨hsid, hctx, hdep, hsent, hanswer⟩ := hm
  have hleft := settled_leaveMem u ((y.markEmpty_pc d.loc 8).trans hy) c ue
  have hleft' : Claims.left u x (y.markEmpty d.loc 8) c ue = Claims.left s x (y.markEmpty d.loc 8) c ue := by
    simp only [Claims.left, hframe.cycle]
  rw [h.issue, hbody]
  refine ⟨?slot, ⟨z, ?dep, hz⟩, ⟨({ u.newId.2 with deps := kset u.deps u.o.nextId z } : State).requested s.o.cur m release bytes, ?msg, hsid, hctx, hdep, hsent, hanswer, hp _ _⟩, fun r hr => ⟨?msgs, ?deps⟩, hframe.mem, hframe.loc,
    fun k hk => ?others⟩
  case slot => exact (kget_kset_same ..).trans (congrArg some (hleft.trans hleft'))
  case dep => rw [← hframe.nextId]; exact kget_kset_same ..
  case msg => rw [← hframe.nextId]; exact kget_kset_same ..
  case msgs =>
    rw [← hframe.nextId] at hr
    show Claims.Kept _ (kget (u.noteAsk s.o.cur z m release bytes).msgs r)
    rw [u.kget_noteAsk_msgs s.o.cur z m release bytes hr]
    exact hframe.msgs r
  case deps =>
    rw [← hframe.nextId] at hr
    exact (kget_kset_other _ _ (Nat.ne_of_lt hr)).trans (congrArg (kget · r) hframe.deps)
  case others => exact (kget_kset_other _ _ hk).trans (congrArg (kget · k) hframe.slots)

end

/-- An instruction that gives its scalar destination a value at once. -/
theorem Turn.issue_given {s : State} {x y : Slot} {c : Chain} {o : OpInfo} {body : Body} (h : Turn s o c x) {d : Reg} {z : Dep} {u : State}
    {ue : List UeEvent} {v : Nat}
    (hbody : body s.o.cur c x s = ({ u with deps := kset s.deps s.o.nextId z }, .ok (.set ((y.markEmpty d.loc 8).leaveMem c ue))))
    (hu : u.o.cur = s.o.cur ∧ u.t = s.t ∧ u.slots = s.slots ∧ u.msgs = s.msgs ∧ u.mem = s.mem) (hy : y.pc = x.pc)
    (hz : z.sid = s.o.cur ∧ z.dst = d.loc ∧ z.len = 8 ∧ z.mask = ones 64 ∧ z.value = v ∧ z.outstanding = 0 ∧ z.nack = none ∧ z.fault = none ∧
      z.sx = none) :
    Claims.Given s (s.issue o c body) x y c d v ue := by
  obtain ⟨hcur, ht, hslots, hmsgs, hmem⟩ := hu
  have hleft := settled_leaveMem u ((y.markEmpty_pc d.loc 8).trans hy) c ue
  have hleft' : Claims.left u x (y.markEmpty d.loc 8) c ue = Claims.left s x (y.markEmpty d.loc 8) c ue := by simp only [Claims.left, ht]
  rw [h.issue, hbody]
  refine ⟨(kget_kset_same ..).trans (congrArg some (hleft.trans hleft')), ⟨z, kget_kset_same .., hz⟩,
    fun r hr => kget_kset_other _ _ (Nat.ne_of_lt hr), hmsgs, hmem, fun k hk => (kget_kset_other _ _ hk).trans (congrArg (kget · k) hslots)⟩

/-- An instruction whose body stops does what the stop says. -/
theorem Turn.issue_stop {s u : State} {x : Slot} {c : Chain} {o : OpInfo} {body : Body} (h : Turn s o c x) {st : Stop}
    (hbody : body s.o.cur c x s = (u, .error st)) : s.issue o c body = u.stopSlot s.o.cur x st := by
  rw [h.issue, hbody]

/-! ### BARI and BARI.clr (17 R335) -/

section
variable {s : State} {x : Slot} {c : Chain}

theorem bariBody_eq (hu : Usable x [x.reg .scalar c.a.toNat, x.reg .scalar c.b.toNat, x.reg .scalar c.c.toNat]
      [x.reg .scalar c.a.toNat, x.reg .scalar c.b.toNat, x.reg .scalar c.c.toNat] []) :
    bariBody s.o.cur c x s = if x.noBarrier (x.operand c.a.toNat) then (s, .error (noBar (x.operand c.a.toNat))) else
      ((s.request s.o.cur { s.barrierMsg s.o.cur x 0 (x.operand c.a.toNat) (x.operand c.b.toNat)
          (BitVec.ofNat 64 ((x.operand c.c.toNat).toNat % 256)) with stalls := true } false 32).2,
        .ok (.answer s.o.nextId { ue := x.operandUe c.a.toNat ++ x.operandUe c.b.toNat ++ x.operandUe c.c.toNat })) := by
  simp only [bariBody, hu.check, Slot.readUe_scalar, BitVec.ofNat_toNat, BitVec.setWidth_eq, State.request_eq]

theorem bariClrBody_eq (hu : Usable x [x.reg .scalar c.a.toNat] [x.reg .scalar c.a.toNat] []) :
    bariClrBody s.o.cur c x s = if x.noBarrier (x.operand c.a.toNat) then (s, .error (noBar (x.operand c.a.toNat))) else
      ((s.request s.o.cur { s.barrierMsg s.o.cur x 1 (x.operand c.a.toNat) 0 0 with stalls := true } false 32).2,
        .ok (.answer s.o.nextId { ue := x.operandUe c.a.toNat })) := by
  simp only [bariClrBody, hu.check, Slot.readUe_scalar, BitVec.ofNat_toNat, BitVec.setWidth_eq, State.request_eq]

/-! ### BARA, BARW, BARQ and BARX (17 R336 to R338) -/

/-- The deposit of a barrier's value, with its request as it is sent again (18 R363). -/
def barrierDep (sid : Nat) (d : Reg) (acquire again : Bool) (msg : Msg) : Dep :=
  { scalarDep sid d 1 0 with acq := acquire, idem := again, sent := if again then [msg] else [] }

theorem barrierBody_full (op : Nat) (release acquire ticket noDie : Bool) (hfull : ¬ Claims.Roomy s) :
    barrierBody op release acquire ticket noDie s.o.cur c x s = (s, .error (.hold .again)) := by
  simp only [barrierBody, Nat.not_lt.1 hfull, if_true]

/-- What an instruction with a ticket reads in its destination. -/
def Slot.ticketRead (x : Slot) (ticket : Bool) (v : Nat) : Nat × List UeEvent :=
  if ticket then ((x.operand v).toNat, x.operandUe v) else (0, [])

theorem barrierBody_eq (op : Nat) (release acquire ticket noDie : Bool) (hroom : Claims.Roomy s)
    (hu : Usable x [x.reg .scalar c.a.toNat, x.reg .scalar c.b.toNat]
      (x.reg .scalar c.b.toNat :: if ticket then [x.reg .scalar c.a.toNat] else []) [x.reg .scalar c.a.toNat]) {msg : Msg}
    (hmsg : msg = { s.barrierMsg s.o.cur x op (x.operand c.b.toNat) (BitVec.ofNat 64 ((x.ticketRead ticket c.a.toNat).1 % 2 ^ 32)) 0 with
      dep := some s.o.nextId }) :
    barrierBody op release acquire ticket noDie s.o.cur c x s =
      if x.noBarrier (x.operand c.b.toNat) || (noDie && bhDie (x.operand c.b.toNat)) then (s, .error (noBar (x.operand c.b.toNat))) else
        (s.noteAsk s.o.cur (barrierDep s.o.cur (x.reg .scalar c.a.toNat) acquire (op == 3 || op == 4) msg) msg release 32,
          .ok (.set ((x.markEmpty (x.reg .scalar c.a.toNat).loc 8).leaveMem c (x.operandUe c.b.toNat ++ (x.ticketRead ticket c.a.toNat).2)))) := by
  have hfree : ¬ 512 ≤ (s.deps.filter (fun (p : Nat × Dep) => p.2.sid == s.o.cur && p.2.len != 0)).length := Nat.not_le.2 hroom
  subst hmsg
  have hread : (if ticket then ((x.operand c.a.toNat).toNat, x.operandUe c.a.toNat) else (0, [])) = x.ticketRead ticket c.a.toNat := rfl
  simp only [barrierBody, hfree, if_false, hu.check, Slot.readUe_scalar, BitVec.ofNat_toNat, BitVec.setWidth_eq, hread]
  split
  · rfl
  · cases hagain : (op == 3 || op == 4)
    · rfl
    · simp only [if_true, State.newDep, State.modDep_noted]
      rfl

/-- An instruction with a barrier's value for its destination: held while 512 deposits are outstanding, refused without the barrier, else
asking for the value. -/
theorem Turn.issue_barrier {o : OpInfo} (h : Turn s o c x) (op : Nat) (release acquire ticket noDie : Bool) :
    (¬ Claims.Roomy s → s.issue o c (barrierBody op release acquire ticket noDie) = s.setSlot s.o.cur { x with status := .stalled .again }) ∧
    (Claims.Roomy s → Usable x [x.reg .scalar c.a.toNat, x.reg .scalar c.b.toNat]
        (x.reg .scalar c.b.toNat :: if ticket then [x.reg .scalar c.a.toNat] else []) [x.reg .scalar c.a.toNat] →
      ((x.noBarrier (x.operand c.b.toNat) || (noDie && bhDie (x.operand c.b.toNat))) = false →
        Claims.Acquired s (s.issue o c (barrierBody op release acquire ticket noDie)) x x c (x.reg .scalar c.a.toNat)
          (fun m => m.op = .barrier op (x.operand c.b.toNat) (BitVec.ofNat 64 ((x.ticketRead ticket c.a.toNat).1 % 2 ^ 32)) 0 x.group x.gthr.toNat ∧
            m.rel = release) (x.operandUe c.b.toNat ++ (x.ticketRead ticket c.a.toNat).2)) ∧
      ((x.noBarrier (x.operand c.b.toNat) || (noDie && bhDie (x.operand c.b.toNat))) = true →
        s.issue o c (barrierBody op release acquire ticket noDie) =
          s.takeTrap s.o.cur x .barrierBroken (barrierTval (x.operand c.b.toNat) 6) false)) := by
  refine ⟨fun hfull => h.issue_stop (barrierBody_full op release acquire ticket noDie hfull), fun hroom hu => ⟨fun hhas => ?_, fun hnone => ?_⟩⟩
  · refine h.issue_acquired (.refl s) ((barrierBody_eq op release acquire ticket noDie hroom hu rfl).trans (by rw [hhas]; rfl)) rfl
      ⟨rfl, rfl, rfl, rfl, rfl, rfl, rfl⟩ ⟨rfl, rfl, rfl, rfl, rfl⟩ fun _ _ => ⟨rfl, rfl⟩
  · exact h.issue_trap ((barrierBody_eq op release acquire ticket noDie hroom hu rfl).trans (by rw [hnone]; rfl))

end

/-- Settles O30: the bodies of BARI and BARI.clr send a request that the slot waits for, and those of the others are `barrierBody`. -/
theorem barrierInstructionsLeave : Obligations.BarrierInstructionsLeave := by
  unfold Obligations.BarrierInstructionsLeave
  rintro s x c _ _ _ rfl rfl rfl
  refine ⟨fun h hu => ⟨fun hnone => ?bariTraps, fun hhas => ⟨_, rfl, ?bari⟩⟩, fun h hu => ⟨fun hnone => ?clrTraps, fun hhas => ⟨_, rfl, ?clr⟩⟩, ?rest⟩
  case bariTraps => exact congrArg Host.Outcome.next (h.issue_trap ((bariBody_eq hu).trans (by rw [hnone]; rfl)))
  case bari =>
    exact h.issue_stalled (.refl s) ((bariBody_eq hu).trans (by rw [hhas]; rfl)) ⟨rfl, rfl, rfl, rfl, rfl⟩ fun _ _ => rfl
  case clrTraps => exact congrArg Host.Outcome.next (h.issue_trap ((bariClrBody_eq hu).trans (by rw [hnone]; rfl)))
  case clr =>
    exact h.issue_stalled (.refl s) ((bariClrBody_eq hu).trans (by rw [hhas]; rfl)) ⟨rfl, rfl, rfl, rfl, rfl⟩ fun _ _ => rfl
  case rest =>
    simp only [List.forall_mem_cons, List.not_mem_nil, false_imp_iff, implies_true, and_true]
    refine ⟨?bara, ?barw, ?barq, ?barx⟩
    case bara =>
      rintro _ _ _ rfl rfl rfl h
      obtain ⟨hfull, hroom⟩ := h.issue_barrier 2 true false false false
      exact ⟨fun hn => congrArg _ (hfull hn), fun hr hu hhas _ => ⟨_, rfl, (hroom hr hu).1 (by simpa using hhas)⟩,
        fun hr hu hnone => congrArg _ ((hroom hr hu).2 (by simpa using hnone))⟩
    case barw =>
      rintro _ _ _ rfl rfl rfl h
      obtain ⟨hfull, hroom⟩ := h.issue_barrier 3 false true true false
      exact ⟨fun hn => congrArg _ (hfull hn), fun hr hu hhas _ => ⟨_, rfl, by simpa [Slot.ticketRead] using (hroom hr hu).1 (by simpa using hhas)⟩,
        fun hr hu hnone => congrArg _ ((hroom hr hu).2 (by simpa using hnone))⟩
    case barq =>
      rintro _ _ _ rfl rfl rfl h
      obtain ⟨hfull, hroom⟩ := h.issue_barrier 4 false false false false
      exact ⟨fun hn => congrArg _ (hfull hn), fun hr hu hhas _ => ⟨_, rfl, (hroom hr hu).1 (by simpa using hhas)⟩,
        fun hr hu hnone => congrArg _ ((hroom hr hu).2 (by simpa using hnone))⟩
    case barx =>
      rintro _ _ _ rfl rfl rfl h
      obtain ⟨hfull, hroom⟩ := h.issue_barrier 5 true true false true
      exact ⟨fun hn => congrArg _ (hfull hn), fun hr hu hhas hdie => ⟨_, rfl, (hroom hr hu).1 (by simpa [hhas] using hdie trivial)⟩,
        fun hr hu hnone => congrArg _ ((hroom hr hu).2 (by simpa using hnone))⟩

end Sys2Proof.Machine
end

section
/-!
PUSHE, POPE, the accesses to exchange banks, MCST and GETT (13 R281; 19 R391 to R394).
-/

namespace Sys2Proof.Machine

/-! ### Operands (19 R391, R393) -/

theorem wdBytes_eq_width (wd : Nat) : wdBytes wd = Claims.width wd := by
  have h : wd % 4 = 0 ∨ wd % 4 = 1 ∨ wd % 4 = 2 ∨ wd % 4 = 3 := by omega
  rcases h with h | h | h | h <;> simp [wdBytes, Claims.width, h]

theorem bitsOf_low (n k : Nat) : bitsOf k 0 n = n % 2 ^ (k + 1) := by simp [bitsOf]

theorem remoteOff_eq (v : Word) (imm : Int) :
    remoteOff v.toNat imm = (BitVec.ofNat 64 (v.toNat % 2 ^ 17) + BitVec.ofInt 64 imm).toNat := by
  rw [remoteOff, wrapNat_ofInt, BitVec.ofInt_add, BitVec.ofInt_natCast, bitsOf_low]

/-- The agents of an MCST list: fields of 10 bits, at most six of them. -/
def mcstList (l : Nat) : List Nat := (List.range (min 6 (l / 2 ^ 60 % 8))).map (fun j => l / 2 ^ (10 * j) % 1024)

theorem mcstAgents_eq (l : Nat) : mcstAgents l = mcstList l := by
  have hcount : bitsOf 62 60 l = l / 2 ^ 60 % 8 := by simp [bitsOf, Nat.shiftRight_eq_div_pow]
  have hfield : ∀ j, bitsOf (10 * j + 9) (10 * j) l = l / 2 ^ (10 * j) % 1024 := by
    intro j
    have : 10 * j + 9 + 1 - 10 * j = 10 := by omega
    simp [bitsOf, Nat.shiftRight_eq_div_pow, this]
  simp only [mcstAgents, mcstList, hcount, hfield, Nat.min_comm]

theorem mcstList_ne_nil {l : Nat} (h : 0 < l / 2 ^ 60 % 8) : mcstList l ≠ [] := by
  simp only [mcstList, ne_eq, List.map_eq_nil_iff, List.range_eq_nil]
  omega

theorem mcstList_eq_nil {l : Nat} (h : l / 2 ^ 60 % 8 = 0) : mcstList l = [] := by rw [mcstList, h]; rfl

theorem Slot.markEmpty_acqHold (x : Slot) (l : Loc) (len : Nat) (ids : List Nat) :
    { (x.markEmpty l len) with acqHold := ids } = ({ x with acqHold := ids } : Slot).markEmpty l len := by cases l <;> rfl

section
variable {s : State} {x : Slot} {c : Chain} (hfree : Claims.Unheld s x)
include hfree

/-! ### PUSHE and POPE (13 R281) -/

theorem pusheBody_asks (hu : Usable x [x.reg .scalar c.a.toNat, x.reg .scalar c.b.toNat] [x.reg .scalar c.a.toNat, x.reg .scalar c.b.toNat] [])
    {q : Located} (hreach : Claims.Reaches s x .store 8 [scalarLane (x.operand c.a.toNat).toNat 8] [q]) (hleaf : leafE q.leaf = true) :
    pusheBody s.o.cur c x s = (((Claims.found s x [q]).request s.o.cur
        { groupMsg s.o.cur x { fab := true } [q] none (.push q.pa (x.operand c.b.toNat)) true with stalls := true } true 32).2,
      .ok (.answer (Claims.found s x [q]).o.nextId { ue := x.operandUe c.a.toNat ++ x.operandUe c.b.toNat })) := by
  simp only [pusheBody, State.memHold_of_unheld hfree, hu.check, Slot.readUe_scalar, State.access_of_reaches hreach, List.headD_cons, hleaf,
    Bool.not_true, Bool.false_eq_true, if_false, BitVec.ofNat_toNat, BitVec.setWidth_eq, State.request_eq]

theorem popeBody_asks (hu : Usable x [x.reg .scalar c.a.toNat, x.reg .scalar c.b.toNat] [x.reg .scalar c.b.toNat] [x.reg .scalar c.a.toNat])
    {q : Located} (hreach : Claims.Reaches s x .load 8 [scalarLane (x.operand c.b.toNat).toNat 8] [q]) (hleaf : leafE q.leaf = true) :
    popeBody s.o.cur c x s = ((Claims.found s x [q]).noteAsk s.o.cur
        { scalarDep s.o.cur (x.reg .scalar c.a.toNat) 1 0 with isLoad := true, acq := true }
        (groupMsg s.o.cur x {} [q] (some (Claims.found s x [q]).o.nextId) (.pop q.pa (c.mod.toNat.testBit 0) true) false) false 32,
      .ok (.set ((x.markEmpty (x.reg .scalar c.a.toNat).loc 8).leaveMem c (x.operandUe c.b.toNat)))) := by
  simp only [popeBody, State.memHold_of_unheld hfree, hu.check, Slot.readUe_scalar, State.access_of_reaches hreach, List.headD_cons, hleaf,
    Bool.not_true, Bool.false_eq_true, if_false]
  rfl

/-! ### RLD, RAMO and RST (19 R392) -/

omit hfree in
/-- Acquire and release of the order field of RAMO; RLD has neither. -/
theorem order_acquire (amo : Bool) (m : Nat) : ((if amo then bitsOf 6 5 m else 0) % 2 == 1) = (amo && m.testBit 5) := by
  cases amo
  · rfl
  · exact (atomicKind_acquire m).trans (Nat.testBit_div_two_pow (n := 5) m 0)

omit hfree in
theorem order_release (amo : Bool) (m : Nat) : decide (2 ≤ (if amo then bitsOf 6 5 m else 0)) = (amo && m.testBit 6) := by
  cases amo
  · rfl
  · exact (atomicKind_release m).trans (Nat.testBit_div_two_pow (n := 5) m 1)

/-- The registers that RLD or RAMO reads beside its address. -/
def remoteSrc (amo : Bool) (x : Slot) (c : Chain) : List Reg := if amo then [x.reg .scalar c.c.toNat] else []

/-- The operand of RAMO and its events; none for RLD. -/
def remoteOperand (amo : Bool) (x : Slot) (c : Chain) : Nat × List UeEvent :=
  if amo then ((x.operand c.c.toNat).toNat, x.operandUe c.c.toNat) else (0, [])

/-- The die of RAMO after an acquire has dropped the writable lines of the core's L1. -/
def State.acquired (s : State) (acq : Bool) : State := if acq then s.dropWritable (s.o.cur / 16) else s

omit hfree in
theorem State.acquired_frame (s : State) (acq : Bool) : LineFrame s (s.acquired acq) := by
  unfold State.acquired; split
  · exact s.dropWritable_frame _
  · exact .refl s

theorem remoteRead_asks (amo : Bool)
    (hu : Usable x ([x.reg .scalar c.a.toNat, x.reg .scalar c.b.toNat] ++ remoteSrc amo x c) ([x.reg .scalar c.b.toNat] ++ remoteSrc amo x c)
      [x.reg .scalar c.a.toNat]) {w off : Nat} {acq : Bool}
    (hw : w = if amo then (if c.mod.toNat.testBit 4 then 4 else 8) else Claims.width (c.mod.toNat % 8))
    (hoff : off = (BitVec.ofNat 64 ((x.operand c.b.toNat).toNat % 2 ^ 17) + BitVec.ofInt 64 c.imm).toNat) (halign : off % w = 0)
    (hacq : acq = (amo && c.mod.toNat.testBit 5)) :
    ∃ z m, remoteRead amo s.o.cur c x s = ((s.acquired acq).noteAsk s.o.cur z m (amo && c.mod.toNat.testBit 6) w,
        .ok (.set ((({ x with acqHold := if acq then x.acqHold ++ [s.o.nextId] else x.acqHold } : Slot).markEmpty
          (x.reg .scalar c.a.toNat).loc 8).leaveMem c (x.operandUe c.b.toNat ++ (remoteOperand amo x c).2)))) ∧
      (z.sid = s.o.cur ∧ z.dst = (x.reg .scalar c.a.toNat).loc ∧ z.len = 8 ∧ z.mask = ones 64 ∧ z.outstanding = 1 ∧ z.nack = none ∧ z.fault = none) ∧
      (m.sid = some s.o.cur ∧ m.ctx = x.ctx ∧ m.dep = some s.o.nextId ∧ m.sent = false ∧ m.answer = none) ∧ m.isStore = amo ∧
      m.op = .remote (if amo then 2 else 0) (x.operand c.b.toNat) off w (amoOpOf (c.mod.toNat % 16)) ((remoteOperand amo x c).1 % 2 ^ (8 * w)) := by
  subst hoff
  have hwd : wdBytes (bitsOf 2 0 c.mod.toNat) = Claims.width (c.mod.toNat % 8) :=
    (wdBytes_eq_width _).trans (congrArg Claims.width (bitsOf_low _ _))
  have hmod : bitsOf 3 0 c.mod.toNat = c.mod.toNat % 16 := bitsOf_low _ _
  have hread : (if amo = true then ((x.operand c.c.toNat).toNat, x.operandUe c.c.toNat) else (0, [])) = remoteOperand amo x c := rfl
  have hsrc : (if amo = true then [x.reg .scalar c.c.toNat] else []) = remoteSrc amo x c := rfl
  have hdrop : (if acq = true then s.dropWritable (s.o.cur / 16) else s) = s.acquired acq := rfl
  have hnext : (s.acquired acq).o.nextId = s.o.nextId := (s.acquired_frame acq).nextId
  rw [remoteRead, ← hnext]
  simp only [State.memHold_of_unheld hfree, hsrc, hu.check, Slot.readUe_scalar, hread, remoteOff_eq, hwd, ← hw, halign, ne_eq, not_true_eq_false,
    if_false, order_acquire, order_release, hmod, ← hacq, hdrop, BitVec.ofNat_toNat, BitVec.setWidth_eq, Slot.markEmpty_acqHold]
  exact ⟨_, _, rfl, ⟨rfl, rfl, rfl, rfl, rfl, rfl, rfl⟩, ⟨rfl, rfl, rfl, rfl, rfl⟩, rfl, rfl⟩

theorem rstBody_asks (hu : Usable x [x.reg .scalar c.a.toNat, x.reg .scalar c.b.toNat] [x.reg .scalar c.a.toNat, x.reg .scalar c.b.toNat] [])
    {w off : Nat} (hw : w = Claims.width (c.mod.toNat % 8))
    (hoff : off = (BitVec.ofNat 64 ((x.operand c.b.toNat).toNat % 2 ^ 17) + BitVec.ofInt 64 c.imm).toNat) (halign : off % w = 0) :
    ∃ m, rstBody s.o.cur c x s = ((s.request s.o.cur m (c.mod.toNat.testBit 4) w).2,
        .ok (.set (x.leaveMem c (x.operandUe c.b.toNat ++ x.operandUe c.a.toNat)))) ∧
      m.isStore = true ∧ m.dep = none ∧ m.ordered = c.mod.toNat.testBit 4 ∧
      m.op = .remote 1 (x.operand c.b.toNat) off w .swap ((x.operand c.a.toNat).toNat % 2 ^ (8 * w)) := by
  subst hoff
  have hwd : wdBytes (bitsOf 2 0 c.mod.toNat) = Claims.width (c.mod.toNat % 8) :=
    (wdBytes_eq_width _).trans (congrArg Claims.width (bitsOf_low _ _))
  simp only [rstBody, State.memHold_of_unheld hfree, hu.check, Slot.readUe_scalar, remoteOff_eq, hwd, ← hw, halign, ne_eq, not_true_eq_false,
    if_false, BitVec.ofNat_toNat, BitVec.setWidth_eq]
  exact ⟨_, rfl, rfl, rfl, rfl, rfl⟩

/-! ### MCST (19 R393) -/

/-- The die of MCST once it has found its page and lines of the written places have left the core's L1. -/
def State.mcstDropped (s : State) (x : Slot) (q : Located) (agents : List Nat) : State :=
  (Claims.found s x [q]).dropStored (s.o.cur / 16) ((q.pa, 512) :: agents.map (fun a => (a * 2 ^ 42 + q.pa % 2 ^ 42, 512)))

omit hfree in
theorem State.mcstDropped_frame (s : State) (x : Slot) (q : Located) (agents : List Nat) : LineFrame s (s.mcstDropped x q agents) :=
  (found_frame s x [q]).trans (State.dropStored_frame _ _ _)

theorem mcstBody_asks (hu : Usable x [x.reg .vector c.a.toNat, x.reg .scalar c.b.toNat, x.reg .scalar c.c.toNat]
      [x.reg .vector c.a.toNat, x.reg .scalar c.b.toNat, x.reg .scalar c.c.toNat] []) {q : Located} (hleaf : leafE q.leaf = false)
    (hreach : Claims.Reaches s x .store 512 [{ lane := 0, va := (x.operand c.b.toNat).toNat, len := 512, bit := 0, bits := 4096 }] [q])
    {agents : List Nat} (hagents : mcstAgents (x.operand c.c.toNat).toNat = agents) :
    ∃ m, mcstBody s.o.cur c x s =
        (if agents = [] then s.mcstDropped x q agents else ((s.mcstDropped x q agents).request s.o.cur m false 512).2,
          .ok (.set (x.leaveMem c ((x.readUe (x.reg .vector c.a.toNat) 8).2 ++ x.operandUe c.b.toNat ++ x.operandUe c.c.toNat)))) ∧
      m.isStore = true ∧ m.op = .mcst (q.pa % 2 ^ 42) (x.readUe (x.reg .vector c.a.toNat) 8).1 agents := by
  simp only [mcstBody, State.memHold_of_unheld hfree, hu.check, Slot.readUe_scalar, State.access_of_reaches hreach, List.headD_cons, hleaf,
    Bool.false_eq_true, if_false, hagents]
  exact ⟨_, rfl, rfl, rfl⟩

/-! ### GETT (19 R394) -/

/-- The slot of GETT, whose ordered form is an acquire. -/
def gettSlot (s : State) (x : Slot) (c : Chain) : Slot :=
  { x with acqHold := if c.mod.toNat.testBit 0 then x.acqHold ++ [s.o.nextId] else x.acqHold }

section
variable (hu : Usable x [x.reg .scalar c.a.toNat, x.reg .scalar c.b.toNat] [x.reg .scalar c.b.toNat] [x.reg .scalar c.a.toNat])
include hu

theorem gettBody_waits (hord : c.mod.toNat.testBit 0 = true) (hwait : s.fenceWaits s.o.cur 2 4 = true) :
    gettBody s.o.cur c x s = (s, .error (.hold .fence)) := by
  simp only [gettBody, State.memHold_of_unheld hfree, hu.check, hord, hwait, Bool.and_self, if_true]

variable (hgo : c.mod.toNat.testBit 0 = true → s.fenceWaits s.o.cur 2 4 = false)
include hgo

theorem gettBody_own (hown : (x.operand c.b.toNat).getLsbD 16 = false) :
    ∃ z, gettBody s.o.cur c x s = ({ s.newId.2 with deps := kset s.deps s.o.nextId z },
        .ok (.set (((gettSlot s x c).markEmpty (x.reg .scalar c.a.toNat).loc 8).leaveMem c (x.operandUe c.b.toNat)))) ∧
      (z.sid = s.o.cur ∧ z.dst = (x.reg .scalar c.a.toNat).loc ∧ z.len = 8 ∧ z.mask = ones 64 ∧ z.value = s.now ∧ z.outstanding = 0 ∧
        z.nack = none ∧ z.fault = none ∧ z.sx = none) := by
  have hgo' : (c.mod.toNat.testBit 0 && s.fenceWaits s.o.cur 2 4) = false := by
    cases h : c.mod.toNat.testBit 0
    · rfl
    · exact hgo h
  have hown' : (x.operand c.b.toNat).toNat.testBit 16 = false := hown
  simp only [gettBody, State.memHold_of_unheld hfree, hu.check, hgo', Slot.readUe_scalar, hown', Bool.false_eq_true, if_false,
    Slot.markEmpty_acqHold]
  exact ⟨_, rfl, rfl, rfl, rfl, rfl, rfl, rfl, rfl, rfl, rfl⟩

theorem gettBody_other (hother : (x.operand c.b.toNat).getLsbD 16 = true) :
    ∃ z m, gettBody s.o.cur c x s = (s.noteAsk s.o.cur z m false 8,
        .ok (.set (((gettSlot s x c).markEmpty (x.reg .scalar c.a.toNat).loc 8).leaveMem c (x.operandUe c.b.toNat)))) ∧
      (z.sid = s.o.cur ∧ z.dst = (x.reg .scalar c.a.toNat).loc ∧ z.len = 8 ∧ z.mask = ones 64 ∧ z.outstanding = 1 ∧ z.nack = none ∧ z.fault = none) ∧
      (m.sid = some s.o.cur ∧ m.ctx = x.ctx ∧ m.dep = some s.o.nextId ∧ m.sent = false ∧ m.answer = none) ∧
      m.op = .gett ((x.operand c.b.toNat).toNat % 1024) := by
  have hgo' : (c.mod.toNat.testBit 0 && s.fenceWaits s.o.cur 2 4) = false := by
    cases h : c.mod.toNat.testBit 0
    · rfl
    · exact hgo h
  have hother' : (x.operand c.b.toNat).toNat.testBit 16 = true := hother
  have hagent : bitsOf 9 0 (x.operand c.b.toNat).toNat = (x.operand c.b.toNat).toNat % 1024 := bitsOf_low _ _
  simp only [gettBody, State.memHold_of_unheld hfree, hu.check, hgo', Slot.readUe_scalar, hother', Bool.false_eq_true, if_false, if_true,
    Slot.markEmpty_acqHold, hagent]
  exact ⟨_, _, rfl, ⟨rfl, rfl, rfl, rfl, rfl, rfl, rfl⟩, ⟨rfl, rfl, rfl, rfl, rfl⟩, rfl⟩

end

end

/-- An instruction that puts a request on its way, if any, and goes on: what it leaves, given the die `t` that its body returns. -/
theorem Turn.issue_left {s t : State} {x : Slot} {c : Chain} {o : OpInfo} {body : Body} (h : Turn s o c x) {ue : List UeEvent}
    (hbody : body s.o.cur c x s = (t, .ok (.set (x.leaveMem c ue)))) (hcycle : t.t.cycle = s.t.cycle) :
    s.issue o c body = t.setSlot s.o.cur (Claims.left s x x c ue) := by
  have hleft : Claims.left t x x c ue = Claims.left s x x c ue := by simp only [Claims.left, hcycle]
  rw [h.issue, hbody, ← hleft, ← settled_leaveMem t rfl]
  rfl

/-- Settles O28: each instruction issues its body, and the body's lemma gives the request that leaves. -/
theorem engineAndFabricInstructionsLeave : Obligations.EngineAndFabricInstructionsLeave := by
  unfold Obligations.EngineAndFabricInstructionsLeave
  rintro s x c _ _ _ _ _ _ q hfree rfl rfl rfl rfl rfl rfl
  refine ⟨fun h hu hreach hleaf => ⟨_, rfl, ?pushe⟩, fun h hu hreach hleaf => ⟨_, rfl, ?pope⟩, fun h hu halign => ⟨_, rfl, ?rld⟩,
    fun h hu halign => ⟨_, rfl, ?rst⟩, ?ramo, ?mcst, ?mcstNone, ?gett⟩
  case pushe =>
    exact h.issue_stalled (found_frame s x [q]) (pusheBody_asks hfree hu hreach hleaf) ⟨rfl, rfl, rfl, rfl, rfl⟩ fun _ _ => ⟨rfl, rfl, rfl⟩
  case pope =>
    exact h.issue_acquired (found_frame s x [q]) (popeBody_asks hfree hu hreach hleaf) rfl ⟨rfl, rfl, rfl, rfl, rfl, rfl, rfl⟩
      ⟨rfl, rfl, congrArg some (found_frame s x [q]).nextId, rfl, rfl⟩ fun _ _ => rfl
  case rld =>
    obtain ⟨z, m, hbody, hz, hm, -, hop⟩ := remoteRead_asks hfree false hu rfl rfl halign rfl
    have hue : x.operandUe c.b.toNat ++ (remoteOperand false x c).2 = x.operandUe c.b.toNat := List.append_nil _
    rw [hue] at hbody
    exact h.issue_acquired (.refl s) hbody rfl hz hm fun _ _ => ⟨_, hop.trans (congrArg _ (Nat.zero_mod _))⟩
  case rst =>
    obtain ⟨m, hbody, hstore, hdep, hord, hop⟩ := rstBody_asks hfree hu rfl rfl halign
    rw [h.issue_left hbody rfl]
    exact ⟨kget_kset_same .., ⟨_, kget_kset_same .., hstore, hdep, hord, rfl, hop⟩, rfl, fun k hk => kget_kset_other _ _ hk⟩
  case ramo =>
    rintro _ _ rfl rfl h hu halign
    obtain ⟨z, m, hbody, hz, hm, hstore, hop⟩ := remoteRead_asks hfree true hu rfl rfl halign rfl
    exact ⟨_, rfl, h.issue_acquired (s.acquired_frame _) hbody rfl hz hm fun _ _ => ⟨hstore, rfl, hop⟩⟩
  case mcst =>
    rintro _ rfl h hu hleaf hsome hreach
    obtain ⟨m, hbody, hstore, hop⟩ := mcstBody_asks hfree hu hleaf hreach (mcstAgents_eq _)
    have hagents := mcstList_ne_nil hsome
    have hframe := s.mcstDropped_frame x q (mcstList (x.operand c.c.toNat).toNat)
    rw [if_neg hagents] at hbody
    refine ⟨_, (s.mcstDropped x q (mcstList (x.operand c.c.toNat).toNat)).o.nextId, rfl, ?_⟩
    rw [h.issue_left hbody hframe.cycle]
    exact ⟨kget_kset_same .., ⟨_, kget_kset_same .., hstore, hop⟩, hframe.mem,
      fun k hk => (kget_kset_other _ _ hk).trans (congrArg (kget · k) hframe.slots)⟩
  case mcstNone =>
    rintro _ rfl h hu hleaf hnone hreach
    obtain ⟨m, hbody, -, -⟩ := mcstBody_asks hfree hu hleaf hreach (mcstAgents_eq _)
    have hframe := s.mcstDropped_frame x q (mcstList (x.operand c.c.toNat).toNat)
    rw [if_pos (mcstList_eq_nil hnone)] at hbody
    refine ⟨_, rfl, ?_⟩
    rw [h.issue_left hbody hframe.cycle]
    exact ⟨kget_kset_same .., hframe.msgs, hframe.mem, fun k hk => (kget_kset_other _ _ hk).trans (congrArg (kget · k) hframe.slots)⟩
  case gett =>
    rintro _ rfl h hu
    refine ⟨fun hgo hown => ?own, fun hgo hother => ?other, fun hord hwait => ?waits⟩
    case own =>
      obtain ⟨z, hbody, hz⟩ := gettBody_own hfree hu hgo hown
      exact ⟨_, rfl, h.issue_given hbody ⟨rfl, rfl, rfl, rfl, rfl⟩ rfl hz⟩
    case other =>
      obtain ⟨z, m, hbody, hz, hm, hop⟩ := gettBody_other hfree hu hgo hother
      exact ⟨_, rfl, h.issue_acquired (.refl s) hbody rfl hz hm fun _ _ => hop⟩
    case waits => exact congrArg Host.Outcome.next (h.issue_stop (gettBody_waits hfree hu hord hwait))

end Sys2Proof.Machine
end

section
/-!
SEND and RECV (12 R254 to R258).
-/

namespace Sys2Proof.Machine

/-! ### Pages that an access has found (08 R169) -/

/-- Finding pages changes cached translations and free choices only. -/
structure PagingFrame (s t : State) : Prop where
  same : { t with o := s.o, pg := s.pg } = s
  order : { t.o with fresh := s.o.fresh } = s.o

theorem PagingFrame.refl (s : State) : PagingFrame s s := ⟨rfl, rfl⟩

theorem PagingFrame.trans {s t u : State} (h : PagingFrame s t) (k : PagingFrame t u) : PagingFrame s u := by
  obtain ⟨h1, h2⟩ := h
  obtain ⟨k1, k2⟩ := k
  exact ⟨by rw [← h1, ← k1], by rw [← h2, ← k2]⟩

theorem PagingFrame.foldl {α : Type} {f : State → α → State} (hf : ∀ s a, PagingFrame s (f s a)) (l : List α) (s : State) :
    PagingFrame s (l.foldl f s) := by
  induction l generalizing s with
  | nil => exact .refl s
  | cons a l ih => exact (hf s a).trans (ih _)

theorem State.keepOne_pagingFrame {α : Type} [DecidableEq α] (s : State) (l set : List α) (n : Nat) (q : α) :
    PagingFrame s (s.keepOne l set n q).2 := by
  simp only [State.keepOne]
  split
  · exact .refl s
  · split <;> exact ⟨rfl, rfl⟩

theorem State.tlbFill_pagingFrame (s : State) (e : TlbEntry) (t : Nat) : PagingFrame s (s.tlbFill e t) := by
  have hpg (t : State) (pg : Paging) : PagingFrame t { t with pg := pg } := ⟨rfl, rfl⟩
  refine PagingFrame.trans ?_ (hpg _ _)
  split
  · exact s.keepOne_pagingFrame ..
  · split <;> exact s.keepOne_pagingFrame ..

theorem State.tlbTouch_pagingFrame (s : State) (ctx va : Nat) (ts : List Nat) : PagingFrame s (s.tlbTouch ctx va ts) := by
  simp only [State.tlbTouch]
  split
  · exact .refl s
  · split
    · exact PagingFrame.foldl (fun s t => s.tlbFill_pagingFrame _ t) _ s
    · exact .refl s

theorem found_pagingFrame (s : State) (x : Slot) (ls : List Located) : PagingFrame s (Claims.found s x ls) :=
  PagingFrame.foldl (fun s _ => s.tlbTouch_pagingFrame ..) ls s

theorem PagingFrame.eq {s t : State} (h : PagingFrame s t) : t = { s with o := t.o, pg := t.pg } := by
  rw [← h.same]

theorem PagingFrame.readPa {s t : State} (h : PagingFrame s t) (ctx pa : Nat) (leaf : Word) : t.readPa ctx pa leaf = s.readPa ctx pa leaf := by
  rw [h.eq]; rfl

/-! ### SEND (12 R254, R255) -/

/-- Capturing events leaves the open packet and the checks of a slot apart. -/
theorem Slot.captureAll_openPkt (x : Slot) (p : Option OpenPacket) (es : List UeEvent) :
    ({ x with openPkt := p } : Slot).captureAll es = { x.captureAll es with openPkt := p } := by
  simp only [Slot.captureAll, Slot.capture]
  split
  · rfl
  · split <;> split <;> rfl

/-- The packet that SEND leaves open or closes: the slot's open one, or a new one, with the word behind it. -/
def sendPacketOf (s : State) (x : Slot) (c : Chain) : OpenPacket :=
  match x.openPkt with
  | some q => { q with words := q.words ++ [x.operand c.b.toNat] }
  | none => { target := x.operand c.a.toNat, words := [x.operand c.b.toNat], since := none
              header := BitVec.ofNat 64 ((x.operand c.a.toNat).toNat / 2 ^ 48 * 2 ^ 48 + x.ctx % 16 * 2 ^ 38 + s.ownAgent * 2 ^ 28 +
                s.o.cur / 16 * 2 ^ 20 + s.o.cur % 16 * 2 ^ 16) }

theorem openHeader_eq (s : State) (ctx : Nat) (t : Word) : s.openHeader s.o.cur ctx t =
    BitVec.ofNat 64 (t.toNat / 2 ^ 48 * 2 ^ 48 + ctx % 16 * 2 ^ 38 + s.ownAgent * 2 ^ 28 + s.o.cur / 16 * 2 ^ 20 + s.o.cur % 16 * 2 ^ 16) := by
  have htag : bitsOf 63 48 t.toNat = t.toNat / 2 ^ 48 := by
    have := t.isLt
    simp only [bitsOf, Nat.shiftRight_eq_div_pow]
    omega
  rw [State.openHeader, htag]

section
variable {s : State} {x : Slot} {c : Chain}

theorem State.memHold_of_no_acquire (hacq : x.acqHold = []) : s.memHold s.o.cur x false = .ok () := by
  simp [State.memHold, hacq]

theorem settled_openPkt (s : State) (x : Slot) (c : Chain) (ue : List UeEvent) (p : Option OpenPacket) :
    { (({ x with openPkt := p } : Slot).leaveMem c ue) with xlat := [], status := stallStatus s.t.cycle c.stall.toNat } =
      { Claims.left s x x c ue with openPkt := p } := by
  rw [settled_leaveMem s (y := { x with openPkt := p }) rfl, Claims.left, Slot.captureAll_openPkt]
  rfl

/-- The stall of a slot that has closed its packet and waits until it has left. -/
theorem stalled_openPkt (s : State) (x : Slot) (c : Chain) (ue : List UeEvent) (r : Nat) :
    { (x.captureAll ue) with openPkt := none, xlat := [], status := .stalled (.answer r (Claims.after x c) (s.t.cycle + 16 * (1 + c.stall.toNat))) } =
      ({ (({ x with openPkt := none, xlat := [] } : Slot).captureAll ue) with
        status := .stalled (.answer r (Claims.after x c) (s.t.cycle + 16 * (1 + c.stall.toNat))), xlat := [] } : Slot) := by
  have h : ({ x with openPkt := none, xlat := [] } : Slot).captureAll ue = { x.captureAll ue with openPkt := none, xlat := [] } := by
    simp only [Slot.captureAll, Slot.capture]
    split
    · rfl
    · split <;> split <;> rfl
  rw [h]

/-- A packet as its slot's message carries it, closed with a header. -/
def closedMsg (sid ctx : Nat) (p : OpenPacket) (stalls : Bool) (header : Nat) : Msg :=
  { sid := some sid, ctx := ctx, user := false, op := .packet p.target (BitVec.ofNat 64 header) p.words, pa := 0, after := [], dep := none
    stalls := stalls, nackVal := p.target }

theorem closePacket_msg (s : State) (sid ctx : Nat) (p : OpenPacket) (trunc stalls : Bool) :
    kget (s.closePacket (some sid) ctx p trunc stalls).2.msgs s.o.nextId =
      some (closedMsg sid ctx p stalls (p.header.toNat + p.words.length * 2 ^ 43 + if trunc then 2 ^ 42 else 0)) := kget_kset_same ..

/-- A packet closed without TRUNC has its length in its header alone. -/
theorem closePacket_whole (s : State) (sid ctx : Nat) (p : OpenPacket) (stalls : Bool) :
    kget (s.closePacket (some sid) ctx p false stalls).2.msgs s.o.nextId =
      some (closedMsg sid ctx p stalls (p.header.toNat + p.words.length * 2 ^ 43)) := by
  rw [closePacket_msg, if_neg Bool.false_ne_true, Nat.add_zero]

theorem sendBody_eq (hacq : x.acqHold = [])
    (hu : Usable x [x.reg .scalar c.a.toNat, x.reg .scalar c.b.toNat] [x.reg .scalar c.a.toNat, x.reg .scalar c.b.toNat] []) :
    sendBody s.o.cur c x s =
      if c.mod.toNat.testBit 0 || decide (16 ≤ (sendPacketOf s x c).words.length) then
        ((s.closePacket (some s.o.cur) x.ctx (sendPacketOf s x c) false true).2,
          .ok (.setStatus { (x.captureAll (x.operandUe c.a.toNat ++ x.operandUe c.b.toNat)) with
            openPkt := none
            status := .stalled (.answer s.o.nextId (x.nextPc c) (stallUntil s.t.cycle c.stall.toNat)) }))
      else (s, .ok (.set ({ x with openPkt := some (sendPacketOf s x c) }.leaveMem c (x.operandUe c.a.toNat ++ x.operandUe c.b.toNat)))) := by
  simp only [sendBody, State.memHold_of_no_acquire hacq, hu.check, Slot.readUe_scalar, BitVec.ofNat_toNat, BitVec.setWidth_eq, sendPacketOf]
  rcases x.openPkt.eq_none_or_eq_some with hp | ⟨q, hp⟩
  · simp only [hp, Option.getD_none, openHeader_eq, List.nil_append]; rfl
  · simp only [hp, Option.getD_some]; rfl

/-! ### SEND.lb (12 R258) -/

theorem sendLbBody_refused (hacq : x.acqHold = []) (hspill : s.isSpill s.o.cur x = false) :
    sendLbBody s.o.cur c x s = (s, .error (.trap .priv (baseTval opSendLb c))) := by
  simp only [sendLbBody, State.memHold_of_no_acquire hacq, hspill, Bool.not_false, if_true]

theorem sendLbBody_empty (hacq : x.acqHold = []) (hspill : s.isSpill s.o.cur x = true) (hempty : (s.core (s.o.cur / 16)).heapLen x.ctx = 0) :
    sendLbBody s.o.cur c x s = (s, .ok (.go {})) := by
  simp only [sendLbBody, State.memHold_of_no_acquire hacq, hspill, hempty, Bool.not_true, Bool.false_eq_true, if_false, if_true]

theorem sendLbBody_asks (hacq : x.acqHold = []) (hspill : s.isSpill s.o.cur x = true) (hsome : (s.core (s.o.cur / 16)).heapLen x.ctx ≠ 0)
    {q : Located} (hreach : Claims.Reaches s x .load 1 [Claims.heapLane s x ((s.core (s.o.cur / 16)).heapOf x.ctx).1] [q]) :
    ∃ m, sendLbBody s.o.cur c x s = (((Claims.found s x [q]).request s.o.cur m false 256).2, .ok (.answer (Claims.found s x [q]).o.nextId {})) ∧
      (m.sid = some s.o.cur ∧ m.ctx = x.ctx ∧ m.stalls = true ∧ m.answer = none ∧ m.sent = false) ∧
      m.op = .heapRead (s.o.cur / 16) ∧ m.pa = s.readPa x.ctx q.pa q.leaf := by
  have haccess := State.access_of_reaches hreach
  rw [Claims.heapLane] at haccess
  simp only [sendLbBody, State.memHold_of_no_acquire hacq, hspill, hsome, Bool.not_true, Bool.false_eq_true, if_false, haccess, List.headD_cons,
    State.request_eq, (found_pagingFrame s x [q]).readPa]
  exact ⟨_, rfl, ⟨rfl, rfl, rfl, rfl, rfl⟩, rfl, rfl⟩

/-! ### A store of one lane that is no word (06 R135) -/

theorem requestGroups_one (q : Located) : requestGroups [q] = [[q]] := by
  cases h : leafE q.leaf <;> simp [requestGroups, h, distinct]

theorem State.sendStore_wide (s : State) (sid : Nat) (x : Slot) (data : Nat) {q : Located} (hwide : q.l.bits = 2048) :
    ∃ (u : State) (m : Msg) (rel : Bool) (len : Nat), LineFrame s u ∧ s.sendStore sid x {} false data [q] = (u.newId.2.request sid m rel len).2 ∧
      m.sid = some sid ∧ m.op = .store [q.piece q.pa] data := by
  have hop : (leafE q.leaf && q.l.bits == 64) = false := by simp [hwide]
  simp only [State.sendStore, requestGroups_one, Bool.false_and, Bool.false_eq_true, if_false, List.foldl_cons, List.foldl_nil, List.headD_cons, hop]
  exact ⟨_, _, _, _, s.dropStored_frame _ _, rfl, rfl, rfl⟩

/-! ### RECV (12 R256, R258) -/

section
variable (hfree : Claims.Unheld s x)
include hfree

theorem State.recvCheck_of_usable (hu : Usable x [x.reg .scalar c.a.toNat] [] [x.reg .scalar c.a.toNat]) :
    s.recvCheck s.o.cur x (x.reg .scalar c.a.toNat) = .ok () := by
  simp only [State.recvCheck, State.memHold_of_unheld hfree]
  exact hu.check

omit hfree in
theorem Turn.issue_recv {o : OpInfo} {body : Body} (h : Turn s o c x) {y : Slot} {u : State} {v : Nat}
    (hbody : body s.o.cur c x s = recvValue s.o.cur c y u (x.reg .scalar c.a.toNat) v)
    (hu : u.o = s.o ∧ u.t = s.t ∧ u.deps = s.deps ∧ u.slots = s.slots ∧ u.msgs = s.msgs ∧ u.mem = s.mem) (hy : y.pc = x.pc) :
    Claims.Given s (s.issue o c body) x y c (x.reg .scalar c.a.toNat) v [] ∧ (s.issue o c body).cores = u.cores := by
  obtain ⟨ho, ht, hdeps, hslots, hmsgs, hmem⟩ := hu
  have hbody' : body s.o.cur c x s = ({ u.newId.2 with deps := kset s.deps s.o.nextId (scalarDep s.o.cur (x.reg .scalar c.a.toNat) 0 v) },
      .ok (.set ((y.markEmpty (x.reg .scalar c.a.toNat).loc 8).leaveMem c []))) := by
    rw [hbody, ← hdeps, ← ho]; rfl
  refine ⟨h.issue_given hbody' ⟨(by rw [← ho]; rfl), ht, hslots, hmsgs, hmem⟩ hy ⟨rfl, rfl, rfl, rfl, rfl, rfl, rfl, rfl, rfl⟩, ?_⟩
  rw [h.issue, hbody']
  rfl

variable (hu : Usable x [x.reg .scalar c.a.toNat] [] [x.reg .scalar c.a.toNat])
include hu

theorem recvHBody_some {e : InboxEntry} {l : List InboxEntry} (he : (s.core (s.o.cur / 16)).oldest x.ctx (fun e => !e.isDesc) = some (e, l)) :
    recvHBody s.o.cur c x s = recvValue s.o.cur c { x with owned := some e, ownedPos := 0 }
      (s.modCore (s.o.cur / 16) (fun k => { k with inbox := l })) (x.reg .scalar c.a.toNat) e.header.toNat := by
  simp only [recvHBody, State.recvCheck_of_usable hfree hu, he]

theorem recvHBody_none (he : (s.core (s.o.cur / 16)).oldest x.ctx (fun e => !e.isDesc) = none) :
    recvHBody s.o.cur c x s = if c.mod.toNat.testBit 2 then
        recvValue s.o.cur c { x with owned := none, ownedPos := 0 } s (x.reg .scalar c.a.toNat) 0
      else ({ s.newId.2 with deps := kset s.deps s.o.nextId (scalarDep s.o.cur (x.reg .scalar c.a.toNat) 1 0) },
        .ok (.set { (({ x with owned := none, ownedPos := 0 } : Slot).markEmpty (x.reg .scalar c.a.toNat).loc 8).leaveMem c [] with
          recvs := x.recvs ++ [s.o.nextId] })) := by
  simp only [recvHBody, State.recvCheck_of_usable hfree hu, he]
  rfl

theorem recvWBody_none (hw : ∀ e, x.owned = some e → e.words[x.ownedPos]? = none) :
    recvWBody s.o.cur c x s = recvValue s.o.cur c x s (x.reg .scalar c.a.toNat) 0 := by
  rcases x.owned.eq_none_or_eq_some with ho | ⟨e, ho⟩
  · simp only [recvWBody, State.recvCheck_of_usable hfree hu, ho]
  · simp only [recvWBody, State.recvCheck_of_usable hfree hu, ho, hw e ho]

theorem recvWBody_some {e : InboxEntry} {w : Word} (ho : x.owned = some e) (hw : e.words[x.ownedPos]? = some w) :
    recvWBody s.o.cur c x s = recvValue s.o.cur c
      (if x.ownedPos + 1 = e.words.length then { x with owned := none, ownedPos := 0 } else { x with ownedPos := x.ownedPos + 1 }) s
      (x.reg .scalar c.a.toNat) w.toNat := by
  simp only [recvWBody, State.recvCheck_of_usable hfree hu, ho, hw]
  split <;> rfl

theorem recvStBody_eq : recvStBody s.o.cur c x s = recvValue s.o.cur c x s (x.reg .scalar c.a.toNat)
    (s.inboxHeld (s.o.cur / 16) % 256 + (s.core (s.o.cur / 16)).heapLen x.ctx % 2 ^ 16 * 2 ^ 8 +
      if s.isSpill s.o.cur x then (s.core (s.o.cur / 16)).spillReason * 2 ^ 24 else 0) := by
  simp only [recvStBody, State.recvCheck_of_usable hfree hu]

variable (hspill : s.isSpill s.o.cur x = true)
include hspill

theorem recvSpBody_none (he : (s.core (s.o.cur / 16)).oldest x.ctx (fun _ => true) = none) :
    recvSpBody s.o.cur c x s = recvValue s.o.cur c x s (x.reg .scalar c.a.toNat) 0 := by
  simp only [recvSpBody, State.memHold_of_unheld hfree, hspill, if_true, hu.check, he]

variable {e : InboxEntry} {l : List InboxEntry} (he : (s.core (s.o.cur / 16)).oldest x.ctx (fun _ => true) = some (e, l))
include he

theorem recvSpBody_full (hfull : (s.ctx x.ctx).ihsize ≤ (s.core (s.o.cur / 16)).heapLen x.ctx) :
    recvSpBody s.o.cur c x s = (s, .error (.trap .inboxHeap 0)) := by
  rw [CoreSt.heapLen] at hfull
  simp only [recvSpBody, State.memHold_of_unheld hfree, hspill, if_true, hu.check, he, hfull]

omit hfree hu hspill he in
/-- The die once the entry has left the inbox for the heap, its store on its way. -/
def State.heapSpilled (s : State) (x : Slot) (q : Located) (e : InboxEntry) (l : List InboxEntry) : State :=
  ((((Claims.found s x [q]).sendStore s.o.cur x {} false e.image [q]).modCore (s.o.cur / 16) (fun k =>
      { k with inbox := l, heap := kset k.heap x.ctx (((s.core (s.o.cur / 16)).heapOf x.ctx).1, ((s.core (s.o.cur / 16)).heapOf x.ctx).2 + 1) })).leaveInbox
    (s.o.cur / 16) e)

theorem recvSpBody_spills {q : Located} (hroom : (s.core (s.o.cur / 16)).heapLen x.ctx < (s.ctx x.ctx).ihsize)
    (hreach : Claims.Reaches s x .store 1 [Claims.heapLane s x ((s.core (s.o.cur / 16)).heapOf x.ctx).2] [q]) :
    recvSpBody s.o.cur c x s = recvValue s.o.cur c x (s.heapSpilled x q e l) (x.reg .scalar c.a.toNat)
      (((s.heapSpilled x q e l).core (s.o.cur / 16)).inboxOf x.ctx) := by
  have haccess := State.access_of_reaches hreach
  have hfree' := Nat.not_le.2 hroom
  rw [Claims.heapLane] at haccess
  rw [CoreSt.heapLen] at hfree'
  simp only [recvSpBody, State.memHold_of_unheld hfree, hspill, if_true, hu.check, he, hfree', if_false, haccess]
  rfl

omit hfree hu hspill he in
/-- A descriptor that leaves the inbox changes its transfer only. -/
theorem State.leaveInbox_eq (s : State) (c : Nat) (e : InboxEntry) : ∃ k, s.leaveInbox c e = { s with kn := k } := by
  unfold State.leaveInbox
  split
  · split
    · exact ⟨_, rfl⟩
    · exact ⟨s.kn, rfl⟩
  · exact ⟨s.kn, rfl⟩

omit hfree hu hspill he in
theorem State.leaveInbox_cores (s : State) (c : Nat) (e : InboxEntry) : (s.leaveInbox c e).cores = s.cores := by
  obtain ⟨k, hk⟩ := s.leaveInbox_eq c e
  rw [hk]

omit hfree hu hspill he in
theorem State.heapSpilled_store (s : State) (x : Slot) {q : Located} (e : InboxEntry) (l : List InboxEntry) (hwide : q.l.bits = 2048) :
    ((s.heapSpilled x q e l).o.cur = s.o.cur ∧ (s.heapSpilled x q e l).t.cycle = s.t.cycle ∧ (s.heapSpilled x q e l).slots = s.slots ∧
      (s.heapSpilled x q e l).mem = s.mem) ∧
    ((s.heapSpilled x q e l).core (s.o.cur / 16)).inbox = l ∧
    ((s.heapSpilled x q e l).core (s.o.cur / 16)).heapOf x.ctx =
      (((s.core (s.o.cur / 16)).heapOf x.ctx).1, ((s.core (s.o.cur / 16)).heapOf x.ctx).2 + 1) ∧
    ∃ n m, kget (s.heapSpilled x q e l).msgs n = some m ∧ m.sid = some s.o.cur ∧ m.op = .store [q.piece q.pa] e.image := by
  obtain ⟨u, m, rel, len, hframe, hstore, hsid, hop⟩ := (Claims.found s x [q]).sendStore_wide s.o.cur x e.image hwide
  have hall := (found_frame s x [q]).trans hframe
  obtain ⟨k, hk⟩ := State.leaveInbox_eq ((u.newId.2.request s.o.cur m rel len).2.modCore (s.o.cur / 16) (fun k =>
    { k with inbox := l, heap := kset k.heap x.ctx (((s.core (s.o.cur / 16)).heapOf x.ctx).1, ((s.core (s.o.cur / 16)).heapOf x.ctx).2 + 1) }))
    (s.o.cur / 16) e
  rw [State.heapSpilled, hstore, hk]
  refine ⟨⟨hall.cur, hall.cycle, hall.slots, hall.mem⟩, ?inbox, ?heap, u.o.nextId + 1, u.newId.2.requested s.o.cur m rel len, kget_kset_same .., hsid, hop⟩
  case inbox => rw [State.core, ← hk, State.leaveInbox_cores, ← State.core, State.core_modCore, if_pos rfl]
  case heap =>
    rw [State.core, ← hk, State.leaveInbox_cores, ← State.core, State.core_modCore, if_pos rfl]
    simp [CoreSt.heapOf, kgetD]

end

end

/-- Settles O27: SEND by its packet, SEND.lb and RECV by what their bodies give. -/
theorem packetInstructions : Obligations.PacketInstructions := by
  unfold Obligations.PacketInstructions
  refine ⟨?_, ?_⟩
  · rintro s x c t w p ue hacq rfl rfl rfl
    refine ⟨fun h hu hp => ?send, fun h hspill => ⟨fun hempty => ?lbEmpty, fun q hsome hreach => ?lbAsks⟩, fun h hspill => ?lbTraps⟩
    case send =>
      have hp : p = sendPacketOf s x c := hp
      subst hp
      have hbody := sendBody_eq (s := s) hacq hu
      refine ⟨fun hmod hlen => ?opens, fun hclose => ⟨_, rfl, ?closes⟩⟩
      case opens =>
        have hmod : c.mod.toNat.testBit 0 = false := hmod
        rw [hmod, Bool.false_or, if_neg (by simpa using hlen)] at hbody
        refine congrArg Host.Outcome.next ((h.issue _).trans ?_)
        rw [hbody]
        refine congrArg (s.setSlot s.o.cur) ?_
        exact settled_openPkt s x c _ _
      case closes =>
        have hclose : (c.mod.toNat.testBit 0 || decide (16 ≤ (sendPacketOf s x c).words.length)) = true := by
          rw [Bool.or_eq_true, decide_eq_true_eq]; exact hclose
        rw [hclose, if_pos rfl] at hbody
        rw [h.issue, hbody]
        refine ⟨s.o.nextId, (kget_kset_same ..).trans (congrArg some (stalled_openPkt ..)), ⟨_, closePacket_whole .., rfl, rfl, rfl, rfl, rfl, rfl⟩, rfl, fun _ => rfl,
          fun k hk => kget_kset_other _ _ hk⟩
    case lbEmpty => exact congrArg Host.Outcome.next ((h.issue _).trans (by rw [sendLbBody_empty hacq hspill hempty]; rfl))
    case lbAsks =>
      obtain ⟨m, hbody, hm, hop, hpa⟩ := sendLbBody_asks (c := c) hacq hspill hsome hreach
      exact ⟨_, rfl, h.issue_stalled (found_frame s x [q]) hbody hm fun _ _ => ⟨hop, hpa⟩⟩
    case lbTraps => exact congrArg Host.Outcome.next (h.issue_trap (sendLbBody_refused hacq hspill))
  · rintro s x c d k hfree rfl rfl
    have hsame {t : State} (ht : t = s) : t.o = s.o ∧ t.t = s.t ∧ t.deps = s.deps ∧ t.slots = s.slots ∧ t.msgs = s.msgs ∧ t.mem = s.mem :=
      ht ▸ ⟨rfl, rfl, rfl, rfl, rfl, rfl⟩
    refine ⟨fun h hu => ⟨fun e l he => ?hSome, fun hnone hmod => ?hZero, fun hnone hmod => ?hWaits⟩, fun h hu => ⟨fun hnone => ?wNone, fun e w ho hw => ?wSome⟩,
      fun h hspill hu => ⟨fun hnone => ?spNone, fun e l he => ⟨fun hfull => ?spFull, fun q hroom hreach => ?spStores⟩⟩, fun h hspill => ?spTraps, fun h hu => ?st⟩
    case hSome =>
      obtain ⟨hgiven, hcores⟩ := h.issue_recv (recvHBody_some hfree hu he) ⟨rfl, rfl, rfl, rfl, rfl, rfl⟩ rfl
      refine ⟨_, rfl, hgiven, ?_⟩
      rw [State.core, hcores, ← State.core, State.core_modCore, if_pos rfl]
    case hZero =>
      exact ⟨_, rfl, (h.issue_recv ((recvHBody_none hfree hu hnone).trans (if_pos hmod)) (hsame rfl) rfl).1⟩
    case hWaits =>
      refine ⟨_, scalarDep s.o.cur (x.reg .scalar c.a.toNat) 1 0, rfl, ?_⟩
      rw [h.issue, (recvHBody_none hfree hu hnone).trans (if_neg (Bool.eq_false_iff.1 hmod))]
      refine ⟨(kget_kset_same ..).trans (congrArg some ?_), kget_kset_same .., rfl, rfl, rfl⟩
      exact congrArg (fun y : Slot => { y with recvs := x.recvs ++ [s.o.nextId] })
        (settled_leaveMem s (x := x) (Slot.markEmpty_pc { x with owned := none, ownedPos := 0 } (x.reg .scalar c.a.toNat).loc 8) c [])
    case wNone => exact ⟨_, rfl, (h.issue_recv (recvWBody_none hfree hu hnone) (hsame rfl) rfl).1⟩
    case wSome => exact ⟨_, rfl, (h.issue_recv (recvWBody_some hfree hu ho hw) (hsame rfl) (by split <;> rfl)).1⟩
    case spNone => exact ⟨_, rfl, (h.issue_recv (recvSpBody_none hfree hu hspill hnone) (hsame rfl) rfl).1⟩
    case spFull => exact congrArg Host.Outcome.next (h.issue_trap (recvSpBody_full hfree hu hspill he hfull))
    case spStores =>
      have hwide : q.l.bits = 2048 := by
        have := hreach.same
        simp only [List.map_cons, List.map_nil, List.cons.injEq, and_true] at this
        rw [this]; rfl
      obtain ⟨⟨hcur, hcycle, hslots, hmem⟩, hinbox, hheap, n, m, hm, hsid, hop⟩ := s.heapSpilled_store x e l hwide
      have hbody := recvSpBody_spills (c := c) hfree hu hspill he hroom hreach
      refine ⟨_, (s.heapSpilled x q e l).o.nextId, n, scalarDep s.o.cur (x.reg .scalar c.a.toNat) 0
        (((s.heapSpilled x q e l).core (s.o.cur / 16)).inboxOf x.ctx), m, [q.piece q.pa], rfl, ?_⟩
      rw [h.issue, hbody]
      refine ⟨(kget_kset_same ..).trans (congrArg some ?_), hinbox, hheap, kget_kset_same .., rfl, rfl, rfl, ?_, hm, hsid, hop, List.mem_singleton.2 rfl, hmem⟩
      · exact (settled_leaveMem _ (x.markEmpty_pc _ _) c []).trans
          (congrArg (fun n => { Claims.left s x (x.markEmpty (x.reg .scalar c.a.toNat).loc 8) c [] with status := stallStatus n c.stall.toNat }) hcycle)
      · exact congrArg (fun i : List InboxEntry => (i.filter (fun e => e.ctx == x.ctx)).length) hinbox
    case spTraps =>
      refine congrArg Host.Outcome.next (h.issue_trap ?_)
      simp only [recvSpBody, State.memHold_of_unheld hfree, hspill, Bool.false_eq_true, if_false]
    case st => exact ⟨_, rfl, (h.issue_recv (recvStBody_eq hfree hu) (hsame rfl) rfl).1⟩

end Sys2Proof.Machine
end

section
/-!
The modules: link states, flits and replay (19 R373 to R377).
-/

namespace Sys2Proof.Machine

/-! ### What leaves the states of links as they are -/

/-- Every link is in the state that it was in. -/
structure SameStates (s t : State) : Prop where
  state : ∀ m, (t.link m).state = (s.link m).state

theorem SameStates.refl (s : State) : SameStates s s := ⟨fun _ => rfl⟩

theorem SameStates.trans {s t u : State} (h : SameStates s t) (k : SameStates t u) : SameStates s u := ⟨fun m => (k.state m).trans (h.state m)⟩

theorem SameStates.of_lk {s t : State} (h : t.lk = s.lk) : SameStates s t := ⟨fun m => by rw [State.link, h, State.link]⟩

theorem SameStates.foldl {α : Type} {f : State → α → State} (hf : ∀ s a, SameStates s (f s a)) (l : List α) (s : State) : SameStates s (l.foldl f s) := by
  induction l generalizing s with
  | nil => exact .refl s
  | cons a l ih => exact (hf s a).trans (ih _)

theorem State.out_sameStates (s : State) (x : OutItem) : SameStates s (s.out x) := by
  rcases s.out_cases x with ⟨p, m, n, -, h⟩ | h
  · refine ⟨fun i => ?_⟩
    rw [h, State.link_modLink]
    split
    · subst ‹i = m›; rfl
    · rfl
  · rw [h]; exact .of_lk rfl

@[simp] theorem State.answerMsg_lk (s : State) (rid : Nat) (m : Msg) (bits : Nat) (ue : List UeEvent) : (s.answerMsg rid m bits ue).lk = s.lk := by
  unfold State.answerMsg; split <;> rfl

@[simp] theorem State.ackMsg_lk (s : State) (rid : Nat) (m : Msg) (code : Nat) : (s.ackMsg rid m code).lk = s.lk := by
  unfold State.ackMsg; split
  · rfl
  · exact s.answerMsg_lk ..

@[simp] theorem State.orphaned_lk (s : State) (count : Bool) : (s.orphaned count).lk = s.lk := by
  unfold State.orphaned; split <;> rfl

@[simp] theorem State.modHeld_lk (s : State) (sid : Nat) (f : Slot → Slot) : (s.modHeld sid f).lk = s.lk := by
  unfold State.modHeld; split <;> rfl

@[simp] theorem State.lateFor_lk (s : State) (sid : Option Nat) (f : LateFault) (count : Bool) : (s.lateFor sid f count).lk = s.lk := by
  unfold State.lateFor
  split
  · split
    · exact State.modHeld_lk ..
    · split
      · rfl
      · exact s.orphaned_lk count
  · exact s.orphaned_lk count

@[simp] theorem State.nackMsg_lk (s : State) (rid : Nat) (m : Msg) : (s.nackMsg rid m).lk = s.lk := by
  simp only [State.nackMsg]
  split
  · rfl
  · split <;> simp

theorem State.chainAnswer_sameStates (s : State) (tag src ctx mask : Nat) : SameStates s (s.chainAnswer tag src ctx mask) := by
  unfold State.chainAnswer
  split
  · split
    · exact .refl s
    · split
      · split <;> exact .of_lk (by simp)
      · exact .refl s
  · exact s.out_sameStates _

theorem State.chainOn_sameStates (s : State) (tag src ctx off : Nat) (data : List Byte) (agents : List Nat) (pos mask : Nat) :
    SameStates s (s.chainOn tag src ctx off data agents pos mask) := by
  induction agents generalizing s pos mask with
  | nil => exact s.chainAnswer_sameStates ..
  | cons a rest ih =>
    unfold State.chainOn
    split
    · refine SameStates.trans (.of_lk ?_) (ih ..)
      unfold State.chainWrite; split <;> rfl
    · split
      · exact s.out_sameStates _
      · exact ih ..

theorem State.unsent_sameStates (s : State) (p : Packet) : SameStates s (s.unsent p) := by
  unfold State.unsent
  split
  · exact .refl s
  · split
    · exact s.chainOn_sameStates ..
    · split
      · exact .of_lk rfl
      · exact s.out_sameStates _

theorem State.fenceLink_state {s : State} {m : Nat} (hm : m < 8) (hdown : (s.link m).state ≠ .down) (hfenced : (s.link m).state ≠ .fenced) :
    ((s.fenceLink m).link m).state = .fenced := by
  have hgo : (decide (8 ≤ m) || (s.link m).state == .down || (s.link m).state == .fenced) = false := by
    simp [hdown, hfenced, hm]
  simp only [State.fenceLink, hgo, Bool.false_eq_true, if_false]
  refine ((SameStates.foldl (fun t p => ?_) _ _).state m).trans ?_
  · split
    · exact t.unsent_sameStates p
    · exact t.out_sameStates _
  · rw [State.link_modLink, if_pos rfl]

theorem State.fenceLink_kept {s : State} {m : Nat} (h : (s.link m).state = .down ∨ (s.link m).state = .fenced) : s.fenceLink m = s := by
  rcases h with h | h <;> simp [State.fenceLink, h]

theorem State.fenceLink_quiet {s : State} {m : Nat} (hm : m < 8) (hdown : (s.link m).state ≠ .down) (hfenced : (s.link m).state ≠ .fenced)
    (hq : (s.link m).queue = []) (hu : (s.link m).unacked = []) : s.fenceLink m = Claims.relinked s m { s.link m with state := .fenced } := by
  have hgo : (decide (8 ≤ m) || (s.link m).state == .down || (s.link m).state == .fenced) = false := by
    simp [hdown, hfenced, hm]
  simp only [State.fenceLink, hgo, Bool.false_eq_true, if_false, hq, hu, List.filterMap_nil, List.append_nil, List.foldl_nil]
  simp only [State.modLink, Claims.relinked, ← hq, ← hu]

/-- A link that loses one request of this die, which has no other way, answers it. -/
theorem State.fenceLink_answers {s : State} {m : Nat} {p : Packet} (hm : m < 8) (hdown : (s.link m).state ≠ .down) (hfenced : (s.link m).state ≠ .fenced)
    (hq : (s.link m).queue = [p]) (hu : (s.link m).unacked = []) (hrsp : p.rsp = false) (hchain : p.typ ≠ 0x0D) (hnack : p.typ ≠ 0x0E)
    (hown : s.isOwn p.src = true)
    (hways : ∀ n ∈ kgetD s.lk.paths p.dst [], n = m ∨ (s.link n).state = .fenced ∨ (s.link n).state = .down) :
    (s.fenceLink m).o.agenda = .nack { typ := 0x0E, rsp := true, vc := 1, dst := s.ownAgent, src := s.ownAgent, tag := p.tag, ctx := p.ctx
                                       addr := BitVec.ofNat 64 (5 + 256 * p.dst) } :: s.o.agenda := by
  have hgo : (decide (8 ≤ m) || (s.link m).state == .down || (s.link m).state == .fenced) = false := by
    simp [hdown, hfenced, hm]
  have hnone : (s.modLink m (fun l => { l with state := .fenced, queue := [], unacked := [] })).modulesTo p.dst = [] := by
    simp only [State.modulesTo, List.filter_eq_nil_iff, State.link_modLink]
    intro n hn
    split
    · simp
    · rcases hways n hn with h | h | h
      · contradiction
      · simp [h]
      · simp [h]
  have hown' : (s.modLink m (fun l => { l with state := .fenced, queue := [], unacked := [] })).isOwn p.src = true := hown
  simp only [State.fenceLink, hgo, Bool.false_eq_true, if_false, hq, hu, List.filterMap_nil, List.nil_append, List.foldl_cons, List.foldl_nil, hnone,
    if_true, State.unsent, hrsp, Bool.false_or, beq_iff_eq, hchain, hnack, hown']
  rfl

/-! ### Training and discovery (19 R373, R388) -/

/-- An event for the outbox that is no packet leaves the links. -/
theorem State.out_discover_lk (s : State) (m : Nat) (r : DiscoverRec) : (s.out (.discover m r)).lk = s.lk := rfl

/-- What every step of a run keeps, the run keeps. -/
theorem foldl_keeps {α β : Type} {f : State → α → State} (g : State → β) (hf : ∀ s a, g (f s a) = g s) (l : List α) (s : State) : g (l.foldl f s) = g s := by
  induction l generalizing s with
  | nil => rfl
  | cons a l ih => exact (ih _).trans (hf s a)

@[simp] theorem State.announce_lk (s : State) (r : DiscoverRec) (but : Option Nat) : (s.announce r but).lk = s.lk := by
  refine foldl_keeps State.lk (fun t m => ?_) _ _
  split <;> rfl

/-- A module as it stands in DISCOVERY. -/
def Link.discovering (l : Link) (w : Nat) (u : Word) (g r now : Nat) : Link :=
  { l with state := .discovery, width := w, rate := r, peerUid := some u, failures := 0, credits := List.replicate 4 (g : Int), granted := g, lastUse := now }

/-- The die as a new module in DISCOVERY hears its records. -/
def State.greet (s : State) (m : Nat) (own : DiscoverRec) (rs : List DiscoverRec) : State :=
  rs.foldl (fun (s : State) r => if r.uid = own.uid then s else s.out (.discover m r)) s

theorem State.greet_keeps {β : Type} (g : State → β) (hg : ∀ s m r, g (State.out s (.discover m r)) = g s) (s : State) (m : Nat) (own : DiscoverRec)
    (rs : List DiscoverRec) : g (s.greet m own rs) = g s :=
  foldl_keeps g (fun t r => by split; exact rfl; exact hg t m r) rs s

theorem State.joinDiscovery_lk (s : State) (m w : Nat) (u : Word) (g r : Nat) :
    ∃ rs, (s.joinDiscovery m w u g r).lk = { (s.modLink m (fun l => l.discovering w u g r s.now)).lk with records := rs, recordAt := s.now } := by
  have heq : s.joinDiscovery m w u g r =
      (let t := s.modLink m (fun l => l.discovering w u g r s.now)
       let v := t.greet m t.ownRecord t.lk.records
       ({ v with lk := { v.lk with records := keepRecord v.lk.records t.ownRecord, recordAt := v.now } } : State).announce t.ownRecord none) := rfl
  rw [heq]
  simp only [State.announce_lk, State.greet_keeps State.lk (fun _ _ _ => rfl), State.greet_keeps State.now (fun _ _ _ => rfl)]
  exact ⟨_, rfl⟩

section
variable {s : State} {m : Nat} (hm : m < 8) (htrain : (s.link m).state = .training)
include hm htrain

theorem execLinkTrainingEnd_failed : execLinkTrainingEnd m .failed s = .next (Claims.relinked s m
    (if 2 ≤ (s.link m).failures then { s.link m with state := .down, failures := 0 } else { s.link m with failures := (s.link m).failures + 1 })) := by
  simp [execLinkTrainingEnd, Nat.not_le.2 hm, htrain, supported, State.modLink, Claims.relinked]

omit hm htrain in
theorem execLinkTrainingEnd_narrow {w : Nat} (u : Word) (g r : Nat) (h64 : w ≠ 64) (h32 : w ≠ 32) :
    execLinkTrainingEnd m (.ok w u g r) s = execLinkTrainingEnd m .failed s := by
  simp only [execLinkTrainingEnd, supported, h64, h32, or_self, if_false]

theorem execLinkTrainingEnd_ok {w : Nat} (u : Word) (g r : Nat) (hw : w = 64 ∨ w = 32) :
    execLinkTrainingEnd m (.ok w u g r) s =
      if g < 32 then .next (s.fenceLink m)
      else if !s.lk.topoDone then .next (s.joinDiscovery m w u g (s.trainedRate m r))
      else if (s.link m).peerUid != some u then .next (s.fenceLink m)
      else .next (Claims.relinked s m { s.link m with
        state := if w = 64 then .up else .degraded, width := w, rate := s.trainedRate m r, failures := 0
        credits := List.replicate 4 (g : Int), granted := g, lastUse := s.now }) := by
  have hgo : (decide (8 ≤ m) || (s.link m).state != .training) = false := by simp [hm, htrain]
  simp only [execLinkTrainingEnd, hgo, Bool.false_eq_true, if_false, supported, hw, if_true]
  rfl

end

/-! ### Idle links (19 R373) -/

theorem State.linkIdle_iff (s : State) (m : Nat) : s.linkIdle m = true ↔ Claims.Idle s (s.link m) := by
  simp [State.linkIdle, Claims.Idle, Link.carries, and_assoc]

/-! ### Flits and replay (19 R376, R377) -/

/-- Acknowledged flits leave the replay buffer; nothing else of the link that a peer sees changes. -/
theorem Link.free_fields (l : Link) (ack : Nat) : (l.free ack).queue = l.queue ∧ (l.free ack).sendSeq = l.sendSeq ∧ (l.free ack).recvSeq = l.recvSeq ∧
    (l.free ack).credits = l.credits := by
  unfold Link.free
  split
  · exact ⟨rfl, rfl, rfl, rfl⟩
  · simp only
    split <;> exact ⟨rfl, rfl, rfl, rfl⟩

theorem Link.free_unacked {l : Link} {q : Nat × Option Packet} {rest : List (Nat × Option Packet)} {ack : Nat} (h : l.unacked = q :: rest)
    (hlen : (ack + 4096 - q.1) % 4096 ≤ l.unacked.length) : (l.free ack).unacked = l.unacked.drop ((ack + 4096 - q.1) % 4096) := by
  unfold Link.free
  simp only [h] at hlen ⊢
  split
  next hnone =>
    have hzero : (ack + 4096 - q.1) % 4096 = 0 := hnone.resolve_right (Nat.not_lt.2 hlen)
    rw [h, hzero, List.drop_zero]
  next => rfl

theorem Link.free_none {l : Link} {q : Nat × Option Packet} {rest : List (Nat × Option Packet)} {ack : Nat} (h : l.unacked = q :: rest)
    (hzero : (ack + 4096 - q.1) % 4096 = 0) : l.free ack = l := by
  simp [Link.free, h, hzero]

theorem Link.credited_credits (l : Link) (cred : List Nat) {v : Nat} (hv : v < 4) :
    (l.credited cred).credits[v]? = some ((l.credits[v]?).getD 0 + ((cred[v]?).getD 0 : Nat)) := by
  simp [Link.credited, Link.credit, hv]

/-- A flit with a NAK is itself kept for a replay. -/
theorem State.sendNak_link (s : State) (m : Nat) : (s.sendNak m).link m = { s.link m with
    sendSeq := ((s.link m).sendSeq + 1) % 4096, unacked := (s.link m).unacked ++ [((s.link m).sendSeq, none)] } :=
  (s.link_modLink m m (fun l => { l with sendSeq := (l.sendSeq + 1) % 4096, unacked := l.unacked ++ [(l.sendSeq, none)] })).trans (if_pos rfl)

section
variable {s : State} {m : Nat} {f : Flit} (hm : m < 8) (hdown : (s.link m).state ≠ .down) (hfenced : (s.link m).state ≠ .fenced)
  (htrain : (s.link m).state ≠ .training)
include hm hdown hfenced htrain

/-- A flit with a bad CRC or a number that was passed over is answered with a NAK. -/
theorem execFlitReceive_nak
    (hbad : f.crcOk = false ∨ (f.seq % 4096 ≠ (s.link m).recvSeq ∧ 2048 < ((s.link m).recvSeq + 4096 - f.seq % 4096) % 4096)) :
    execFlitReceive m f s = .next (s.sendNak m) := by
  have hgo : (decide (8 ≤ m) || (s.link m).state == .down || (s.link m).state == .fenced || (s.link m).state == .training) = false := by
    simp [hm, hdown, hfenced, htrain]
  simp only [execFlitReceive, hgo, Bool.false_eq_true, if_false]
  rcases hbad with hcrc | ⟨hseq, hlate⟩
  · simp [hcrc]
  · simp [hseq, Nat.not_le.2 hlate]

omit hm hdown hfenced htrain in
theorem execFlitReceive_again (hcrc : f.crcOk = true) (hseq : f.seq % 4096 ≠ (s.link m).recvSeq)
    (hlate : ((s.link m).recvSeq + 4096 - f.seq % 4096) % 4096 ≤ 2048) : execFlitReceive m f s = .next s := by
  simp [execFlitReceive, hcrc, hseq, hlate]

/-- The next flit acknowledges and returns credits. -/
theorem execFlitReceive_next (hcrc : f.crcOk = true) (hseq : f.seq % 4096 = (s.link m).recvSeq) (hnak : f.nak = false) :
    ∃ t l, execFlitReceive m f s = .next t ∧ l = (if f.ackV then (s.link m).free f.ack else s.link m).credited f.cred ∧
      t.link m = { l with recvSeq := (l.recvSeq + 1) % 4096, lastUse := s.now } := by
  have hgo : (decide (8 ≤ m) || (s.link m).state == .down || (s.link m).state == .fenced || (s.link m).state == .training) = false := by
    simp [hm, hdown, hfenced, htrain]
  simp only [execFlitReceive, hgo, Bool.false_eq_true, if_false, hcrc, Bool.not_true, hseq, ne_eq, not_true_eq_false, hnak]
  refine ⟨_, _, rfl, rfl, ?_⟩
  simp only [State.link_modLink, if_true]
  rfl

end

/-- A replay from the oldest flit kept. -/
theorem State.replayFrom_first {s : State} {m ack : Nat} {l n : Link} (hm : m < 8) (hl : l = s.link m) {q : Nat × Option Packet}
    {rest : List (Nat × Option Packet)} (h : l.unacked = q :: rest) (hzero : (ack + 4096 - q.1) % 4096 = 0)
    (hn : n = { l with replays := min (2 ^ 32 - 1) (l.replays + l.unacked.length), sameReplays := l.sameReplays + 1 }) :
    s.replayFrom m ack = Claims.relinked s m (if 8 ≤ l.sameReplays + 1 ∧ l.carries = true then { Claims.training n with sameReplays := 0 } else n) := by
  subst hl hn
  have hgo : (decide (8 ≤ m) || decide ((s.link m).unacked = [])) = false := by simp [hm, h]
  simp only [State.replayFrom, Link.free_none h hzero, hgo, Bool.false_eq_true, if_false, State.modLink, Claims.relinked, Bool.and_eq_true, decide_eq_true_eq]
  rfl

/-- Settles O47: the table of link states row by row, then flits and replay. -/
theorem linkSteps : Obligations.LinkSteps := by
  unfold Obligations.LinkSteps
  rintro s m l hm rfl
  have h8 : ¬ 8 ≤ m := Nat.not_le.2 hm
  refine ⟨?enable, ?retrain, fun h => congrArg _ (State.fenceLink_kept h), fun hd hf => ⟨⟨_, rfl, State.fenceLink_state hm hd hf⟩, fun hq hu =>
    congrArg _ (State.fenceLink_quiet hm hd hf hq hu)⟩, ?answers, fun r h => ?notTraining, execLinkTrainingEnd_failed hm,
    fun w u g r _ h64 h32 => execLinkTrainingEnd_narrow u g r h64 h32, fun w u g r h hw => ?trained, ?repair, fun h => ?idle, fun h => ?busy,
    fun h => ?wakeEnd, fun f hd hf ht => ⟨fun hbad => ?nak, execFlitReceive_again, fun hcrc hseq hnak => ?next⟩, ?replay⟩
  case enable =>
    rintro v n rfl
    have hen : v.toNat.testBit 0 = v.getLsbD 0 := rfl
    have hidle : bitsOf 39 32 v.toNat = v.toNat / 2 ^ 32 % 256 := by simp [bitsOf, Nat.shiftRight_eq_div_pow]
    have hrate : bitsOf 2 1 v.toNat = v.toNat / 2 % 4 := by simp [bitsOf, Nat.shiftRight_eq_div_pow]
    simp only [exec, execLinkEnable, h8, if_false, State.modLink, Claims.relinked, hen, hidle, hrate, Bool.and_eq_true, beq_iff_eq]
    rfl
  case retrain =>
    simp only [exec, execRetrain, h8, if_false, State.modLink, Claims.relinked, Link.carries, Bool.or_eq_true, beq_iff_eq]
    rfl
  case answers =>
    intro p hd hf hq hu hrsp hchain hnack hown hways
    exact ⟨_, _, rfl, State.fenceLink_answers hm hd hf hq hu hrsp hchain hnack hown hways, rfl, by simp⟩
  case notTraining =>
    have hstop : (decide (8 ≤ m) || (s.link m).state != .training) = true := by simp [h]
    simp only [exec, execLinkTrainingEnd, hstop, if_true]
  case trained =>
    have hok := execLinkTrainingEnd_ok hm h u g r hw
    refine ⟨fun hbad => ?_, fun hg hdone hpeer => ?_, fun hg hdone => ?_⟩
    · rcases hbad with hg | ⟨hdone, hpeer⟩
      · exact hok.trans (if_pos hg)
      · refine hok.trans ?_
        simp only [hdone, Bool.not_true, Bool.false_eq_true, if_false, bne_iff_ne, ne_eq, hpeer, not_false_eq_true, if_true, ite_self]
        rfl
    · refine hok.trans ?_
      simp only [Nat.not_lt.2 hg, if_false, hdone, Bool.not_true, Bool.false_eq_true, hpeer, bne_self_eq_false]
    · obtain ⟨rs, hlk⟩ := s.joinDiscovery_lk m w u g (s.trainedRate m r)
      refine ⟨_, hok.trans (by rw [if_neg (Nat.not_lt.2 hg), hdone]; rfl), ?_, ?_⟩
      · rw [hlk]
      · rw [State.link, hlk]
        exact (s.link_modLink m m (fun l => l.discovering w u g (s.trainedRate m r) s.now)).trans (if_pos rfl)
  case repair =>
    simp only [exec, execLaneRepair, h8, if_false, State.modLink, Claims.relinked, beq_iff_eq]
  case idle =>
    have hidle := s.linkIdle_iff m |>.2 h
    simp only [exec, execLinkIdleTimeout, execLinkWake, hm, h8, hidle, decide_true, Bool.and_self, if_true, if_false]
    exact ⟨rfl, rfl⟩
  case busy =>
    have hidle := Bool.eq_false_iff.2 (mt (s.linkIdle_iff m).1 h)
    simp only [exec, execLinkIdleTimeout, execLinkWake, h8, hidle, Bool.and_false, Bool.false_eq_true, if_false, beq_iff_eq]
    exact ⟨trivial, rfl⟩
  case wakeEnd =>
    simp only [exec, execLinkWakeEnd, h8, if_false, h, bne_self_eq_false, Bool.false_eq_true, if_true, State.modLink]
    exact ⟨rfl, rfl⟩
  case nak =>
    refine ⟨_, _, execFlitReceive_nak hm hd hf ht hbad, rfl, rfl, rfl, ?_, ?_⟩
    · rw [s.sendNak_link]
    · rw [s.sendNak_link]
  case next =>
    obtain ⟨t, l, ht', rfl, hl⟩ := execFlitReceive_next hm hd hf ht hcrc hseq hnak
    refine ⟨t, ht', ?_⟩
    rw [hl]
    cases hack : f.ackV with
    | false => exact ⟨rfl, rfl, rfl, fun v hv => Link.credited_credits _ _ hv, fun _ => rfl, fun _ _ h => by cases h⟩
    | true =>
      obtain ⟨hqueue, hsend, hrecv, hcred⟩ := (s.link m).free_fields f.ack
      exact ⟨by rw [← hrecv]; rfl, hqueue, hsend, fun v hv => (Link.credited_credits _ _ hv).trans (by rw [if_pos rfl, hcred]), fun h => Bool.noConfusion h,
        fun q rest _ hu hlen => Link.free_unacked hu hlen⟩
  case replay =>
    intro q rest ack n hu hzero hn
    have hreplay := State.replayFrom_first hm rfl hu hzero hn
    refine ⟨fun hfew => congrArg _ (hreplay.trans ?_), fun hmany hup => congrArg _ (hreplay.trans ?_)⟩
    · rw [if_neg fun h => absurd h.1 (by omega)]
    · rw [if_pos ⟨by omega, by simpa [Link.carries] using hup⟩]

end Sys2Proof.Machine
end

section
/-!
The task pool: release, dispatch, host posts and decrements (12 R240 to R250; 16 R325).
-/

namespace Sys2Proof.Machine

/-! ### Slots that start (04 R80, 16 R308) -/

section
variable (s : State)

theorem State.claimCore_frame (c ctx : Nat) : (s.claimCore c ctx).pl = s.pl ∧ (s.claimCore c ctx).gr = s.gr ∧ (s.claimCore c ctx).slots = s.slots := by
  simp only [State.claimCore]
  split <;> exact ⟨rfl, rfl, rfl⟩

/-- A slot that starts leaves the pool, the groups and the other slots. -/
theorem State.startSlot_frame (sid : Nat) (x : Slot) : (s.startSlot sid x).pl = s.pl ∧ (s.startSlot sid x).gr = s.gr ∧
    (s.startSlot sid x).slots = kset s.slots sid { x with age := s.o.nextId } := by
  obtain ⟨hpl, hgr, hslots⟩ := (s.newId.2.dropWritable (sid / 16)).claimCore_frame (sid / 16) x.ctx
  have hset : (((s.newId.2.dropWritable (sid / 16)).claimCore (sid / 16) x.ctx).setSlot sid { x with age := s.o.nextId }).pl = s.pl ∧
      (((s.newId.2.dropWritable (sid / 16)).claimCore (sid / 16) x.ctx).setSlot sid { x with age := s.o.nextId }).gr = s.gr ∧
      (((s.newId.2.dropWritable (sid / 16)).claimCore (sid / 16) x.ctx).setSlot sid { x with age := s.o.nextId }).slots =
        kset s.slots sid { x with age := s.o.nextId } := ⟨hpl, hgr, congrArg (kset · sid _) hslots⟩
  simp only [State.startSlot]
  split <;> exact hset

theorem State.startGroup_frame (key : Nat) (place : List (Nat × List Nat)) (n : Nat) (x : Slot) :
    (s.startGroup key place n x).pl = s.pl ∧ (s.startGroup key place n x).gr = s.gr := by
  rw [State.startGroup]
  refine ⟨foldl_keeps State.pl (fun t m => ?_) _ s, foldl_keeps State.gr (fun t m => ?_) _ s⟩
  · exact (State.startSlot_frame ..).1
  · exact (State.startSlot_frame ..).2.1

/-- A thread starts on the lowest slot of its offer as a group of one. -/
theorem State.startThread_eq (o : Offer) (x : Slot) : ∃ t : State, t.pl = s.pl ∧ t.slots = s.slots ∧
    s.startThread o x = t.startSlot (sidOf o.core (o.slots.headD 0)) { x with group := s.o.nextId } :=
  ⟨(s.newGroup { ctx := x.ctx, kid := x.kid, shape := 0x11, cores := [o.core], slots := [[o.slots.headD 0]], live := 1 }).2, rfl, rfl, rfl⟩

end

/-! ### Readiness and decrements (12 R240, R243) -/

section
variable {s : State} {i : Nat} {e : PoolEntry} (he : s.entry i = some e)
include he

theorem State.tryReady_ready (hw : e.state = .waiting) (hc : e.counter = 0) (hr : s.released (recRelease e.record) = true)
    (hp : recPull e.record = false) : ∃ pl, s.tryReady i = { s with pl := pl } ∧
      pl.pool = kset s.pl.pool i { e with state := .ready, readyAt := s.t.cycle } := by
  simp only [State.tryReady, he, hw, hc, hr, hp, true_or, and_self, if_true, Bool.false_eq_true, if_false]
  exact ⟨_, rfl, rfl⟩

theorem State.tryReady_waits (h : e.counter ≠ 0 ∨ s.released (recRelease e.record) = false ∧ e.stolen = none) : s.tryReady i = s := by
  have hno : ¬ (e.state = .waiting ∧ e.counter = 0 ∧ (s.released (recRelease e.record) = true ∨ e.stolen.isSome = true)) := by
    rintro ⟨-, hc, hr⟩
    rcases h with h | ⟨hrel, hst⟩
    · exact h hc
    · simp [hrel, hst] at hr
  simp only [State.tryReady, he, if_neg hno]

omit he in
theorem State.entry_setEntry_same (s : State) (i : Nat) (e : PoolEntry) : (s.setEntry i e).entry i = some e := kget_kset_same ..

theorem State.decrement_waits {h : Word} (hh : s.entryOf h = some i) (hw : e.state = .waiting) (hc : 2 ≤ e.counter) :
    s.decrement h = s.setEntry i { e with counter := e.counter - 1 } := by
  have hcount : e.counter ≠ 0 := by omega
  simp only [State.decrement, hh, he, hw, ne_eq, hcount, not_false_eq_true, and_self, if_true, State.countDown]
  exact State.tryReady_waits (State.entry_setEntry_same ..) (.inl (Nat.sub_ne_zero_of_lt hc))

end

theorem State.enterRecord_waits (s : State) (ctx r i rot : Nat) (hin : recNin r = 0) (hx : 0 < recExtra r) :
    (s.enterRecord ctx r i rot none false).entry i = some { state := .waiting, ctx := ctx, record := r, counter := recExtra r } := by
  simp only [State.enterRecord, Option.isSome_none, Bool.false_eq_true, if_false, hin, List.range_zero, List.foldl_nil, Nat.zero_add]
  rw [State.tryReady_waits (State.entry_setEntry_same _ i { state := .waiting, ctx := ctx, record := r, counter := recExtra r }) (.inl (Nat.ne_of_gt hx))]
  exact State.entry_setEntry_same ..

/-! ### Host posts (12 R250) -/

@[simp] theorem State.sticky_irqs (s : State) (b : Sticky) : (s.sticky b).o.irqs = s.o.irqs := by
  unfold State.sticky
  split <;> rfl

/-- A dropped post sets its bits, and sends the vector when one of them was clear. -/
theorem State.dropPost_eq (s : State) (full : Bool) : (s.dropPost full).pl = { s.pl with poolBad := true, poolFull := s.pl.poolFull || full } ∧
    (s.dropPost full).slots = s.slots ∧ (s.dropPost full).mem = s.mem ∧
    (s.dropPost full).o.irqs = if s.pl.poolBad && (s.pl.poolFull || !full) then s.o.irqs else s.o.irqs ++ [s.pl.poolVec] := by
  cases full <;> cases hb : s.pl.poolBad <;> cases hf : s.pl.poolFull <;> simp [State.dropPost, hb, hf, State.irq]

/-- A post at the port of a context. -/
theorem execHostPost_eq (s : State) {ctx : Nat} {bs : List Byte} (hctx : ctx < 16) (hlen : bs.length = 64) :
    execHostPost (0x400000 + 64 * ctx) bs s =
      if !(s.ctx ctx).state.admitted' || (s.recordBad ctx (ofBytes bs)).isSome then .next (s.dropPost false)
      else match s.postRecord ctx (ofBytes bs) none with
        | (some _, t) => .next t
        | (none, t) => .next (t.dropPost true) := by
  have hport : (0x400000 + 64 * ctx - 0x400000) / 64 = ctx := by omega
  have hlow : ¬ 0x400000 + 64 * ctx < 0x400000 := by omega
  have hhigh : ¬ 0x400400 ≤ 0x400000 + 64 * ctx := by omega
  have halign : ¬ (bs.length ≠ 64 ∨ (0x400000 + 64 * ctx) % 64 ≠ 0) := by omega
  rw [execHostPost, if_neg hlow, if_neg hhigh]
  simp only [if_neg halign, hport] <;> rfl

/-! ### Dispatch (12 R246; 16 R325) -/

theorem execTaskDispatch_thread {s : State} {i : Nat} {e : PoolEntry} {k : Kernel} {o : Offer} (hd : s.mayDispatch i = some e)
    (hkind : recKind e.record = 0) (hk : s.loadedFor (recKid e.record) e.ctx = some k)
    (ho : s.threadCore e.ctx k (recPc e.record) (recTherm e.record) = some o) :
    execTaskDispatch i s = .next ((s.deal i e).startThread o { (s.taskSlot i e k) with dealt := some (s.taskHandle i) }) := by
  simp only [execTaskDispatch, hd, hkind, if_true, hk, ho]

theorem execGroupTaskDispatch_group {s : State} {i : Nat} {e : PoolEntry} {k : Kernel} {g : Nat} {place : List (Nat × List Nat)}
    (hd : s.mayDispatch i = some e) (hkind : recKind e.record = 1) (hk : s.loadedFor (recKid e.record) e.ctx = some k) (hpass : k.pass = false)
    (hg : s.groupGrotto e.ctx (recShape e.record) k.space (recTherm e.record) = some g)
    (hroom : s.room g e.ctx (recShape e.record) k.space (recTherm e.record) ≠ 0)
    (hplace : placeGroup (s.offers g (s.pairOn e.ctx)) (shCores (recShape e.record)) (shSlots (recShape e.record)) k.space (shGang (recShape e.record)) = some place) :
    ∃ (t : State) (key : Nat) (q : Group), execGroupTaskDispatch i s = .next (t.deal i e) ∧ t.pl = s.pl ∧ kget t.gr.groups key = some q ∧
      q = { ctx := e.ctx, kid := k.kid, shape := recShape e.record, cores := place.map (fun p => p.1), slots := place.map (fun p => p.2)
            live := shCores (recShape e.record) * shSlots (recShape e.record), task := some (s.taskHandle i) } := by
  simp only [execGroupTaskDispatch, hd, hkind, if_true, hk, hpass, Bool.false_eq_true, if_false, hg, State.placeOn, hroom, hplace]
  obtain ⟨hpl, hgr⟩ := State.startGroup_frame (s.newGroup { ctx := e.ctx, kid := k.kid, shape := recShape e.record
                                                            cores := place.map (fun p => p.1), slots := place.map (fun p => p.2)
                                                            live := shCores (recShape e.record) * shSlots (recShape e.record)
                                                            task := some (s.taskHandle i) }).2 s.o.nextId place (shSlots (recShape e.record)) { (s.taskSlot i e k) with gshape := BitVec.ofNat 64 (recShape e.record) }
  exact ⟨_, s.o.nextId, _, rfl, hpl, (congrArg (fun g => kget g.groups s.o.nextId) hgr).trans (kget_kset_same ..), rfl⟩

/-- Settles O37, step by step from what the pool operations do to such an entry or post. -/
theorem poolSteps : Obligations.PoolSteps := by
  unfold Obligations.PoolSteps
  intro s i e he
  refine ⟨fun hw hc hr hp => ?ready, fun _ h => congrArg _ (State.tryReady_waits he h), fun k o hd hkind hk ho => ?thread,
    fun k g place hd hkind hk hpass hg hroom hplace => ?group, fun ctx bs hctx hlen => ⟨fun hbad => ?bad, fun rot hadm hgood hplace => ?full,
      fun j rot hadm hgood hplace => ?enters⟩, fun ctx r rot hin hx => s.enterRecord_waits ctx r i rot hin hx,
    fun h hh hw hc => congrArg _ (State.decrement_waits he hh hw hc), fun h hh => ?drops⟩
  case ready =>
    obtain ⟨pl, ht, hpool⟩ := State.tryReady_ready he hw hc hr hp
    refine ⟨_, congrArg Host.Outcome.next ht, ?_, rfl, rfl, fun j hj => ?_⟩
    · exact (congrArg (kget · i) hpool).trans (kget_kset_same ..)
    · exact (congrArg (kget · j) hpool).trans (kget_kset_other _ _ hj)
  case thread =>
    obtain ⟨pl, hdeal, hpool⟩ := s.deal_eq (State.mayDispatch_entry hd)
    obtain ⟨t, hpl, hslots, hstart⟩ := (s.deal i e).startThread_eq o { (s.taskSlot i e k) with dealt := some (s.taskHandle i) }
    obtain ⟨hpl', -, hslots'⟩ := t.startSlot_frame (sidOf o.core (o.slots.headD 0))
      { (s.taskSlot i e k) with dealt := some (s.taskHandle i), group := (s.deal i e).o.nextId }
    have hsid : 16 * o.core + o.slots.headD 0 = sidOf o.core (o.slots.headD 0) := by rw [sidOf, Nat.mul_comm]
    have hslots'' := hslots'.trans (congrArg (kset · _ _) (hslots.trans (congrArg State.slots hdeal)))
    rw [hsid]
    refine ⟨_, _, (execTaskDispatch_thread hd hkind hk ho).trans (congrArg _ hstart), (congrArg (kget · _) hslots'').trans (kget_kset_same ..),
      rfl, rfl, rfl, rfl, rfl, rfl, rfl, rfl, rfl, ?_, fun j hj => ?_⟩
    · exact (congrArg (fun p => kget p.pool i) (hpl'.trans (hpl.trans (congrArg State.pl hdeal)))).trans hpool
    · exact (congrArg (kget · j) hslots'').trans (kget_kset_other _ _ hj)
  case group =>
    have hshape : shCores (recShape e.record) = recShape e.record % 8 ∧ shSlots (recShape e.record) = recShape e.record / 16 % 32 := by
      simp [shCores, shSlots, bitsOf, Nat.shiftRight_eq_div_pow]
    obtain ⟨t, key, q, ht, hpl, hq, rfl⟩ := execGroupTaskDispatch_group hd hkind hk hpass hg hroom (by rw [hshape.1, hshape.2]; exact hplace)
    have hentry : t.entry i = some e := by rw [State.entry, hpl]; exact State.mayDispatch_entry hd
    obtain ⟨pl, hdeal, hpool⟩ := t.deal_eq hentry
    rw [hdeal] at ht
    exact ⟨_, key, _, ht, hpool, hq, rfl, rfl, rfl, rfl, rfl, rfl, congr (congrArg HMul.hMul hshape.1) hshape.2⟩
  case bad =>
    obtain ⟨hpl, hslots, hmem, hirqs⟩ := s.dropPost_eq false
    refine ⟨_, (execHostPost_eq s hctx hlen).trans (if_pos ?_), by simpa using hpl, hslots, hmem, by simpa using hirqs⟩
    rcases hbad with h | h
    · simp [h]
    · simp [Option.isSome_iff_ne_none.2 h]
  case full =>
    obtain ⟨hpl, hslots, hmem, hirqs⟩ := ({ s with pl := { s.pl with rotation := rot } } : State).dropPost_eq true
    refine ⟨_, (execHostPost_eq s hctx hlen).trans ?_, by simpa using hpl, hslots, hmem, by simpa using hirqs⟩
    simp only [hadm, hgood, Bool.not_true, Option.isSome_none, Bool.or_self, Bool.false_eq_true, if_false, State.postRecord, hplace]
  case enters =>
    refine (execHostPost_eq s hctx hlen).trans ?_
    simp only [hadm, hgood, Bool.not_true, Option.isSome_none, Bool.or_self, Bool.false_eq_true, if_false, State.postRecord, hplace]
  case drops =>
    refine congrArg Host.Outcome.next ?_
    simp only [State.decrement, hh, State.dropDecrement]

end Sys2Proof.Machine
end

section
/-!
Packets between slots, and stealing (12 R253 to R257; 17 R344 to R347).
-/

namespace Sys2Proof.Machine

/-! ### Packets that this die acts on (19 R383, R387) -/

section
variable {s : State} {p : Packet} (h : s.transit p = false)
include h

theorem State.packetStep_comes (f : State → Host.Outcome State Fault Refusal) : s.packetStep p f = f (Claims.heard s p) := by
  simp only [State.packetStep, Claims.heard, h, Bool.false_eq_true, if_false]
  split <;> rfl

theorem State.packetIn_comes (f : State → State) : s.packetIn p f = f (Claims.heard s p) := by
  simp only [State.packetIn, Claims.heard, h, Bool.false_eq_true, if_false]
  split <;> rfl

end

/-- Hearing the sender changes what is known of the network only. -/
theorem heard_eq (s : State) (p : Packet) : ∃ lk, Claims.heard s p = { s with lk := lk } := by
  unfold Claims.heard
  split
  · exact ⟨s.lk, rfl⟩
  · exact ⟨_, rfl⟩

/-! ### The inbox (12 R253, R256) -/

/-- A run none of whose steps changes the die leaves it (stated here because the modules do not import Mathlib). -/
theorem foldl_eq_self {α β : Type} {f : β → α → β} {s : β} {l : List α} (h : ∀ a ∈ l, f s a = s) : l.foldl f s = s := by
  induction l with
  | nil => rfl
  | cons a l ih => rw [List.foldl_cons, h a List.mem_cons_self]; exact ih fun b hb => h b (List.mem_cons_of_mem a hb)

/-- Where no RECV waits on a core, none is served. -/
theorem State.serveRecvs_none {s : State} {core : Nat} (h : ∀ j x, s.slot (16 * core + j) = some x → j < 16 → x.recvs = []) : s.serveRecvs core = s := by
  refine foldl_eq_self fun j hj => ?_
  cases hx : s.slot (sidOf core j) with
  | none => rfl
  | some x =>
    have hnone : x.recvs = [] := h j x (by rw [Nat.mul_comm]; exact hx) (List.mem_range.1 hj)
    simp only [hnone]

/-- A packet enters an inbox of a core on which no RECV waits. -/
theorem State.enterInbox_quiet {s : State} {core : Nat} {e : InboxEntry} (hdesc : e.isDesc = false)
    (h : ∀ j x, s.slot (16 * core + j) = some x → j < 16 → x.recvs = []) :
    s.enterInbox core e = (s.modCore core (fun k => { k with inbox := k.inbox ++ [e] })).endYields core := by
  simp only [State.enterInbox, hdesc, Bool.false_eq_true, if_false]
  refine State.serveRecvs_none fun j x hx hj => ?_
  rw [State.slot, State.endYields, kget_kmap] at hx
  obtain ⟨y, hy, rfl⟩ := Option.map_eq_some_iff.1 hx
  have hrecvs : y.recvs = [] := h j y hy hj
  split
  · unfold Slot.unyield; split <;> exact hrecvs
  · exact hrecvs

/-- A packet of this die that waits in the network behind no other is accepted by a core that takes it. -/
theorem State.enterInbox_takes {s : State} {core ctx : Nat} {e : InboxEntry} (hdesc : ihLen e.header ≠ 0) (h : Claims.Takes s core ctx) :
    ((s.enterInbox core e).core core).inbox = (s.core core).inbox ++ [e] ∧ (s.enterInbox core e).mem = s.mem ∧ (s.enterInbox core e).msgs = s.msgs := by
  obtain ⟨-, -, hrecvs⟩ := h
  rw [State.enterInbox_quiet (beq_eq_false_iff_ne.2 hdesc) hrecvs]
  refine ⟨?_, rfl, rfl⟩
  exact congrArg CoreSt.inbox ((s.core_modCore core core (fun k => { k with inbox := k.inbox ++ [e] })).trans (if_pos rfl))

theorem bitsOf_packet (n : Nat) : bitsOf 17 10 n = n / 2 ^ 10 % 256 ∧ bitsOf 9 0 n = n % 1024 := by
  simp [bitsOf, Nat.shiftRight_eq_div_pow]

section
variable {s : State} {rid : Nat} {m : Msg} {target h : Word} {ws : List Word} {core : Nat} (hm : kget s.msgs rid = some m)
  (hop : m.op = .packet target h ws) (hstalls : m.stalls = false) (hsent : m.sent = false) (hcore : core = target.toNat / 2 ^ 10 % 256)
  (hown : s.isOwn (target.toNat % 1024) = true)
include hm hop hstalls hsent hcore hown

theorem execPacketAccept_refuses (hno : s.inboxTakes core m.ctx = false) :
    execPacketAccept (.inNetwork rid) s = .next (s.nackMsg rid m) := by
  obtain ⟨hc, ha⟩ := bitsOf_packet target.toNat
  simp only [execPacketAccept, hm, hop, hstalls, hsent, Bool.or_self, Bool.false_eq_true, if_false, State.homeOf, ha, hown, if_true, hc, ← hcore,
    hno, Bool.not_false]

theorem execPacketAccept_takes (htakes : Claims.Takes s core m.ctx)
    (halone : ∀ r z t g us, kget s.msgs r = some z → z.op = .packet t g us → r = rid ∨ ihSource g ≠ ihSource h ∨ t.toNat / 2 ^ 10 % 256 ≠ core)
    (hkeys : ∀ r z, (r, z) ∈ s.msgs → kget s.msgs r = some z) :
    execPacketAccept (.inNetwork rid) s = .next ((s.unpost rid).enterInbox core { ctx := m.ctx, header := h, words := ws }) := by
  obtain ⟨hc, ha⟩ := bitsOf_packet target.toNat
  obtain ⟨hin, hroom, -⟩ := htakes
  have hfirst : s.msgs.any (fun (q : Nat × Msg) => decide (q.1 < rid) && (match q.2.op with
      | .packet t g _ => ihSource g == ihSource h && bitsOf 17 10 t.toNat == core && !q.2.sent && ihLen g != 0 && ihLen h != 0
      | _ => false)) = false := by
    rw [List.any_eq_false]
    rintro ⟨r, z⟩ hz
    split
    · next t g us hzop =>
      rcases halone r z t g us (hkeys r z hz) hzop with rfl | hsrc | hother
      · simp
      · simp [hsrc]
      · have hother' : ¬ t.toNat / 1024 % 256 = core := hother
        simp [(bitsOf_packet t.toNat).1, hother']
    · simp
  simp only [execPacketAccept, hm, hop, hstalls, hsent, Bool.or_self, Bool.false_eq_true, if_false, State.homeOf, ha, hown, if_true, hc, ← hcore,
    hin, Bool.not_true, Nat.not_le.2 hroom, decide_false, Bool.or_false]
  exact if_neg (Bool.eq_false_iff.1 hfirst)

end

theorem State.takeFromDie_takes {s : State} {core : Nat} {h : Word} {ws : List Word} (htakes : Claims.Takes s core (ihCtx h)) (hheld : s.lk.inHeld = []) :
    s.takeFromDie core h ws = s.enterInbox core { ctx := ihCtx h, header := h, words := ws.take 16 } := by
  obtain ⟨hin, hroom, -⟩ := htakes
  simp only [State.takeFromDie, hin, Bool.not_true, Bool.false_eq_true, if_false, hheld, List.any_nil, Bool.or_false, decide_eq_true_eq,
    Nat.not_le.2 hroom]

theorem closePacket_truncated (s : State) (sid ctx : Nat) (p : OpenPacket) : ∃ m,
    kget (s.closePacket (some sid) ctx p true false).2.msgs s.o.nextId = some m ∧
    m.op = .packet p.target (BitVec.ofNat 64 (p.header.toNat + p.words.length * 2 ^ 43 + 2 ^ 42)) p.words := by
  refine ⟨_, closePacket_msg .., ?_⟩
  rw [if_pos rfl]
  rfl

theorem State.out_pl_br_mem (s : State) (x : OutItem) : (s.out x).pl = s.pl ∧ (s.out x).br = s.br ∧ (s.out x).mem = s.mem := by
  rcases s.out_cases x with ⟨p, m, n, -, h⟩ | h <;> rw [h] <;> exact ⟨rfl, rfl, rfl⟩

/-! ### Stealing (17 R344 to R347) -/

theorem State.emptyEntry_eq (s : State) (i : Nat) : ∃ pl : Pool, s.emptyEntry i = { s with pl := pl } ∧
    kget pl.pool i = none ∧ ∀ j, j ≠ i → kget pl.pool j = s.entry j := by
  cases he : s.entry i with
  | none => exact ⟨s.pl, by simp only [State.emptyEntry, he], he, fun j _ => rfl⟩
  | some e =>
    simp only [State.emptyEntry, he]
    exact ⟨_, rfl, kget_kdel_same _ _, fun j hj => kget_kdel_other _ hj⟩

/-- Entries that leave the pool together: they are EMPTY, the others stay. -/
theorem State.emptyEntries_eq (s : State) (l : List (Nat × PoolEntry)) :
    ∃ pl : Pool, l.foldl (fun (s : State) q => s.emptyEntry q.1) s = { s with pl := pl } ∧
      (∀ q ∈ l, kget pl.pool q.1 = none) ∧ ∀ j, (∀ q ∈ l, q.1 ≠ j) → kget pl.pool j = s.entry j := by
  induction l generalizing s with
  | nil => exact ⟨s.pl, rfl, fun q hq => absurd hq List.not_mem_nil, fun _ _ => rfl⟩
  | cons a l ih =>
    obtain ⟨pl, ha, hnone, hkeep⟩ := s.emptyEntry_eq a.1
    obtain ⟨pl', hl, hnone', hkeep'⟩ := ih (s.emptyEntry a.1)
    have hentry (j : Nat) : (s.emptyEntry a.1).entry j = kget pl.pool j := by rw [ha]; rfl
    refine ⟨pl', hl.trans (by rw [ha]), fun q hq => ?_, fun j hj => ?_⟩
    · rcases List.mem_cons.1 hq with rfl | hq
      · by_cases hin : ∃ q' ∈ l, q'.1 = q.1
        · obtain ⟨q', hq', heq⟩ := hin
          exact heq ▸ hnone' q' hq'
        · exact (hkeep' q.1 fun q' hq' heq => hin ⟨q', hq', heq⟩).trans ((hentry q.1).trans hnone)
      · exact hnone' q hq
    · exact (hkeep' j fun q hq => hj q (List.mem_cons_of_mem a hq)).trans
        ((hentry j).trans (hkeep j fun heq => hj a List.mem_cons_self heq.symm))

/-- A record that has been granted enters the pool READY, whatever its inputs, counter and release time. -/
theorem State.enterRecord_granted (s : State) (ctx r i rot src : Nat) (hp : recPull r = false) :
    ∃ (pl : Pool) (e : PoolEntry), s.enterRecord ctx r i rot (some src) false = { s with pl := pl } ∧ kget pl.pool i = some e ∧ e.state = .ready ∧
      e.record = r ∧ e.ctx = ctx ∧ e.stolen = some src := by
  simp only [State.enterRecord, Option.isSome_some, if_true, List.range_zero, List.foldl_nil, State.tryReady, State.entry_setEntry_same, or_true, and_true,
    hp, Bool.false_eq_true, if_false]
  exact ⟨_, _, rfl, kget_kset_same .., rfl, rfl, rfl, rfl⟩

/-- What stands in the pool decides where a record is placed, not what the stealing counters show. -/
theorem State.freeEntry_countSteal (s : State) (a b i n : Nat) : (s.countSteal a b).freeEntry i n = s.freeEntry i n := by
  induction n generalizing i with
  | zero => rfl
  | succ n ih => rw [State.freeEntry, State.freeEntry, ih]; rfl

theorem State.placeRecord_countSteal (s : State) (a b : Nat) (out : Word) : (s.countSteal a b).placeRecord out = s.placeRecord out := by
  simp only [State.placeRecord, State.freeEntry_countSteal]
  rfl

theorem State.takeGrant_matrix {s : State} {ctx src r j rot : Nat} (hkind : recKind r = 2) (hplace : s.placeRecord (recOut r) = (some j, rot)) :
    s.takeGrant ctx src r = s.enterRecord ctx r j rot (some src) false := by
  simp [State.takeGrant, hkind, State.postRecord, hplace]

theorem execGrant_one {s : State} {p : Packet} {m : Msg} {pulled : Bool} (h : s.transit p = false) (hm : kget (Claims.heard s p).msgs p.tag = some m)
    (hop : m.op = .steal pulled) (hlen : p.data.length = 64) :
    execGrant p s = .next ((((Claims.heard s p).unpost p.tag).countSteal 0 1).takeGrant m.ctx p.src (ofBytes p.data)) := by
  have hall : p.data.take 64 = p.data := List.take_of_length_le (Nat.le_of_eq hlen)
  rw [execGrant, State.packetStep_comes h]
  simp [hm, hop, hlen, List.range_succ, hall]

/-- The owner gives what it may, empties those entries and counts them. -/
theorem execSteal_gives {s u : State} {p : Packet} {given : List (Nat × PoolEntry)} (h : s.transit p = false) (hu : u = Claims.heard s p)
    (hadm : u.admits p.ctx = true) (hecho : u.br.echoCtx.testBit p.ctx = true) (hres : (u.ctx p.ctx).state = .resident)
    (hview : p.arg2.toNat.testBit (u.ownPos p.ctx) = true) (hgiven : given = (u.grantable p.ctx (p.arg1.toNat % 2 == 1)).take (min 15 p.op))
    (hup : u.agentUp p.src = true) (hk : u.kn.kernels = []) :
    ∃ (pl : Pool) (q : Packet), execSteal p s = .next ((({ u with pl := pl } : State).countSteal 1 given.length).out (.packet q)) ∧
      (∀ q ∈ given, kget pl.pool q.1 = none) ∧ ∀ j, (∀ q ∈ given, q.1 ≠ j) → kget pl.pool j = u.entry j := by
  obtain ⟨pl, hempty, hnone, hkeep⟩ := u.emptyEntries_eq given
  have hunload : ({ u with pl := pl } : State).unloadEnd = { u with pl := pl } := State.unloadEnd_of_no_kernels hk
  have hup' : (({ u with pl := pl } : State).countSteal 1 given.length).agentUp p.src = true := hup
  rw [execSteal, State.packetStep_comes h, ← hu]
  simp only [hadm, Bool.not_true, Bool.false_eq_true, if_false, hecho, hres, beq_self_eq_true, hview, Bool.and_self, if_true, ← hgiven, hempty, hunload, hup']
  exact ⟨pl, _, rfl, hnone, hkeep⟩

/-- A packet sent queues at one module. -/
theorem State.sendPacket_queued (s : State) (dst tag ctx : Nat) (p : Packet) : ∃ n l, s.sendPacket dst tag ctx p =
    ({ s with o := { s.o with fresh := n } }).modLink l (fun k => { k with queue := k.queue ++ [{ p with dst := dst, src := s.ownAgent, tag := tag, ctx := ctx }] }) := by
  simp only [State.sendPacket, State.out, State.route]
  split
  · exact ⟨s.o.fresh, _, rfl⟩
  · exact ⟨s.o.fresh, _, rfl⟩
  · exact ⟨s.o.fresh + 1, _, rfl⟩

/-- The message of a thief that waits for its grant. -/
def stealMsg (ctx : Nat) (pulled : Bool) (a : Nat) : Msg :=
  { sid := none, ctx := ctx, user := false, op := .steal pulled, pa := 0, after := [], dep := none, sent := true, dsts := [a] }

/-- The thief's request, and the message that awaits its answer. -/
theorem execStealSend_asks {s : State} {ctx i a : Nat} {pulled : Bool} (hecho : s.br.echoCtx.testBit ctx = true)
    (hview : (s.view ctx).testBit (s.ownPos ctx) = false) (hsteal : s.stealing ctx pulled = false) (hidle : pulled = true ∨ s.dealtIdle ctx = true)
    (hi : (List.range 8).find? (fun j => (s.view ctx).testBit j) = some i) (ha : ((s.ctx ctx).dies[i]?).join = some a) (hown : s.isOwn a = false)
    (hup : s.agentUp a = true) : execStealSend ctx pulled s = .next ((s.newId.2.post s.o.nextId (stealMsg ctx pulled a)).sendPacket a s.o.nextId ctx
      { typ := 0x08, op := min s.br.echoMaxT s.poolFree, arg1 := (if pulled then 1 else 0), arg2 := BitVec.ofNat 64 (s.view ctx) }) := by
  have hgo : (!s.br.echoCtx.testBit ctx || (s.view ctx).testBit (s.ownPos ctx) || s.stealing ctx pulled || (!pulled && !s.dealtIdle ctx)) = false := by
    have hclass : (!pulled && !s.dealtIdle ctx) = false := by rcases hidle with h | h <;> simp [h]
    simp [hecho, hview, hsteal, hclass]
  simp only [execStealSend, hgo, Bool.false_eq_true, if_false, hi, ha, hown, hup, Bool.not_true, Bool.or_self]
  rfl

/-- Settles O38: packets by the steps that move them, stealing by its request, its grant and what the grant leaves. -/
theorem packetAndStealSteps : Obligations.PacketAndStealSteps := by
  unfold Obligations.PacketAndStealSteps
  refine ⟨fun s => ⟨?leaves, ?trunc, ?accept, ?fromDie⟩, fun s => ⟨?asks, ?gives, ?takes⟩⟩
  case leaves =>
    intro sid x r m next u t h ws hx hstatus hm hop
    show execPacketLeave sid s = _
    simp only [execPacketLeave, hx, hstatus, hm, hop]
    rfl
  case trunc =>
    intro sid x p c hx hp hc hdue
    obtain ⟨m, hm, hop⟩ := closePacket_truncated s sid x.ctx p
    refine ⟨(s.closePacket (some sid) x.ctx p true false).2.setSlot sid { x with openPkt := none }, m, ?_, kget_kset_same .., hm, hop⟩
    show execSendTruncTimeout sid s = _
    simp only [execSendTruncTimeout, hx, hp, hc, hdue, if_true]
  case accept =>
    intro rid m target h ws core hm hop hstalls hsent hcore hown
    refine ⟨fun hno => execPacketAccept_refuses hm hop hstalls hsent hcore hown hno, fun htakes hlen halone hkeys => ?_⟩
    obtain ⟨hinbox, hmem, hmsgs⟩ := State.enterInbox_takes (s := s.unpost rid) (e := { ctx := m.ctx, header := h, words := ws }) hlen htakes
    exact ⟨_, execPacketAccept_takes hm hop hstalls hsent hcore hown htakes halone hkeys,
      (congrArg (kget · rid) hmsgs).trans (kget_kdel_same ..), hinbox, hmem⟩
  case fromDie =>
    intro core h ws htakes hlen hheld
    obtain ⟨hinbox, hmem, -⟩ := State.enterInbox_takes (e := { ctx := ihCtx h, header := h, words := ws.take 16 }) hlen htakes
    exact ⟨_, congrArg Host.Outcome.next (State.takeFromDie_takes htakes hheld), hinbox, hmem⟩
  case asks =>
    intro ctx pulled i a hecho hview hsteal hidle hi ha hown hup
    have hexec := execStealSend_asks hecho hview hsteal hidle hi ha hown hup
    obtain ⟨n, l, hsend⟩ := State.sendPacket_queued (s.newId.2.post s.o.nextId (stealMsg ctx pulled a)) a s.o.nextId ctx
      { typ := 0x08, op := min s.br.echoMaxT s.poolFree, arg1 := (if pulled then 1 else 0), arg2 := BitVec.ofNat 64 (s.view ctx) }
    rw [hsend] at hexec
    exact ⟨_, _, hexec, kget_kset_same .., rfl, rfl, rfl, rfl, l, _, (State.link_modLink ..).trans (if_pos rfl), rfl, rfl, rfl, rfl, rfl⟩
  case gives =>
    intro p u given hu h hadm hecho hres hview hgiven hup hk
    obtain ⟨pl, q, hexec, hnone, hkeep⟩ := execSteal_gives h hu hadm hecho hres hview hgiven hup hk
    have hkept := (({ u with pl := pl } : State).countSteal 1 given.length).out_pl_br_mem (.packet q)
    have hu' : u.pl = s.pl ∧ u.mem = s.mem := by
      obtain ⟨lk, hheard⟩ := heard_eq s p
      rw [hu, hheard]; exact ⟨rfl, rfl⟩
    refine ⟨_, hexec, fun q hq => ?_, by rw [hkept.2.1]; rfl, fun j hj => ?_, hkept.2.2.trans hu'.2⟩
    · rw [State.entry, hkept.1]; exact hnone q hq
    · rw [State.entry, hkept.1]; exact (hkeep j hj).trans (by rw [State.entry, hu'.1]; rfl)
  case takes =>
    intro p u m pulled j rot r hu h hm hop hlen hr hkind hpull hplace
    subst hu hr
    obtain ⟨pl, e, henter, he, hready, hrec, hctx, hstolen⟩ := (((Claims.heard s p).unpost p.tag).countSteal 0 1).enterRecord_granted m.ctx (ofBytes p.data) j rot p.src hpull
    refine ⟨_, e, (execGrant_one h hm hop hlen).trans (congrArg _ ((State.takeGrant_matrix hkind ((State.placeRecord_countSteal ..).trans hplace)).trans henter)), kget_kdel_same .., he, hready, hrec,
      hctx, hstolen, rfl⟩

end Sys2Proof.Machine
end

section
/-!
Named barriers at their home (17 R330 to R338).
-/

namespace Sys2Proof.Machine

section
variable {s : State} {rid : Nat} {m : Msg}

/-- A request of this die for a named barrier is served here. -/
theorem State.barrierStep_named {op g member : Nat} {h a b : Word} (hd : Claims.NamedDue s rid m op h a b g member) (ops : List Nat)
    (hops : ops.contains op = true) (f : State → Msg → BKey → Nat → Word → Word → Word → Nat → State) :
    s.barrierStep rid ops f = f s m (.named (128 * g + bhN h)) op h a b member := by
  obtain ⟨hready, hop, hdie⟩ := hd
  have hready : s.ready rid = some m := hready
  simp only [State.barrierStep, hready, hop, hops, Bool.not_true, Bool.false_eq_true, if_false, State.barrierHome, hdie, Bool.not_false, if_true]

/-- The answer that a slot which waits for it will find. -/
theorem State.kget_ackMsg_stalls (hm : kget s.msgs rid = some m) (hstalls : m.stalls = true) (t : State) (ht : t.msgs = s.msgs) (code : Nat) :
    kget (t.ackMsg rid m code).msgs rid = some { m with answer := some code } ∧ (t.ackMsg rid m code).br = t.br := by
  rw [State.ackMsg_stalls hstalls, State.msgs_modMsg, if_pos rfl, ht, hm]
  exact ⟨rfl, rfl⟩

end

section
variable (s : State) (n : Nat)

/-- A barrier without waiters breaks. -/
theorem State.breakBarrier_alone {z : Barrier} (hz : z.waiters = []) (r : Nat) : s.breakBarrier (.named n) z r =
    { s with br := { s.br with barriers := kset s.br.barriers n { z with state := .broken, reason := r, waiters := [] } } } := by
  simp only [State.breakBarrier, hz, List.foldl_nil]
  rfl

/-! ### Arming and clearing (17 R330, R335) -/

section
variable {cf : Nat} (hecho : cf.testBit 20 = false)
include hecho

theorem State.armBarrier_free (hfree : kget s.br.barriers n = none) (ctx g : Nat) : s.armBarrier (.named n) ctx g cf 0 =
    (0, { s with br := { s.br with barriers := kset s.br.barriers n { ctx := ctx, t := cf % 4096 + 1, group := g } } }) := by
  have ht : bitsOf 11 0 cf = cf % 4096 := bitsOf_low _ _
  simp only [State.armBarrier, State.barrierAt, hfree, hecho, Bool.false_and, Bool.false_eq_true, if_false, ht]
  rfl

theorem State.armBarrier_held {z : Barrier} (hz : kget s.br.barriers n = some z) (hw : z.waiters = []) (ctx g : Nat) :
    s.armBarrier (.named n) ctx g cf 0 = if z.t = cf % 4096 + 1 ∧ z.mask = 0 ∧ z.cfgEcho = none then (0, s)
      else (3, { s with br := { s.br with barriers := kset s.br.barriers n { z with state := .broken, reason := 3, waiters := [] } } }) := by
  have ht : bitsOf 11 0 cf = cf % 4096 := bitsOf_low _ _
  simp only [State.armBarrier, State.barrierAt, hz, hecho, Bool.false_and, Bool.false_eq_true, if_false, ht, s.breakBarrier_alone n hw]
  rfl

end

theorem State.clearAt_alone {z : Barrier} (hz : kget s.br.barriers n = some z) (hw : z.waiters = []) (ctx : Nat) :
    ∃ br, s.clearAt (.named n) ctx = (0, { s with br := br }) ∧ kget br.barriers n = none := by
  simp only [State.clearAt, State.barrierAt, hz, Bool.false_eq_true, if_false, State.freeBarrier, hw, List.foldl_nil, State.delBarrier]
  cases z.echo with
  | none => exact ⟨_, rfl, kget_kdel_same _ _⟩
  | some r => exact ⟨_, rfl, kget_kdel_same _ _⟩

/-! ### Arrivals (17 R331, R336) -/

/-- A barrier that has counted an arrival. -/
def Barrier.arrived (z : Barrier) (member now : Nat) (barx : Bool) (more : List BWaiter) : Barrier :=
  { z with k := z.k + 1, arrivals := noteArrival z.arrivals member now, barx := z.barx || barx, state := .collecting, waiters := z.waiters ++ more }

section
variable {z : Barrier} (hz : kget s.br.barriers n = some z) (ctx member : Nat) (d : Nat) (h : Word)
include hz

theorem State.arrive_bara (hbroken : z.state ≠ .broken) (hfirst : z.state = .collecting → z.arrivals.any (fun q => q.1 == member) = false) :
    s.arrive (.named n) ctx member false (.own d) h =
      if z.k + 1 = z.t then (s.modDep d (fun x => x.answer z.e [])).releaseBarrier (.named n) (z.arrived member s.now false [])
      else (s.modDep d (fun x => x.answer z.e [])).setBarrier (.named n) (z.arrived member s.now false []) := by
  have hdup : (z.state == .collecting && z.arrivals.any (fun q => q.1 == member)) = false := by
    rw [Bool.and_eq_false_imp, beq_iff_eq]; exact hfirst
  simp only [State.arrive, State.barrierAt, hz, Bool.false_and, Bool.not_false, Bool.true_and, hbroken, hdup, Bool.false_eq_true, if_false,
    State.barrierValue, Barrier.arrived, List.append_nil]

theorem State.arrive_barx (hbroken : z.state ≠ .broken) (hfirst : z.state = .collecting → z.arrivals.any (fun q => q.1 == member) = false)
    (hmore : z.k + 1 ≠ z.t) : s.arrive (.named n) ctx member true (.own d) h =
      s.setBarrier (.named n) (z.arrived member s.now true [{ who := .own d, h := h, episode := z.e }]) := by
  have hdup : (z.state == .collecting && z.arrivals.any (fun q => q.1 == member)) = false := by
    rw [Bool.and_eq_false_imp, beq_iff_eq]; exact hfirst
  simp only [State.arrive, State.barrierAt, hz, Bool.false_and, Bool.not_false, Bool.true_and, hbroken, hdup, Bool.false_eq_true, if_false,
    if_true, hmore, Barrier.arrived]

theorem State.arrive_twice (hcoll : z.state = .collecting) (hw : z.waiters = []) (htwice : z.arrivals.any (fun q => q.1 == member) = true) :
    s.arrive (.named n) ctx member false (.own d) h =
      ({ s with br := { s.br with barriers := kset s.br.barriers n { z with state := .broken, reason := 4, waiters := [] } } } : State).modDep d
        (fun x => x.fail (barrierFault h 4)) := by
  simp only [State.arrive, State.barrierAt, hz, Bool.false_and, Bool.not_false, Bool.true_and, hcoll, beq_self_eq_true, htwice,
    Bool.false_eq_true, if_false, if_true, s.breakBarrier_alone n hw]
  rfl

end

/-! ### Release (17 R331) -/

/-- A waiter of this die receives the time of a release. -/
def State.tellWaiter (now : Nat) (s : State) (w : BWaiter) : State :=
  match w.who with | .own d => s.modDep d (fun x => x.answer now []) | .agent _ _ => s

theorem State.tellWaiter_br (now : Nat) (w : BWaiter) : (s.tellWaiter now w).br = s.br := by
  unfold State.tellWaiter; split <;> rfl

theorem State.tellWaiter_other (now : Nat) {w : BWaiter} {d : Nat} (h : w.who ≠ .own d) : kget (s.tellWaiter now w).deps d = kget s.deps d := by
  unfold State.tellWaiter
  split
  · next r hr => rw [State.deps_modDep, if_neg fun heq => h (hr.trans (by rw [heq]))]
  · rfl

theorem State.tellWaiter_told (now : Nat) {w : BWaiter} {r : Nat} {x : Dep} (hr : w.who = .own r) (hx : kget s.deps r = some x) :
    kget (s.tellWaiter now w).deps r = some (x.answer now []) := by
  simp only [State.tellWaiter, hr]
  rw [State.deps_modDep, if_pos rfl, hx]
  rfl

theorem tellWaiters_other (now : Nat) {l : List BWaiter} {d : Nat} (h : ∀ w ∈ l, w.who ≠ .own d) :
    kget (l.foldl (State.tellWaiter now) s).deps d = kget s.deps d := by
  induction l generalizing s with
  | nil => rfl
  | cons w l ih =>
    exact (ih _ fun v hv => h v (List.mem_cons_of_mem w hv)).trans (s.tellWaiter_other now (h w List.mem_cons_self))

theorem tellWaiters_told (now : Nat) {l : List BWaiter} (hnodup : (l.map (fun v => v.who)).Nodup) {v : BWaiter} (hv : v ∈ l) {r : Nat} {x : Dep}
    (hr : v.who = .own r) (hx : kget s.deps r = some x) : kget (l.foldl (State.tellWaiter now) s).deps r = some (x.answer now []) := by
  induction l generalizing s with
  | nil => exact absurd hv List.not_mem_nil
  | cons w l ih =>
    obtain ⟨hnew, hrest⟩ := List.nodup_cons.1 hnodup
    rcases List.mem_cons.1 hv with rfl | hv
    · refine (tellWaiters_other _ now fun u hu heq => hnew (List.mem_map.2 ⟨u, hu, heq.trans hr.symm⟩)).trans ?_
      exact s.tellWaiter_told now hr hx
    · refine ih _ hrest hv ((s.tellWaiter_other now fun heq => hnew (List.mem_map.2 ⟨v, hv, hr.trans heq.symm⟩)).trans hx)

/-- The release of an episode without a BARX, for whose end waiters of this die alone wait. -/
theorem State.releaseBarrier_own {b : Barrier} (hbarx : b.barx = false) (hecho : b.echo = none)
    (hw : ∀ v ∈ b.waiters, v.episode = b.e ∧ ∃ r, v.who = .own r) :
    ∃ t : State, t.br = s.br ∧ t.deps = s.deps ∧ s.releaseBarrier (.named n) b = (b.waiters.foldl (State.tellWaiter s.now) t).setBarrier (.named n)
      { b with state := .released, e := (b.e + 1) % 2 ^ 32, k := 0, arrivals := [], barx := false, waiters := [], lastRelease := s.now } := by
  have hpart : b.waiters.partition (fun w => w.episode == b.e) = (b.waiters, []) := by
    rw [List.partition_eq_filter_filter, List.filter_eq_self.2 fun v hv => beq_iff_eq.2 (hw v hv).1, List.filter_eq_nil_iff.2 fun v hv => by simp [(hw v hv).1]]
  have hagents (f : BWaiter → Option Nat) (hf : ∀ v r, v.who = .own r → f v = none) : b.waiters.filterMap f = [] := by
    rw [List.filterMap_eq_nil_iff]
    intro v hv
    obtain ⟨-, r, hr⟩ := hw v hv
    exact hf v r hr
  simp only [State.releaseBarrier, hbarx, hecho, hpart, Bool.false_eq_true, if_false]
  rw [hagents _ fun v r hr => by simp only [hr]]
  have hnone : distinct ([] : List Nat) = [] := rfl
  rw [hnone, List.foldl_nil]
  cases kget s.gr.groups (n / 128) with
  | none => exact ⟨s, rfl, rfl, rfl⟩
  | some g => exact ⟨s.endYields (g.barrierKey (n % 128) / 512), rfl, rfl, rfl⟩

/-! ### Waits, queries and release packets (17 R331, R336, R338) -/

theorem State.awaitBarrier_named {z : Barrier} (hz : kget s.br.barriers n = some z) (hbroken : z.state ≠ .broken) (ctx e d : Nat) (h : Word) :
    s.awaitBarrier (.named n) ctx e (.own d) h = if 1 ≤ (z.e + 2 ^ 32 - e) % 2 ^ 32 ∧ (z.e + 2 ^ 32 - e) % 2 ^ 32 ≤ 2 ^ 31
      then s.modDep d (fun x => x.answer z.lastRelease [])
      else s.setBarrier (.named n) { z with waiters := z.waiters ++ [{ who := .own d, h := h, episode := e }] } := by
  simp only [State.awaitBarrier, State.barrierAt, hz, Bool.false_and, hbroken, Bool.false_eq_true, if_false, State.barrierValue]

end

/-- A message of this die is looked at when a release packet has come. -/
def State.releaseStep (p : Packet) (s : State) (q : Nat × Msg) : State :=
  match q.2.op with
  | .barrier 3 h a _ _ _ =>
    if q.2.sent ∧ q.2.ctx = p.ctx ∧ sameBarrier h p.addr ∧ a = p.arg1 then s.answerMsg q.1 q.2 p.arg2.toNat [] else s
  | _ => s

section
variable (p : Packet) (s : State) {q : Nat × Msg} {d rid : Nat}

theorem State.releaseStep_cases : s.releaseStep p q = s ∨ s.releaseStep p q = s.answerMsg q.1 q.2 p.arg2.toNat [] := by
  unfold State.releaseStep
  split
  · split
    · exact .inr rfl
    · exact .inl rfl
  · exact .inl rfl

/-- A message that is no wait of a deposit leaves the deposit, and brings no message back. -/
theorem State.releaseStep_other (hdep : q.2.dep ≠ some d) : kget (s.releaseStep p q).deps d = kget s.deps d ∧
    (kget s.msgs rid = none → kget (s.releaseStep p q).msgs rid = none) := by
  rcases s.releaseStep_cases p (q := q) with h | h
  · rw [h]; exact ⟨rfl, id⟩
  · rw [h, State.answerMsg]
    have hgone : kget s.msgs rid = none → kget (s.unpost q.1).msgs rid = none := fun hn => by
      rw [State.msgs_unpost]; split; exact rfl; exact hn
    split
    · next r hr => exact ⟨by rw [State.deps_modDep, if_neg fun heq => hdep (by rw [hr, heq])]; rfl, hgone⟩
    · exact ⟨rfl, hgone⟩

theorem releaseSteps_other {l : List (Nat × Msg)} (hdep : ∀ q ∈ l, q.2.dep ≠ some d) :
    kget (l.foldl (State.releaseStep p) s).deps d = kget s.deps d ∧
    (kget s.msgs rid = none → kget (l.foldl (State.releaseStep p) s).msgs rid = none) := by
  induction l generalizing s with
  | nil => exact ⟨rfl, id⟩
  | cons q l ih =>
    obtain ⟨hd, hm⟩ := ih (s.releaseStep p q) fun z hz => hdep z (List.mem_cons_of_mem q hz)
    obtain ⟨hd', hm'⟩ := s.releaseStep_other p (rid := rid) (hdep q List.mem_cons_self)
    exact ⟨hd.trans hd', hm ∘ hm'⟩

/-- The one wait of a deposit for the released episode is answered. -/
theorem releaseSteps_answered {m : Msg} {y : Dep} {g member : Nat} {b : Word} (hs : ksorted s.msgs = true) (hm : kget s.msgs rid = some m)
    (hop : m.op = .barrier 3 p.addr p.arg1 b g member) (hsent : m.sent = true) (hctx : m.ctx = p.ctx) (hd : m.dep = some d) (hy : kget s.deps d = some y)
    (hone : ∀ r z, kget s.msgs r = some z → z.dep = some d → r = rid) (t : State) (ht : t.deps = s.deps) :
    kget (s.msgs.foldl (State.releaseStep p) t).deps d = some (y.answer p.arg2.toNat []) ∧
    kget (s.msgs.foldl (State.releaseStep p) t).msgs rid = none := by
  obtain ⟨l₁, l₂, hsplit⟩ := List.append_of_mem (kget_mem hm)
  have hall : ∀ q ∈ s.msgs, q.2.dep = some d → q.1 = rid := fun q hq hqd => hone q.1 q.2 (kget_of_mem hs hq) hqd
  have hpair := (ksorted_iff s.msgs).1 hs
  rw [hsplit] at hall hpair ⊢
  obtain ⟨-, hrest, hcross⟩ := List.pairwise_append.1 hpair
  have hafter := (List.pairwise_cons.1 hrest).1
  have h₁ : ∀ q ∈ l₁, q.2.dep ≠ some d := fun q hq hqd =>
    Nat.ne_of_lt (hcross q hq (rid, m) List.mem_cons_self) (hall q (List.mem_append_left _ hq) hqd)
  have h₂ : ∀ q ∈ l₂, q.2.dep ≠ some d := fun q hq hqd =>
    Nat.ne_of_gt (hafter q hq) (hall q (List.mem_append_right _ (List.mem_cons_of_mem _ hq)) hqd)
  have hbefore := (releaseSteps_other p t (rid := rid) h₁).1
  have hstep : (l₁.foldl (State.releaseStep p) t).releaseStep p (rid, m) = (l₁.foldl (State.releaseStep p) t).answerMsg rid m p.arg2.toNat [] := by
    simp [State.releaseStep, hop, hsent, hctx, sameBarrier]
  rw [List.foldl_append, List.foldl_cons, hstep]
  obtain ⟨hdep, hmsg⟩ := releaseSteps_other p ((l₁.foldl (State.releaseStep p) t).answerMsg rid m p.arg2.toNat []) (rid := rid) h₂
  refine ⟨hdep.trans ?_, hmsg ?_⟩
  · simp only [State.answerMsg, hd]
    rw [State.deps_modDep, if_pos rfl]
    show Option.map _ (kget (l₁.foldl (State.releaseStep p) t).deps d) = _
    rw [hbefore, ht, hy]
    rfl
  · simp only [State.answerMsg, hd]
    exact kget_kdel_same _ _

end

/-- Settles O39: the operations of a named barrier, then a release packet. -/
theorem barrierSteps : Obligations.BarrierSteps := by
  unfold Obligations.BarrierSteps
  refine ⟨fun s rid op n g member m h a b hd hn => ?_, ?release⟩
  · subst hn
    have hready : kget s.msgs rid = some m := State.kget_of_ready hd.1
    refine ⟨?arm, ?clear, ?bara, ?barx, ?twice, ?wait, ?query⟩
    case arm =>
      rintro rfl hecho hstalls
      have hbit : a.toNat.testBit 20 = false := by
        rw [Nat.testBit_eq_decide_div_mod_eq]; simpa using hecho
      have hexec : exec (.barrierArm (.own rid)) s = .next ((s.armBarrier (.named (128 * g + bhN h)) m.ctx g a.toNat 0).2.ackMsg rid m
          (s.armBarrier (.named (128 * g + bhN h)) m.ctx g a.toNat 0).1) := by
        obtain ⟨-, hop, -⟩ := id hd
        refine congrArg Host.Outcome.next ((State.barrierStep_named hd [0] rfl _).trans ?_)
        simp only [hop]
        rfl
      refine ⟨fun hfree => ?_, fun z hz hw => ?_⟩
      · rw [s.armBarrier_free _ hbit hfree] at hexec
        obtain ⟨hmsg, hbr⟩ := State.kget_ackMsg_stalls hready hstalls
          { s with br := { s.br with barriers := kset s.br.barriers (128 * g + bhN h) { ctx := m.ctx, t := a.toNat % 4096 + 1, group := g } } } rfl 0
        refine ⟨_, _, _, hexec, (congrArg (fun br => kget br.barriers _) hbr).trans (kget_kset_same ..), rfl, rfl, rfl, rfl, rfl, rfl, rfl, hmsg, rfl,
          fun i hi => (congrArg (fun br => kget br.barriers i) hbr).trans (kget_kset_other _ _ hi)⟩
      · rw [s.armBarrier_held _ hbit hz hw] at hexec
        by_cases hsame : z.t = a.toNat % 4096 + 1 ∧ z.mask = 0 ∧ z.cfgEcho = none
        · rw [if_pos hsame] at hexec
          obtain ⟨hmsg, hbr⟩ := State.kget_ackMsg_stalls hready hstalls s rfl 0
          exact ⟨_, _, hexec, hmsg, fun _ _ _ => ⟨rfl, hbr⟩, fun hne => absurd hsame.1 hne⟩
        · rw [if_neg hsame] at hexec
          obtain ⟨hmsg, hbr⟩ := State.kget_ackMsg_stalls hready hstalls { s with br := { s.br with
            barriers := kset s.br.barriers (128 * g + bhN h) { z with state := .broken, reason := 3, waiters := [] } } } rfl 3
          exact ⟨_, _, hexec, hmsg, fun ht hmask hecho => absurd ⟨ht, hmask, hecho⟩ hsame,
            fun _ => ⟨rfl, (congrArg (fun br => kget br.barriers _) hbr).trans (kget_kset_same ..)⟩⟩
    case clear =>
      rintro z rfl hstalls hz hw
      obtain ⟨br, hclear, hnone⟩ := s.clearAt_alone _ hz hw m.ctx
      have hexec : exec (.barrierClear (.own rid)) s = .next (({ s with br := br } : State).ackMsg rid m 0) := by
        refine congrArg Host.Outcome.next ((State.barrierStep_named hd [1] rfl _).trans ?_)
        simp only [hclear]
      obtain ⟨hmsg, hbr⟩ := State.kget_ackMsg_stalls hready hstalls { s with br := br } rfl 0
      exact ⟨_, _, hexec, (congrArg (fun br => kget br.barriers _) hbr).trans hnone, hmsg, rfl⟩
    case bara =>
      rintro z d y rfl hdep hy hz hbroken hfirst
      have hexec : exec (.barrierArrival (.own rid)) s = .next ((s.unpost rid).arrive (.named (128 * g + bhN h)) m.ctx member false (.own d) h) := by
        refine congrArg Host.Outcome.next ((State.barrierStep_named hd [2, 5] rfl _).trans ?_)
        simp only [hdep]
        rfl
      rw [(s.unpost rid).arrive_bara _ hz m.ctx member d h hbroken hfirst] at hexec
      have hanswered : kget ((s.unpost rid).modDep d (fun x => x.answer z.e [])).deps d = some (y.answer z.e []) := by
        rw [State.deps_modDep, if_pos rfl]; exact congrArg (Option.map _) hy
      refine ⟨fun hmore => ?_, fun hlast hbarx hecho hown => ?_⟩
      · rw [if_neg hmore] at hexec
        exact ⟨_, _, hexec, hanswered, kget_kset_same .., rfl, rfl, rfl, List.append_nil _, rfl⟩
      · rw [if_pos hlast] at hexec
        have hown' : ∀ v ∈ (z.arrived member s.now false []).waiters, v.episode = z.e ∧ ∃ r, v.who = .own r := by
          intro v hv
          obtain ⟨he, r, hr, -⟩ := hown v (by simpa [Barrier.arrived] using hv)
          exact ⟨he, r, hr⟩
        obtain ⟨t, hbr, hdeps, hrel⟩ := State.releaseBarrier_own ((s.unpost rid).modDep d (fun x => x.answer z.e [])) (128 * g + bhN h)
          (b := z.arrived member s.now false []) (by simp [Barrier.arrived, hbarx]) hecho hown'
        have hwaiters : (z.arrived member s.now false []).waiters = z.waiters := List.append_nil _
        rw [hwaiters] at hrel
        refine ⟨_, _, hexec.trans (congrArg Host.Outcome.next hrel), ?_, kget_kset_same .., rfl, rfl, rfl, rfl, rfl, rfl, fun hnodup v hv r x hr hx => ?_⟩
        · refine (tellWaiters_other t _ fun v hv heq => ?_).trans ((congrArg (kget · d) hdeps).trans hanswered)
          obtain ⟨-, r, hr, hne⟩ := hown v hv
          exact hne (BWho.own.inj (hr.symm.trans heq))
        · refine tellWaiters_told t _ hnodup hv hr ((congrArg (kget · r) hdeps).trans ?_)
          obtain ⟨-, r', hr', hne⟩ := hown v hv
          have hother : r ≠ d := fun heq => hne ((BWho.own.inj (hr'.symm.trans hr)).trans heq)
          rw [State.deps_modDep, if_neg hother]
          exact hx
    case barx =>
      rintro z d rfl hdep hz hbroken hfirst hmore
      have hexec : exec (.barrierArrival (.own rid)) s = .next ((s.unpost rid).arrive (.named (128 * g + bhN h)) m.ctx member true (.own d) h) := by
        refine congrArg Host.Outcome.next ((State.barrierStep_named hd [2, 5] rfl _).trans ?_)
        simp only [hdep]
        rfl
      rw [(s.unpost rid).arrive_barx _ hz m.ctx member d h hbroken hfirst hmore] at hexec
      exact ⟨_, _, hexec, rfl, kget_kset_same .., rfl, rfl, rfl, by simp [Barrier.arrived], rfl⟩
    case twice =>
      rintro z d y rfl hdep hy hz hcoll hw htwice
      have hexec : exec (.barrierArrival (.own rid)) s = .next ((s.unpost rid).arrive (.named (128 * g + bhN h)) m.ctx member false (.own d) h) := by
        refine congrArg Host.Outcome.next ((State.barrierStep_named hd [2, 5] rfl _).trans ?_)
        simp only [hdep]
        rfl
      rw [(s.unpost rid).arrive_twice _ hz m.ctx member d h hcoll hw htwice] at hexec
      refine ⟨_, hexec, kget_kset_same .., ?_⟩
      rw [State.deps_modDep, if_pos rfl]
      exact congrArg (Option.map _) hy
    case wait =>
      rintro z d y rfl hdep hy hz hbroken he ha
      have hexec : exec (.barrierWait (.own rid)) s = .next ((s.unpost rid).awaitBarrier (.named (128 * g + bhN h)) m.ctx a.toNat (.own d) h) := by
        refine congrArg Host.Outcome.next ((State.barrierStep_named hd [3] rfl _).trans ?_)
        simp only [hdep]
        rfl
      rw [(s.unpost rid).awaitBarrier_named _ hz hbroken] at hexec
      refine ⟨fun hnew => ?_, fun hlow hhigh => ?_⟩
      · rw [if_neg (by omega)] at hexec
        exact ⟨_, hexec, kget_kdel_same _ _, hy, kget_kset_same ..⟩
      · rw [if_pos ⟨hlow, hhigh⟩] at hexec
        refine ⟨_, hexec, ?_, rfl⟩
        rw [State.deps_modDep, if_pos rfl]
        exact congrArg (Option.map _) hy
    case query =>
      rintro rfl
      refine congrArg Host.Outcome.next ((State.barrierStep_named hd [4] rfl _).trans ?_)
      simp only [State.barrierStatus, State.barrierAt]
      cases kget s.br.barriers (128 * g + bhN h) <;> rfl
  case release =>
    intro s p rid d g member b m y h hs hm hop hsent hctx hd hy hone
    obtain ⟨lk, hheard⟩ := heard_eq s p
    obtain ⟨t, hexec, hmsgs, hdeps⟩ : ∃ t : State, exec (.barrierReleasePacket p) s = .next (t.msgs.foldl (State.releaseStep p) t) ∧
        t.msgs = s.msgs ∧ t.deps = s.deps := by
      refine ⟨if p.op.testBit 0 then { Claims.heard s p with br := { (Claims.heard s p).br with views := kset (Claims.heard s p).br.views p.ctx (p.op / 2 % 256) } }
        else Claims.heard s p, ?_, ?_, ?_⟩
      · show execBarrierReleasePacket p s = _
        rw [execBarrierReleasePacket, State.packetStep_comes h]
        rfl
      · rw [hheard]; split <;> rfl
      · rw [hheard]; split <;> rfl
    rw [hmsgs] at hexec
    obtain ⟨hanswer, hgone⟩ := releaseSteps_answered p s hs hm hop hsent hctx hd hy hone t hdeps
    exact ⟨_, hexec, hanswer, hgone⟩

end Sys2Proof.Machine
end

section
/-!
Work that ends: slots leave, and no slot comes (12 R251; 18 R351; 21 R413).
-/

namespace Sys2Proof.Machine

/-- Slots stay, and so do the time, the zones and what the die knows of its health. -/
structure Still (s t : State) : Prop where
  time : t.t = s.t
  zn : t.zn = s.zn
  hl : t.hl = s.hl
  slots : t.slots = s.slots

/-- From one die to the next slots only leave, and those that stay keep their context; the time, the zones and what the die knows
of its health stay. -/
structure Ends (s t : State) : Prop where
  time : t.t = s.t
  zn : t.zn = s.zn
  hl : t.hl = s.hl
  slots : ∀ i x, t.slot i = some x → ∃ y, s.slot i = some y ∧ y.ctx = x.ctx

section
variable {s t u : State}

theorem Still.refl (s : State) : Still s s := ⟨rfl, rfl, rfl, rfl⟩

theorem Still.trans (h : Still s t) (k : Still t u) : Still s u :=
  ⟨k.time.trans h.time, k.zn.trans h.zn, k.hl.trans h.hl, k.slots.trans h.slots⟩

/-- A step that begins on a die of the same time, zones, health and slots. -/
theorem Still.after (k : Still t u) (h : Still s t) : Still s u := h.trans k

theorem Still.foldl {α : Type} {f : State → α → State} (hf : ∀ s a, Still s (f s a)) (l : List α) (s : State) : Still s (l.foldl f s) :=
  ⟨foldl_keeps State.t (fun s a => (hf s a).time) l s, foldl_keeps State.zn (fun s a => (hf s a).zn) l s,
    foldl_keeps State.hl (fun s a => (hf s a).hl) l s, foldl_keeps State.slots (fun s a => (hf s a).slots) l s⟩

theorem Ends.refl (s : State) : Ends s s := ⟨rfl, rfl, rfl, fun _ x h => ⟨x, h, rfl⟩⟩

theorem Ends.trans (h : Ends s t) (k : Ends t u) : Ends s u :=
  ⟨k.time.trans h.time, k.zn.trans h.zn, k.hl.trans h.hl, fun i x hx => by
    obtain ⟨y, hy, hxy⟩ := k.slots i x hx
    obtain ⟨z, hz, hyz⟩ := h.slots i y hy
    exact ⟨z, hz, hyz.trans hxy⟩⟩

theorem Still.ends (h : Still s t) : Ends s t := ⟨h.time, h.zn, h.hl, fun i x hx => ⟨x, by rw [State.slot, ← h.slots]; exact hx, rfl⟩⟩

theorem Ends.after (k : Ends t u) (h : Still s t) : Ends s u := h.ends.trans k

theorem Ends.same (ht : t.t = s.t) (hzn : t.zn = s.zn) (hhl : t.hl = s.hl) (hslots : t.slots = s.slots) : Ends s t :=
  Still.ends ⟨ht, hzn, hhl, hslots⟩

theorem Ends.foldl {α : Type} {f : State → α → State} (hf : ∀ s a, Ends s (f s a)) (l : List α) (s : State) : Ends s (l.foldl f s) := by
  induction l generalizing s with
  | nil => exact .refl s
  | cons a l ih => exact (hf s a).trans (ih _)

/-- A slot that is not there does not come. -/
theorem Ends.none (h : Ends s t) {i : Nat} (hi : s.slot i = none) : t.slot i = none := by
  cases ht : t.slot i with
  | none => rfl
  | some x =>
    obtain ⟨y, hy, -⟩ := h.slots i x ht
    rw [hi] at hy; cases hy

end

section
variable (s : State)

/-! ### Answers and packets -/

theorem State.out_still (x : OutItem) : Still s (s.out x) := by
  rcases s.out_cases x with ⟨p, m, n, -, h⟩ | h <;> rw [h] <;> exact ⟨rfl, rfl, rfl, rfl⟩

theorem State.answerMsg_still (rid : Nat) (m : Msg) (bits : Nat) (ue : List UeEvent) : Still s (s.answerMsg rid m bits ue) := by
  unfold State.answerMsg; split <;> exact ⟨rfl, rfl, rfl, rfl⟩

theorem State.ackMsg_still (rid : Nat) (m : Msg) (code : Nat) : Still s (s.ackMsg rid m code) := by
  unfold State.ackMsg; split
  · exact ⟨rfl, rfl, rfl, rfl⟩
  · exact s.answerMsg_still ..

theorem State.respond_still (p q : Packet) : Still s (s.respond p q) := by
  unfold State.respond; split
  · exact .refl s
  · exact s.out_still _

theorem Slot.addLate_ctx (x : Slot) (f : LateFault) : (x.addLate f).ctx = x.ctx := by
  unfold Slot.addLate; repeat' split
  all_goals rfl

theorem State.modHeld_still (sid : Nat) (f : Slot → Slot) : Still s (s.modHeld sid f) := by
  unfold State.modHeld; split <;> exact ⟨rfl, rfl, rfl, rfl⟩

theorem State.orphaned_still (count : Bool) : Still s (s.orphaned count) := by
  unfold State.orphaned; split <;> exact ⟨rfl, rfl, rfl, rfl⟩

/-- A slot changed in place, in its context. -/
theorem State.modSlot_ends (sid : Nat) {f : Slot → Slot} (hf : ∀ x, (f x).ctx = x.ctx) : Ends s (s.modSlot sid f) := by
  refine ⟨rfl, rfl, rfl, fun i x hx => ?_⟩
  rw [State.slot_modSlot] at hx
  split at hx
  · subst ‹i = sid›
    obtain ⟨y, hy, rfl⟩ := Option.map_eq_some_iff.1 hx
    exact ⟨y, hy, (hf y).symm⟩
  · exact ⟨x, hx, rfl⟩

theorem State.lateFor_ends (sid : Option Nat) (f : LateFault) (count : Bool) : Ends s (s.lateFor sid f count) := by
  unfold State.lateFor
  split
  · split
    · refine (s.modSlot_ends _ fun x => ?_).trans (State.modHeld_still ..).ends
      split
      · rfl
      · exact x.addLate_ctx f
    · split
      · exact Ends.same rfl rfl rfl rfl
      · exact (s.orphaned_still count).ends
  · exact (s.orphaned_still count).ends

theorem State.nackMsg_ends (rid : Nat) (m : Msg) : Ends s (s.nackMsg rid m) := by
  simp only [State.nackMsg]
  split
  · exact Ends.same rfl rfl rfl rfl
  · split
    · exact Ends.same rfl rfl rfl rfl
    · exact (State.lateFor_ends (s.unpost rid) ..).after ⟨rfl, rfl, rfl, rfl⟩

theorem State.portAnswer_ends (q : HomeReq) (write : Bool) (r : PortRes) : Ends s (s.portAnswer q write r) := by
  unfold State.portAnswer
  split
  · split
    · split
      · exact (s.ackMsg_still ..).ends
      · exact (s.answerMsg_still ..).ends
    · exact s.nackMsg_ends ..
    · exact .refl s
  · split
    · exact (s.respond_still ..).ends
    · exact (s.out_still _).ends

/-! ### The pool -/

theorem State.pick_still (l : List Nat) : Still s (s.pick l).2 := by
  unfold State.pick; split <;> exact ⟨rfl, rfl, rfl, rfl⟩

theorem State.giveNext_still (d i : Nat) : Still s (s.giveNext d i) := by
  unfold State.giveNext State.runEntry; split
  · exact .refl s
  · split <;> exact ⟨rfl, rfl, rfl, rfl⟩

theorem State.serveNexts_still (ctx : Nat) (l : List Nat) : Still s (s.serveNexts ctx l) := by
  induction l generalizing s with
  | nil => exact .refl s
  | cons rid l ih =>
    unfold State.serveNexts
    split
    · exact (ih _).after ⟨rfl, rfl, rfl, rfl⟩
    · next m _ =>
      split
      · exact ih _
      · have hp := s.pick_still (s.qualifying ctx true)
        split
        · next i t ht =>
          rw [ht] at hp
          have hgive : Still t ((t.unpost rid).giveNext (m.dep.getD rid) i) := (State.giveNext_still (t.unpost rid) ..).after ⟨rfl, rfl, rfl, rfl⟩
          exact (hp.trans hgive).trans ((ih _).after ⟨rfl, rfl, rfl, rfl⟩)
        · next t ht => rw [ht] at hp; exact hp

theorem State.unrun_still (h : Word) : Still s (s.unrun h) := by
  unfold State.unrun
  split
  · split
    · exact (State.serveNexts_still _ _ _).after ⟨rfl, rfl, rfl, rfl⟩
    · exact .refl s
  · exact .refl s

theorem State.emptyEntry_still (i : Nat) : Still s (s.emptyEntry i) := by
  obtain ⟨pl, h, -⟩ := s.emptyEntry_eq i
  rw [h]; exact ⟨rfl, rfl, rfl, rfl⟩

theorem State.unloadEnd_still : Still s s.unloadEnd := by
  simp only [State.unloadEnd]; split <;> exact ⟨rfl, rfl, rfl, rfl⟩

theorem State.retire_still (i : Nat) : Still s (s.retire i) := (s.emptyEntry_still i).trans (State.unloadEnd_still _)

theorem State.rerunEntry_still (i : Nat) : Still s (s.rerunEntry i) := by
  unfold State.rerunEntry; split
  · split
    · exact (State.unrun_still _ _).after ⟨rfl, rfl, rfl, rfl⟩
    · exact .refl s
  · exact .refl s

/-! ### Slots that become FREE (12 R251) -/

theorem State.abandon_still (sid : Nat) : Still s (s.abandon sid) := by
  unfold State.abandon
  refine Still.after (Still.foldl (fun t p => ?_) _ _) ⟨rfl, rfl, rfl, rfl⟩
  split
  · exact t.unrun_still _
  · exact .refl t

theorem State.leaveCore_still (c ctx : Nat) (pair : Bool) : Still s (s.leaveCore c ctx pair) := by
  simp only [State.leaveCore]
  split <;> split <;> exact ⟨rfl, rfl, rfl, rfl⟩

/-- A slot becomes FREE, and every other stays as it is. -/
theorem State.freeSlot_slot (sid : Nat) : 
    ((s.freeSlot sid).t = s.t ∧ (s.freeSlot sid).zn = s.zn ∧ (s.freeSlot sid).hl = s.hl) ∧ ∀ i, (s.freeSlot sid).slot i = if i = sid then none else s.slot i := by
  unfold State.freeSlot
  split
  · next hnone =>
    refine ⟨⟨rfl, rfl, rfl⟩, fun i => ?_⟩
    split
    · subst ‹i = sid›; exact hnone
    · rfl
  · next x _ =>
    have hab := s.abandon_still sid
    have hleave := State.leaveCore_still { ((((s.abandon sid).orphanMsgs sid false).cancelSfu sid).leaveWalks sid) with
      slots := kdel ((((s.abandon sid).orphanMsgs sid false).cancelSfu sid).leaveWalks sid).slots sid } (sid / 16) x.ctx x.pairMode
    refine ⟨⟨hleave.time.trans hab.time, hleave.zn.trans hab.zn, hleave.hl.trans hab.hl⟩, fun i => ?_⟩
    have hslots : (((((s.abandon sid).orphanMsgs sid false).cancelSfu sid).leaveWalks sid)).slots = s.slots := hab.slots
    refine (congrArg (kget · i) hleave.slots).trans ?_
    show kget (kdel _ sid) i = _
    rw [hslots]
    split
    · subst ‹i = sid›; exact kget_kdel_same _ _
    · exact kget_kdel_other _ ‹_›

theorem State.freeSlot_ends (sid : Nat) : Ends s (s.freeSlot sid) := by
  obtain ⟨⟨ht, hzn, hhl⟩, hslot⟩ := s.freeSlot_slot sid
  refine ⟨ht, hzn, hhl, fun i x hx => ?_⟩
  rw [hslot] at hx
  split at hx
  · cases hx
  · exact ⟨x, hx, rfl⟩

/-- Slots that become FREE together. -/
theorem freeSlots_gone (l : List Nat) {i : Nat} (hi : i ∈ l) : (l.foldl (fun (s : State) i => s.freeSlot i) s).slot i = none := by
  induction l generalizing s with
  | nil => exact absurd hi List.not_mem_nil
  | cons a l ih =>
    by_cases hl : i ∈ l
    · exact ih _ hl
    · have ha : i = a := (List.mem_cons.1 hi).resolve_right hl
      exact (Ends.foldl (fun t b => t.freeSlot_ends b) l (s.freeSlot a)).none (((s.freeSlot_slot a).2 i).trans (if_pos ha))

/-! ### Barriers and channels -/

theorem State.barrierFail_still (w : BWho) (ctx : Nat) (h : Word) (r : Nat) : Still s (s.barrierFail w ctx h r) := by
  cases w with
  | own d => exact ⟨rfl, rfl, rfl, rfl⟩
  | agent a tag => unfold State.barrierFail; exact s.out_still _

theorem State.breakBarrier_still (k : BKey) (b : Barrier) (r : Nat) : Still s (s.breakBarrier k b r) := by
  have h := Still.foldl (fun (t : State) (w : BWaiter) => t.barrierFail_still w.who b.ctx w.h r) b.waiters s
  exact ⟨(State.setBarrier_t ..).trans h.time, (State.setBarrier_zn ..).trans h.zn, (State.setBarrier_hl ..).trans h.hl, (State.setBarrier_slots ..).trans h.slots⟩

theorem State.breakWhere_still (named die : Barrier → Bool) (r : Nat) : Still s (s.breakWhere named die r) :=
  Still.trans (Still.foldl (fun t _ => t.breakBarrier_still ..) _ _) (Still.foldl (fun t _ => t.breakBarrier_still ..) _ _)

theorem State.freeBarrier_still (k : BKey) : Still s (s.freeBarrier k none) := by
  unfold State.freeBarrier
  split
  · exact .refl s
  · next b _ => cases b.echo <;> cases k <;> exact ⟨rfl, rfl, rfl, rfl⟩

theorem State.stopChannel_ends (n : Nat) : Ends s (s.stopChannel n) := by
  simp only [State.stopChannel]
  refine Ends.trans ?_ (Ends.foldl (fun t p => ?_) _ _)
  · exact Ends.after (Ends.foldl (fun t q => t.portAnswer_ends q true .nack) _ _) ⟨rfl, rfl, rfl, rfl⟩
  · split
    · exact (t.retire_still _).ends
    · exact .refl t

/-! ### A context that is FAULTED (18 R351) -/

theorem State.tellFault_still (c : Nat) : Still s (s.tellFault c) := by
  unfold State.tellFault
  refine Still.foldl (fun t a => ?_) _ s
  exact ⟨rfl, rfl, rfl, rfl⟩

theorem State.endCommand_still (c v : Nat) : Still s (s.endCommand c v) := by
  simp only [State.endCommand]; split <;> exact ⟨rfl, rfl, rfl, rfl⟩

theorem State.ctxReject_still (c : Nat) : Still s (s.ctxReject c) := by
  constructor <;> simp [State.ctxReject]

/-- The work of a context ends, and none of its slots stays. -/
theorem State.dropWork_ends (c r : Nat) : Ends s (s.dropWork c r) ∧ ∀ i x, (s.dropWork c r).slot i = some x → x.ctx ≠ c := by
  have hbreak := s.breakWhere_still (fun b => b.ctx == c) (fun b => b.ctx == c && b.mask.testBit (s.ownPos c)) r
  generalize hmine : (s.slots.filter (fun (p : Nat × Slot) => p.2.ctx == c)).map (fun p => p.1) = mine
  generalize ht : mine.foldl (fun (s : State) i => s.freeSlot i) (s.breakWhere (fun b => b.ctx == c) (fun b => b.ctx == c && b.mask.testBit (s.ownPos c)) r) = t
  have hfree : Ends s t := ht ▸ hbreak.ends.trans (Ends.foldl (fun t i => t.freeSlot_ends i) _ _)
  have hgone : ∀ i x, t.slot i = some x → x.ctx ≠ c := by
    intro i x hx heq
    obtain ⟨y, hy, hctx⟩ := hfree.slots i x hx
    have hin : i ∈ mine := hmine ▸ List.mem_map.2 ⟨(i, y), List.mem_filter.2 ⟨kget_mem hy, beq_iff_eq.2 (hctx.trans heq)⟩, rfl⟩
    have hnone := freeSlots_gone (s.breakWhere (fun b => b.ctx == c) (fun b => b.ctx == c && b.mask.testBit (s.ownPos c)) r) mine hin
    rw [ht, hx] at hnone
    cases hnone
  have hrest : Ends t (s.dropWork c r) := by
    subst ht hmine
    unfold State.dropWork
    refine Still.ends (State.unloadEnd_still _) |> Ends.trans ?_
    refine Ends.trans ?_ (Ends.foldl (fun t i => (t.emptyEntry_still i).ends) _ _)
    refine Ends.trans ?_ (Ends.foldl (fun t n => t.stopChannel_ends n) _ _)
    exact Ends.after (Ends.foldl (fun t k => (t.freeBarrier_still (.named k)).ends) _ _) ⟨rfl, rfl, rfl, rfl⟩
  refine ⟨hfree.trans hrest, fun i x hx => ?_⟩
  obtain ⟨y, hy, hctx⟩ := hrest.slots i x hx
  exact hctx ▸ hgone i y hy

/-- A context as it becomes FAULTED. -/
def Context.fault (k : Context) (fcause fdata now : Nat) : Context :=
  { k with state := .faulted, fcause := fcause, fdata := fdata, restoring := false, busy := false, faultAt := some now }

/-- A die on which the work of a context has ended with the result `v` of its command, and the context itself has not changed yet. -/
def State.workEnded (s : State) (c v : Nat) : State :=
  let s := ((s.dropWork c brFault).tellFault c).endCommand c v
  if (s.ctx c).cmdAt = some s.t.cycle then s.ctxReject c else s

theorem State.faultContext_eq (c fcause fdata : Nat) : ∃ v w, s.faultContext c fcause fdata =
    ((s.workEnded c v).modCtx c (fun k => k.fault fcause fdata (s.workEnded c v).t.cycle)).irq w := by
  refine ⟨2 ^ 63 + (if fcause = 20 then 20 else 4), ?_⟩
  unfold State.faultContext State.workEnded Context.fault
  generalize 2 ^ 63 + (if fcause = 20 then 20 else 4) = v
  dsimp only
  generalize ((s.dropWork c brFault).tellFault c).endCommand c v = u
  exact ⟨_, rfl⟩

theorem State.workEnded_still (c v : Nat) : Still (s.dropWork c brFault) (s.workEnded c v) := by
  have hend := (State.tellFault_still (s.dropWork c brFault) c).trans (State.endCommand_still _ c v)
  unfold State.workEnded
  generalize ((s.dropWork c brFault).tellFault c).endCommand c v = t at hend
  show Still _ (if (t.ctx c).cmdAt = some t.t.cycle then t.ctxReject c else t)
  split
  · exact hend.trans (State.ctxReject_still _ c)
  · exact hend

theorem State.faultContext_ends (c fcause fdata : Nat) : Ends s (s.faultContext c fcause fdata) ∧
    (∀ i x, (s.faultContext c fcause fdata).slot i = some x → x.ctx ≠ c) ∧
    ((s.faultContext c fcause fdata).ctx c).state = .faulted ∧ ((s.faultContext c fcause fdata).ctx c).fcause = fcause := by
  obtain ⟨hdrop, hgone⟩ := s.dropWork_ends c brFault
  obtain ⟨v, w, heq⟩ := s.faultContext_eq c fcause fdata
  have ht := s.workEnded_still c v
  generalize s.workEnded c v = t at heq ht
  have hctx : ((t.modCtx c (fun k => k.fault fcause fdata t.t.cycle)).irq w).ctx c = (t.ctx c).fault fcause fdata t.t.cycle :=
    (t.ctx_modCtx c c (fun k => k.fault fcause fdata t.t.cycle)).trans (if_pos rfl)
  rw [heq, hctx]
  refine ⟨(hdrop.trans ht.ends).trans (Ends.same rfl rfl rfl rfl), fun i x hx => hgone i x ?_, rfl, rfl⟩
  rw [State.slot, ← ht.slots]
  exact hx

/-! ### Cores that are fenced (21 R413) -/

theorem State.stopMatrix_still (cores : List Nat) : Still s (s.stopMatrix cores) := by
  refine Still.foldl (fun t c => ?_) _ s
  split <;> exact ⟨rfl, rfl, rfl, rfl⟩

theorem State.redeal_still (g : Group) : Still s (s.redeal g) := by
  unfold State.redeal; split <;> exact ⟨rfl, rfl, rfl, rfl⟩

theorem State.stopSlots_ends (w : FencedWork) : Ends s (s.stopSlots w) ∧ ∀ p ∈ w.slots, (s.stopSlots w).slot p.1 = none := by
  have hbreak := s.breakWhere_still (fun b => (w.groups.map (fun p => p.1)).contains b.group) (fun _ => false) brFence
  generalize ht : w.slots.foldl (fun (s : State) p => s.freeSlot p.1)
    (s.breakWhere (fun b => (w.groups.map (fun p => p.1)).contains b.group) (fun _ => false) brFence) = t
  have hfree : Ends s t := ht ▸ hbreak.ends.trans (Ends.foldl (f := fun (s : State) (p : Nat × Slot) => s.freeSlot p.1) (fun t p => t.freeSlot_ends p.1) _ _)
  have hgone : ∀ p ∈ w.slots, t.slot p.1 = none := by
    intro p hp
    rw [← ht, ← List.foldl_map]
    exact freeSlots_gone _ _ (List.mem_map.2 ⟨p, hp, rfl⟩)
  have hrest : Still t (s.stopSlots w) := by
    subst ht
    unfold State.stopSlots
    refine Still.trans (Still.trans ?_ (Still.foldl (fun t k => t.freeBarrier_still (.named k)) _ _)) ⟨rfl, rfl, rfl, rfl⟩
    exact Still.foldl (f := fun (t : State) (p : Nat × Transfer) => t.endTransfer p.1 p.2) (fun t p => ⟨rfl, rfl, rfl, rfl⟩) _ _
  exact ⟨hfree.trans hrest.ends, fun p hp => hrest.ends.none (hgone p hp)⟩

/-- Fenced cores have no slots left. -/
theorem State.fenceCores_ends (cores : List Nat) : Ends s (s.fenceCores cores) ∧ ∀ i, i / 16 ∈ cores → (s.fenceCores cores).slot i = none := by
  generalize ht : cores.foldl (fun (s : State) c => if (s.core c).pair = {} then s else s.modCore c (fun k => { k with pair := {} }))
    { s with msgs := s.msgs.filter (fun (p : Nat × Msg) => !(cores.flatMap (fun c => (s.core c).pair.buffer)).contains p.1) } = t
  have hpair : Still s t := by
    rw [← ht]
    refine Still.after (Still.foldl (fun t c => ?_) _ _) ⟨rfl, rfl, rfl, rfl⟩
    split <;> exact ⟨rfl, rfl, rfl, rfl⟩
  obtain ⟨hstop, hgone⟩ := t.stopSlots_ends (s.workOn cores)
  have hrest : Ends (t.stopSlots (s.workOn cores)) (s.fenceCores cores) := by
    subst ht
    unfold State.fenceCores
    refine Ends.trans ?_ (Ends.foldl (fun t c => ?_) _ _)
    · refine Ends.trans ?_ (Ends.foldl (f := fun (s : State) (p : Nat × Group) => s.redeal p.2) (fun t p => (t.redeal_still p.2).ends) _ _)
      refine Ends.trans ?_ (Ends.foldl (fun t i => (t.rerunEntry_still i).ends) _ _)
      exact (State.stopMatrix_still _ cores).ends
    · split
      · exact (t.faultContext_ends c 0 0).1
      · exact .refl t
  refine ⟨hpair.ends.trans (hstop.trans hrest), fun i hi => hrest.none ?_⟩
  cases hs : s.slot i with
  | none => exact (hpair.ends.trans hstop).none hs
  | some x => exact hgone (i, x) (List.mem_filter.2 ⟨kget_mem hs, List.contains_iff_mem.2 hi⟩)

end

end Sys2Proof.Machine
end

section
/-!
Ways, slices, monitors and the lifetime record (21 R414 to R419).
-/

namespace Sys2Proof.Machine

/-- A word of which one bit is written 0 loses that bit alone. -/
theorem getLsbD_setBits_zero (w : Word) (k j : Nat) :
    (BitVec.ofNat 64 (setBits k k w.toNat 0)).getLsbD j = (w.getLsbD j && !decide (j = k ∧ k < 64)) := by
  have hbit : (w &&& BitVec.twoPow 64 k).toNat = w.toNat / 2 ^ k % 2 * 2 ^ k := by
    have hdiv : w.toNat / 2 ^ k % 2 = (w.getLsbD k).toNat := (Nat.toNat_testBit w.toNat k).symm
    rw [BitVec.and_twoPow, hdiv]
    cases hk : w.getLsbD k with
    | false => simp
    | true =>
      have hlt : k < 64 := BitVec.lt_of_getLsbD hk
      simp [BitVec.toNat_twoPow, Nat.mod_eq_of_lt (Nat.pow_lt_pow_right (by decide : 1 < 2) hlt)]
  have hword : BitVec.ofNat 64 (setBits k k w.toNat 0) = w &&& ~~~(BitVec.twoPow 64 k) := by
    apply BitVec.eq_of_toNat_eq
    have hone : k + 1 - k = 1 := by omega
    have hset : setBits k k w.toNat 0 = w.toNat - (w &&& BitVec.twoPow 64 k).toNat := by
      simp [setBits, bitsOf, Nat.shiftRight_eq_div_pow, hone, hbit]
    rw [toNat_and_not, hset, BitVec.toNat_ofNat, Nat.mod_eq_of_lt (by omega)]
  rw [hword, BitVec.getLsbD_and, BitVec.getLsbD_not, BitVec.getLsbD_twoPow]
  by_cases hj : j < 64
  · by_cases hjk : j = k
    · subst hjk; simp [hj]
    · simp [hj, hjk, Ne.symm hjk]
  · rw [BitVec.getLsbD_of_ge w j (by omega)]; rfl

@[simp] theorem State.life_lived (s : State) (i j n : Nat) :
    kgetD (s.lived i n).hl.life j 0 = if j = i then min (2 ^ 64 - 1) (kgetD s.hl.life i 0 + n) else kgetD s.hl.life j 0 := by
  simp only [State.lived, kgetD, kget_kset]
  split <;> rfl

/-! ### Ways and slices (21 R414, R415) -/

/-- Versions move: the record of the die's health and its slices stay. -/
structure SameSlices (s t : State) : Prop where
  life : t.hl.life = s.hl.life
  live : t.vs.live = s.vs.live
  ways : t.vs.waysOff = s.vs.waysOff

section
variable {s t u : State}

theorem SameSlices.refl (s : State) : SameSlices s s := ⟨rfl, rfl, rfl⟩

theorem SameSlices.trans (h : SameSlices s t) (k : SameSlices t u) : SameSlices s u :=
  ⟨k.life.trans h.life, k.live.trans h.live, k.ways.trans h.ways⟩

theorem SameSlices.foldl {α : Type} {f : State → α → State} (hf : ∀ s a, SameSlices s (f s a)) (l : List α) (s : State) :
    SameSlices s (l.foldl f s) := by
  induction l generalizing s with
  | nil => exact .refl s
  | cons a l ih => exact (hf s a).trans (ih _)

end

theorem State.spill_sameSlices (s : State) (slice n : Nat) : SameSlices s (s.spill slice n) := by
  unfold State.spill
  generalize s.spillOrder slice = l
  suffices h : ∀ acc : Nat × State, SameSlices acc.2 (l.foldl (fun (acc : Nat × State) v =>
      let k := min acc.1 v.resident
      if k = 0 then acc else (acc.1 - k, acc.2.setVersion { v with spill := v.spill + k })) acc).2 from h (n, s)
  induction l with
  | nil => exact fun acc => .refl _
  | cons v l ih =>
    intro acc
    refine SameSlices.trans ?_ (ih _)
    dsimp only
    split
    · exact .refl _
    · exact ⟨rfl, rfl, rfl⟩

theorem State.fitSlice_sameSlices (s : State) (slice : Nat) : SameSlices s (s.fitSlice slice) := by
  simp only [State.fitSlice]
  split
  · exact .refl s
  · exact s.spill_sameSlices ..

theorem State.rehome_sameSlices (s : State) : SameSlices s s.rehome := by
  refine SameSlices.trans ?_ (SameSlices.foldl State.fitSlice_sameSlices _ _)
  refine SameSlices.foldl (fun t v => ?_) _ s
  split <;> exact ⟨rfl, rfl, rfl⟩

/-- A slice retires: its bit of SLICE_MAP alone is cleared. -/
theorem State.retireSlice_live (s : State) (slice set : Nat) : (s.retireSlice slice set).vs.waysOff = s.vs.waysOff ∧
    kgetD (s.retireSlice slice set).hl.life 126 0 = kgetD s.hl.life 126 0 ∧
    (s.retireSlice slice set).vs.live = BitVec.ofNat 64 (setBits slice slice s.vs.live.toNat 0) := by
  obtain ⟨hlife, hlive, hways⟩ := State.rehome_sameSlices { s with vs := { s.vs with live := BitVec.ofNat 64 (setBits slice slice s.vs.live.toNat 0) } }
  refine ⟨hways, ?_, hlive⟩
  exact (State.life_lived _ 127 126 1).trans (congrArg (kgetD · 126 0) hlife)

/-- A set counts the way disabled last. -/
theorem deadWays_append (s : State) (slice set way : Nat) :
    ((s.vs.waysOff ++ [(slice, set, way)]).filter (fun w => w.1 == slice && w.2.1 == set)).length =
      (s.vs.waysOff.filter (fun w => w.1 = slice ∧ w.2.1 = set)).length + 1 := by
  simp [List.filter_append, Bool.beq_eq_decide_eq, Bool.decide_and]

/-- A way is counted as disabled, and its slice has not been looked at yet. -/
def State.wayLost (s : State) (slice set way : Nat) : State :=
  let s := { s with vs := { s.vs with waysOff := s.vs.waysOff ++ [(slice, set, way)] } }
  ((s.lived 126 1).monLog (BitVec.ofNat 64 (slice * 65536 + set)) slice 0 0 7).fitSlice slice

theorem State.disableWay_eq (s : State) (slice set way : Nat) : s.disableWay slice set way =
    if decide (14 < (s.wayLost slice set way).deadWays slice set) then (s.wayLost slice set way).retireSlice slice set
    else s.wayLost slice set way := rfl

theorem State.wayLost_live (s : State) (slice set way : Nat) : (s.wayLost slice set way).vs.live = s.vs.live ∧
    (s.wayLost slice set way).vs.waysOff = s.vs.waysOff ++ [(slice, set, way)] ∧
    kgetD (s.wayLost slice set way).hl.life 126 0 = min (2 ^ 64 - 1) (kgetD s.hl.life 126 0 + 1) := by
  have hlife := State.life_lived { s with vs := { s.vs with waysOff := s.vs.waysOff ++ [(slice, set, way)] } } 126 126 1
  obtain ⟨hfit, hlive, hways⟩ := State.fitSlice_sameSlices ((State.lived { s with vs := { s.vs with waysOff := s.vs.waysOff ++ [(slice, set, way)] } }
    126 1).monLog (BitVec.ofNat 64 (slice * 65536 + set)) slice 0 0 7) slice
  exact ⟨hlive, hways, (congrArg (kgetD · 126 0) hfit).trans (hlife.trans (if_pos rfl))⟩

/-- A way is disabled: a slice stays while its set keeps two. -/
theorem State.disableWay_live (s : State) (slice set way : Nat) :
    (slice, set, way) ∈ (s.disableWay slice set way).vs.waysOff ∧
    kgetD (s.disableWay slice set way).hl.life 126 0 = min (2 ^ 64 - 1) (kgetD s.hl.life 126 0 + 1) ∧
    (s.disableWay slice set way).vs.live =
      if (s.vs.waysOff.filter (fun w => w.1 = slice ∧ w.2.1 = set)).length < 14 then s.vs.live
      else BitVec.ofNat 64 (setBits slice slice s.vs.live.toNat 0) := by
  obtain ⟨hlive, hways, h126⟩ := s.wayLost_live slice set way
  rw [s.disableWay_eq]
  generalize s.wayLost slice set way = t at hlive hways h126
  have hin : (slice, set, way) ∈ t.vs.waysOff := hways ▸ List.mem_append_right _ List.mem_cons_self
  have hcount : t.deadWays slice set = _ := (congrArg (fun l => (List.filter (fun w : Nat × Nat × Nat => w.1 == slice && w.2.1 == set) l).length) hways).trans
    (deadWays_append s slice set way)
  by_cases hfew : (s.vs.waysOff.filter (fun w => w.1 = slice ∧ w.2.1 = set)).length < 14
  · have hkeep : ¬ decide (14 < t.deadWays slice set) = true := by rw [hcount, decide_eq_true_eq]; omega
    rw [if_neg hkeep, if_pos hfew]
    exact ⟨hin, h126, hlive⟩
  · have hretire : decide (14 < t.deadWays slice set) = true := by rw [hcount, decide_eq_true_eq]; omega
    obtain ⟨hw, hl, hv⟩ := t.retireSlice_live slice set
    rw [if_pos hretire, if_neg hfew, hv, hlive]
    exact ⟨hw ▸ hin, hl.trans h126, rfl⟩

/-- A corrected error is counted against its way. -/
def State.wayCounted (s : State) (k set way : Nat) : State :=
  let key := k * 2 ^ 24 + set * 2 ^ 5 + way
  { s.lived (54 + k) 1 with vs := { s.vs with wayErrs := kset s.vs.wayErrs key (kgetD s.vs.wayErrs key 0 + 1) } }

theorem execCorrectedError_eq {s : State} {k set way : Nat} (hlive : s.liveSlice k = true) (hset : set < 1024) (hway : way < 16)
    (hon : (k, set, way) ∉ s.vs.waysOff) : execCorrectedError k set way s =
      .next (if kgetD s.vs.wayErrs (k * 2 ^ 24 + set * 2 ^ 5 + way) 0 + 1 = 3 then (s.wayCounted k set way).disableWay k set way
        else s.wayCounted k set way) := by
  have hknown : ¬ (!s.liveSlice k || 1024 ≤ set || 16 ≤ way || s.vs.waysOff.contains (k, set, way)) = true := by simp [hlive, hon]; omega
  exact if_neg hknown

theorem correctedErrors (s : State) {k set way : Nat} (hlive : s.liveSlice k = true) (hset : set < 1024) (hway : way < 16) :
    ((k, set, way) ∈ s.vs.waysOff → execCorrectedError k set way s = .next s) ∧
    ((k, set, way) ∉ s.vs.waysOff → kgetD s.vs.wayErrs (k * 2 ^ 24 + set * 2 ^ 5 + way) 0 ≠ 2 →
      execCorrectedError k set way s = .next (s.wayCounted k set way)) ∧
    ((k, set, way) ∉ s.vs.waysOff → kgetD s.vs.wayErrs (k * 2 ^ 24 + set * 2 ^ 5 + way) 0 = 2 →
      ∃ t : State, execCorrectedError k set way s = .next t ∧ (k, set, way) ∈ t.vs.waysOff ∧
        kgetD t.hl.life 126 0 = min (2 ^ 64 - 1) (kgetD s.hl.life 126 0 + 1) ∧
        t.vs.live.getLsbD k = decide ((s.vs.waysOff.filter (fun w => w.1 = k ∧ w.2.1 = set)).length < 14) ∧
        ∀ j, j < 64 → j ≠ k → t.vs.live.getLsbD j = s.vs.live.getLsbD j) := by
  obtain ⟨hk, hbit⟩ : k < 64 ∧ s.vs.live.getLsbD k = true := by
    have h := hlive; unfold State.liveSlice at h; rw [Bool.and_eq_true, decide_eq_true_eq] at h; exact h
  refine ⟨fun hoff => if_pos (by simp [hoff]), fun hon hn => ?_, fun hon hn => ?_⟩
  · rw [execCorrectedError_eq hlive hset hway hon, if_neg (by omega)]
  · obtain ⟨hin, hlife, hmap⟩ := (s.wayCounted k set way).disableWay_live k set way
    have h126 : kgetD (s.wayCounted k set way).hl.life 126 0 = kgetD s.hl.life 126 0 := (s.life_lived (54 + k) 126 1).trans (if_neg (by omega))
    refine ⟨_, ?_, hin, hlife.trans (by rw [h126]), ?_⟩
    · rw [execCorrectedError_eq hlive hset hway hon, if_pos (by omega)]
    · rw [hmap]
      show (if (s.vs.waysOff.filter _).length < 14 then s.vs.live else BitVec.ofNat 64 (setBits k k s.vs.live.toNat 0)).getLsbD k = _ ∧
        ∀ j, j < 64 → j ≠ k → (if (s.vs.waysOff.filter _).length < 14 then s.vs.live else BitVec.ofNat 64 (setBits k k s.vs.live.toNat 0)).getLsbD j = _
      split
      · next hfew => exact ⟨hbit.trans (decide_eq_true hfew).symm, fun j _ _ => rfl⟩
      · next hfew =>
        refine ⟨?_, fun j _ hj => ?_⟩
        · rw [getLsbD_setBits_zero, decide_eq_false hfew]; simp [hk]
        · rw [getLsbD_setBits_zero]; simp [hj]

/-! ### The scrubber (21 R416) -/

/-- A sector of the die's own memory that is marked uncorrectable. -/
theorem State.mem_markSector (s : State) {pa i : Nat} (hown : s.isOwn (pa / 2 ^ 42) = true) (hfits : pa % 2 ^ 42 / 32 * 32 + 32 ≤ s.memBytes) (hi : i < 32) :
    pa % 2 ^ 42 / 32 * 32 + i ∈ (s.markSector pa).ueMem := by
  have hin : ¬ (!s.isOwn (pa / 2 ^ 42) || decide (s.memBytes < pa % 2 ^ 42 / 32 * 32 + 32)) = true := by
    rw [hown, Bool.not_true, Bool.false_or, decide_eq_true_eq]; exact Nat.not_lt.2 hfits
  have hmark : s.markSector pa = { s with ueMem := s.ueMem ++
      ((List.range 32).map (fun i => pa % 2 ^ 42 / 32 * 32 + i)).filter (fun b => !s.ueMem.contains b) } := if_neg hin
  rw [hmark]
  by_cases hmem : pa % 2 ^ 42 / 32 * 32 + i ∈ s.ueMem
  · exact List.mem_append_left _ hmem
  · refine List.mem_append_right _ (List.mem_filter.2 ⟨List.mem_map.2 ⟨i, List.mem_range.2 hi, rfl⟩, ?_⟩)
    rw [Bool.not_eq_true', ← Bool.not_eq_true, List.contains_iff_mem]
    exact hmem

theorem State.markSector_mem (s : State) (pa : Nat) : (s.markSector pa).mem = s.mem := by
  simp only [State.markSector]
  split <;> rfl

/-! ### Monitors (21 R417) -/

theorem Monitor.samples_iff (q : Monitor) : q.samples = true ↔
    q.sel.getLsbD 31 = true ∧ 1 ≤ q.sel.toNat / 2 ^ 16 % 256 ∧ q.sel.toNat / 2 ^ 16 % 256 ≤ 6 := by
  simp [Monitor.samples, bitsOf, BitVec.getLsbD, Nat.shiftRight_eq_div_pow, and_assoc]

/-- A sample changes the extremes, the count and the histogram. -/
theorem Monitor.sample_fields (q : Monitor) {v : Nat} (hv : v < 2 ^ 64) : (q.sample v).sel = q.sel ∧ (q.sample v).bin = q.bin ∧
    (q.sample v).min'.toNat = min q.min'.toNat v ∧ (q.sample v).max'.toNat = max q.max'.toNat v ∧ (q.sample v).cnt = q.cnt + 1 ∧
    ∀ i : Nat, i < 32 → (q.sample v).hist[i]?.getD 0 = (if i = min 31 ((v - q.bin.toNat / 2 ^ 32) / 2 ^ (q.bin.toNat % 32))
      then min (2 ^ 32 - 1) (q.hist[i]?.getD 0 + 1) else q.hist[i]?.getD 0) := by
  have hbin : q.binOf v = min 31 ((v - q.bin.toNat / 2 ^ 32) / 2 ^ (q.bin.toNat % 32)) := by
    have hhigh : q.bin.toNat / 2 ^ 32 % 2 ^ 32 = q.bin.toNat / 2 ^ 32 := Nat.mod_eq_of_lt (by have := q.bin.isLt; omega)
    show min 31 ((v - q.bin.toNat >>> 32 % 2 ^ 32) / 2 ^ (q.bin.toNat % 32)) = _
    rw [Nat.shiftRight_eq_div_pow, hhigh]
  have hmin := q.min'.isLt
  have hmax := q.max'.isLt
  refine ⟨rfl, rfl, Nat.mod_eq_of_lt (by omega), Nat.mod_eq_of_lt (by omega), rfl, fun i hi => ?_⟩
  rw [← hbin]
  simp [Monitor.sample, hi]

theorem monitorSamples (s : State) {m v : Nat} (hm : m < 16) :
    ((s.monitor m).samples = false → execMonitorSample m v s = .next s) ∧
    ((s.monitor m).samples = true → v < 2 ^ 64 → ∃ t : State, execMonitorSample m v s = .next t ∧ t.monitor m = (s.monitor m).sample v) := by
  constructor
  · exact fun h => if_pos (by simp [h])
  · intro h hv
    have hon : ¬ (decide (16 ≤ m) || !(s.monitor m).samples) = true := by simp [h]; omega
    refine ⟨_, if_neg hon, ?_⟩
    rw [Nat.mod_eq_of_lt hv]
    simp [State.monitor, kgetD]

/-! ### The lifetime record (21 R419) -/

/-- The bins of the zones count their own records alone. -/
theorem State.zoneMinutes_keeps (s : State) (n : Nat) (l : List Nat) :
    ∀ t, t = l.foldl (fun (s : State) z => s.lived (2 + min 31 (((s.zone z).tj.foldl max 0) / 5)) n) s →
      kgetD t.hl.life 0 0 = kgetD s.hl.life 0 0 ∧ t.hl.lifeAt = s.hl.lifeAt ∧ t.hl.lifeMins = s.hl.lifeMins ∧ t.slots = s.slots ∧ t.mem = s.mem := by
  induction l generalizing s with
  | nil => rintro t rfl; exact ⟨rfl, rfl, rfl, rfl, rfl⟩
  | cons z l ih =>
    intro t ht
    obtain ⟨hlife, hat, hmins, hslots, hmem⟩ := ih _ t ht
    exact ⟨hlife.trans ((s.life_lived _ 0 n).trans (if_neg (by omega))), hat, hmins, hslots, hmem⟩

theorem State.addMinutes_counts (s : State) (n : Nat) : (s.addMinutes n).hl.lifeAt = s.hl.lifeAt ∧
    (s.addMinutes n).hl.lifeMins = (s.hl.lifeMins + n) % 60 ∧
    kgetD (s.addMinutes n).hl.life 0 0 = min (2 ^ 64 - 1) (kgetD s.hl.life 0 0 + (s.hl.lifeMins + n) / 60) ∧
    (s.addMinutes n).slots = s.slots ∧ (s.addMinutes n).mem = s.mem := by
  have hzones := s.zoneMinutes_keeps n (List.range 20) _ rfl
  unfold State.addMinutes
  generalize (List.range 20).foldl (fun (s : State) z => s.lived (2 + min 31 (((s.zone z).tj.foldl max 0) / 5)) n) s = t at hzones
  obtain ⟨hlife, hat, hmins, hslots, hmem⟩ := hzones
  refine ⟨hat, by rw [← hmins]; rfl, ?_, hslots, hmem⟩
  rw [← hlife, ← hmins]
  exact (State.life_lived _ 0 0 _).trans (if_pos rfl)

/-! ### Control state outside the grottos (21 R412) -/

theorem State.spreadFence_eq (s : State) (r : DiscoverRec) (but : Option Nat) : ∃ o, s.spreadFence r but = { s with o := o } := by
  unfold State.spreadFence
  generalize List.range 8 = l
  induction l generalizing s with
  | nil => exact ⟨s.o, rfl⟩
  | cons m l ih =>
    rw [List.foldl_cons]
    split
    · obtain ⟨o, ho⟩ := ih (s.out (.discover m r))
      exact ⟨o, ho⟩
    · exact ih s

/-- The die's record says FENCED. -/
theorem setBits_fenced (w : Word) : (BitVec.ofNat 64 (setBits 60 59 w.toNat 1)).toNat / 2 ^ 59 % 4 = 1 := by
  have hw := w.isLt
  simp only [setBits, bitsOf, Nat.shiftRight_eq_div_pow, BitVec.toNat_ofNat]
  omega

theorem State.fenceDie_fenced (s : State) : s.fenceDie.hl = s.hl ∧ s.fenceDie.slots = s.slots ∧ s.fenceDie.mem = s.mem ∧
    (s.agentKnown s.ownAgent = true → s.fenceDie.topo s.ownAgent / 2 ^ 59 % 4 = 1) := by
  obtain ⟨o, ho⟩ := s.spreadFence_eq { s.ownRecord with fence := true } none
  simp only [State.fenceDie, ho]
  refine ⟨?_, ?_, ?_, fun hknown => ?_⟩
  · split <;> rfl
  · split <;> rfl
  · split <;> rfl
  · have hsame : ({ s with o := o } : State).agentKnown ({ s with o := o } : State).ownAgent = true := hknown
    rw [if_pos hsame]
    simp only [State.topo, kgetD, State.ownAgent, kget_kset_same]
    exact setBits_fenced _

theorem execUncorrectableError_outside (s : State) : ∃ t : State, execUncorrectableError .outside s = .next t ∧
    kgetD t.hl.life 129 0 = min (2 ^ 64 - 1) (kgetD s.hl.life 129 0 + 1) ∧
    (s.agentKnown s.ownAgent = true → t.topo s.ownAgent / 2 ^ 59 % 4 = 1) ∧ t.slots = s.slots ∧ t.mem = s.mem := by
  obtain ⟨hhl, hslots, hmem, hfenced⟩ := (s.lived 129 1).fenceDie_fenced
  refine ⟨(s.lived 129 1).fenceDie, rfl, ?_, hfenced, hslots, hmem⟩
  rw [hhl, State.life_lived, if_pos rfl]

theorem execUncorrectableError_context (s : State) {c : Nat} (hc : (s.ctx c).state.admitted' = true) :
    ∃ t : State, execUncorrectableError (.context c) s = .next t ∧ (t.ctx c).state = .faulted ∧ (t.ctx c).fcause = 0 ∧
      ∀ i x, t.slot i = some x → x.ctx ≠ c := by
  obtain ⟨-, hgone, hstate, hcause⟩ := (s.lived 129 1).faultContext_ends c 0 0
  exact ⟨(s.lived 129 1).faultContext c 0 0, congrArg Host.Outcome.next (if_pos hc), hstate, hcause, hgone⟩

theorem State.addMinutes_from (s : State) (n due : Nat) : ∃ t : State, ({ s with hl := { s.hl with lifeAt := due } } : State).addMinutes n = t ∧
    t.hl.lifeAt = due ∧ t.hl.lifeMins = (s.hl.lifeMins + n) % 60 ∧
    kgetD t.hl.life 0 0 = min (2 ^ 64 - 1) (kgetD s.hl.life 0 0 + (s.hl.lifeMins + n) / 60) ∧ t.slots = s.slots ∧ t.mem = s.mem := by
  obtain ⟨hat, hmins, hlife, hslots, hmem⟩ := State.addMinutes_counts { s with hl := { s.hl with lifeAt := due } } n
  exact ⟨_, rfl, hat, hmins, hlife, hslots, hmem⟩

theorem execLifetimeUpdate_passed (s : State) {n : Nat} (hn : n = (s.now - s.hl.lifeAt) / 60000000000) (hle : s.hl.lifeAt ≤ s.now) (hpos : 0 < n) :
    execLifetimeUpdate s = .next (({ s with hl := { s.hl with lifeAt := s.hl.lifeAt + n * 60000000000 } } : State).addMinutes n) := by
  rw [execLifetimeUpdate, if_neg (Nat.not_lt.2 hle), if_neg (hn ▸ Nat.ne_of_gt hpos), ← hn]

/-- Settles O52, each event by what its part of the record counts. -/
theorem healthSteps : Obligations.HealthSteps := by
  unfold Obligations.HealthSteps
  intro s
  refine ⟨fun k set way n hlive hset hway hn => ?_, fun pa => ⟨fun b => ?_, ⟨_, rfl, rfl, rfl⟩, fun off i hown hoff hfits hi => ?_⟩,
    fun m v q hm hq => ⟨?_, fun hoff => ?_, fun hv h31 hlow hhigh => ?_⟩, rfl, fun n hn => ⟨fun hle hz => ?_, fun hle hpos => ?_⟩, ?_, fun c hc => ?_⟩
  · subst hn
    obtain ⟨hoff, hcount, hthird⟩ := correctedErrors s hlive hset hway
    exact ⟨hoff, fun hon => ⟨hcount hon, hthird hon⟩⟩
  · cases b <;> rfl
  · subst hoff
    exact ⟨_, rfl, State.mem_markSector s.draw.2 hown hfits hi, State.markSector_mem s.draw.2 pa⟩
  · subst hq
    exact if_neg (by omega)
  · subst hq
    refine (monitorSamples s hm).1 (Bool.eq_false_iff.2 fun h => ?_)
    obtain ⟨h31, hlow, hhigh⟩ := (Monitor.samples_iff _).1 h
    rcases hoff with h | h | h
    · rw [h31] at h; cases h
    · omega
    · omega
  · subst hq
    obtain ⟨t, hexec, ht⟩ := (monitorSamples s hm).2 ((Monitor.samples_iff _).2 ⟨h31, hlow, hhigh⟩) hv
    exact ⟨t, _, hexec, ht, Monitor.sample_fields _ hv⟩
  · subst hn
    exact (if_neg (by omega)).trans (if_pos hz)
  · obtain ⟨t, ht, hfields⟩ := s.addMinutes_from n (s.hl.lifeAt + n * 60000000000)
    exact ⟨t, ht ▸ execLifetimeUpdate_passed s hn hle hpos, hfields⟩
  · exact execUncorrectableError_outside s
  · exact execUncorrectableError_context s hc

end Sys2Proof.Machine
end

section
/-!
Pairs of cores and regions (21 R406 to R413).
-/

namespace Sys2Proof.Machine

/-! ### Pairs (21 R407 to R409) -/

/-- A counter of PAIR_STAT raised. -/
theorem setBits_low (n v : Nat) (hv : v < 2 ^ 32) : setBits 31 0 n v % 2 ^ 32 = v ∧ setBits 31 0 n v / 2 ^ 32 = n / 2 ^ 32 := by
  simp only [setBits, bitsOf, Nat.shiftRight_eq_div_pow]
  omega

theorem setBits_middle (n v : Nat) (hv : v < 2 ^ 16) : setBits 47 32 n v / 2 ^ 32 % 2 ^ 16 = v := by
  simp only [setBits, bitsOf, Nat.shiftRight_eq_div_pow]
  omega

theorem setBits_high (n v : Nat) (hv : v < 2 ^ 16) : setBits 63 48 n v / 2 ^ 48 % 2 ^ 16 = v := by
  simp only [setBits, bitsOf, Nat.shiftRight_eq_div_pow]
  omega

/-- A die whose PAIR_STAT reads `n`. -/
def State.statPair (s : State) (n : Nat) : State := { s with hl := { s.hl with pairStat := n } }

theorem State.pairCount_rollbacks (s : State) : ∃ n, s.pairCount 32 16 = s.statPair n ∧ n / 2 ^ 32 % 2 ^ 16 = min (2 ^ 16 - 1) (s.hl.pairStat / 2 ^ 32 % 2 ^ 16 + 1) :=
  ⟨_, rfl, (setBits_middle _ _ (by omega)).trans (by rw [bitsOf, Nat.shiftRight_eq_div_pow])⟩

theorem State.pairCount_fences (s : State) : ∃ n, s.pairCount 48 16 = s.statPair n ∧ n / 2 ^ 48 % 2 ^ 16 = min (2 ^ 16 - 1) (s.hl.pairStat / 2 ^ 48 % 2 ^ 16 + 1) :=
  ⟨_, rfl, (setBits_high _ _ (by omega)).trans (by rw [bitsOf, Nat.shiftRight_eq_div_pow])⟩

theorem State.pairCount_checks (s : State) : ∃ n, s.pairCount 0 32 = s.statPair n ∧ n % 2 ^ 32 = min (2 ^ 32 - 1) (s.hl.pairStat % 2 ^ 32 + 1) ∧
    n / 2 ^ 32 = s.hl.pairStat / 2 ^ 32 := by
  obtain ⟨hlow, hhigh⟩ := setBits_low s.hl.pairStat (min (2 ^ 32 - 1) (bitsOf 31 0 s.hl.pairStat + 1)) (by omega)
  exact ⟨_, rfl, hlow.trans (by rw [bitsOf, Nat.shiftRight_eq_div_pow, Nat.pow_zero, Nat.div_one]), hhigh⟩

theorem execPairCheckpoint_eq (s : State) {p : Nat} (hp : p < 72) : execPairCheckpoint p s = .next (s.pairCheck (2 * p)) := if_neg (by omega)

theorem State.core_modPair (s : State) (c d : Nat) (f : PairState → PairState) :
    (s.modPair c f).core d = if d = c then { s.core c with pair := f (s.core c).pair } else s.core d := s.core_modCore c d _

theorem State.core_statPair (s : State) (n d : Nat) : (s.statPair n).core d = s.core d := rfl

/-- A slot of the pair that is in pair mode. -/
theorem State.any_pairMode {s : State} {c i : Nat} {x : Slot} (hx : s.slot i = some x) (hi : i / 16 = c) (hmode : x.pairMode = true) :
    s.slots.any (fun (p : Nat × Slot) => p.1 / 16 == c && p.2.pairMode) = true :=
  List.any_eq_true.2 ⟨(i, x), kget_mem hx, by simp [hi, hmode]⟩

theorem State.not_any_pairMode {s : State} {c : Nat} (hsorted : ksorted s.slots = true)
    (hnone : ∀ i x, s.slot i = some x → i / 16 = c → x.pairMode = false) :
    s.slots.any (fun (p : Nat × Slot) => p.1 / 16 == c && p.2.pairMode) = false := by
  rw [List.any_eq_false]
  rintro ⟨i, x⟩ hmem hboth
  rw [Bool.and_eq_true, beq_iff_eq] at hboth
  obtain ⟨hi, hmode⟩ := hboth
  rw [hnone i x (kget_of_mem hsorted hmem) hi] at hmode
  cases hmode

theorem pairCheckpoints (s : State) {p c : Nat} {k : CoreSt} (hp : p < 72) (hc : c = 2 * p) (hk : k = s.core c) :
    (k.pair.comparing = true → execPairCheckpoint p s = .next s) ∧
    ((∀ i x, s.slot i = some x → i / 16 = c → x.pairMode = false) → ksorted s.slots = true → execPairCheckpoint p s = .next s) ∧
    (∀ i x, s.slot i = some x → i / 16 = c → x.pairMode = true → k.pair.comparing = false →
      ∃ t : State, execPairCheckpoint p s = .next t ∧ t.core c = { k with pair := { k.pair with comparing := true } } ∧
        t.hl.pairStat % 2 ^ 32 = min (2 ^ 32 - 1) (s.hl.pairStat % 2 ^ 32 + 1) ∧ t.hl.pairStat / 2 ^ 32 = s.hl.pairStat / 2 ^ 32 ∧
        (∀ d, d ≠ c → t.core d = s.core d) ∧ t.slots = s.slots ∧ t.msgs = s.msgs ∧ t.mem = s.mem) := by
  subst hc hk
  refine ⟨fun hcmp => ?_, fun hnone hsorted => ?_, fun i x hx hi hmode hcmp => ?_⟩
  · rw [execPairCheckpoint_eq s hp, State.pairCheck, if_pos (by rw [hcmp]; rfl)]
  · rw [execPairCheckpoint_eq s hp, State.pairCheck, State.not_any_pairMode hsorted hnone, if_pos (by simp)]
  · obtain ⟨n, hn, hlow, hhigh⟩ := (s.modPair (2 * p) (fun p => { p with comparing := true })).pairCount_checks
    rw [execPairCheckpoint_eq s hp, State.pairCheck, State.any_pairMode hx hi hmode, hcmp, if_neg (by decide), hn]
    refine ⟨_, rfl, ?_, hlow, hhigh, fun d hd => ?_, rfl, rfl, rfl⟩
    · rw [State.core_statPair, State.core_modPair, if_pos rfl]
    · rw [State.core_statPair, State.core_modPair, if_neg hd]

theorem execPairCompareEnd_eq (s : State) {p : Nat} (hp : p < 72) (hcmp : (s.core (2 * p)).pair.comparing = true) : execPairCompareEnd p s =
    .next (if (s.core (2 * p)).pair.fpA = (s.core (2 * p)).pair.fpB then s.pairAgree (2 * p) else s.pairDiffer (2 * p)) :=
  if_neg (by simp [hcmp]; omega)

/-- Equal fingerprints: the held writes leave, and the state as it stands is the checkpoint. -/
theorem State.pairAgree_fields (s : State) (c : Nat) : ((s.pairAgree c).core c).pair = { (s.core c).pair with
      count := 0, buffer := [], comparing := false, rerun := false, fpA := 0, fpB := 0, loc := (s.core c).loc, sfu := (s.core c).sfu, mark := s.o.nextId, redo := []
      slots := s.slots.filter (fun e => e.1 / 16 == c) } ∧
    (∀ r m, kget s.msgs r = some m → kget (s.pairAgree c).msgs r = some (if r ∈ (s.core c).pair.buffer then { m with buffered := false } else m)) ∧
    (s.pairAgree c).slots = s.slots ∧ (s.pairAgree c).mem = s.mem ∧ ((s.pairAgree c).core c).loc = (s.core c).loc := by
  have hcore : (s.pairAgree c).core c = { s.core c with pair := { (s.core c).pair with
      count := 0, buffer := [], comparing := false, rerun := false, fpA := 0, fpB := 0, loc := (s.core c).loc, sfu := (s.core c).sfu, mark := s.o.nextId, redo := []
      slots := s.slots.filter (fun e => e.1 / 16 == c) } } := by
    simp only [State.pairAgree, State.pairMark, State.core_modPair, if_pos]
    rfl
  rw [hcore]
  refine ⟨rfl, fun r m hm => ?_, rfl, rfl, rfl⟩
  show kget (kmap s.msgs (fun r m => if (s.core c).pair.buffer.contains r then { m with buffered := false } else m)) r = _
  rw [kget_kmap, hm]
  simp

/-! ### A rollback (21 R408) -/

theorem kget_filter_none {α : Type} (m : KMap α) {f : Nat × α → Bool} {i : Nat} (hf : ∀ v, f (i, v) = false) : kget (m.filter f) i = none := by
  induction m with
  | nil => rfl
  | cons p m ih =>
    obtain ⟨k, v⟩ := p
    by_cases hk : k = i
    · subst hk; rw [List.filter_cons, hf v, if_neg (by decide), ih]
    · rw [List.filter_cons]
      split
      · exact (if_neg hk).trans ih
      · exact ih

/-- A rollback of a checkpoint of one slot. -/
theorem State.rollback_fields (s : State) {c i : Nat} {x y : Slot} (hslots : (s.core c).pair.slots = [(i, x)]) (hready : x.status = .ready)
    (hredo : (s.core c).pair.redo = []) (hy : s.slot i = some y) :
    (s.rollback c).slot i = some x ∧ ((s.rollback c).core c).loc = (s.core c).pair.loc ∧ ((s.rollback c).core c).pair.rerun = true ∧
    ((s.rollback c).core c).pair.count = 0 ∧ ((s.rollback c).core c).pair.buffer = [] ∧ ((s.rollback c).core c).pair.comparing = false ∧
    (∀ r ∈ (s.core c).pair.buffer, kget (s.rollback c).msgs r = none) ∧ (s.rollback c).hl = s.hl ∧ (s.rollback c).mem = s.mem := by
  have hsame : x.resumed [] = x := by simp [Slot.resumed, hready]
  have hback : ((s.core c).pair.slots.filter (fun (q : Nat × Slot) => (s.slot q.1).isSome)).map (fun q =>
      (q.1, q.2.resumed ((s.core c).pair.redo.filter (fun r => r.2.sid == q.1)))) = [(i, x)] := by
    simp [hslots, hredo, hy, hsame]
  simp only [State.rollback, hback, List.foldl_cons, List.foldl_nil]
  refine ⟨kget_kset_same _ _ _, ?_, ?_, ?_, ?_, ?_, fun r hr => ?_, rfl, rfl⟩
  · simp only [State.core_modPair, State.core_modCore, if_pos]
  · rw [State.core_modPair, if_pos rfl]
  · rw [State.core_modPair, if_pos rfl]
  · rw [State.core_modPair, if_pos rfl]
  · rw [State.core_modPair, if_pos rfl]
  · exact kget_filter_none s.msgs (fun m => by simp [hr])

/-! ### Fenced regions (21 R411 to R413) -/

theorem mem_coresOf (gs : List Nat) {c : Nat} : c ∈ coresOf gs ↔ c / 4 ∈ gs := by
  simp only [coresOf, List.mem_flatMap, List.mem_cons, List.not_mem_nil, or_false]
  constructor
  · rintro ⟨g, hg, hc⟩
    have hdiv : c / 4 = g := by omega
    exact hdiv ▸ hg
  · exact fun hg => ⟨c / 4, hg, by omega⟩

theorem State.mem_regionGrottos (s : State) {r g : Nat} : g ∈ s.regionGrottos r ↔ g < 36 ∧ s.regionOf g = r := by
  simp [State.regionGrottos]

/-- An OPEN region is fenced: it counts, and no slot of it stays. -/
theorem State.fenceRegion_open (s : State) {r : Nat} (hopen : (s.region r).state = 0) :
    ((s.fenceRegion r).region r).state = 1 ∧ ((s.fenceRegion r).region r).fences = min 15 ((s.region r).fences + 1) ∧
    (s.fenceRegion r).hl.pairStat = s.hl.pairStat ∧ ∀ i, i / 64 < 36 → s.regionOf (i / 64) = r → (s.fenceRegion r).slot i = none := by
  generalize ht : ({ s.modRegion r (fun q => { q with state := 1, fences := min 15 (q.fences + 1) }) with hl :=
    { (s.modRegion r (fun q => { q with state := 1, fences := min 15 (q.fences + 1) })).hl with
      drain := kset s.hl.drain r (s.inFlight (coresOf (s.regionGrottos r))) } } : State) = t
  obtain ⟨hends, hgone⟩ := t.fenceCores_ends (coresOf (s.regionGrottos r))
  have hregion : t.region r = { s.region r with state := 1, fences := min 15 ((s.region r).fences + 1) } := by
    subst ht
    exact (s.region_modRegion r r (fun q => { q with state := 1, fences := min 15 (q.fences + 1) })).trans (if_pos rfl)
  have hstat : t.hl.pairStat = s.hl.pairStat := by subst ht; rfl
  have hfence : s.fenceRegion r = ((if r < 8 then (t.fenceCores (coresOf (s.regionGrottos r))).lived (118 + r) 1
      else t.fenceCores (coresOf (s.regionGrottos r))).lived 129 1).monLog 0 r 0 0 6 := by
    subst ht; exact if_neg (by simp [hopen])
  rw [hfence]
  generalize t.fenceCores (coresOf (s.regionGrottos r)) = u at hends hgone
  have hlogged : (((if r < 8 then u.lived (118 + r) 1 else u).lived 129 1).monLog 0 r 0 0 6).region r = t.region r ∧
      (((if r < 8 then u.lived (118 + r) 1 else u).lived 129 1).monLog 0 r 0 0 6).hl.pairStat = t.hl.pairStat ∧
      (((if r < 8 then u.lived (118 + r) 1 else u).lived 129 1).monLog 0 r 0 0 6).slots = u.slots := by
    have hregions : u.region r = t.region r := congrArg (fun h : Health => kgetD h.regions r ({} : Region)) hends.hl
    have hstats : u.hl.pairStat = t.hl.pairStat := congrArg (fun h : Health => h.pairStat) hends.hl
    split
    · exact ⟨hregions, hstats, rfl⟩
    · exact ⟨hregions, hstats, rfl⟩
  obtain ⟨hr, hp, hs⟩ := hlogged
  rw [hr, hp, hregion, hstat]
  refine ⟨rfl, rfl, rfl, fun i hi hof => ?_⟩
  rw [State.slot, hs]
  exact hgone i ((mem_coresOf _).2 (s.mem_regionGrottos.2 (by rw [Nat.div_div_eq_div_mul]; exact ⟨hi, hof⟩)))

/-- Unequal fingerprints of an interval that was run once. -/
theorem State.pairDiffer_first (s : State) {c i : Nat} {x y : Slot} (hrerun : (s.core c).pair.rerun = false)
    (hslots : (s.core c).pair.slots = [(i, x)]) (hready : x.status = .ready) (hredo : (s.core c).pair.redo = []) (hy : s.slot i = some y) :
    (s.pairDiffer c).slot i = some x ∧ ((s.pairDiffer c).core c).loc = (s.core c).pair.loc ∧
      ((s.pairDiffer c).core c).pair.rerun = true ∧ ((s.pairDiffer c).core c).pair.count = 0 ∧ ((s.pairDiffer c).core c).pair.buffer = [] ∧
      ((s.pairDiffer c).core c).pair.comparing = false ∧ (∀ r ∈ (s.core c).pair.buffer, kget (s.pairDiffer c).msgs r = none) ∧
      (s.pairDiffer c).hl.pairStat / 2 ^ 32 % 2 ^ 16 = min (2 ^ 16 - 1) (s.hl.pairStat / 2 ^ 32 % 2 ^ 16 + 1) ∧
      kgetD (s.pairDiffer c).hl.life 128 0 = min (2 ^ 64 - 1) (kgetD s.hl.life 128 0 + 1) ∧ (s.pairDiffer c).mem = s.mem := by
  obtain ⟨hslot, hloc, hre, hcount, hbuffer, hcomparing, hmsgs, hhl, hmem⟩ := s.rollback_fields hslots hready hredo hy
  obtain ⟨n, hn, hstat⟩ := (s.rollback c).pairCount_rollbacks
  rw [State.pairDiffer, if_neg (by rw [hrerun]; decide), hn]
  generalize s.rollback c = u at *
  rw [hhl] at hstat
  have hlife := (u.statPair n).life_lived 128 128 1
  rw [if_pos rfl] at hlife
  exact ⟨hslot, hloc, hre, hcount, hbuffer, hcomparing, hmsgs, hstat, hlife.trans (by rw [← hhl]; rfl), hmem⟩

/-- Unequal fingerprints of an interval that was run again fence the region. -/
theorem State.pairDiffer_again (s : State) {c : Nat} (hc : c / 4 < 36) (hrerun : (s.core c).pair.rerun = true)
    (hopen : (s.region (s.regionOf (c / 4))).state = 0) : ((s.pairDiffer c).region (s.regionOf (c / 4))).state = 1 ∧
      (s.pairDiffer c).hl.pairStat / 2 ^ 48 % 2 ^ 16 = min (2 ^ 16 - 1) (s.hl.pairStat / 2 ^ 48 % 2 ^ 16 + 1) ∧
      ∀ i, i / 16 = c → (s.pairDiffer c).slot i = none := by
  obtain ⟨n, hn, hcount⟩ := s.pairCount_fences
  obtain ⟨hstate, -, hstat, hgone⟩ := State.fenceRegion_open (s.statPair n) (r := s.regionOf (c / 4)) hopen
  rw [State.pairDiffer, if_pos hrerun, hn, grottoOf, hstat]
  refine ⟨hstate, hcount, fun i hi => ?_⟩
  have hgrotto : i / 64 = c / 4 := by omega
  exact hgone i (by rw [hgrotto]; exact hc) (by rw [hgrotto]; rfl)

theorem pairCompares (s : State) {p c : Nat} {k : CoreSt} (hp : p < 72) (hc : c = 2 * p) (hk : k = s.core c) :
    (k.pair.comparing = false → execPairCompareEnd p s = .next s) ∧
    (k.pair.comparing = true → k.pair.fpA = k.pair.fpB → execPairCompareEnd p s = .next (s.pairAgree c)) ∧
    (k.pair.comparing = true → k.pair.fpA ≠ k.pair.fpB → execPairCompareEnd p s = .next (s.pairDiffer c)) := by
  subst hc hk
  refine ⟨fun hcmp => if_pos (by simp [hcmp]), fun hcmp heq => ?_, fun hcmp hne => ?_⟩
  · rw [execPairCompareEnd_eq s hp hcmp, if_pos heq]
  · rw [execPairCompareEnd_eq s hp hcmp, if_neg hne]

theorem execRegionFence_eq (s : State) {g : Nat} (hg : g < 36) : execRegionFence g s = .next (s.fenceRegion (s.regionOf g)) := if_neg (by omega)

theorem execRegionDrained_waits (s : State) {g : Nat}
    (h : (s.region (s.regionOf g)).state ≠ 1 ∨ ∃ i ∈ kgetD s.hl.drain (s.regionOf g) [], kget s.msgs i ≠ none) : execRegionDrained g s = .next s := by
  refine if_pos ?_
  rw [Bool.or_eq_true, Bool.or_eq_true]
  rcases h with h | ⟨i, hi, hmsg⟩
  · exact Or.inl (Or.inr (by simp [h]))
  · refine Or.inr ?_
    rw [Bool.not_eq_true', ← Bool.not_eq_true]
    intro hquiet
    exact hmsg (Option.isNone_iff_eq_none.1 (List.all_eq_true.1 hquiet i hi))

/-- A core at reset: registers and local memory are zero. -/
def CoreSt.atReset (k : CoreSt) : CoreSt :=
  { k with loc := [], ueLoc := [], left := [], l1 := [], sfu := [], sfuFree := 0, inbox := [], heap := [], spillReason := 0, pair := {} }

theorem State.resetCores_eq (s : State) (cores : List Nat) (hk : s.kn.kernels = []) :
    s.resetCores cores = cores.foldl (fun (s : State) c => s.modCore c CoreSt.atReset) s := by
  unfold State.resetCores State.reloadCores
  have hkept : ∀ t : State, t = cores.foldl (fun (s : State) c => s.modCore c CoreSt.atReset) s → t.kn.kernels = [] := by
    rintro t rfl
    rw [foldl_keeps (fun t : State => t.kn.kernels) (fun (t : State) (c : Nat) => (rfl : (t.modCore c CoreSt.atReset).kn.kernels = t.kn.kernels)), hk]
  show (cores.foldl (fun (s : State) c => s.modCore c CoreSt.atReset) s).kn.kernels.foldl _ _ = _
  rw [hkept _ rfl]
  rfl

/-- Cores changed in turn, by a change that a second one adds nothing to. -/
theorem foldl_modCore_core {f : CoreSt → CoreSt} (hf : ∀ k, f (f k) = f k) (cores : List Nat) (s : State) (d : Nat) :
    (cores.foldl (fun (s : State) c => s.modCore c f) s).core d = if d ∈ cores then f (s.core d) else s.core d := by
  induction cores generalizing s with
  | nil => rfl
  | cons c cores ih =>
    rw [List.foldl_cons, ih, State.core_modCore]
    by_cases hc : d = c
    · subst hc; by_cases hd : d ∈ cores <;> simp [hd, hf]
    · simp [hc]

/-- The cores of a drained region are reset. -/
theorem execRegionDrained_quiet (s : State) {g r : Nat} (hg : g < 36) (hr : r = s.regionOf g) (hstate : (s.region r).state = 1)
    (hquiet : ∀ i ∈ kgetD s.hl.drain r [], kget s.msgs i = none) (hkernels : s.kn.kernels = []) :
    ∃ t : State, execRegionDrained g s = .next t ∧ t.region r = { s.region r with state := 2 } ∧
      (∀ c, c / 4 < 36 → s.regionOf (c / 4) = r → s.fused c = false → (t.core c).loc = [] ∧ (t.core c).inbox = [] ∧ (t.core c).l1 = []) ∧
      (∀ c, c / 4 < 36 → s.regionOf (c / 4) ≠ r → t.core c = s.core c) ∧ t.slots = s.slots ∧ t.mem = s.mem := by
  subst hr
  generalize hcores : (coresOf (s.regionGrottos (s.regionOf g))).filter (fun c => !s.fused c) = cores
  have hmem : ∀ c, c ∈ cores ↔ (c / 4 < 36 ∧ s.regionOf (c / 4) = s.regionOf g) ∧ s.fused c = false := by
    intro c
    rw [← hcores, List.mem_filter, mem_coresOf, s.mem_regionGrottos, Bool.not_eq_true']
  have hall : s.regionQuiet (s.regionOf g) = true := List.all_eq_true.2 fun i hi => Option.isNone_iff_eq_none.2 (hquiet i hi)
  have hexec : execRegionDrained g s = .next ((({ s with hl := { s.hl with drain := kdel s.hl.drain (s.regionOf g) } } : State).resetCores cores).modRegion
      (s.regionOf g) (fun q => { q with state := 2 })) := by
    subst hcores
    exact if_neg (by rw [hall, hstate]; simp; exact hg)
  rw [hexec]
  generalize ht : ({ s with hl := { s.hl with drain := kdel s.hl.drain (s.regionOf g) } } : State) = t
  rw [State.resetCores_eq t cores (by subst ht; exact hkernels)]
  have hcore : ∀ d, t.core d = s.core d := by subst ht; exact fun d => rfl
  have hkeeps : ∀ u : State, u = cores.foldl (fun (s : State) c => s.modCore c CoreSt.atReset) t →
      u.hl = t.hl ∧ u.slots = t.slots ∧ u.mem = t.mem := by
    rintro u rfl
    exact ⟨foldl_keeps State.hl (f := fun (s : State) c => s.modCore c CoreSt.atReset) (fun t c => rfl) _ _, foldl_keeps State.slots (f := fun (s : State) c => s.modCore c CoreSt.atReset) (fun t c => rfl) _ _, foldl_keeps State.mem (f := fun (s : State) c => s.modCore c CoreSt.atReset) (fun t c => rfl) _ _⟩
  have hcores' := foldl_modCore_core (f := CoreSt.atReset) (fun k => rfl) cores t
  generalize cores.foldl (fun (s : State) c => s.modCore c CoreSt.atReset) t = u at hkeeps hcores'
  obtain ⟨hhl, hslots, hmemory⟩ := hkeeps u rfl
  have hregion : u.region (s.regionOf g) = s.region (s.regionOf g) := by
    rw [State.region, hhl]; subst ht; rfl
  refine ⟨_, rfl, ?_, fun c hc hof hfused => ?_, fun c hc hof => ?_, ?_, ?_⟩
  · rw [State.region_modRegion, if_pos rfl, hregion]
  · show (u.core c).loc = [] ∧ (u.core c).inbox = [] ∧ (u.core c).l1 = []
    rw [hcores' c, if_pos ((hmem c).2 ⟨⟨hc, hof⟩, hfused⟩)]
    exact ⟨rfl, rfl, rfl⟩
  · show u.core c = _
    rw [hcores' c, if_neg (fun h => hof ((hmem c).1 h).1.2), hcore]
  · subst ht; exact hslots
  · subst ht; exact hmemory

/-- Settles O51: a pair's comparison and a region's states, each step by the fields it changes. -/
theorem pairAndRegionSteps : Obligations.PairAndRegionSteps := by
  unfold Obligations.PairAndRegionSteps
  intro s
  refine ⟨fun p c k hp hc hk => ?_, fun g r hg hr => ⟨fun hstate => ?_, fun hopen => ?_, fun hbusy => ?_, fun hstate hquiet hkernels => ?_,
    fun hstate => ?_, fun hstate => ?_⟩, fun r v hr => ⟨fun hstate => ?_, fun hstate => ?_⟩⟩
  · obtain ⟨hrun, hplain, hcheck⟩ := pairCheckpoints s hp hc hk
    obtain ⟨hidle, hagree, hdiffer⟩ := pairCompares s hp hc hk
    subst hk
    refine ⟨hrun, hplain, hcheck, hidle, fun hcmp heq => ⟨_, hagree hcmp heq, s.pairAgree_fields c⟩,
      fun i x y hcmp hne hrerun hslots _ hready hredo hy => ?_, fun hcmp hne hrerun hopen => ⟨_, hdiffer hcmp hne, s.pairDiffer_again (by omega) hrerun hopen⟩⟩
    exact ⟨_, hdiffer hcmp hne, s.pairDiffer_first hrerun hslots hready hredo hy⟩
  · subst hr
    exact (execRegionFence_eq s hg).trans (congrArg Host.Outcome.next (if_pos hstate))
  · subst hr
    obtain ⟨hstate, hfences, -, hgone⟩ := s.fenceRegion_open hopen
    exact ⟨_, execRegionFence_eq s hg, hstate, hfences, hgone⟩
  · subst hr; exact execRegionDrained_waits s hbusy
  · exact execRegionDrained_quiet s hg hr hstate hquiet hkernels
  · subst hr; exact if_pos (by simp [hstate])
  · subst hr; exact if_neg (by simp [hstate]; exact hg)
  · exact if_pos (by simp [hstate])
  · refine (if_neg (by simp [hstate]; exact hr)).trans ?_
    simp only [bitsOf, Nat.shiftRight_eq_div_pow, Nat.pow_zero, Nat.div_one, State.modRegion]
    rfl

end Sys2Proof.Machine
end

section
/-!
The coolant zones: limits, valves, schedules, readings and re-priming (20 R396 to R403).
-/

namespace Sys2Proof.Machine

/-- A range is cut at one of its numbers. -/
theorem range_split {n k : Nat} (hk : k < n) : ∃ l r, List.range n = l ++ k :: r ∧ k ∉ l ∧ k ∉ r := by
  obtain ⟨l, r, h⟩ := List.append_of_mem (List.mem_range.2 hk)
  have hnodup : (l ++ k :: r).Nodup := h ▸ List.nodup_range
  rw [List.nodup_append] at hnodup
  obtain ⟨-, hcons, hdisj⟩ := hnodup
  exact ⟨l, r, h, fun hl => hdisj k hl k List.mem_cons_self rfl, (List.nodup_cons.1 hcons).1⟩

theorem State.now_eq {s t : State} (h : t.t = s.t) : t.now = s.now := by rw [State.now, h]; rfl

/-! ### Limits, allocations and valves (20 R398, R399) -/

theorem sinceOf_eq (p : Prop) [Decidable p] (old : Option Nat) (now : Nat) : sinceOf (decide p) old now = if p then some (old.getD now) else none := by
  simp [sinceOf]

theorem bitsOf_shifted (hi lo n : Nat) : bitsOf hi lo n = n / 2 ^ lo % 2 ^ (hi + 1 - lo) := by rw [bitsOf, Nat.shiftRight_eq_div_pow]

/-- Conditions counted anew leave the limits. -/
theorem foldl_timed_limits (hi : Nat) (l : List Nat) (s : State) :
    (l.foldl (fun (s : State) z => s.modZone z (fun q => q.timed hi s.now)) s).zn.tjShut = s.zn.tjShut ∧
    (l.foldl (fun (s : State) z => s.modZone z (fun q => q.timed hi s.now)) s).zn.tjHi = s.zn.tjHi := by
  induction l generalizing s with
  | nil => exact ⟨rfl, rfl⟩
  | cons z l ih => exact ih _

theorem zoneLimits (s : State) (v : Nat) :
    (v / 2 ^ 8 % 256 ≤ v % 256 ∨ 125 < v / 2 ^ 8 % 256 → execZoneLimitWrite v s = .next s) ∧
    (v % 256 < v / 2 ^ 8 % 256 → v / 2 ^ 8 % 256 ≤ 125 →
      ∃ t : State, execZoneLimitWrite v s = .next t ∧ t.zn.tjShut = v / 2 ^ 8 % 256 ∧ t.zn.tjHi = v % 256) := by
  have hshut : bitsOf 15 8 v = v / 2 ^ 8 % 256 := bitsOf_shifted 15 8 v
  have hhi : bitsOf 7 0 v = v % 256 := rfl
  constructor
  · intro h
    exact if_pos (by rw [hshut, hhi, Bool.or_eq_true, decide_eq_true_eq, decide_eq_true_eq]; omega)
  · intro hlt hle
    obtain ⟨hs, hh⟩ := foldl_timed_limits (bitsOf 7 0 v) (List.range 20) { s with zn := { s.zn with tjShut := bitsOf 15 8 v, tjHi := bitsOf 7 0 v } }
    exact ⟨_, if_neg (by rw [hshut, hhi, Bool.or_eq_true, decide_eq_true_eq, decide_eq_true_eq]; omega), hs.trans hshut, hh.trans hhi⟩

theorem execZoneAllocWrite_eq (s : State) {z : Nat} (hz : z < 20) (v : Word) : execZoneAllocWrite z v s =
    if v.toNat / 2 ^ 16 % 2 ^ 16 < v.toNat % 2 ^ 16 then .next s
    else .next (Claims.zoned s z (Zone.timed { s.zone z with
      cmask := v.toNat / 2 ^ 48, maxF := v.toNat / 2 ^ 16 % 2 ^ 16, minF := v.toNat % 2 ^ 16 } s.zn.tjHi s.now)) := by
  have hlo : bitsOf 15 0 v.toNat = v.toNat % 2 ^ 16 := rfl
  have hhi : bitsOf 31 16 v.toNat = v.toNat / 2 ^ 16 % 2 ^ 16 := bitsOf_shifted 31 16 v.toNat
  have hmask : bitsOf 63 48 v.toNat = v.toNat / 2 ^ 48 :=
    (bitsOf_shifted 63 48 v.toNat).trans (Nat.mod_eq_of_lt (by have := v.isLt; omega))
  simp only [execZoneAllocWrite, hlo, hhi, hmask, Nat.not_le.2 hz, decide_false, Bool.false_or, decide_eq_true_eq]
  rfl

theorem zoneAllocs (s : State) {z : Nat} (hz : z < 20) (v : Word) :
    (v.toNat / 2 ^ 16 % 2 ^ 16 < v.toNat % 2 ^ 16 → execZoneAllocWrite z v s = .next s) ∧
    (v.toNat % 2 ^ 16 ≤ v.toNat / 2 ^ 16 % 2 ^ 16 → ∃ good, execZoneAllocWrite z v s = .next (Claims.zoned s z { s.zone z with
      cmask := v.toNat / 2 ^ 48, maxF := v.toNat / 2 ^ 16 % 2 ^ 16, minF := v.toNat % 2 ^ 16, goodSince := good
      lowSince := if (s.zone z).flow < v.toNat % 2 ^ 16 then some ((s.zone z).lowSince.getD s.now) else none
      drySince := if 4 * (s.zone z).flow < v.toNat % 2 ^ 16 then some ((s.zone z).drySince.getD s.now) else none })) := by
  rw [execZoneAllocWrite_eq s hz v]
  refine ⟨fun h => if_pos h, fun h => ?_⟩
  rw [if_neg (Nat.not_lt.2 h), Zone.timed, sinceOf_eq, sinceOf_eq]
  exact ⟨_, rfl⟩

theorem Zone.owned_iff (q : Zone) : q.owned = true ↔ q.state = .evacuating ∨ q.state = .drained ∨ q.state = .failed := by
  simp only [Zone.owned, Bool.or_eq_true, beq_iff_eq, or_assoc]

theorem State.openValve_eq (s : State) {z : Nat} (hz : z < 20) (v : Nat) : s.openValve z v =
    if (s.zone z).state = .evacuating ∨ (s.zone z).state = .drained ∨ (s.zone z).state = .failed then s
    else Claims.zoned s z { s.zone z with openN := v % 256, openAt := s.now } := by
  simp only [State.openValve, Nat.not_le.2 hz, decide_false, Bool.false_or, Zone.owned_iff]
  rfl

/-! ### Schedules of valves (20 R399) -/

/-- An entry of the schedule. -/
def State.sched (s : State) (k : Nat) : Sched := kgetD s.zn.scheds k {}

/-- The die with an entry of the schedule replaced. -/
def State.setSched (s : State) (k : Nat) (q : Sched) : State := { s with zn := { s.zn with scheds := kset s.zn.scheds k q } }

theorem State.sched_setSched (s : State) (k j : Nat) (q : Sched) : (s.setSched k q).sched j = if j = k then q else s.sched j := by
  simp only [State.sched, State.setSched, kgetD, kget_kset]
  split <;> rfl

theorem Sched.fires_iff (q : Sched) (now : Nat) : q.fires now = true ↔ q.actn.getLsbD 63 = true ∧ q.time.toNat ≤ now := by
  simp only [Sched.fires, Bool.and_eq_true, decide_eq_true_eq]; rfl

/-- An entry as it fires: its opening is asked for, and V is cleared. -/
def State.fireValve (s : State) (k : Nat) : State :=
  (s.openValve (bitsOf 12 8 (s.sched k).actn.toNat) (bitsOf 7 0 (s.sched k).actn.toNat)).setSched k
    { s.sched k with actn := BitVec.ofNat 64 (bitsOf 62 0 (s.sched k).actn.toNat) }

theorem State.fireValves_eq (s : State) :
    s.fireValves = (List.range 16).foldl (fun (s : State) k => if !(s.sched k).fires s.now then s else s.fireValve k) s := rfl

theorem State.fireValves_none (s : State) (h : ∀ k, k < 16 → (s.sched k).fires s.now = false) : s.fireValves = s := by
  rw [State.fireValves_eq]
  exact foldl_eq_self fun k hk => if_pos (by rw [h k (List.mem_range.1 hk)]; rfl)

theorem State.openValve_now (s : State) (z v : Nat) : (s.openValve z v).now = s.now ∧ ∀ k, (s.openValve z v).sched k = s.sched k := by
  simp only [State.openValve]
  split <;> exact ⟨rfl, fun k => rfl⟩

/-- The one entry that is armed fires alone. -/
theorem State.fireValves_one (s : State) {k : Nat} (hk : k < 16) (hfires : (s.sched k).fires s.now = true)
    (hothers : ∀ j, j < 16 → j ≠ k → (s.sched j).actn.getLsbD 63 = false) : s.fireValves = s.fireValve k := by
  have hquiet : ∀ (q : Sched) (now : Nat), q.actn.getLsbD 63 = false → q.fires now = false := by
    intro q now hq
    rw [← Bool.not_eq_true, Sched.fires_iff, hq]
    exact fun h => Bool.noConfusion h.1
  obtain ⟨l, r, hrange, hl, hr⟩ := range_split hk
  have hlt : ∀ j, j ∈ l ∨ j ∈ r → j < 16 := fun j hj =>
    List.mem_range.1 (hrange ▸ List.mem_append.2 (hj.imp id (List.mem_cons_of_mem k)))
  rw [State.fireValves_eq, hrange, List.foldl_append, List.foldl_cons]
  have hbefore : l.foldl (fun (s : State) k => if !(s.sched k).fires s.now then s else s.fireValve k) s = s :=
    foldl_eq_self fun j hj => if_pos (by rw [hquiet _ _ (hothers j (hlt j (.inl hj)) fun h => hl (h ▸ hj))]; rfl)
  rw [hbefore, if_neg (by rw [hfires]; decide)]
  refine foldl_eq_self fun j hj => if_pos ?_
  have hj' : j ≠ k := fun h => hr (h ▸ hj)
  have hsame : (s.fireValve k).sched j = s.sched j := by
    rw [State.fireValve, State.sched_setSched, if_neg hj', (s.openValve_now _ _).2]
  rw [hsame, hquiet _ _ (hothers j (hlt j (.inr hj)) hj')]
  rfl

/-- ACTN of a write: V and the low 13 bits, or these alone when the entry fires. -/
theorem schedActn_fields (v : Word) : fields [(63, bitsOf 63 63 v.toNat), (0, bitsOf 12 0 v.toNat)] = v.toNat / 2 ^ 63 * 2 ^ 63 + v.toNat % 2 ^ 13 ∧
    fields [(63, 0), (0, bitsOf 12 0 v.toNat)] = v.toNat % 2 ^ 13 := by
  have hlow : bitsOf 12 0 v.toNat = v.toNat % 2 ^ 13 := rfl
  have htop : bitsOf 63 63 v.toNat = v.toNat / 2 ^ 63 :=
    (bitsOf_shifted 63 63 v.toNat).trans (Nat.mod_eq_of_lt (by have := v.isLt; omega))
  rw [hlow, htop]
  simp [fields]

theorem execValveSchedWrite_eq (s : State) {k : Nat} (hk : k < 16) (actn : Bool) (v : Word) : execValveSchedWrite k actn v s =
    if actn = true ∧ 20 ≤ v.toNat / 2 ^ 8 % 32 then .next s
    else if (s.sched k).fires s.now = true then
      .next (s.fireValves.setSched k (if actn = true then { s.fireValves.sched k with actn := BitVec.ofNat 64 (v.toNat % 2 ^ 13) }
        else { s.fireValves.sched k with time := v }))
    else .next (s.setSched k (if actn = true then { s.sched k with actn := BitVec.ofNat 64 (v.toNat / 2 ^ 63 * 2 ^ 63 + v.toNat % 2 ^ 13) }
      else { s.sched k with time := v })) := by
  have hzone : bitsOf 12 8 v.toNat = v.toNat / 2 ^ 8 % 32 := bitsOf_shifted 12 8 v.toNat
  simp only [execValveSchedWrite, hzone, Nat.not_le.2 hk, decide_false, Bool.false_or, Bool.and_eq_true, decide_eq_true_eq]
  refine ite_congr rfl (fun _ => rfl) fun _ => ?_
  cases hf : (s.sched k).fires s.now with
  | true =>
    have hf' : (kgetD s.zn.scheds k {}).fires s.now = true := hf
    simp only [hf', if_true, (schedActn_fields v).2]
    rfl
  | false =>
    have hf' : (kgetD s.zn.scheds k {}).fires s.now = false := hf
    simp only [hf', Bool.false_eq_true, if_false, (schedActn_fields v).1]
    rfl

/-- What an entry that fires leaves. -/
theorem State.fireValve_fields (s : State) {k n : Nat} (hn : n = (s.sched k).actn.toNat / 2 ^ 8 % 32) (hlt : n < 20)
    (hfree : ¬((s.zone n).state = .evacuating ∨ (s.zone n).state = .drained ∨ (s.zone n).state = .failed)) :
    (s.fireValve k).zone n = { s.zone n with openN := (s.sched k).actn.toNat % 256, openAt := s.now } ∧
    ((s.fireValve k).sched k).actn.toNat = (s.sched k).actn.toNat % 2 ^ 63 ∧ ((s.fireValve k).sched k).time = (s.sched k).time ∧
    (s.fireValve k).slots = s.slots ∧ (s.fireValve k).mem = s.mem := by
  have hzone : bitsOf 12 8 (s.sched k).actn.toNat = n := hn ▸ bitsOf_shifted 12 8 _
  have hlow : bitsOf 7 0 (s.sched k).actn.toNat % 256 = (s.sched k).actn.toNat % 256 := Nat.mod_mod _ _
  have hopen := s.openValve_eq hlt (bitsOf 7 0 (s.sched k).actn.toNat)
  rw [if_neg hfree, hlow] at hopen
  unfold State.fireValve
  rw [hzone, hopen]
  refine ⟨?_, ?_, ?_, rfl, rfl⟩
  · exact congrArg (fun o : Option Zone => o.getD {}) (kget_kset_same _ _ _)
  · rw [State.sched_setSched, if_pos rfl]
    exact Nat.mod_eq_of_lt (Nat.lt_of_lt_of_le (Nat.mod_lt _ (by decide)) (by decide))
  · rw [State.sched_setSched, if_pos rfl]

theorem valveSchedules (s : State) {k n : Nat} {e : Sched} (hk : k < 16) (he : e = s.sched k) (hv : e.actn.getLsbD 63 = true) (htime : e.time.toNat ≤ s.now)
    (hn : n = e.actn.toNat / 2 ^ 8 % 32) (hlt : n < 20) (hothers : ∀ j, j < 16 → j ≠ k → (s.sched j).actn.getLsbD 63 = false)
    (hfree : ¬((s.zone n).state = .evacuating ∨ (s.zone n).state = .drained ∨ (s.zone n).state = .failed)) :
    (∃ t : State, execValveSchedFire s = .next t ∧ t.zone n = { s.zone n with openN := e.actn.toNat % 256, openAt := s.now } ∧
      (t.sched k).actn.toNat = e.actn.toNat % 2 ^ 63 ∧ (t.sched k).time = e.time ∧ t.slots = s.slots ∧ t.mem = s.mem) ∧
    ∀ v : Word, v.toNat / 2 ^ 8 % 32 < 20 → ∃ t : State, execValveSchedWrite k true v s = .next t ∧
      t.zone n = { s.zone n with openN := e.actn.toNat % 256, openAt := s.now } ∧ (t.sched k).actn.toNat = v.toNat % 2 ^ 13 := by
  subst he
  have hfires : (s.sched k).fires s.now = true := (Sched.fires_iff _ _).2 ⟨hv, htime⟩
  have hfields := s.fireValve_fields hn hlt hfree
  refine ⟨⟨_, congrArg Host.Outcome.next (s.fireValves_one hk hfires hothers), hfields⟩, fun v hzone => ?_⟩
  rw [execValveSchedWrite_eq s hk, if_neg (fun h => by omega), if_pos hfires, s.fireValves_one hk hfires hothers, if_pos rfl]
  refine ⟨_, rfl, hfields.1, ?_⟩
  rw [State.sched_setSched, if_pos rfl]
  exact Nat.mod_eq_of_lt (Nat.lt_of_lt_of_le (Nat.mod_lt _ (by decide)) (by decide))

/-! ### States of a zone (20 R397, R401, R402) -/

/-- Another zone acts: what zone `z` reads, its limits and the time stay, and a VOID that was noted stays noted. -/
structure Apart (z : Nat) (s t : State) : Prop where
  zone : t.zone z = s.zone z
  time : t.t = s.t
  hi : t.zn.tjHi = s.zn.tjHi
  shut : t.zn.tjShut = s.zn.tjShut
  void : s.zn.zvoid = true → t.zn.zvoid = true

section
variable {z : Nat} {s t u : State}

theorem Apart.refl (z : Nat) (s : State) : Apart z s s := ⟨rfl, rfl, rfl, rfl, id⟩

theorem Apart.trans (h : Apart z s t) (k : Apart z t u) : Apart z s u :=
  ⟨k.zone.trans h.zone, k.time.trans h.time, k.hi.trans h.hi, k.shut.trans h.shut, k.void ∘ h.void⟩

theorem Apart.foldl {f : State → Nat → State} {l : List Nat} (hf : ∀ s y, y ≠ z → Apart z s (f s y)) (hl : z ∉ l) (s : State) : Apart z s (l.foldl f s) := by
  induction l generalizing s with
  | nil => exact .refl z s
  | cons y l ih => exact (hf s y fun h => hl (h ▸ List.mem_cons_self)).trans (ih (fun h => hl (List.mem_cons_of_mem _ h)) _)

/-- Zones that act in turn: zone `z` acts on what the ones before it leave. -/
theorem Apart.range {f : State → Nat → State} {n : Nat} (hf : ∀ s y, y ≠ z → Apart z s (f s y)) (hz : z < n) (s : State) :
    ∃ t, Apart z s t ∧ Apart z (f t z) ((List.range n).foldl f s) := by
  obtain ⟨l, r, hrange, hl, hr⟩ := range_split hz
  rw [hrange, List.foldl_append, List.foldl_cons]
  exact ⟨l.foldl f s, Apart.foldl hf hl s, Apart.foldl hf hr _⟩

theorem Apart.modZone (s : State) {y : Nat} (hy : y ≠ z) (f : Zone → Zone) : Apart z s (s.modZone y f) :=
  ⟨(s.zone_modZone y z f).trans (if_neg (Ne.symm hy)), rfl, rfl, rfl, id⟩

/-- A step that leaves zones and time as another one leaves them. -/
theorem Apart.after (h : Apart z s t) (ht : u.t = t.t) (hzn : u.zn = t.zn) : Apart z s u :=
  h.trans ⟨congrArg (fun n : Zones => kgetD n.zones z ({} : Zone)) hzn, ht, congrArg Zones.tjHi hzn, congrArg Zones.tjShut hzn, fun hv => hzn ▸ hv⟩

end

theorem State.unqueueMatrix_still (s : State) (c : Nat) : Still s (s.unqueueMatrix c) := by
  unfold State.unqueueMatrix
  split
  · exact (State.unrun_still _ _).after ⟨rfl, rfl, rfl, rfl⟩
  · exact .refl s

/-- A zone that enters EVACUATING. -/
def Zone.evacuate (q : Zone) (tjHi now : Nat) : Zone := { (q.enter .evacuating tjHi now) with evacAt := now }

theorem State.startEvacuation_still (s : State) (z : Nat) : Still (s.modZone z (fun q => q.evacuate s.zn.tjHi s.now)) (s.startEvacuation z) := by
  unfold State.startEvacuation
  refine Still.trans (Still.foldl (fun t c => t.unqueueMatrix_still c) _ _) (Still.foldl (fun t m => ?_) _ _)
  exact ⟨rfl, rfl, rfl, rfl⟩

theorem State.fenceZone_zones (s : State) (z : Nat) : (s.fenceZone z).t = s.t ∧ (s.fenceZone z).zn = (s.modZone z (fun q => q.enter .drained s.zn.tjHi s.now)).zn := by
  obtain ⟨t, ht⟩ : ∃ t : State, t = { s.modZone z (fun q => q.enter .drained s.zn.tjHi s.now) with hl :=
    { s.hl with fenced := s.hl.fenced ++ (distinct ((zoneCores z).map grottoOf)).filter (fun g => !s.hl.fenced.contains g) } } := ⟨_, rfl⟩
  obtain ⟨hends, -⟩ := t.fenceCores_ends (zoneCores z)
  have htime : t.t = s.t := by rw [ht]; rfl
  have hzones : t.zn = (s.modZone z (fun q => q.enter .drained s.zn.tjHi s.now)).zn := by rw [ht]
  have hfence : (s.fenceZone z).t = (t.fenceCores (zoneCores z)).t ∧ (s.fenceZone z).zn = (t.fenceCores (zoneCores z)).zn := by
    subst ht
    simp only [State.fenceZone]
    split <;> exact ⟨rfl, rfl⟩
  exact ⟨hfence.1.trans (hends.time.trans htime), hfence.2.trans (hends.zn.trans hzones)⟩

theorem State.judgeZone_apart (s : State) {y z : Nat} (hy : y ≠ z) : Apart z s (s.judgeZone y) := by
  have hevac : Apart z s (s.startEvacuation y) :=
    (Apart.modZone s hy _).after (s.startEvacuation_still y).time (s.startEvacuation_still y).zn
  simp only [State.judgeZone]
  split
  · split
    · exact hevac
    · split
      · exact Apart.modZone s hy _
      · exact .refl z s
  · split
    · exact hevac
    · exact .refl z s
  · split
    · exact (Apart.modZone s hy _).after (s.fenceZone_zones y).1 (s.fenceZone_zones y).2
    · exact .refl z s
  · exact .refl z s

theorem foldl_irq_zones (l : List Nat) (s : State) : (l.foldl (fun (s : State) _ => s.irq s.zn.zvec) s).t = s.t ∧
    (l.foldl (fun (s : State) _ => s.irq s.zn.zvec) s).zn = s.zn :=
  ⟨foldl_keeps State.t (fun (t : State) (_ : Nat) => (rfl : (t.irq t.zn.zvec).t = t.t)) l s,
   foldl_keeps State.zn (fun (t : State) (_ : Nat) => (rfl : (t.irq t.zn.zvec).zn = t.zn)) l s⟩

/-- Conditions of a zone that have begun to hold are noted. -/
structure Noted (z : Nat) (s t : State) : Prop where
  zone : t.zone z = { s.zone z with seen := (s.zone z).events s.zn.tjHi s.now }
  others : ∀ y, y ≠ z → t.zone y = s.zone y
  time : t.t = s.t
  hi : t.zn.tjHi = s.zn.tjHi
  shut : t.zn.tjShut = s.zn.tjShut
  void : t.zn.zvoid = (s.zn.zvoid || ((s.zone z).void && !((s.zone z).seen[2]?.getD false)))

theorem State.zoneEvents_noted (s : State) (z : Nat) : Noted z s (s.zoneEvents z) := by
  simp only [State.zoneEvents]
  constructor
  case time => exact (foldl_irq_zones _ _).1
  case hi => exact (congrArg Zones.tjHi (foldl_irq_zones _ _).2).trans rfl
  case shut => exact (congrArg Zones.tjShut (foldl_irq_zones _ _).2).trans rfl
  case void => exact congrArg Zones.zvoid (foldl_irq_zones _ _).2
  all_goals simp only [State.zone, (foldl_irq_zones _ _).2]
  · exact congrArg (fun o : Option Zone => o.getD {}) (kget_kset_same _ _ _)
  · exact fun y hy => congrArg (fun o : Option Zone => o.getD {}) (kget_kset_other _ _ hy)

theorem State.zoneEvents_apart (s : State) {y z : Nat} (hy : y ≠ z) : Apart z s (s.zoneEvents y) := by
  have h := s.zoneEvents_noted y
  exact ⟨h.others z (Ne.symm hy), h.time, h.hi, h.shut, fun hv => by rw [h.void, hv]; rfl⟩

/-! ### Readings (20 R401) -/

/-- A zone with the readings of a refresh, its conditions counted from them; the valve may have moved. -/
structure Refreshed (q : Zone) (r : Sensors) (tjHi now : Nat) (w : Zone) : Prop where
  state : w.state = q.state
  seen : w.seen = q.seen
  minF : w.minF = q.minF
  tj : w.tj = [r.tj0 % 256, r.tj1 % 256, r.tj2 % 256, r.tj3 % 256]
  tin : w.tin = r.tin % 256
  tout : w.tout = r.tout % 256
  void : w.void = r.void
  flow : w.flow = r.flow % 2 ^ 15
  dp : w.dp = r.dp % 2 ^ 16
  low : w.lowSince = sinceOf (decide (r.flow % 2 ^ 15 < q.minF)) q.lowSince now
  dry : w.drySince = sinceOf (decide (4 * (r.flow % 2 ^ 15) < q.minF)) q.drySince now

/-- A valve that moves changes its opening alone. -/
theorem Zone.moved_eq (q : Zone) (now f : Nat) : ∃ a b c, q.moved now f = { q with act := a, shutUntil := b, openAt := c } := by
  simp only [Zone.moved]
  repeat' split
  all_goals exact ⟨_, _, _, rfl⟩

theorem Zone.refreshed (q : Zone) (r : Sensors) (tjHi now f : Nat) : Refreshed q r tjHi now (((q.read r).timed tjHi now).moved now f) := by
  obtain ⟨a, b, c, h⟩ := ((q.read r).timed tjHi now).moved_eq now f
  rw [h]
  constructor <;> rfl

theorem State.refreshZone_eq (s : State) (z : Nat) (r : Sensors) : s.refreshZone z r =
    s.draw.2.modZone z (fun q => ((q.read r).timed s.zn.tjHi s.now).moved s.now s.draw.1) := rfl

theorem State.refreshZone_apart (s : State) {y z : Nat} (hy : y ≠ z) (r : Sensors) : Apart z s (s.refreshZone y r) := by
  rw [s.refreshZone_eq]
  exact (⟨rfl, rfl, rfl, rfl, id⟩ : Apart z s s.draw.2).trans (Apart.modZone s.draw.2 hy _)

/-- New readings of all zones, as far as zone `z` goes. -/
theorem sensorsRead (s : State) {z : Nat} (hz : z < 20) (rs : List Sensors) {r : Sensors} (hr : rs[z]? = some r) :
    ∃ t : State, execSensorRefresh rs s = .next t.judgeZones ∧ Refreshed (s.zone z) r s.zn.tjHi s.now (t.zone z) ∧
      t.t = s.t ∧ t.zn.tjHi = s.zn.tjHi ∧ t.zn.tjShut = s.zn.tjShut := by
  have hstep : ∀ (s : State) (y : Nat), y ≠ z → Apart z s (match rs[y]? with | some r => s.refreshZone y r | none => s) := by
    intro s y hy
    split
    · exact s.refreshZone_apart hy _
    · exact .refl z s
  obtain ⟨u, hbefore, hafter⟩ := Apart.range hstep hz s
  simp only [hr] at hafter
  have hat : Refreshed (s.zone z) r s.zn.tjHi s.now ((u.refreshZone z r).zone z) := by
    have hnow : u.now = s.now := State.now_eq hbefore.time
    have hzone : (u.refreshZone z r).zone z = (((u.zone z).read r).timed u.zn.tjHi u.now).moved u.now (u.draw.1) := by
      rw [u.refreshZone_eq, u.draw.2.zone_modZone, if_pos rfl]; rfl
    rw [hzone, hbefore.zone, hbefore.hi, hnow]
    exact Zone.refreshed _ _ _ _ _
  exact ⟨_, rfl, hafter.zone ▸ hat, hafter.time.trans hbefore.time, hafter.hi.trans hbefore.hi, hafter.shut.trans hbefore.shut⟩

/-- A zone keeps its readings where its state changes. -/
structure Zone.SameReadings (p q : Zone) : Prop where
  tj : q.tj = p.tj
  tin : q.tin = p.tin
  tout : q.tout = p.tout
  void : q.void = p.void
  flow : q.flow = p.flow
  dp : q.dp = p.dp

/-- What a zone that is judged becomes. -/
theorem State.judgeZone_self (s : State) (z : Nat) : (s.zone z).SameReadings ((s.judgeZone z).zone z) ∧
    (s.zn.zvoid = true → (s.judgeZone z).zn.zvoid = true) ∧
    ((s.zone z).state = .flowing → (s.zone z).dryOrHot s.zn.tjShut s.now = true →
      ((s.judgeZone z).zone z).state = .evacuating ∧ ((s.judgeZone z).zone z).evacAt = s.now) ∧
    ((s.zone z).state = .flowing → (s.zone z).dryOrHot s.zn.tjShut s.now = false → heldFor (s.zone z).lowSince 1000000 s.now = false →
      s.judgeZone z = if s.zn.tjHi ≤ (s.zone z).tjMax then s.modZone z (fun q => q.enter .throttled s.zn.tjHi s.now) else s) := by
  have hmod : ∀ f : Zone → Zone, (s.modZone z f).zone z = f (s.zone z) := fun f => (s.zone_modZone z z f).trans (if_pos rfl)
  have hzone : ∀ {t u : State}, u.zn = t.zn → u.zone z = t.zone z := fun h => congrArg (fun n : Zones => kgetD n.zones z ({} : Zone)) h
  have hevac : (s.startEvacuation z).zone z = (s.zone z).evacuate s.zn.tjHi s.now := (hzone (s.startEvacuation_still z).zn).trans (hmod _)
  have hevacV : (s.startEvacuation z).zn.zvoid = s.zn.zvoid :=
    (congrArg Zones.zvoid (s.startEvacuation_still z).zn).trans rfl
  have hfence : (s.fenceZone z).zone z = (s.zone z).enter .drained s.zn.tjHi s.now := (hzone (s.fenceZone_zones z).2).trans (hmod _)
  have hfenceV : (s.fenceZone z).zn.zvoid = s.zn.zvoid :=
    (congrArg Zones.zvoid (s.fenceZone_zones z).2).trans rfl
  have henter : ∀ st, (s.zone z).SameReadings ((s.zone z).enter st s.zn.tjHi s.now) := fun st => ⟨rfl, rfl, rfl, rfl, rfl, rfl⟩
  have hsame : (s.zone z).SameReadings (s.zone z) := ⟨rfl, rfl, rfl, rfl, rfl, rfl⟩
  have hevacS : (s.zone z).SameReadings ((s.zone z).evacuate s.zn.tjHi s.now) := ⟨rfl, rfl, rfl, rfl, rfl, rfl⟩
  refine ⟨?_, ?_, fun hflow hdry => ?_, fun hflow hdry hlow => ?_⟩
  · simp only [State.judgeZone]
    repeat' split
    all_goals simp only [hevac, hfence, hmod, henter, hsame, hevacS]
  · intro hv
    simp only [State.judgeZone]
    repeat' split
    all_goals simp only [hevacV, hfenceV, hv, State.modZone]
  · simp only [State.judgeZone, hflow, hdry, if_true, hevac]
    exact ⟨rfl, rfl⟩
  · have hvoid : (s.zone z).void = false := by
      cases hv : (s.zone z).void with
      | false => rfl
      | true => rw [Zone.dryOrHot, hv] at hdry; cases hdry
    simp only [State.judgeZone, hflow, hdry, Zone.events, hlow, Bool.false_eq_true, if_false, List.getElem?_cons_zero, List.getElem?_cons_succ, Option.getD_some,
      Bool.or_false, decide_eq_true_eq]

/-- A zone that is judged with new readings. -/
theorem zoneJudged (s : State) {z : Nat} (hz : z < 20) {q : Zone} {r : Sensors} {hot : Nat} {hi now : Nat} (hread : Refreshed q r hi now (s.zone z))
    (hnow : s.now = now) (hhot : hot = [r.tj0 % 256, r.tj1 % 256, r.tj2 % 256, r.tj3 % 256].foldl max 0) :
    (s.zone z).SameReadings (s.judgeZones.zone z) ∧
    (r.void = true → q.seen[2]?.getD false = false → s.judgeZones.zn.zvoid = true) ∧
    (q.state = .flowing → r.void = true → (s.judgeZones.zone z).state = .evacuating ∧ (s.judgeZones.zone z).evacAt = now) ∧
    (q.state = .flowing → r.void = false → q.minF ≤ r.flow % 2 ^ 15 → hot < s.zn.tjShut →
      (s.judgeZones.zone z).state = if s.zn.tjHi ≤ hot then .throttled else .flowing) := by
  obtain ⟨u, hbefore, hafter⟩ := Apart.range (f := fun (s : State) z => (s.zoneEvents z).judgeZone z)
    (fun t y hy => (t.zoneEvents_apart hy).trans (State.judgeZone_apart _ hy)) hz s
  have hnoted := u.zoneEvents_noted z
  have hseen := hnoted.zone
  have hunow : (u.zoneEvents z).now = now := (State.now_eq (hnoted.time.trans hbefore.time)).trans hnow
  rw [hbefore.zone] at hseen
  obtain ⟨hsame, hkept, hevac, hthrottle⟩ := (u.zoneEvents z).judgeZone_self z
  have hmax : (s.zone z).tjMax = hot := by rw [hhot, Zone.tjMax, hread.tj]
  rw [hseen, hunow] at hevac hthrottle
  rw [hseen] at hsame
  obtain ⟨htj, htin, htout, hvoid, hflow, hdp⟩ := hsame
  have hfinal : Apart z ((u.zoneEvents z).judgeZone z) s.judgeZones := hafter
  rw [hfinal.zone]
  refine ⟨⟨htj, htin, htout, hvoid, hflow, hdp⟩, fun hv hq => ?_, fun hf hv => ?_, fun hf hv hmin hlt => ?_⟩
  · refine hfinal.void (hkept ?_)
    rw [hnoted.void, hbefore.zone, hread.void, hread.seen, hv, hq]
    exact Bool.or_true _
  · refine hevac (hread.state.trans hf) ?_
    show ((s.zone z).void || _ || _) = true
    rw [hread.void, hv]
    rfl
  · have hlow : (s.zone z).lowSince = none := by rw [hread.low, sinceOf, if_neg (by simpa using hmin)]
    have hdry : (s.zone z).drySince = none := by rw [hread.dry, sinceOf, if_neg (by rw [decide_eq_true_eq]; omega)]
    have hquiet : ({ s.zone z with seen := (s.zone z).events u.zn.tjHi u.now } : Zone).dryOrHot (u.zoneEvents z).zn.tjShut now = false := by
      show ((s.zone z).void || heldFor (s.zone z).drySince 100000 now || decide ((u.zoneEvents z).zn.tjShut ≤ (s.zone z).tjMax)) = false
      rw [hread.void, hv, hdry, hmax, hnoted.shut, hbefore.shut, decide_eq_false (by omega)]
      rfl
    have hstep := hthrottle (hread.state.trans hf) hquiet (by show heldFor (s.zone z).lowSince _ _ = _; rw [hlow]; rfl)
    rw [hstep, hnoted.hi, hbefore.hi]
    show (State.zone (if s.zn.tjHi ≤ (s.zone z).tjMax then _ else _) z).state = _
    rw [hmax]
    split
    · rw [State.zone_modZone, if_pos rfl]; rfl
    · rw [hseen]; exact hread.state.trans hf

theorem sensorRefreshes (s : State) {z : Nat} (hz : z < 20) (rs : List Sensors) {r : Sensors} {hot : Nat} (hr : rs[z]? = some r)
    (hhot : hot = [r.tj0 % 256, r.tj1 % 256, r.tj2 % 256, r.tj3 % 256].foldl max 0) :
    ∃ t : State, execSensorRefresh rs s = .next t ∧
      (t.zone z).tj = [r.tj0 % 256, r.tj1 % 256, r.tj2 % 256, r.tj3 % 256] ∧ (t.zone z).tin = r.tin % 256 ∧ (t.zone z).tout = r.tout % 256 ∧
      (t.zone z).void = r.void ∧ (t.zone z).flow = r.flow % 2 ^ 15 ∧ (t.zone z).dp = r.dp % 2 ^ 16 ∧
      (r.void = true → (s.zone z).seen[2]?.getD false = false → t.zn.zvoid = true) ∧
      ((s.zone z).state = .flowing → r.void = true → (t.zone z).state = .evacuating ∧ (t.zone z).evacAt = s.now) ∧
      ((s.zone z).state = .flowing → r.void = false → (s.zone z).minF ≤ r.flow % 2 ^ 15 → hot < s.zn.tjShut →
        (t.zone z).state = if s.zn.tjHi ≤ hot then .throttled else .flowing) := by
  obtain ⟨u, hexec, hread, htime, hhi, hshut⟩ := sensorsRead s hz rs hr
  obtain ⟨hsame, hvoid, hevac, hthrottle⟩ := zoneJudged u hz hread (State.now_eq htime) hhot
  rw [hhi, hshut] at hthrottle
  exact ⟨_, hexec, hsame.tj.trans hread.tj, hsame.tin.trans hread.tin, hsame.tout.trans hread.tout, hsame.void.trans hread.void,
    hsame.flow.trans hread.flow, hsame.dp.trans hread.dp, hvoid, hevac, hthrottle⟩

/-! ### Times of a zone (20 R396, R397, R403) -/

theorem heldFor_some (a ns now : Nat) : heldFor (some a) ns now = decide (a + ns ≤ now) := rfl

/-- A zone whose readings ask for nothing flows on. -/
theorem State.flowZone_calm (s : State) {z : Nat} (hcalm : Claims.Calm s (s.zone z)) :
    s.flowZone z = Claims.zoned s z { s.zone z with state := .flowing, goodSince := none } := by
  obtain ⟨hvoid, hflow, hhi, hshut, hlow, hdry⟩ := hcalm
  have hzone : (s.modZone z (fun q => q.enter .flowing s.zn.tjHi s.now)).zone z = { s.zone z with state := .flowing, goodSince := none } :=
    (s.zone_modZone z z _).trans (if_pos rfl)
  obtain ⟨-, -, -, hjudge⟩ := (s.modZone z (fun q => q.enter .flowing s.zn.tjHi s.now)).judgeZone_self z
  have hmax : ({ s.zone z with state := .flowing, goodSince := none } : Zone).tjMax < s.zn.tjHi := hhi
  rw [hzone] at hjudge
  refine (hjudge rfl ?_ ?_).trans (if_neg (Nat.not_le.2 hmax))
  · show ((s.zone z).void || heldFor (s.zone z).drySince 100000 s.now || decide (s.zn.tjShut ≤ (s.zone z).tj.foldl max 0)) = false
    rw [hvoid, hdry, decide_eq_false (by omega)]
    rfl
  · show heldFor (s.zone z).lowSince 1000000 s.now = false
    rw [hlow]
    rfl

theorem foldl_add_eq_sum (f : Nat → Nat) (l : List Nat) (a : Nat) : l.foldl (fun n z => n + f z) a = a + (l.map f).sum := by
  induction l generalizing a with
  | nil => rfl
  | cons z l ih => rw [List.foldl_cons, ih, List.map_cons, List.sum_cons, Nat.add_assoc]

theorem State.coolantOk_iff (s : State) : s.coolantOk = true ↔ Claims.CoolantChecked s := by
  simp only [State.coolantOk, foldl_add_eq_sum, Nat.zero_add, Bool.and_eq_true, List.all_eq_true, List.mem_range, decide_eq_true_eq, Claims.CoolantChecked,
    and_assoc]

theorem Zone.wet_iff (q : Zone) : q.wet = true ↔ q.minF ≤ q.flow ∧ q.void = false := by
  simp only [Zone.wet, Bool.and_eq_true, decide_eq_true_eq, Bool.not_eq_true']

theorem zonesPrimed (s : State) {z a : Nat} (hz : z < 20) (hstate : (s.zone z).state = .priming) (hgood : (s.zone z).goodSince = some a)
    (hok : s.bt.bfail = false) (hcalm : Claims.Calm s (s.zone z)) :
    (s.now < a + 100000000 → execZonePrimed z s = .next s) ∧
    (a + 100000000 ≤ s.now → 4 ≤ s.bt.bstep →
      execZonePrimed z s = .next (Claims.zoned s z { s.zone z with state := .flowing, goodSince := none })) ∧
    (a + 100000000 ≤ s.now → s.bt.bstep = 3 → ¬Claims.CoolantChecked s → execZonePrimed z s = .next s) ∧
    (a + 100000000 ≤ s.now → s.bt.bstep = 3 → Claims.CoolantChecked s → z < 18 → execZonePrimed z s =
      .next { Claims.zoned s z { s.zone z with state := .flowing, goodSince := none } with bt := { s.bt with bstep := 4, bstepAt := s.now } }) := by
  have hwet : (s.zone z).wet = true := (Zone.wet_iff _).2 ⟨hcalm.2.1, hcalm.1⟩
  have hflow := s.flowZone_calm hcalm
  have hcool := s.coolantOk_iff
  simp only [execZonePrimed, hstate, hgood, hwet, heldFor_some, hflow, Nat.not_le.2 hz]
  refine ⟨fun h => if_pos ?_, fun h hstep => (if_neg ?_).trans ?_, fun h hstep hbad => if_pos ?_, fun h hstep hchecked hlt => (if_neg ?_).trans ?_⟩
  · simp [Nat.not_le.2 h]
  · simp [h, hok]; omega
  · exact congrArg Host.Outcome.next (if_neg fun h3 : s.bt.bstep = 3 ∧ z < 18 => by omega)
  · have hnot : s.coolantOk = false := Bool.eq_false_iff.2 fun hc => hbad (hcool.1 hc)
    simp [h, hstep, hnot]
  · simp [h, hok, hstep, hcool.2 hchecked]
  · show Host.Outcome.next (if s.bt.bstep = 3 ∧ z < 18 then _ else _) = _
    rw [if_pos ⟨hstep, hlt⟩]
    rfl

theorem zonesThrottled (s : State) {z a : Nat} (hstate : (s.zone z).state = .throttled) (hgood : (s.zone z).goodSince = some a)
    (hcalm : Claims.Calm s (s.zone z)) :
    (s.now < a + 1000000 → execZoneThrottleEnd z s = .next s) ∧
    (a + 1000000 ≤ s.now → (s.zone z).tj.foldl max 0 + 5 < s.zn.tjHi →
      execZoneThrottleEnd z s = .next (Claims.zoned s z { s.zone z with state := .flowing, goodSince := none })) := by
  have hflow := s.flowZone_calm hcalm
  simp only [execZoneThrottleEnd, hstate, hgood, heldFor_some, hflow]
  refine ⟨fun h => if_pos ?_, fun h hcool => if_neg ?_⟩
  · simp [Nat.not_le.2 h]
  · have hgood : (s.zone z).good s.zn.tjHi = true := by
      simp [Zone.good, hstate, Zone.tjMax, hcool, hcalm.2.1]
    simp [h, hgood]

theorem mem_zoneCores {z : Nat} (hz : z < 18) {c : Nat} : c ∈ zoneCores z ↔ Claims.CoreIn c z := by
  rw [zoneCores, if_neg (Nat.not_le.2 hz), List.mem_filter, List.mem_range, beq_iff_eq]
  show c < 144 ∧ 3 * (c / 4 / 6) + c / 4 % 6 / 2 = z ↔ _
  rw [Nat.div_div_eq_div_mul]
  rfl

/-- A core of no zone below 18 belongs to no zone. -/
theorem mem_zoneCores_coreIn {z c : Nat} (hc : c ∈ zoneCores z) : Claims.CoreIn c z := by
  by_cases hz : z < 18
  · exact (mem_zoneCores hz).1 hc
  · rw [zoneCores, if_pos (Nat.not_lt.1 hz)] at hc; cases hc

theorem State.evacuated_iff (s : State) {z : Nat} (hz : z < 18) : s.evacuated z = true ↔
    ∀ c, Claims.CoreIn c z → ((s.core c).matrix = none ∧ (s.core c).nextMatrix = none) ∧ ∀ i, i / 16 = c → s.slot i = none := by
  rw [State.evacuated, if_pos hz, List.all_eq_true]
  refine forall_congr' fun c => ?_
  rw [mem_zoneCores hz, Bool.and_eq_true, Bool.and_eq_true, List.all_eq_true, Option.isNone_iff_eq_none, Option.isNone_iff_eq_none]
  refine imp_congr_right fun _ => and_congr_right fun _ => ⟨fun h i hi => ?_, fun h j hj => ?_⟩
  · have hid : sidOf c (i % 16) = i := by rw [sidOf, ← hi]; omega
    have hnone := h (i % 16) (List.mem_range.2 (Nat.mod_lt _ (by decide)))
    rw [hid, Option.isNone_iff_eq_none] at hnone
    exact hnone
  · rw [Option.isNone_iff_eq_none]
    exact h _ (by have := List.mem_range.1 hj; rw [sidOf]; omega)

theorem evacuationsEnd (s : State) {z : Nat} (hz : z < 20) (hstate : (s.zone z).state = .evacuating) :
    (s.now < (s.zone z).evacAt + 2000 → execEvacuationSaveEnd z s = .next s) ∧
    ((s.zone z).evacAt + 2000 ≤ s.now → z < 18 → (∀ c, Claims.CoreIn c z → (s.core c).matrix = none ∧ (s.core c).nextMatrix = none) →
      (∀ i, Claims.CoreIn (i / 16) z → s.slot i = none) →
      execEvacuationSaveEnd z s = .next (Claims.zoned s z { s.zone z with
        state := .drained, goodSince := if (s.zone z).minF ≤ (s.zone z).flow ∧ (s.zone z).void = false then some s.now else none, gateAt := none, pulses := 0 })) ∧
    (∀ i x, z < 18 → Claims.CoreIn (i / 16) z → s.slot i = some x → execEvacuationSaveEnd z s = .next s) := by
  have hwet : sinceOf ({ s.zone z with state := .drained, goodSince := none } : Zone).wet none s.now =
      if (s.zone z).minF ≤ (s.zone z).flow ∧ (s.zone z).void = false then some s.now else none := by
    simp only [sinceOf, Zone.wet_iff]; rfl
  simp only [execEvacuationSaveEnd, hstate, Nat.not_le.2 hz]
  refine ⟨fun h => if_pos ?_, fun h hlt hmatrix hslots => (if_neg ?_).trans ?_, fun i x hlt hin hx => if_pos ?_⟩
  · simp [h]
  · have hdone : s.evacuated z = true := (s.evacuated_iff hlt).2 fun c hc => ⟨hmatrix c hc, fun i hi => hslots i (hi ▸ hc)⟩
    simp [hdone]; omega
  · rw [← hwet, if_pos hlt]
    rfl
  · have hleft : s.evacuated z = false := Bool.eq_false_iff.2 fun hdone => by
      have hnone := ((s.evacuated_iff hlt).1 hdone (i / 16) hin).2 i rfl
      rw [hx] at hnone; cases hnone
    simp [hleft]

/-- A core that is gated. -/
def CoreSt.gate (k : CoreSt) : CoreSt := { k with loc := [], ueLoc := [], left := [], l1 := [] }

theorem zoneGates (s : State) {z : Nat} (hz : z < 20) (hstate : (s.zone z).state = .drained) (hgate : (s.zone z).gateAt = none) :
    ∃ t : State, execZoneGateEnd z s = .next t ∧
      t.zone z = { s.zone z with gateAt := some s.now, gated := true, pulses := 0 } ∧
      (∀ c, z < 18 → Claims.CoreIn c z → (t.core c).loc = [] ∧ (t.core c).l1 = [] ∧ (t.core c).left = []) ∧
      (∀ c, ¬Claims.CoreIn c z → t.core c = s.core c) ∧ t.mem = s.mem ∧ t.slots = s.slots := by
  have hcores := foldl_modCore_core (f := CoreSt.gate) (fun k => rfl) (zoneCores z) s
  obtain ⟨t, ht⟩ : ∃ t : State, t = (zoneCores z).foldl (fun (s : State) c => s.modCore c CoreSt.gate) s := ⟨_, rfl⟩
  have hkept : t.zn = s.zn ∧ t.t = s.t ∧ t.mem = s.mem ∧ t.slots = s.slots := by
    subst ht
    exact ⟨foldl_keeps State.zn (f := fun (s : State) c => s.modCore c CoreSt.gate) (fun t c => rfl) _ _,
      foldl_keeps State.t (f := fun (s : State) c => s.modCore c CoreSt.gate) (fun t c => rfl) _ _,
      foldl_keeps State.mem (f := fun (s : State) c => s.modCore c CoreSt.gate) (fun t c => rfl) _ _,
      foldl_keeps State.slots (f := fun (s : State) c => s.modCore c CoreSt.gate) (fun t c => rfl) _ _⟩
  obtain ⟨hzn, htime, hmem, hslots⟩ := hkept
  rw [← ht] at hcores
  have hexec : execZoneGateEnd z s = .next (t.modZone z (fun q => { q with gateAt := some t.now, gated := true, pulses := 0 })) := by
    subst ht; exact if_neg (by simp [hstate, hgate]; exact hz)
  refine ⟨_, hexec, ?_, fun c hlt hin => ?_, fun c hin => ?_, hmem, hslots⟩
  · rw [State.zone_modZone, if_pos rfl, State.now_eq htime, State.zone, hzn]; rfl
  · show (t.core c).loc = [] ∧ (t.core c).l1 = [] ∧ (t.core c).left = []
    rw [hcores c, if_pos ((mem_zoneCores hlt).2 hin)]
    exact ⟨rfl, rfl, rfl⟩
  · exact (hcores c).trans (if_neg fun hc => hin (mem_zoneCores_coreIn hc))

/-! ### Re-priming (20 R403) -/

/-- A zone whose valve a neighbour's pulse shuts. -/
def Zone.shut (q : Zone) (until' : Nat) : Zone := { q with act := 0, shutUntil := some until' }

theorem foldl_shut_zone (until' : Nat) (l : List Nat) (s : State) (y : Nat) :
    (l.foldl (fun (s : State) n => s.modZone n (fun q => q.shut until')) s).zone y = if y ∈ l then (s.zone y).shut until' else s.zone y := by
  induction l generalizing s with
  | nil => rfl
  | cons n l ih =>
    rw [List.foldl_cons, ih, State.zone_modZone]
    by_cases hn : y = n
    · subst hn; by_cases hy : y ∈ l <;> simp [hy, Zone.shut]
    · simp [hn]

theorem foldl_shut_keeps (until' : Nat) (l : List Nat) (s : State) :
    (l.foldl (fun (s : State) n => s.modZone n (fun q => q.shut until')) s).mem = s.mem ∧
    (l.foldl (fun (s : State) n => s.modZone n (fun q => q.shut until')) s).slots = s.slots ∧
    (l.foldl (fun (s : State) n => s.modZone n (fun q => q.shut until')) s).cores = s.cores := by
  induction l generalizing s with
  | nil => exact ⟨rfl, rfl, rfl⟩
  | cons n l ih => exact ih _

theorem not_mem_zoneNeighbours : ∀ z, z < 20 → z ∉ zoneNeighbours z := by decide

theorem zonePulses (s : State) {z a : Nat} (hz : z < 20) (hstate : (s.zone z).state = .drained) (hpulses : (s.zone z).pulses < 8)
    (hgate : (s.zone z).gateAt = some a) :
    (s.now < a + 10000000 + 200000000 * (s.zone z).pulses → execReprimePulse z s = .next s) ∧
    (a + 10000000 + 200000000 * (s.zone z).pulses ≤ s.now → ∃ t : State, execReprimePulse z s = .next t ∧
      t.zone z = { s.zone z with act := 255, shutUntil := none, pulses := (s.zone z).pulses + 1, pulseAt := s.now
                                 goodSince := if (s.zone z).minF ≤ (s.zone z).flow ∧ (s.zone z).void = false then some s.now else none } ∧
      (∀ y, y < 20 → y ≠ z → t.zone y = if y ∈ zoneNeighbours z then { s.zone y with act := 0, shutUntil := some (s.now + 20000000) } else s.zone y) ∧
      t.mem = s.mem ∧ t.slots = s.slots ∧ t.cores = s.cores) := by
  have hdue : (s.zone z).pulseDue s.now = decide (a + 10000000 + 200000000 * (s.zone z).pulses ≤ s.now) := by
    simp only [Zone.pulseDue, hstate, hgate, decide_eq_true hpulses, beq_self_eq_true, Bool.true_and]
  constructor
  · intro h
    exact if_pos (by rw [hdue, decide_eq_false (Nat.not_le.2 h)]; exact Bool.or_true _)
  · intro h
    have hzones := foldl_shut_zone (s.now + 20000000) (zoneNeighbours z) (s.modZone z (fun q =>
      { q with act := 255, shutUntil := none, pulses := q.pulses + 1, pulseAt := s.now, goodSince := if q.wet then some s.now else none }))
    refine ⟨_, if_neg (by rw [hdue, decide_eq_true h]; simp; exact hz), ?_, fun y _ hy => ?_, ?_, ?_, ?_⟩
    · refine (hzones z).trans ((if_neg (not_mem_zoneNeighbours z hz)).trans ?_)
      rw [State.zone_modZone, if_pos rfl]
      simp only [Zone.wet_iff]
    · refine (hzones y).trans ?_
      rw [State.zone_modZone, if_neg hy]
      rfl
    · exact (foldl_shut_keeps _ _ _).1
    · exact (foldl_shut_keeps _ _ _).2.1
    · exact (foldl_shut_keeps _ _ _).2.2

/-- Kernels written again change local memory alone. -/
theorem State.reloadCores_keeps (s : State) (cores : List Nat) : (s.reloadCores cores).zn = s.zn ∧ (s.reloadCores cores).mem = s.mem ∧
    (s.reloadCores cores).slots = s.slots := by
  have hkernel : ∀ (t : State) (k : Kernel), ∃ c, (if k.state = .loading then t
      else ((t.kernelCores k).filter (fun c => cores.contains c)).foldl (fun (s : State) c => s.locWrite c k.kbase k.code) t) = { t with cores := c } := by
    intro t k
    split
    · exact ⟨t.cores, rfl⟩
    · generalize (t.kernelCores k).filter (fun c => cores.contains c) = l
      induction l generalizing t with
      | nil => exact ⟨t.cores, rfl⟩
      | cons c l ih =>
        obtain ⟨d, hd⟩ := ih (t.locWrite c k.kbase k.code)
        exact ⟨d, hd⟩
  refine ⟨foldl_keeps State.zn (fun t k => ?_) _ _, foldl_keeps State.mem (fun t k => ?_) _ _, foldl_keeps State.slots (fun t k => ?_) _ _⟩ <;>
  · obtain ⟨c, hc⟩ := hkernel t k
    rw [hc]

theorem Zone.primes_iff (q : Zone) (now : Nat) : q.primes now = true ↔
    q.state = .drained ∧ 0 < q.pulses ∧ q.wet = true ∧ heldFor q.goodSince 100000000 now = true ∧ now ≤ q.pulseAt + 200000000 := by
  simp only [Zone.primes, Bool.and_eq_true, beq_iff_eq, decide_eq_true_eq, and_assoc]

theorem zonePrimesAgain (s : State) {z a : Nat} (hz : z < 20) (hstate : (s.zone z).state = .drained) (hpulses : 0 < (s.zone z).pulses)
    (hflow : (s.zone z).minF ≤ (s.zone z).flow) (hvoid : (s.zone z).void = false) (hgood : (s.zone z).goodSince = some a) (hheld : a + 100000000 ≤ s.now)
    (hsoon : s.now ≤ (s.zone z).pulseAt + 200000000) :
    ∃ t : State, execReprimeResult z s = .next t ∧
      t.zone z = { s.zone z with state := .priming, goodSince := some s.now, pulses := 0, gateAt := none, gated := false } ∧ t.mem = s.mem ∧ t.slots = s.slots := by
  have hwet : (s.zone z).wet = true := (Zone.wet_iff _).2 ⟨hflow, hvoid⟩
  have hprimes : (s.zone z).primes s.now = true :=
    (Zone.primes_iff _ _).2 ⟨hstate, hpulses, hwet, by rw [hgood, heldFor_some]; exact decide_eq_true hheld, hsoon⟩
  have hsince : sinceOf ({ s.zone z with state := .priming, goodSince := none } : Zone).wet none s.now = some s.now := by
    show (if (s.zone z).wet = true then some s.now else none) = _
    exact if_pos hwet
  refine ⟨_, (if_neg (Nat.not_le.2 hz)).trans (if_pos hprimes), ?_, (State.reloadCores_keeps _ _).2.1, (State.reloadCores_keeps _ _).2.2⟩
  refine (congrArg (fun n : Zones => kgetD n.zones z ({} : Zone)) (State.reloadCores_keeps _ _).1).trans ?_
  refine (s.zone_modZone z z (fun q => { (q.enter .priming s.zn.tjHi s.now) with pulses := 0, gateAt := none, gated := false })).trans ((if_pos rfl).trans ?_)
  rw [← hsince]
  rfl

theorem zoneFails (s : State) {z : Nat} (hz : z < 18) (hstate : (s.zone z).state = .drained) (hpulses : (s.zone z).pulses = 8)
    (hlate : (s.zone z).pulseAt + 200000000 ≤ s.now) (hvoid : (s.zone z).void = true) :
    execReprimeResult z s = .next ((Claims.zoned s z { s.zone z with state := .failed, goodSince := none }).lived (34 + z) 1) := by
  have hprimes : ¬ (s.zone z).primes s.now = true := fun h => by
    have hwet := ((Zone.wet_iff _).1 ((Zone.primes_iff _ _).1 h).2.2.1).2
    rw [hvoid] at hwet; cases hwet
  have hdue : ((s.zone z).state == .drained && (s.zone z).pulses == 8 && decide ((s.zone z).pulseAt + 200000000 ≤ s.now)) = true := by
    rw [hstate, hpulses, decide_eq_true hlate]; rfl
  rw [execReprimeResult, if_neg (by omega), if_neg hprimes, if_pos hdue]
  exact congrArg Host.Outcome.next (if_neg (by omega))

/-- Settles O50, clause by clause: writes, schedules, readings, and the states of a zone. -/
theorem zoneSteps : Obligations.ZoneSteps := by
  unfold Obligations.ZoneSteps
  intro s z q hz hq
  subst hq
  refine ⟨zoneLimits s, zoneAllocs s hz, fun v => ?_, fun k v hk hzone => ?_, fun k v hk hquiet => ⟨?_, fun hzone => ?_⟩, fun hquiet => ?_,
    fun k n e hk he hv htime hn hlt hothers h1 h2 h3 => ?_, fun rs r hot hr hhot => sensorRefreshes s hz rs hr hhot,
    fun a hstate hgood hok hcalm => zonesPrimed s hz hstate hgood hok hcalm, fun a hstate hgood hcalm => zonesThrottled s hstate hgood hcalm,
    fun hstate => evacuationsEnd s hz hstate, fun hstate hgate => zoneGates s hz hstate hgate,
    fun a hstate hpulses hgate => zonePulses s hz hstate hpulses hgate,
    fun a hstate hpulses hflow hvoid hgood hheld hsoon => zonePrimesAgain s hz hstate hpulses hflow hvoid hgood hheld hsoon,
    fun hstate hpulses hlate hvoid hlt => zoneFails s hlt hstate hpulses hlate hvoid⟩
  · exact congrArg Host.Outcome.next (s.openValve_eq hz v)
  · exact (execValveSchedWrite_eq s hk true v).trans (if_pos ⟨rfl, hzone⟩)
  · refine (execValveSchedWrite_eq s hk false v).trans ((if_neg fun h => Bool.noConfusion h.1).trans ((if_neg fun h => hquiet ?_).trans rfl))
    exact (Sched.fires_iff _ _).1 h
  · refine (execValveSchedWrite_eq s hk true v).trans ((if_neg fun h => Nat.not_le.2 hzone h.2).trans ((if_neg fun h => hquiet ?_).trans rfl))
    exact (Sched.fires_iff _ _).1 h
  · refine congrArg Host.Outcome.next (s.fireValves_none fun k hk => Bool.eq_false_iff.2 fun h => ?_)
    obtain ⟨hv, htime⟩ := (Sched.fires_iff _ _).1 h
    rcases hquiet k hk with hoff | hlater
    · exact Bool.noConfusion (hoff.symm.trans hv)
    · exact Nat.not_le.2 hlater htime
  · exact valveSchedules s hk he hv htime hn hlt hothers (by rintro (h | h | h) <;> contradiction)

end Sys2Proof.Machine
end

section
/-!
An attestation that starts as a report's write has ended (22 R425).
-/

namespace Sys2Proof.Machine

/-- A report that is being built for another agent's memory; its write, deposit 6, has just been answered there. -/
def writtenReport : Boot := { attBusy := true, attWrite := some 6, bstep := 6 }

/-- A die after bring-up with that report. -/
def reportedState : State := { State.reset with deps := [(6, { sid := 0, dst := .o 1, len := 0, mask := 0, outstanding := 0 })], bt := writtenReport }

/-- The write that a report waits for, once another attestation has been asked for. -/
def attWriteAfterStart (v : Word) : Option Nat :=
  match exec (.attestationStart v) reportedState with
  | .next t => t.bt.attWrite
  | _ => none

/-- The model ends the written report first, and then starts the next one. -/
theorem attWriteAfterStart_eq : attWriteAfterStart 1 = none := by decide +kernel

/-- Refutes O53: its clause for ATTESTATION_START leaves the die as it is whenever a report is BUSY.  Where the report's write at another
agent has just been answered the report ends in this cycle, so that the start is not ignored: the die waits for no write after it. -/
theorem not_bringUpSteps : ¬ Obligations.BringUpSteps := by
  unfold Obligations.BringUpSteps
  intro h
  obtain ⟨-, -, -, -, hstart, -⟩ := h reportedState
  have hexec : exec (.attestationStart 1) reportedState = .next reportedState := (hstart 1).trans (congrArg Host.Outcome.next (if_pos (Or.inl rfl)))
  have hkept : attWriteAfterStart 1 = some 6 := by rw [attWriteAfterStart, hexec]; rfl
  exact absurd (attWriteAfterStart_eq.symm.trans hkept) (by decide)

end Sys2Proof.Machine
end

section
/-!
An overlay that ends for a kernel whose identifier two records of the die carry (14 R289).
-/

namespace Sys2Proof.Machine

/-- A kernel of identifier 5, of a context and in a state. -/
def twin (ctx : Nat) (state : KState) : Kernel :=
  { kid := 5, ctx := ctx, kbase := 0, ovl := 1, pass := false, space := 4096, views := [], codeLen := 2, resLen := 2, segments := [], entries := []
    digest := 0, state := state }

/-- An overlay of kernel 5 of context 2 is under way, and its image lies in a page that cannot be executed; a record of another context
with that identifier stands before it. -/
def twinState : State :=
  { State.reset with
    kn := { State.reset.kn with
      kernels := [twin 1 .loading, twin 2 .sealed], kbusy := true, kcmd := BitVec.ofNat 64 (2 * 2 ^ 62 + 5 * 2 ^ 20 + 2 * 2 ^ 16) }
    pg := { State.reset.pg with unitTlb := [(loaderSrc, { ctx := 2, vpn := 0, pages := 1, leaf := 1 })] } }

/-- The record of identifier 5 once the overlay has ended. -/
def twinAfterEnd : Option Kernel :=
  match exec .kernelOverlayEnd twinState with
  | .next t => t.kernel 5
  | _ => none

/-- The model ends the overlay of the first record of the identifier. -/
theorem twinAfterEnd_eq : twinAfterEnd = some (twin 1 .loading) := by decide +kernel

/-- Reading the image ends with result 6: its page may not be executed. -/
theorem readTables_twinState : (twinState.readTables 2 1).1 = .error (.result 6) := by rfl

/-- Refutes O43: its clause for an overlay that fails says that the record of the command's kernel and context stays, with no range busy.
The model looks that record up by the identifier alone, so of two records with one identifier the first one is written, which the state
below has for another context. -/
theorem not_kernelAndPassageSteps : ¬ Obligations.KernelAndPassageSteps := by
  unfold Obligations.KernelAndPassageSteps
  intro h
  obtain ⟨-, -, -, hoverlay⟩ := h.1 twinState twinState.kn.kcmd 5 2 (by decide +kernel) (by decide +kernel)
  obtain ⟨hfail, -⟩ := hoverlay (twin 2 .sealed) rfl rfl (by decide +kernel) (by decide +kernel)
  obtain ⟨t, q, hexec, hq, rfl, -⟩ := hfail 6 (twinState.readTables 2 1).2 (Prod.ext readTables_twinState rfl)
  have hkept : twinAfterEnd = some (twin 2 .sealed) := by rw [twinAfterEnd, hexec]; exact hq
  exact absurd (twinAfterEnd_eq.symm.trans hkept) (by decide)

end Sys2Proof.Machine
end

section
/-!
A push of the host that is answered in the step that makes it (13 R273, R280; 19 R370).
-/

namespace Sys2Proof.Machine

/-- A die after bring-up, whose channels are all off. -/
def broughtUp : State := { State.reset with bt := { State.reset.bt with bstep := 6 } }

/-- Eight zero bytes. -/
def zeroPush : List Byte := List.replicate 8 0

/-- The host's request, which has number 1, once a step has ended. -/
def requestAfter (r : Host.Outcome State Fault Refusal) : Option Msg :=
  match r with
  | .next t => kget t.msgs 1
  | _ => none

/-- A write of offset 0 of channel 0: the channel refuses the push at once, and its request is done. -/
theorem requestAfter_write : requestAfter (exec (.hostWrite 2 0x1000000 zeroPush) broughtUp) = none := by decide +kernel

/-- Refutes O46: its clause for a host write to the aperture of the channels or FIFOs says that the push is on its way after the step.
The port of this die answers the push within the step, unless its queue is full, so that its request is gone: here channel 0 is off. -/
theorem not_hostSteps : ¬ Obligations.HostSteps := by
  unfold Obligations.HostSteps
  intro h
  obtain ⟨-, -, -, -, hwrite, -⟩ := h broughtUp 2 0x1000000 8
  obtain ⟨-, -, hstill, -⟩ := hwrite zeroPush rfl (by decide +kernel)
  obtain ⟨-, -, -, -, hpush⟩ := hstill (by decide) ⟨rfl, rfl⟩
  obtain ⟨t, m, hexec, hmsg, -⟩ := hpush rfl rfl (by decide) (.inl ⟨by decide, by decide⟩)
  have hkept : requestAfter (exec (.hostWrite 2 0x1000000 zeroPush) broughtUp) = some m := by rw [hexec]; exact hmsg
  rw [requestAfter_write] at hkept
  cases hkept

end Sys2Proof.Machine
end

section
/-!
Requests of other agents: the reads, writes and atomics of memory and of exchange banks, and the refusals (19 R379 to R382, R391).
-/

namespace Sys2Proof.Machine

/-! ### Bytes and atomics -/

theorem bytesOf_ofBytes : ∀ l : List Byte, bytesOf l.length (ofBytes l) = l
  | [] => rfl
  | b :: l => by
    have hlow : BitVec.ofNat 8 (b.toNat + 256 * ofBytes l) = b := BitVec.eq_of_toNat_eq (by rw [BitVec.toNat_ofNat]; omega)
    have hhigh : (b.toNat + 256 * ofBytes l) / 256 = ofBytes l := by omega
    rw [List.length_cons, ofBytes, bytesOf, hlow, hhigh, bytesOf_ofBytes l]

@[simp] theorem length_bytesOf : ∀ n v : Nat, (bytesOf n v).length = n
  | 0, _ => rfl
  | n + 1, v => by rw [bytesOf, List.length_cons, length_bytesOf n]

/-- A write that enables every byte replaces them all. -/
theorem overlay_full {old : List Byte} {p : Packet} (hn : p.nibbles = false) (he : p.enables = 2 ^ old.length - 1) (hl : p.data.length = old.length) :
    overlay old p = p.data := by
  refine List.ext_getElem (by simp [overlay, hl]) fun i hi hj => ?_
  have hi' : i < old.length := hl ▸ hj
  simp [overlay, hn, he, Nat.testBit_two_pow_sub_one, hi', hj]

theorem sextNat_eq_toInt (n w : Nat) : sextNat n w = (BitVec.ofNat w n).toInt := by
  rw [sextNat, BitVec.toInt_eq_toNat_cond, BitVec.toNat_ofNat]

/-- The operations of an ATOMIC other than CAS always write (19 R381 item 1). -/
theorem amoNew_amoOpOf {code : Nat} (hcode : code ≤ 8) (w old y : Nat) : amoNew (amoOpOf code) w old y = some (Claims.atomic code w old y) := by
  have h : code = 0 ∨ code = 1 ∨ code = 2 ∨ code = 3 ∨ code = 4 ∨ code = 5 ∨ code = 6 ∨ code = 7 ∨ code = 8 := by omega
  rcases h with rfl | rfl | rfl | rfl | rfl | rfl | rfl | rfl | rfl <;> simp [amoOpOf, amoNew, Claims.atomic, sextNat_eq_toInt]

theorem amoLeaves_amoOfPacket {p : Packet} (hcode : p.op % 256 ≤ 8) (w old y : Nat) (bad : Bool) :
    amoLeaves (amoOfPacket p) w old y bad = some (Claims.atomic (p.op % 256) w old y) := by
  rw [amoLeaves, amoOfPacket, if_neg (by omega), amoNew_amoOpOf hcode]; rfl

/-! ### Answers and refusals (19 R379, R382) -/

/-- The response of a die to a packet, with the fields that its kind adds. -/
def State.reply (s : State) (p q : Packet) : Packet :=
  { q with typ := p.typ, rsp := true, vc := (if p.typ = 0x0B ∨ p.typ = 0x04 then 2 else 1), dst := p.src, src := s.ownAgent, tag := p.tag
           ctx := p.ctx, space := p.space, lsz := p.lsz }

theorem State.respond_eq {s : State} {p : Packet} (h : s.isOwn p.src = false) (q : Packet) : s.respond p q = s.out (.packet (s.reply p q)) := by
  rw [State.respond, if_neg (by rw [h]; exact Bool.false_ne_true)]; rfl

theorem State.reply_answers (s : State) (p q : Packet) : Claims.Answers s p (s.reply p q) := ⟨rfl, rfl, rfl, rfl, rfl, rfl⟩

/-- The NACK of a die for a packet. -/
def State.refusal (s : State) (p : Packet) (reason : Nat) : Packet :=
  { typ := 0x0E, rsp := true, vc := 1, dst := p.src, src := s.ownAgent, tag := p.tag, ctx := p.ctx, addr := BitVec.ofNat 64 (reason + 256 * s.ownAgent) }

theorem State.refusePacket_eq (s : State) (p : Packet) (reason : Nat) : s.refusePacket p reason = s.out (.packet (s.refusal p reason)) := rfl

theorem State.refusal_refuses (s : State) (p : Packet) {reason : Nat} (h : reason < 256) : Claims.Refuses s p (s.refusal p reason) reason :=
  ⟨rfl, rfl, ⟨rfl, rfl, rfl⟩, by
    show (BitVec.ofNat 64 (reason + 256 * s.ownAgent)).toNat % 256 = reason
    rw [BitVec.toNat_ofNat]; omega⟩

/-- Hearing an agent notes when it and its link were last heard, and nothing else. -/
theorem heard_links (s : State) (p : Packet) : ∃ hd ls, Claims.heard s p = { s with lk := { s.lk with heard := hd, links := ls } } ∧
    ∀ m, ∃ n, kgetD ls m {} = { s.link m with lastUse := n } := by
  unfold Claims.heard
  split
  · exact ⟨s.lk.heard, s.lk.links, rfl, fun m => ⟨(s.link m).lastUse, rfl⟩⟩
  · refine ⟨_, _, rfl, fun m => ?_⟩
    show ∃ n, (s.hear p.src).link m = _
    rw [State.hear, State.link_modLink]
    split
    · next h => subst h; exact ⟨_, rfl⟩
    · exact ⟨(s.link m).lastUse, rfl⟩

/-! ### Memory -/

section
variable {u : State} {p : Packet} {off n : Nat}

theorem State.readIn_memory (hown : u.isOwn p.src = false) (h : Claims.Names u p off n) :
    u.readIn p = u.out (.packet (u.reply p { typ := 0x01, data := bytesOf n (u.mem.readN off n) })) := by
  obtain ⟨hspace, hoff, hn, hroom, hue, hheld⟩ := h
  simp only [State.readIn, ← hoff, ← hn]
  simp [hspace, hroom, hheld, State.memBytesUe, hue, State.respond_eq hown]

/-- A store of this die that the write carries out is marked among the messages. -/
theorem State.replicaWritten_eq (s : State) (p : Packet) : ∃ ms, s.replicaWritten p = { s with msgs := ms } := by
  unfold State.replicaWritten
  split
  · exact ⟨_, rfl⟩
  · split <;> exact ⟨_, rfl⟩

theorem State.writeIn_memory (hown : u.isOwn p.src = false) (h : Claims.Names u p off n) (hrepl : p.repl = false) (hprop : p.prop = false) (hnib : p.nibbles = false)
    (hen : p.enables = 2 ^ n - 1) (hlen : p.data.length = n) :
    ∃ ms, u.writeIn p = State.out { u.memWrite off p.data with msgs := ms } (.packet (u.reply p { typ := 0x02, op := 0 })) := by
  obtain ⟨hspace, hoff, hn, hroom, hue, hheld⟩ := h
  have hover := overlay_full (old := bytesOf n (u.mem.readN off n)) hnib (by rw [length_bytesOf, hen]) (by rw [length_bytesOf, hlen])
  obtain ⟨ms, hms⟩ := (u.memWrite off p.data).replicaWritten_eq p
  refine ⟨ms, ?_⟩
  have hout := State.respond_eq (s := { u.memWrite off p.data with msgs := ms }) hown { typ := 0x02, op := 0 }
  simp only [State.writeIn, ← hoff, ← hn, hover, hms, hspace, if_pos hroom, hrepl, hprop]
  exact hout

theorem State.amoAt_memory (hroom : off + n ≤ u.memBytes) (hue : u.ueMem = []) {code : Nat} {op : AmoOp}
    (hop : ∀ w old y bad, amoLeaves op w old y bad = some (Claims.atomic code w old y)) (ctx va y : Nat) :
    u.amoAt ctx off va op n y = some (u.mem.readN off n, [], u.memWrite off (bytesOf n (Claims.atomic code n (u.mem.readN off n) y))) := by
  simp [State.amoAt, hroom, marked, hue, hop]

theorem State.atomicIn_memory (hown : u.isOwn p.src = false) (h : Claims.Names u p off n) (hrepl : p.repl = false) (hcode : p.op % 256 ≤ 8) (hn : n = 4 ∨ n = 8) :
    u.atomicIn p = (u.memWrite off (bytesOf n (Claims.atomic (p.op % 256) n (u.mem.readN off n) (p.arg1.toNat % 2 ^ (8 * n))))).out
      (.packet (u.reply p { typ := 0x03, data := bytesOf n (u.mem.readN off n) })) := by
  obtain ⟨hspace, rfl, rfl, hroom, hue, hheld⟩ := h
  have hsize : ¬(2 ^ p.lsz ≠ 4 ∧ 2 ^ p.lsz ≠ 8) := by omega
  have hat := State.amoAt_memory hroom hue (amoLeaves_amoOfPacket hcode) p.ctx 0 (p.arg1.toNat % 2 ^ (8 * 2 ^ p.lsz))
  have hout := fun bs => State.respond_eq (s := u.memWrite (p.addr.toNat % 2 ^ 42) bs) hown
    { typ := 0x03, data := bytesOf (2 ^ p.lsz) (u.mem.readN (p.addr.toNat % 2 ^ 42) (2 ^ p.lsz)) }
  simp only [State.atomicIn, hspace, hheld, hrepl, if_neg hsize, hat]
  exact hout _

/-- Below the window no block other than memory serves an address (01 R17). -/
theorem not_inAperture {off : Nat} (h : off < 2 ^ 41) : inAperture off = false ∧ inLocWin off = false ∧ inRegs off = false := by
  simp [inAperture, inLocWin, inRegs]; omega

theorem State.requests_unserved (hspace : p.space = 0) (hoff : off = p.addr.toNat % 2 ^ 42) (hover : u.memBytes < off + 2 ^ p.lsz) (hlow : off < 2 ^ 41) :
    u.readIn p = u.out (.packet (u.refusal p 3)) ∧ u.writeIn p = u.out (.packet (u.refusal p 3)) := by
  subst hoff
  obtain ⟨h1, h2, h3⟩ := not_inAperture hlow
  have hno : ¬p.addr.toNat % 2 ^ 42 + 2 ^ p.lsz ≤ u.memBytes := by omega
  constructor
  · simp only [State.readIn, hspace, if_neg hno, h1, h2, h3]; rfl
  · simp only [State.writeIn, hspace, if_neg hno, h1, h2, h3]; rfl

/-! ### Exchange banks (19 R391) -/

variable {c a o : Nat} {shadow : Bool}

theorem bankCore_eq (a : Word) : bankCore a = a.toNat / 2 ^ 17 % 256 := bitsOf_shifted 24 17 a.toNat

theorem bankOff_eq (a : Word) : bankOff a = a.toNat % 2 ^ 17 := by rw [bankOff, bitsOf_shifted, Nat.pow_zero, Nat.div_one]

/-- What a request for a bank does, in the words of the request. -/
theorem namesBank_iff : Claims.NamesBank u p shadow c a n ↔ p.space = 2 ∧ n = 2 ^ p.lsz ∧ n ≤ 8 ∧ c = bankCore p.addr ∧
    u.bankOk p.ctx c (bankOff p.addr) n = true ∧ a = (u.core c).bankAt shadow (bankOff p.addr) ∧ (u.core c).ueLoc = [] := by
  rw [bankCore_eq, bankOff_eq]; rfl

section
variable (hown : u.isOwn p.src = false)
include hown

theorem State.readIn_bank (h : Claims.NamesBank u p false c a n) :
    u.readIn p = u.out (.packet (u.reply p { typ := 0x01, data := bytesOf n ((u.core c).loc.readN a n) })) := by
  obtain ⟨hspace, hn, hsize, hc, hok, rfl, hue⟩ := namesBank_iff.1 h
  simp only [State.readIn, ← hn, ← hc]
  simp [hspace, hok, hsize, State.bankDo, marked, hue, State.respond_eq hown]

theorem State.writeIn_bank (h : Claims.NamesBank u p true c a n) (hlen : p.data.length = n) :
    u.writeIn p = (u.locWrite c a p.data).out (.packet (u.reply p { typ := 0x02, op := 0 })) := by
  obtain ⟨hspace, hn, hsize, hc, hok, rfl, -⟩ := namesBank_iff.1 h
  have hdata : bytesOf n (ofBytes (p.data.take n)) = p.data := by rw [List.take_of_length_le (by omega), ← hlen, bytesOf_ofBytes]
  have hout := State.respond_eq (s := u.locWrite c ((u.core c).bankAt true (bankOff p.addr)) p.data) hown { typ := 0x02, op := 0 }
  simp only [State.writeIn, ← hn, ← hc]
  simp [hspace, hok, hsize, State.bankDo, hdata]
  exact hout

theorem State.atomicIn_bank (h : Claims.NamesBank u p false c a n) (hcode : p.op % 256 ≤ 8) (hsize : n = 4 ∨ n = 8) :
    u.atomicIn p = (u.locWrite c a (bytesOf n (Claims.atomic (p.op % 256) n ((u.core c).loc.readN a n) (p.arg1.toNat % 2 ^ (8 * n))))).out
      (.packet (u.reply p { typ := 0x03, data := bytesOf n ((u.core c).loc.readN a n) })) := by
  obtain ⟨hspace, hn, -, hc, hok, ha, hue⟩ := namesBank_iff.1 h
  have hdo : u.bankDo c 2 (bankOff p.addr) n (amoOfPacket p) (p.arg1.toNat % 2 ^ (8 * n)) = ((u.core c).loc.readN a n, [],
      u.locWrite c a (bytesOf n (Claims.atomic (p.op % 256) n ((u.core c).loc.readN a n) (p.arg1.toNat % 2 ^ (8 * n))))) := by
    simp [State.bankDo, marked, hue, amoLeaves_amoOfPacket hcode, ha]
  have hout := fun bs => State.respond_eq (s := u.locWrite c a bs) hown { typ := 0x03, data := bytesOf n ((u.core c).loc.readN a n) }
  simp only [State.atomicIn, ← hn, ← hc, hspace, hdo]
  simp [hok, hsize]
  exact hout _

omit hown in
theorem State.requests_noBank (hspace : p.space = 2) (hok : u.bankOk p.ctx (bankCore p.addr) (bankOff p.addr) (2 ^ p.lsz) = false) :
    u.readIn p = u.out (.packet (u.refusal p 6)) ∧ u.writeIn p = u.out (.packet (u.refusal p 6)) ∧
      u.atomicIn p = u.out (.packet (u.refusal p 6)) := by
  refine ⟨?_, ?_, ?_⟩ <;> simp [State.readIn, State.writeIn, State.atomicIn, hspace, hok, State.refusePacket_eq]

end
end

end Sys2Proof.Machine
end

section
/-!
Requests for versions, chains, negative acknowledgements and answers of other agents (10 R212; 19 R382, R384, R385).
-/

namespace Sys2Proof.Machine

/-- What leaves the die changes its choice of paths, its outbox or the queues of its links. -/
theorem State.out_eq (s : State) (x : OutItem) : ∃ n os ls,
    s.out x = { s with o := { s.o with fresh := n, outbox := os }, lk := { s.lk with links := ls } } := by
  rcases s.out_cases x with ⟨_, _, n, -, h⟩ | h
  · exact ⟨n, _, _, h⟩
  · exact ⟨_, _, s.lk.links, h⟩

theorem State.sendPacket_links (s : State) (dst tag ctx : Nat) (p : Packet) : ∃ n os ls,
    s.sendPacket dst tag ctx p = { s with o := { s.o with fresh := n, outbox := os }, lk := { s.lk with links := ls } } := s.out_eq _

/-- No copy of a version is left once its entries have been removed. -/
theorem State.proxy_dropProxy (s : State) (ctx : Nat) (h : Word) : (s.dropProxy ctx h).proxy ctx h = none := by
  rw [State.proxy, List.find?_eq_none]
  intro x hx
  simpa only [Bool.not_eq_true', Bool.not_eq_true] using (List.mem_filter.1 hx).2

@[simp] theorem State.proxy_setProxy (s : State) (x : ProxyCopy) : (s.setProxy x).proxy x.ctx x.handle = some x := by
  have hnone := s.proxy_dropProxy x.ctx x.handle
  rw [State.proxy] at hnone ⊢
  simp only [State.setProxy, List.find?_append]
  rw [show (s.vs.proxies.filter _).find? _ = none from hnone]
  simp

section
variable {u : State} {p : Packet}

/-! ### Versions (18 R350; 19 R381) -/

theorem State.requests_notAdmitted (hspace : p.space = 1) (hctx : u.admits p.ctx = false) :
    u.readIn p = u.out (.packet (u.refusal p 4)) ∧ u.writeIn p = u.out (.packet (u.refusal p 4)) ∧
      u.atomicIn p = u.out (.packet (u.refusal p 4)) := by
  refine ⟨?_, ?_, ?_⟩ <;> simp [State.readIn, State.writeIn, State.atomicIn, hspace, hctx, State.refusePacket_eq]

section
variable (hspace : p.space = 1) (hctx : u.admits p.ctx = true) (hown : u.isOwn p.src = false)
include hspace hctx hown

theorem State.readIn_probe (hop : p.op % 256 = 9) :
    u.readIn p = u.out (.packet (u.reply p { typ := 0x01, data := bytesOf 8 (u.probeAt p.ctx p.addr) })) := by
  simp [State.readIn, hspace, hctx, hop, State.respond_eq hown]

theorem State.writeIn_vstore {v : Version} (hop : p.op % 256 = 2) (hreplay : p.op.testBit 16 = false) (hv : Claims.Open u p.ctx p.addr v) (hacc : v.acc = false)
    (hroom : p.arg1.toNat + p.data.length ≤ 4096 * v.g) : u.writeIn p = (u.setVersion { v with
      data := setBits (8 * (p.arg1.toNat + p.data.length) - 1) (8 * p.arg1.toNat) v.data (ofBytes p.data) }).out (.packet (u.reply p { typ := 0x02, op := 0 })) := by
  obtain ⟨hv, hopen⟩ := hv
  have hshut : v.shut = false := by rw [Version.shut, hopen]; rfl
  have hstore : u.vstoreAt p.ctx p.addr p.arg1.toNat p.data.length (ofBytes p.data) false =
      (0, u.setVersion { v with data := setBits (8 * (p.arg1.toNat + p.data.length) - 1) (8 * p.arg1.toNat) v.data (ofBytes p.data) }) := by
    simp [State.vstoreAt, hv, hopen, hshut, hacc, Nat.not_lt.mpr hroom]
  have hout := fun w => State.respond_eq (s := u.setVersion w) hown { typ := 0x02, op := 0 }
  simp only [State.writeIn, hspace, hctx, hop, hreplay, hstore]
  exact hout _

theorem State.atomicIn_vref {v : Version} {n : Nat} (hop : p.op % 256 = 5) (hreplay : p.op.testBit 16 = false) (hv : u.version p.ctx p.addr = some v)
    (habsent : v.state ≠ .absent) (hdead : v.state ≠ .dead) (hmanual : v.manual = false) (hn : n = p.arg1.toNat % 4096) (hpos : 0 < n) (hroom : v.count + n ≤ 4095) :
    u.atomicIn p = (u.setVersion { v with count := v.count + n }).out (.packet (u.reply p { typ := 0x03, op := 0 })) := by
  subst hn
  have href : u.vrefAt p.ctx p.addr (p.arg1.toNat % 4096) false = (0, u.setVersion { v with count := v.count + p.arg1.toNat % 4096 }) := by
    simp [State.vrefAt, hv, habsent, hdead, hmanual, Nat.not_lt.mpr hroom, Nat.ne_of_gt hpos]
  have hout := fun w => State.respond_eq (s := u.setVersion w) hown { typ := 0x03, op := 0 }
  simp only [State.atomicIn, hspace, hctx, hop, hreplay, href]
  exact hout _

end

/-! ### Copies and subscribers (10 R212; 19 R384) -/

theorem State.noticeIn_unknown (hx : u.proxy p.ctx p.addr = none) : u.noticeIn p = u.respond p { typ := 0x04 } := by
  simp only [State.noticeIn, hx]

theorem State.noticeIn_reclaim {x : ProxyCopy} (hx : u.proxy p.ctx p.addr = some x) (hw : x.waiters = []) (hop : p.op.testBit 1 = true) :
    u.noticeIn p = ((u.respond p { typ := 0x04 }).uncacheVersion (x.slot, x.gen)).dropProxy p.ctx p.addr := by
  simp [State.noticeIn, hx, hw, hop]

theorem State.respond_links (s : State) (p q : Packet) : ∃ n os ls,
    s.respond p q = { s with o := { s.o with fresh := n, outbox := os }, lk := { s.lk with links := ls } } := by
  unfold State.respond
  split
  · exact ⟨_, _, _, rfl⟩
  · exact s.out_eq _

/-- A version that has an entry takes the sender of a VSUB among its subscribers. -/
theorem State.subIn_entry {v : Version} (hv : u.version p.ctx p.addr = some v) : ∃ w : Version,
    (u.subIn p).version p.ctx p.addr = some w ∧ p.src ∈ w.subs ∧ w.data = v.data ∧ w.state = v.state ∧ w.count = v.count := by
  have hkey := u.version_key hv
  have hneed : u.entryNeed p.ctx p.addr = 0 := by simp only [State.entryNeed, hv]
  have hroom : u.recRoom 0 = true := rfl
  refine ⟨{ v with subs := if v.subs.contains p.src then v.subs else v.subs ++ [p.src] }, ?_, ?_, rfl, rfl, rfl⟩
  · simp only [State.subIn, State.versionOrNew, hv, hneed, hroom, Option.getD_some, Bool.not_true, Bool.false_eq_true, if_false]
    obtain ⟨n, os, ls, hres⟩ := ((u.unholdFull p.ctx p.addr).setVersion
      { v with subs := if v.subs.contains p.src then v.subs else v.subs ++ [p.src] }).respond_links p { typ := 0x06 }
    rw [hres]
    split
    · obtain ⟨o, ms, lk, hsend⟩ := State.sendNotice_eq _ _ false p.src
      rw [hsend]
      exact State.version_setVersion_of_key (u.unholdFull p.ctx p.addr) (v := { v with subs := _ }) hkey
    · exact State.version_setVersion_of_key (u.unholdFull p.ctx p.addr) (v := { v with subs := _ }) hkey
  · show p.src ∈ if v.subs.contains p.src then v.subs else v.subs ++ [p.src]
    split
    · next h => exact List.contains_iff_mem.1 h
    · exact List.mem_append_right _ (List.mem_singleton.2 rfl)

/-! ### Data of a version (10 R200; 19 R384) -/

section
variable (hown : u.isOwn p.src = false) {m : Nat} (hpath : kgetD u.lk.paths p.src [] = [m]) (hfenced : (u.link m).state ≠ .fenced)
  (hdown : (u.link m).state ≠ .down)
include hown hpath hfenced hdown

/-- Where one path leads to the sender, a response queues at its link. -/
theorem State.respond_toLink (q : Packet) : u.respond p q = u.toLink m (u.reply p q) := by
  have hto : u.modulesTo p.src = [m] := by simp [State.modulesTo, hpath, hfenced, hdown]
  rw [State.respond_eq hown]
  show (u.route p.src).2.toLink (u.route p.src).1 (u.reply p q) = _
  simp only [State.route, hto]

/-- Responses to one packet queue at the link of its sender in their order. -/
theorem foldl_responses (f : Nat → Packet) (l : List Nat) :
    ((l.foldl (fun (s : State) i => s.respond p (f i)) u).link m).queue = (u.link m).queue ++ l.map (fun i => u.reply p (f i)) := by
  induction l generalizing u with
  | nil => exact (List.append_nil _).symm
  | cons i l ih =>
    have hlink : (u.toLink m (u.reply p (f i))).link m = { u.link m with queue := (u.link m).queue ++ [u.reply p (f i)] } := by
      rw [State.toLink, State.link_modLink, if_pos rfl]
    rw [List.foldl_cons, State.respond_toLink hown hpath hfenced hdown, ih (u := u.toLink m (u.reply p (f i))) hown hpath (by rw [hlink]; exact hfenced)
      (by rw [hlink]; exact hdown), hlink, List.map_cons, List.append_assoc]
    rfl

/-- Packets that carry the data of a version to the agent that asked for them (19 R384 item 3). -/
def dataPacket (v : Version) (i : Nat) : Packet :=
  { typ := 0x05, addr := v.handle, arg1 := BitVec.ofNat 64 (512 * i), arg2 := BitVec.ofNat 64 (v.gen + v.slot * 2 ^ 32)
    data := ((bytesOf (4096 * v.g) v.data).drop (512 * i)).take 512 }

theorem State.fetchIn_complete {v : Version} (hv : u.version p.ctx p.addr = some v) (hstate : v.state = .complete) (hcount : p.arg2.toNat % 4096 = 0) :
    ((u.fetchIn p).link m).queue = (u.link m).queue ++ (List.range (8 * v.g)).map (fun i => u.reply p (dataPacket v i)) := by
  have hfetch : u.fetchIn p = (List.range (8 * v.g)).foldl (fun (s : State) i => s.respond p (dataPacket v i)) u := by
    simp only [State.fetchIn, hv, hcount, State.applyConsumes]
    rw [if_pos (Or.inl hstate)]
    rfl
  rw [hfetch]
  exact foldl_responses hown hpath hfenced hdown (dataPacket v) _

end

variable {m : Msg} {h : Word} {x : ProxyCopy}

/-- A copy with 512 more bytes of its data. -/
def ProxyCopy.filled (x : ProxyCopy) (p : Packet) : ProxyCopy :=
  { x with data := setBits (8 * (p.arg1.toNat + 512) - 1) (8 * p.arg1.toNat) x.data (ofBytes p.data), got := x.got + 512 }

section
variable (hm : kget u.msgs p.tag = some m) (hop : m.op = .proxy h true) (hx : u.proxy m.ctx h = some x)
include hm hop hx

theorem State.dataIn_part (hgen : x.gen + x.slot * 2 ^ 32 = p.arg2.toNat) (hgot : x.got + 512 < 4096 * x.g) : u.dataIn p = u.setProxy (x.filled p) := by
  simp only [State.dataIn, hm, hop, hx]
  rw [if_neg (fun hne => hne hgen), if_neg (Nat.not_le.mpr hgot)]
  rfl

theorem State.dataIn_last (hgen : x.gen + x.slot * 2 ^ 32 = p.arg2.toNat) (hgot : 4096 * x.g ≤ x.got + 512) (hw : x.waiters = []) :
    u.dataIn p = (u.unpost p.tag).setProxy { x.filled p with present := true, waiters := [] } := by
  simp only [State.dataIn, hm, hop, hx]
  rw [if_neg (fun hne => hne hgen), if_pos hgot]
  simp only [State.serveProxy, hw]
  rfl

theorem State.dataIn_stale (hgen : x.gen + x.slot * 2 ^ 32 ≠ p.arg2.toNat) :
    u.dataIn p = ((u.unpost p.tag).setProxy { x with present := false, data := 0, got := 0 }).askHome m.ctx h false 0 p.src := by
  simp only [State.dataIn, hm, hop, hx]
  rw [if_pos hgen]

end

/-- A VSUB or VFETCH of the proxy is on its way under the next number. -/
theorem State.askHome_eq (s : State) (ctx : Nat) (h : Word) (fetch : Bool) (gen agent : Nat) : ∃ n os ls,
    s.askHome ctx h fetch gen agent = { s.post s.o.nextId { sid := none, ctx := ctx, user := false, op := .proxy h fetch, pa := 0, after := [], dep := none
                                                            sent := true, dsts := [agent] } with
      o := { s.o with nextId := s.o.nextId + 1, fresh := n, outbox := os }, lk := { s.lk with links := ls } } := by
  obtain ⟨n, os, ls, hsend⟩ := State.sendPacket_links (({ s with o := { s.o with nextId := s.o.nextId + 1 } }).post s.o.nextId
    { sid := none, ctx := ctx, user := false, op := .proxy h fetch, pa := 0, after := [], dep := none, sent := true, dsts := [agent] })
    agent s.o.nextId ctx { typ := if fetch then 0x05 else 0x06, space := 1, addr := h, arg1 := BitVec.ofNat 64 gen }
  exact ⟨n, os, ls, hsend⟩

end

end Sys2Proof.Machine
end

section
/-!
The packets of other agents at this die (19 R379 to R385).
-/

namespace Sys2Proof.Machine

section
variable {s : State} {p : Packet}

/-! ### Chains (18 R350; 19 R385) -/

/-- The block of a chain written here, and the positions that have failed. -/
theorem State.chainWrite_room {b : Bool} {off pos mask : Nat} (hb : b = (s.ctx p.ctx).state.admitted') (hroom : off + 512 ≤ s.memBytes) (data : List Byte) :
    s.chainWrite p.ctx off data pos mask = (if b then mask else mask ||| 2 ^ pos, if b then s.memWrite off data else s) := by
  subst hb
  unfold State.chainWrite
  cases h : (s.ctx p.ctx).state.admitted' <;> simp [hroom]

theorem State.chainIn_here (hrsp : p.rsp = false) {b : Bool} {off : Nat} (hoff : off = p.addr.toNat % 2 ^ 42) (hb : b = (s.ctx p.ctx).state.admitted')
    (hroom : off + 512 ≤ s.memBytes) : s.chainIn p = (if b then s.memWrite off (p.data.take 512) else s).chainOn p.tag p.src p.ctx off (p.data.take 512)
      p.agents (p.pos + 1) (if b then p.op else p.op ||| 2 ^ p.pos) := by
  simp only [State.chainIn, hrsp, ← hoff, State.chainWrite_room hb hroom, Bool.false_eq_true, if_false]

theorem State.chainOn_last (tag src ctx off pos mask : Nat) (data : List Byte) (hsrc : s.isOwn src = false) :
    s.chainOn tag src ctx off data [] pos mask = s.out (.packet { typ := 0x0D, rsp := true, vc := 2, dst := src, src := s.ownAgent, tag := tag, ctx := ctx, op := mask }) := by
  rw [State.chainOn, State.chainAnswer, if_neg (by rw [hsrc]; exact Bool.false_ne_true)]

/-- A chain on its way to its next agent. -/
def chainPacket (tag src ctx off pos mask a : Nat) (data : List Byte) (rest : List Nat) : Packet :=
  { typ := 0x0D, vc := 2, dst := a, src := src, tag := tag, ctx := ctx, addr := BitVec.ofNat 64 off, data := data, agents := rest, pos := pos, op := mask }

theorem State.chainOn_next (tag src ctx off pos mask : Nat) (data : List Byte) {a : Nat} (rest : List Nat) (hown : s.isOwn a = false) (hup : s.agentUp a = true) :
    s.chainOn tag src ctx off data (a :: rest) pos mask = s.out (.packet (chainPacket tag src ctx off pos mask a data rest)) := by
  rw [State.chainOn, if_neg (by rw [hown]; exact Bool.false_ne_true), if_pos hup]
  rfl

/-- What the choice of the die after a chain's write leaves. -/
theorem ite_memWrite_frame (b : Bool) (off : Nat) (bs : List Byte) : (if b then s.memWrite off bs else s).idn = s.idn ∧
    (if b then s.memWrite off bs else s).lk = s.lk := by
  cases b <;> exact ⟨rfl, rfl⟩

/-! ### Negative acknowledgements and requests made again (19 R382) -/

variable {rid : Nat} {m : Msg} (hm : kget s.msgs rid = some m)
include hm

theorem State.nackIn_retry (htag : rid = p.tag) (hsent : m.sent = true) (hretry : p.addr.toNat % 256 = 7) :
    s.nackIn p = s.modMsg p.tag (fun x => { x with retryAt := some (s.t.cycle + 1250) }) := by
  subst htag
  simp only [State.nackIn, hm, hsent, hretry]
  rfl

theorem State.nackIn_gett (htag : rid = p.tag) (hsent : m.sent = true) (hretry : p.addr.toNat % 256 ≠ 7) {a : Nat} (hop : m.op = .gett a) :
    s.nackIn p = s.nackMsg p.tag m := by
  subst htag
  simp only [State.nackIn, hm, hsent, if_neg hretry, State.endNacked, hop]
  rfl

theorem execRetryResend_gett {c a : Nat} (hat : m.retryAt = some c) (hop : m.op = .gett a) : execRetryResend rid s =
    .next (if s.t.cycle < c then s else s.post rid { m with retryAt := none, sent := false, dsts := [] }) := by
  simp only [execRetryResend, hm, hat, hop]
  split <;> rfl

theorem execDeposit_gett {a b d : Nat} (bs : List Byte) (hsent : m.sent = true) (hdsts : m.dsts = [a]) (hop : m.op = .gett b) (hdep : m.dep = some d) :
    execDeposit rid (some bs) s = execDeposit d none ((s.hear a).answerMsg rid m (ofBytes bs % 2 ^ 64) []) := by
  simp only [execDeposit, hm, hsent, State.hearFrom, hdsts, State.takeResponse, hop, hdep]
  rfl

end

/-- A notice that is due goes out again, or is done with its die or version (19 R384 item 2). -/
theorem execVnoticeResend_one {s : State} {rid a c : Nat} {m : Msg} {h : Word} {rc : Bool} {v : Version} (hmsgs : s.msgs = [(rid, m)])
    (hop : m.op = .notice h a rc) (hat : m.retryAt = some c) (hv : s.version m.ctx h = some v) : execVnoticeResend s =
      .next (if s.t.cycle < c then s else if s.agentUp a then
        (s.modMsg rid (fun x => { x with retryAt := some (s.t.cycle + 2500) })).sendPacket a rid v.ctx (v.notice rc) else s.unpost rid) := by
  simp only [execVnoticeResend, hmsgs, List.foldl_cons, List.foldl_nil, hop, hat, hv]
  cases s.agentUp a <;> rfl

/-- A VFETCH or VSUB of an admitted context (18 R350). -/
theorem State.fetchOrSub_admitted {u : State} {p : Packet} (h : u.admits p.ctx = true) :
    (if !u.admits p.ctx then u.refusePacket p 4 else if p.typ = 0x06 then u.subIn p else u.fetchIn p) = if p.typ = 0x06 then u.subIn p else u.fetchIn p := by
  rw [h]; rfl

/-- A copy written is the one found under its context and handle. -/
theorem State.proxy_setProxy_of_key (s : State) {x : ProxyCopy} {ctx : Nat} {h : Word} (hkey : x.ctx = ctx ∧ x.handle = h) :
    (s.setProxy x).proxy ctx h = some x := by
  obtain ⟨rfl, rfl⟩ := hkey
  exact s.proxy_setProxy x

/-! ### The requests of an agent whose packet comes to this die -/

section
variable {s u : State} {p : Packet} (hc : Claims.Comes s p u)
include hc

theorem exec_comes {f : State → State} {t : State} (h : f u = t) : (Host.Outcome.next (s.packetIn p f) : Host.Outcome State Fault Refusal) = .next t := by
  obtain ⟨htransit, -, rfl⟩ := hc
  rw [State.packetIn_comes htransit, h]

/-- The die has heard of the sender, and is otherwise as it was. -/
theorem comes_alike : (s.o = u.o ∧ s.t = u.t ∧ s.mem = u.mem ∧ s.msgs = u.msgs ∧ s.slots = u.slots ∧ s.lk.paths = u.lk.paths ∧ s.memBytes = u.memBytes) ∧
    (s.isOwn = u.isOwn ∧ s.agentUp = u.agentUp ∧ s.ctx = u.ctx ∧ s.core = u.core ∧ s.version = u.version ∧ s.proxy = u.proxy ∧ s.bankOk = u.bankOk) ∧
    Claims.Names s = Claims.Names u ∧ Claims.NamesBank s = Claims.NamesBank u ∧ Claims.Open s = Claims.Open u ∧ Claims.Answers s = Claims.Answers u ∧
    Claims.Refuses s = Claims.Refuses u ∧ ∀ m, (u.link m).queue = (s.link m).queue ∧ (u.link m).state = (s.link m).state := by
  obtain ⟨hd, ls, hu, hlink⟩ := heard_links s p
  obtain rfl := hc.2.2.trans hu
  have hanswers : Claims.Answers s = Claims.Answers { s with lk := { s.lk with heard := hd, links := ls } } := by
    funext p q
    exact propext ⟨fun ⟨h1, h2, h3⟩ => ⟨h1, h2, h3⟩, fun ⟨h1, h2, h3⟩ => ⟨h1, h2, h3⟩⟩
  have hrefuses : Claims.Refuses s = Claims.Refuses { s with lk := { s.lk with heard := hd, links := ls } } := by
    funext p q r
    exact propext ⟨fun ⟨h1, h2, h3, h4⟩ => ⟨h1, h2, h3, h4⟩, fun ⟨h1, h2, h3, h4⟩ => ⟨h1, h2, h3, h4⟩⟩
  refine ⟨⟨rfl, rfl, rfl, rfl, rfl, rfl, rfl⟩, ⟨rfl, rfl, rfl, rfl, rfl, rfl, rfl⟩, rfl, rfl, rfl, hanswers, hrefuses, fun m => ?_⟩
  obtain ⟨n, hn⟩ := hlink m
  exact ⟨(congrArg Link.queue hn :), (congrArg Link.state hn :)⟩

end

/-- Settles O49: what the die does on each packet is a function of the die that has heard the sender, and that function's lemma gives the
packet that answers and what is written. -/
theorem remoteRequests : Obligations.RemoteRequests := by
  unfold Obligations.RemoteRequests
  intro s
  refine ⟨fun p u hc => ?_, fun rid m c a hm hat hop => ?_, fun rid m a b d bs hm hsent hdsts hop hdep => execDeposit_gett hm bs hsent hdsts hop hdep,
    fun rid m h a rc c v hmsgs hop hat hv => ?_⟩
  · have hown := hc.2.1
    obtain ⟨⟨ho, ht, hmem, hmsgs, hslots, hpaths, hroom⟩, ⟨hisOwn, hup, hctx, hcore, hversion, hproxy, hbank⟩, hnames, hnamesBank, hopen, hanswers, hrefuses, hlink⟩ :=
      comes_alike hc
    simp only [ho, ht, hmem, hmsgs, hslots, hpaths, hroom, hisOwn, hup, hctx, hcore, hversion, hproxy, hbank, hnames, hnamesBank, hopen, hanswers, hrefuses] at hown ⊢
    refine ⟨fun off n hn => ⟨?_, ?_, ?_⟩, fun off hspace hoff hover hlow => ?_, fun hspace hctx => ?_, fun hspace hctx => ⟨?_, ?_, ?_⟩, ?_, ?_, ?_, ?_, ?_, ?_,
      ?_, ?_, ?_, ?_, ?_, ?_⟩
    · exact ⟨_, exec_comes hc (State.readIn_memory hown hn), State.reply_answers _ _ _, rfl⟩
    · intro hrepl hprop hnib hen hlen
      obtain ⟨ms, hw⟩ := State.writeIn_memory hown hn hrepl hprop hnib hen hlen
      exact ⟨_, _, exec_comes hc hw, rfl, State.reply_answers _ _ _, rfl⟩
    · intro hrepl hcode hsize
      exact ⟨_, exec_comes hc (State.atomicIn_memory hown hn hrepl hcode hsize), State.reply_answers _ _ _, rfl⟩
    · obtain ⟨hr, hw⟩ := State.requests_unserved hspace hoff hover hlow
      exact ⟨⟨_, exec_comes hc hr, State.refusal_refuses _ p (by decide)⟩, _, exec_comes hc hw, State.refusal_refuses _ p (by decide)⟩
    · intro i hi
      obtain ⟨hr, hw, ha⟩ := State.requests_notAdmitted hspace hctx
      simp only [List.mem_cons, List.not_mem_nil, or_false] at hi
      refine ⟨u.refusal p 4, ?_, State.refusal_refuses _ p (by decide)⟩
      rcases hi with rfl | rfl | rfl | rfl
      · exact exec_comes hc hr
      · exact exec_comes hc hw
      · exact exec_comes hc ha
      · exact exec_comes hc (if_pos (congrArg not hctx))
    · intro hop
      exact ⟨_, exec_comes hc (State.readIn_probe hspace hctx hown hop), State.reply_answers _ _ _, rfl⟩
    · intro v off hop hreplay hv hacc hoff hroom
      subst hoff
      exact ⟨_, exec_comes hc (State.writeIn_vstore hspace hctx hown hop hreplay hv hacc hroom), State.reply_answers _ _ _, rfl⟩
    · intro v n hop hreplay hv habsent hdead hmanual hn hpos hroom
      exact ⟨_, exec_comes hc (State.atomicIn_vref hspace hctx hown hop hreplay hv habsent hdead hmanual hn hpos hroom), State.reply_answers _ _ _, rfl⟩
    · intro c a n hn
      exact ⟨_, exec_comes hc (State.readIn_bank hown hn), State.reply_answers _ _ _, rfl⟩
    · intro c a n hn hlen
      exact ⟨_, _, exec_comes hc (State.writeIn_bank hown hn hlen), rfl, State.reply_answers _ _ _⟩
    · intro c a n hn hcode hsize
      exact ⟨_, _, exec_comes hc (State.atomicIn_bank hown hn hcode hsize), rfl, State.reply_answers _ _ _, rfl⟩
    · intro c hspace hcore hok i hi
      rw [hcore, ← bankCore_eq, ← bankOff_eq] at hok
      obtain ⟨hr, hw, ha⟩ := State.requests_noBank hspace hok
      simp only [List.mem_cons, List.not_mem_nil, or_false] at hi
      refine ⟨u.refusal p 6, ?_, State.refusal_refuses _ p (by decide)⟩
      rcases hi with rfl | rfl | rfl
      · exact exec_comes hc hr
      · exact exec_comes hc hw
      · exact exec_comes hc ha
    · intro m
      exact ⟨fun hvc => ⟨_, exec_comes hc (if_pos hvc), State.refusal_refuses u p (reason := 1) (by decide)⟩, fun hvc => exec_comes hc (if_neg hvc)⟩
    · intro off b hrsp hoff hb hroom
      obtain ⟨hidn, hlk⟩ := ite_memWrite_frame (s := u) b off (p.data.take 512)
      have hchain := State.chainIn_here hrsp hoff hb hroom
      have howner : ∀ a, u.isOwn a = false → (if b then u.memWrite off (p.data.take 512) else u).isOwn a = false := fun a ha => by rw [State.isOwn, hidn]; exact ha
      refine ⟨fun hagents => ?_, fun a l hagents howna hupa => ?_⟩
      · rw [hagents] at hchain
        exact ⟨_, exec_comes hc (hchain.trans (State.chainOn_last _ _ _ _ _ _ _ (howner _ hown))), rfl, rfl, rfl, rfl, rfl⟩
      · have hup : (if b then u.memWrite off (p.data.take 512) else u).agentUp a = true := by
          rw [State.agentUp, State.agentKnown, State.topo, hlk]
          exact hupa
        rw [hagents] at hchain
        exact ⟨_, exec_comes hc (hchain.trans (State.chainOn_next _ _ _ _ _ _ _ _ (howner a howna) hup)), rfl, rfl, rfl, rfl, rfl, rfl, rfl, rfl, rfl⟩
    · intro m hm hsent
      exact ⟨fun hretry => exec_comes hc (State.nackIn_retry hm rfl hsent hretry), fun a hretry hop => exec_comes hc (State.nackIn_gett hm rfl hsent hretry hop)⟩
    · intro hx
      exact ⟨_, exec_comes hc ((State.noticeIn_unknown hx).trans (State.respond_eq hown _)), State.reply_answers _ _ _⟩
    · intro x hx hw hop
      obtain ⟨n, os, ls, hres⟩ := u.respond_links p { typ := 0x04 }
      refine ⟨_, exec_comes hc (State.noticeIn_reclaim hx hw hop), State.proxy_dropProxy _ _ _, ?_⟩
      rw [hres]
      exact ⟨rfl, rfl⟩
    · intro v hctx htyp hv
      obtain ⟨w, hw, hsub⟩ := State.subIn_entry (p := p) hv
      exact ⟨_, w, exec_comes hc ((State.fetchOrSub_admitted hctx).trans (if_pos htyp)), hw, hsub⟩
    · intro v m hctx htyp hv hstate hcount hpath hfenced hdown
      obtain ⟨hqueue, hlinkState⟩ := hlink m
      refine ⟨_, (List.range (8 * v.g)).map (fun i => u.reply p (dataPacket v i)), exec_comes hc ((State.fetchOrSub_admitted hctx).trans (if_neg (by omega))), ?_, ?_, fun i q hq => ?_⟩
      · exact hqueue ▸ State.fetchIn_complete hown hpath (hlinkState ▸ hfenced) (hlinkState ▸ hdown) hv hstate hcount
      · rw [List.length_map, List.length_range]
      · rw [List.getElem?_map] at hq
        obtain ⟨j, hj, rfl⟩ := Option.map_eq_some_iff.1 hq
        obtain ⟨hlt, rfl⟩ := List.getElem?_eq_some_iff.1 hj
        rw [List.getElem_range]
        exact ⟨State.reply_answers _ _ _, rfl, rfl, rfl⟩
    · intro m h x hm hop hx hctx hhandle
      refine ⟨fun hgen hgot => exec_comes hc (State.dataIn_part hm hop hx hgen hgot), fun hgen hgot hw => ?_, fun hgen htag => ?_⟩
      · exact ⟨_, { x.filled p with present := true, waiters := [] }, exec_comes hc (State.dataIn_last hm hop hx hgen hgot hw), kget_kdel_same _ _,
          State.proxy_setProxy_of_key _ ⟨hctx, hhandle⟩, rfl, rfl⟩
      · obtain ⟨n, os, ls, hask⟩ := ((u.unpost p.tag).setProxy { x with present := false, data := 0, got := 0 }).askHome_eq m.ctx h false 0 p.src
        refine ⟨_, { x with present := false, data := 0, got := 0 }, _, exec_comes hc ((State.dataIn_stale hm hop hx hgen).trans hask),
          State.proxy_setProxy_of_key (u.unpost p.tag) (x := { x with present := false, data := 0, got := 0 }) ⟨hctx, hhandle⟩, rfl, rfl, ?_, kget_kset_same _ _ _, rfl⟩
        exact (kget_kset_other _ _ (Nat.ne_of_lt htag)).trans (kget_kdel_same _ _)
  · rw [show exec (.retryResend rid) s = execRetryResend rid s from rfl, execRetryResend_gett hm hat hop]
    exact ⟨fun hlt => by rw [if_pos hlt], fun hge => by rw [if_neg (Nat.not_lt.mpr hge)]⟩
  · rw [show exec .vnoticeResend s = execVnoticeResend s from rfl, execVnoticeResend_one hmsgs hop hat hv]
    refine ⟨fun hlt => by rw [if_pos hlt], fun hge hup => by rw [if_neg (Nat.not_lt.mpr hge), hup]; rfl, fun hge hup => ?_⟩
    rw [if_neg (Nat.not_lt.mpr hge), if_pos hup]
    exact ⟨_, rfl, rfl, rfl, rfl, rfl⟩

end Sys2Proof.Machine
end

section
/-!
What a die sends on behalf of a launch: updates of its mirror, its deals, and requests for room (16 R321 to R323).
-/

namespace Sys2Proof.Machine

/-- The die has sent packets or posted requests of its own: nothing else differs. -/
def Sends (s t : State) : Prop := ∃ o ms ls, t = { s with o := o, msgs := ms, lk := { s.lk with links := ls } }

namespace Sends
variable {s t u : State}

theorem refl (s : State) : Sends s s := ⟨s.o, s.msgs, s.lk.links, rfl⟩

theorem trans (h : Sends s t) (k : Sends t u) : Sends s u := by
  obtain ⟨o, ms, ls, rfl⟩ := h
  obtain ⟨o', ms', ls', rfl⟩ := k
  exact ⟨o', ms', ls', rfl⟩

theorem foldl {α : Type} {f : State → α → State} (hf : ∀ s a, Sends s (f s a)) (l : List α) (s : State) : Sends s (l.foldl f s) := by
  induction l generalizing s with
  | nil => exact refl s
  | cons a l ih => exact (hf s a).trans (ih _)

variable (h : Sends s t)
include h

theorem gr : t.gr = s.gr := by obtain ⟨o, ms, ls, rfl⟩ := h; rfl
theorem slots : t.slots = s.slots := by obtain ⟨o, ms, ls, rfl⟩ := h; rfl
theorem mem : t.mem = s.mem := by obtain ⟨o, ms, ls, rfl⟩ := h; rfl
theorem t_eq : t.t = s.t := by obtain ⟨o, ms, ls, rfl⟩ := h; rfl
theorem isOwn : t.isOwn = s.isOwn := by obtain ⟨o, ms, ls, rfl⟩ := h; rfl
theorem setLaunch (l : Nat) (x : Launch) : Sends (s.setLaunch l x) (t.setLaunch l x) := by obtain ⟨o, ms, ls, rfl⟩ := h; exact ⟨o, ms, ls, rfl⟩

end Sends

section
variable (s : State)

theorem State.out_sends (x : OutItem) : Sends s (s.out x) := by
  obtain ⟨n, os, ls, h⟩ := s.out_eq x
  exact ⟨_, s.msgs, ls, h⟩

theorem State.sendPacket_sends (dst tag ctx : Nat) (p : Packet) : Sends s (s.sendPacket dst tag ctx p) := s.out_sends _

theorem State.respond_sends (p q : Packet) : Sends s (s.respond p q) := by
  unfold State.respond
  split
  · exact .refl s
  · exact s.out_sends _

/-- A request of the die's own, sent at once under the next number. -/
theorem State.ask_sends (m : Msg) (dst tag ctx : Nat) (p : Packet) : Sends s ((s.newId.2.post s.newId.1 m).sendPacket dst tag ctx p) :=
  Sends.trans (t := s.newId.2.post s.newId.1 m) ⟨_, _, s.lk.links, rfl⟩ (State.sendPacket_sends _ ..)

theorem State.sendDeal_sends (p : Packet) : Sends s (s.sendDeal p) := by
  unfold State.sendDeal
  split
  · exact ⟨_, s.msgs, s.lk.links, rfl⟩
  · exact s.ask_sends ..

theorem State.toMirror_sends (l : Nat) (x : Launch) (p : Packet) (deal : Option Packet) : Sends s (s.toMirror l x p deal) := by
  unfold State.toMirror
  split
  · exact s.ask_sends ..
  · split
    · exact s.sendDeal_sends _
    · exact .refl s

theorem State.toMirror_none (l : Nat) {x : Launch} (hx : x.deputy = none) (p : Packet) : s.toMirror l x p none = s := by
  rw [State.toMirror, hx]

theorem State.mirrorAll_sends (l : Nat) (x : Launch) : Sends s (s.mirrorAll l x) :=
  (s.toMirror_sends l x _ none).trans (Sends.foldl (fun t _ => t.toMirror_sends l x _ none) _ _)

theorem State.dropMirror_sends (l : Nat) (x : Launch) : Sends s (s.dropMirror l x) := s.toMirror_sends l x _ none

/-- Room is asked of the listed dies other than this one; the launch waits for their reports. -/
theorem State.askRooms_sends (l : Nat) (x : Launch) : Sends (s.setLaunch l { x with reports := (laDies x.record).filter (fun a => !s.isOwn a && s.agentUp a) })
    (s.askRooms l x) := Sends.foldl (fun t _ => t.sendDeal_sends _) _ _

/-! ### The table of launches (16 R318, R319) -/

theorem State.launchBad_gr : s.launchBad.gr = { s.gr with lbad := true } := by
  unfold State.launchBad
  split
  · next h => rw [State.sticky_gr, ← h]
  · rw [State.sticky_gr]; rfl

theorem State.launchFull_gr : s.launchFull.gr = { s.gr with lfull := true } := by
  unfold State.launchFull
  split
  · next h => rw [State.sticky_gr, ← h]
  · rw [State.sticky_gr]; rfl

theorem State.enterLaunch_plain (l ctx : Nat) {r : Nat} (hin : laIn r = 0) (hind : laInd r ≠ 2) : ∃ x,
    kget (s.enterLaunch l ctx r).gr.launches l = some x ∧ x.ctx = ctx ∧ x.record = r ∧
    x.state = (if s.released (recRelease r) then .ready else .waiting) ∧ x.total = 0 ∧ x.next = 0 ∧ x.out = [] := by
  simp only [State.enterLaunch, hin, if_true, if_neg hind, List.append_nil]
  refine ⟨_, (congrArg (fun g => kget g.launches l) (State.mirrorAll_sends _ l _).gr).trans (kget_kset_same _ _ _), rfl, rfl, ?_, rfl, rfl, rfl⟩
  simp only [true_and]
  rfl

end

end Sys2Proof.Machine
end

section
/-!
Launches (16 R314 to R324).
-/

namespace Sys2Proof.Machine

/-! ### A launch written back (16 R319) -/

/-- Every index of a launch is dealt. -/
def Launch.allDealt (x : Launch) : Bool := x.redeal == [] && decide (x.total ≤ x.next)

/-- A launch in the state that its indices give it. -/
def Launch.turned (x : Launch) : Launch :=
  if x.state = .dealing ∧ x.allDealt then { x with state := .draining } else if x.state = .draining ∧ !x.allDealt then { x with state := .dealing } else x

theorem Launch.turned_eq (x : Launch) : ∃ st, x.turned = { x with state := st } := by
  unfold Launch.turned
  split
  · exact ⟨_, rfl⟩
  · split
    · exact ⟨_, rfl⟩
    · exact ⟨x.state, rfl⟩

section
variable (s : State) (l : Nat) {x : Launch}

theorem State.turnLaunch_eq (x : Launch) : s.turnLaunch l x = if x.turned.unfit then ((s.freeLaunch l).dropMirror l x.turned).launchBad
    else if x.turned.state = .draining ∧ x.turned.out = [] ∧ x.turned.queries = [] then s.completeLaunch l x.turned else s.setLaunch l x.turned := rfl

/-- A launch with an index outstanding, or one to be dealt again, stays in the table. -/
theorem State.turnLaunch_stays (h : x.out ≠ [] ∨ x.redeal ≠ []) : ∃ st, s.turnLaunch l x = s.setLaunch l { x with state := st } := by
  obtain ⟨st, hst⟩ := x.turned_eq
  have hunfit : x.turned.unfit = false := by rcases h with h | h <;> simp [hst, Launch.unfit, h]
  have hover : ¬(x.turned.state = .draining ∧ x.turned.out = [] ∧ x.turned.queries = []) := by
    rintro ⟨hdrain, hout, -⟩
    rw [hst] at hout
    have hredeal : x.redeal ≠ [] := h.resolve_left (fun hne => hne hout)
    have hall : x.allDealt = false := by simp [Launch.allDealt, hredeal]
    simp only [Launch.turned, hall] at hdrain
    split at hdrain
    · next hif => exact absurd hif.2 Bool.false_ne_true
    · split at hdrain
      · cases hdrain
      · next hif => exact hif ⟨hdrain, rfl⟩
  rw [State.turnLaunch_eq, hunfit, if_neg Bool.false_ne_true, if_neg hover, hst]
  exact ⟨st, rfl⟩

/-- With the last index reported the launch is over. -/
theorem State.turnLaunch_over (hstate : x.state = .dealing ∨ x.state = .draining) (hredeal : x.redeal = []) (hnext : x.total ≤ x.next) (hout : x.out = [])
    (hqueries : x.queries = []) : s.turnLaunch l x = s.completeLaunch l { x with state := .draining } := by
  have hall : x.allDealt = true := by simp [Launch.allDealt, hredeal, hnext]
  have hturned : x.turned = { x with state := .draining } := by
    rcases hstate with h | h
    · simp [Launch.turned, h, hall]
    · obtain ⟨st, hst⟩ := x.turned_eq
      simp only [Launch.turned, h, hall]
      simp [← h]
  rw [State.turnLaunch_eq, hturned]
  simp [Launch.unfit, hout, hqueries]

section
variable (hstate : x.state = .dealing) (hnext : x.next < x.total)
include hstate hnext

theorem Launch.turned_dealing : x.turned = x := by
  simp [Launch.turned, Launch.allDealt, hstate, Nat.not_le.mpr hnext]

theorem State.turnLaunch_fits (hfits : x.fits = true) : s.turnLaunch l x = s.setLaunch l x := by
  rw [State.turnLaunch_eq, Launch.turned_dealing hstate hnext]
  simp [Launch.unfit, hstate, hfits]

theorem State.turnLaunch_unfit (hfits : x.fits = false) (hreports : x.reports = []) (hqueries : x.queries = []) (hzero : x.next = 0) (hout : x.out = [])
    (hredeal : x.redeal = []) : s.turnLaunch l x = ((s.freeLaunch l).dropMirror l x).launchBad := by
  rw [State.turnLaunch_eq, Launch.turned_dealing hstate hnext]
  simp [Launch.unfit, hstate, hfits, hreports, hqueries, hzero, hout, hredeal]

end

/-- A launch that is over leaves the table, and its completion action begins. -/
theorem State.completeLaunch_eq (x : Launch) : s.completeLaunch l x = { s.freeLaunch l with
    o := { s.o with agenda := (if laFin x.record = 0 then [] else [.taskDecrement (BitVec.ofNat 64 (laFin x.record))]) ++ s.o.agenda } } := by
  simp only [State.completeLaunch]
  split <;> rfl

theorem State.kget_freeLaunch : kget (s.freeLaunch l).gr.launches l = none := kget_kdel_same _ _

theorem State.kget_setLaunch (x : Launch) : kget (s.setLaunch l x).gr.launches l = some x := kget_kset_same _ _ _

/-- A launch whose shape fits nowhere leaves the table with BAD. -/
theorem State.droppedBad_gr (x : Launch) : kget ((s.freeLaunch l).dropMirror l x).launchBad.gr.launches l = none ∧
    ((s.freeLaunch l).dropMirror l x).launchBad.gr.lbad = true := by
  rw [State.launchBad_gr, (State.dropMirror_sends _ l x).gr]
  exact ⟨s.kget_freeLaunch l, rfl⟩

/-! ### The count (16 R320) -/

/-- No room is asked of a launch's own die. -/
theorem State.askRooms_own (hdies : (laDies x.record).all s.isOwn = true) : s.askRooms l x = s.setLaunch l { x with reports := [] } := by
  have hnone : (laDies x.record).filter (fun a => !s.isOwn a && s.agentUp a) = [] := by
    rw [List.filter_eq_nil_iff]
    intro a ha
    simp [List.all_eq_true.1 hdies a ha]
  simp only [State.askRooms, hnone, List.foldl_nil]

/-- A count of 0 ends the launch. -/
theorem State.counted_zero (hdeputy : x.deputy = none) : s.counted l x 0 false = s.completeLaunch l x := by
  simp only [State.counted, Bool.false_eq_true, if_false, or_false, if_true]
  exact State.toMirror_none _ l hdeputy _

/-- A launch over this die alone is DEALING with its count, and no report is awaited. -/
theorem State.counted_own {n : Nat} (hn : n ≠ 0) (hdies : (laDies x.record).all s.isOwn = true) : ∃ t, Sends
    (s.setLaunch l { x with state := .dealing, total := n, fits := s.everFits x.ctx x.record, reports := [] }) t ∧
    s.counted l x n false = t.turnLaunch l { x with state := .dealing, total := n, fits := s.everFits x.ctx x.record, reports := [] } := by
  have hmirror := s.mirrorAll_sends l { x with state := .dealing, total := n, fits := s.everFits x.ctx x.record }
  have hask := State.askRooms_own (s.mirrorAll l { x with state := .dealing, total := n, fits := s.everFits x.ctx x.record }) l
    (x := { x with state := .dealing, total := n, fits := s.everFits x.ctx x.record }) (by rw [hmirror.isOwn]; exact hdies)
  refine ⟨_, hmirror.setLaunch l _, ?_⟩
  simp only [State.counted, hn, Bool.false_eq_true, or_self, if_false, hask, State.kget_setLaunch]

/-! ### A group placed (16 R322) -/

/-- A slot that a group's members start on runs the group's thread, whichever member starts there last. -/
theorem foldl_startSlot {key : Nat} {x : Slot} {P : Slot → Prop} (hP : ∀ age g, P { x with group := key, gthr := g, age := age }) (l : List (Nat × Nat)) (i : Nat)
    (h : (∃ m ∈ l, m.1 = i) ∨ ∃ y, s.slot i = some y ∧ P y) : ∃ y,
    (l.foldl (fun (s : State) m => s.startSlot m.1 { x with group := key, gthr := BitVec.ofNat 64 m.2 }) s).slot i = some y ∧ P y := by
  induction l generalizing s with
  | nil =>
    obtain ⟨m, hm, -⟩ | h := h
    · cases hm
    · exact h
  | cons m l ih =>
    refine ih _ ?_
    obtain ⟨-, -, hslots⟩ := s.startSlot_frame m.1 { x with group := key, gthr := BitVec.ofNat 64 m.2 }
    have hslot : ∀ i, (s.startSlot m.1 { x with group := key, gthr := BitVec.ofNat 64 m.2 }).slot i =
        if i = m.1 then some { x with group := key, gthr := BitVec.ofNat 64 m.2, age := s.o.nextId } else s.slot i := fun i => by
      rw [State.slot, hslots, kget_kset]; rfl
    by_cases hi : i = m.1
    · exact .inr ⟨_, (hslot i).trans (if_pos hi), hP _ _⟩
    · obtain ⟨k, hk, rfl⟩ | ⟨y, hy, hPy⟩ := h
      · exact .inl ⟨k, (List.mem_cons.1 hk).resolve_left (fun hkm => hi (hkm ▸ rfl)), rfl⟩
      · exact .inr ⟨y, ((hslot i).trans (if_neg hi)).trans hy, hPy⟩

/-- Every slot of a group's place runs a thread of the group. -/
theorem State.startGroup_slots {key n : Nat} {place : List (Nat × List Nat)} {x : Slot} {P : Slot → Prop}
    (hP : ∀ age g, P { x with group := key, gthr := g, age := age }) {c j : Nat} {ks : List Nat} (hc : (c, ks) ∈ place) (hj : j ∈ ks) : ∃ y,
    (s.startGroup key place n x).slot (16 * c + j) = some y ∧ P y := by
  obtain ⟨p, hp⟩ := List.mem_iff_getElem?.1 hc
  obtain ⟨k, hk⟩ := List.mem_iff_getElem?.1 hj
  refine foldl_startSlot s hP _ _ (.inl ⟨(sidOf c j, p * n + k), List.mem_flatMap.2 ⟨p, List.mem_range.2 (List.getElem?_eq_some_iff.1 hp).1, ?_⟩, ?_⟩)
  · rw [hp]
    exact List.mem_map.2 ⟨k, List.mem_range.2 (List.getElem?_eq_some_iff.1 hk).1, by rw [hk]; rfl⟩
  · rw [sidOf]; omega

/-- The slot with which a deal's threads start. -/
def State.dealSlot (s : State) (d : Deal) (k : Kernel) : Slot :=
  { ((s.freshSlot d.ctx k (BitVec.ofNat 64 (recPc d.record))).withParam (recParam d.record)) with
    gid := BitVec.ofNat 64 d.index, thermal := laTherm d.record, replay := d.replay, gshape := BitVec.ofNat 64 (laShape d.record) }

/-- The group of a deal. -/
def dealGroup (d : Deal) (k : Kernel) (place : List (Nat × List Nat)) : Group :=
  { ctx := d.ctx, kid := k.kid, shape := laShape d.record, cores := place.map (fun p => p.1), slots := place.map (fun p => p.2)
    live := shCores (laShape d.record) * shSlots (laShape d.record), launch := some (d.leader, d.launch, laDies d.record, d.index) }

section
variable {s} {n : Nat} {d : Deal} {k : Kernel} (hd : kget s.gr.deals n = some d) (hready : s.dealReady d = true)
  (hk : s.loadedFor (recKid d.record) d.ctx = some k)
include hd hready hk

theorem execGroupPlace_waits (hg : s.dealGrotto d k.space = none) :
    execGroupPlace n s = .next { s with gr := { s.gr with deals := kset s.gr.deals n { d with waited := true } } } := by
  simp only [execGroupPlace, hd, hready, if_true, hk, hg]

theorem execGroupPlace_places {g : Nat} {place : List (Nat × List Nat)} (hg : s.dealGrotto d k.space = some g)
    (hplace : placeGroup (s.offers g (s.pairOn d.ctx)) (shCores (laShape d.record)) (shSlots (laShape d.record)) k.space (shGang (laShape d.record)) = some place) :
    ∃ t, t = (s.newGroup (dealGroup d k place)).2.startGroup s.o.nextId place (shSlots (laShape d.record)) (s.dealSlot d k) ∧
      execGroupPlace n s = .next { t with gr := { t.gr with deals := kdel t.gr.deals n } } := by
  have hroom : s.room g d.ctx (laShape d.record) k.space (laTherm d.record) ≠ 0 := by
    have h := List.find?_some hg
    simpa using h
  refine ⟨_, rfl, ?_⟩
  simp only [execGroupPlace, hd, hready, if_true, hk, hg, State.placeOn, hroom, hplace]
  rfl

end
end

end Sys2Proof.Machine
end

section
/-!
The packets of launches, and their steps (16 R315 to R324).
-/

namespace Sys2Proof.Machine

section
variable {s : State} {p : Packet}

/-- A response leaves the table of launches and what follows a step. -/
theorem State.respond_keeps (s : State) (p q : Packet) : (s.respond p q).gr = s.gr ∧ (s.respond p q).o.agenda = s.o.agenda ∧
    (s.respond p q).o.nextId = s.o.nextId ∧ (s.respond p q).t = s.t ∧ (s.respond p q).mem = s.mem ∧ (s.respond p q).slots = s.slots := by
  obtain ⟨n, os, ls, h⟩ := s.respond_links p q
  rw [h]
  exact ⟨rfl, rfl, rfl, rfl, rfl, rfl⟩

/-- Hearing the sender leaves the table of launches and what follows a step. -/
theorem heard_keeps (s : State) (p : Packet) : (Claims.heard s p).gr = s.gr ∧ (Claims.heard s p).o = s.o ∧ (Claims.heard s p).t = s.t ∧
    (Claims.heard s p).mem = s.mem ∧ (Claims.heard s p).slots = s.slots ∧ (Claims.heard s p).isOwn = s.isOwn := by
  obtain ⟨lk, h⟩ := heard_eq s p
  rw [h]
  exact ⟨rfl, rfl, rfl, rfl, rfl, rfl⟩

/-! ### Mirrors (16 R323) -/

theorem State.mirrorOf_setMirror (s : State) (a l : Nat) (x : Option Launch) : (s.setMirror a l x).mirrorOf a l = x := by
  have hnone : (s.gr.mirrors.filter (fun q => !(q.1 == a && q.2.1 == l))).find? (fun q => q.1 == a && q.2.1 == l) = none := by
    rw [List.find?_eq_none]
    intro q hq
    simpa only [Bool.not_eq_true', Bool.not_eq_true] using (List.mem_filter.1 hq).2
  simp only [State.mirrorOf, State.setMirror, List.find?_append, hnone, Option.none_or]
  cases x <;> simp

theorem State.mirrorOf_eq {s t : State} (h : t.gr = s.gr) (a l : Nat) : t.mirrorOf a l = s.mirrorOf a l := by
  rw [State.mirrorOf, h]; rfl

/-! ### Exit reports (16 R319, R323) -/

theorem mem_insertIndex (i : Nat) (l : List Nat) : i ∈ insertIndex i l := by simp [insertIndex]

/-- The report of an outstanding index. -/
theorem Launch.exited_out {x : Launch} {i : Nat} (h : x.out.any (fun q => q.1 == i) = true) (again : Bool) (cycle : Nat) :
    x.exited i again cycle = { x with out := x.out.filter (fun q => q.1 != i), redeal := if again then insertIndex i x.redeal else x.redeal } ∧
      x.exited i again cycle ≠ x := by
  have heq : x.exited i again cycle = { x with out := x.out.filter (fun q => q.1 != i), redeal := if again then insertIndex i x.redeal else x.redeal } := by
    rw [Launch.exited, if_pos h]
  refine ⟨heq, fun hsame => ?_⟩
  obtain ⟨q, hq, hqi⟩ := List.any_eq_true.1 h
  have hout : x.out.filter (fun q => q.1 != i) = x.out := congrArg Launch.out (heq.symm.trans hsame)
  rw [← hout] at hq
  exact absurd hqi (by simpa using (List.mem_filter.1 hq).2)

section
variable {l i : Nat} {x : Launch} (ht : s.transit p = false) (hown : s.isOwn (p.arg1.toNat % 2 ^ 16) = true) (hl : l = p.arg1.toNat / 2 ^ 16)
  (hi : i = p.arg2.toNat) (hx : kget s.gr.launches l = some x) (hany : x.out.any (fun q => q.1 == i) = true)
include ht hown hl hi hx hany

theorem execExitReport_out : ∃ u : State, u.gr = s.gr ∧ u.o.agenda = s.o.agenda ∧ execExitReport p s = .next (u.turnLaunch l
    { x with out := x.out.filter (fun q => q.1 != i), redeal := if decide (p.op = 1) then insertIndex i x.redeal else x.redeal }) := by
  obtain ⟨hgr, ho, -, -, -, hisOwn⟩ := heard_keeps s p
  obtain ⟨hgr', hagenda, -⟩ := (Claims.heard s p).respond_keeps p { typ := 0x07, addr := 4 }
  have howner := ((Claims.heard s p).respond_sends p { typ := 0x07, addr := 4 }).isOwn
  subst hl hi
  have hnamed : ((Claims.heard s p).respond p { typ := 0x07, addr := 4 }).launchNamed (p.arg1.toNat % 2 ^ 16) (p.arg1.toNat / 2 ^ 16) = some (p.arg1.toNat / 2 ^ 16) := by
    rw [State.launchNamed, howner, hisOwn, hown]; rfl
  refine ⟨(Claims.heard s p).respond p { typ := 0x07, addr := 4 }, hgr'.trans hgr, hagenda.trans (congrArg Order.agenda ho), ?_⟩
  obtain ⟨heq, hne⟩ := Launch.exited_out hany (decide (p.op = 1)) ((Claims.heard s p).respond p { typ := 0x07, addr := 4 }).t.cycle
  rw [execExitReport, State.packetStep_comes ht]
  simp only [hnamed, hgr', hgr, hx, if_neg hne]
  rw [heq]

end
end

/-- What a round leaves of a launch that it has dealt indices of. -/
theorem State.turnLaunch_dealt {s w : State} {c l next cursor : Nat} {x : Launch} {redeal : List Nat} {out : List (Nat × Nat)}
    (hw : Sends { s with gr := { s.gr with lastRound := c } } w) (hredeal : x.redeal = redeal) (hnext : x.next = next) (hcursor : x.cursor = cursor)
    (hout : x.out = out) (hne : out ≠ []) :
    ∃ (t : State) (y : Launch), (Host.Outcome.next (w.turnLaunch l x) : Host.Outcome State Fault Refusal) = .next t ∧ t.gr.lastRound = c ∧
      kget t.gr.launches l = some y ∧ y.redeal = redeal ∧ y.next = next ∧ y.cursor = cursor ∧ y.out = out := by
  obtain ⟨st, hst⟩ := w.turnLaunch_stays l (.inl (hout ▸ hne))
  exact ⟨_, _, congrArg _ hst, (congrArg Groups.lastRound hw.gr :), w.kget_setLaunch l _, hredeal, hnext, hcursor, hout⟩

/-- A launch with a die's report of the room in its grottos. -/
def Launch.told (x : Launch) (p : Packet) : Launch :=
  { x with rooms := x.rooms.filter (fun q => q.1 != p.src) ++ (List.range 36).map (fun g => (p.src, g, ((p.data[g]?).map BitVec.toNat).getD 0))
           reports := x.reports.filter (fun a => a != p.src), fits := x.fits || p.arg2 != 0 }

theorem execRoomReport_report {s : State} {p : Packet} {x : Launch} (ht : s.transit p = false) (hrsp : p.rsp = false) (hop : p.op ≠ 0)
    (hx : kget s.gr.launches p.arg1.toNat = some x) (hstate : x.state = .dealing) :
    execRoomReport p s = .next (((Claims.heard s p).turnLaunch p.arg1.toNat (x.told p)).respond p { typ := 0x07, addr := 3 }) := by
  rw [← (heard_keeps s p).1] at hx
  rw [execRoomReport, State.packetStep_comes ht]
  simp only [hrsp, hop, hx, and_false, if_false, Bool.false_eq_true]
  rw [if_pos hstate]
  rfl

/-- Settles O40: each step is the function of the launch table that performs it, and the packets it sends leave the table. -/
theorem launchSteps : Obligations.LaunchSteps := by
  unfold Obligations.LaunchSteps
  intro s
  refine ⟨fun v ctx bs ue u r hkey hread hr => ?post, ⟨by rw [State.launchBad_gr], by rw [State.launchFull_gr]⟩, fun l ctx r hin hind => s.enterLaunch_plain l ctx hin hind,
    fun l x hx hstate hwaits hrel => ?release, fun l x hx hstate hctx hind => ?count, fun l x deals left redeal next cursor hx hnext hne hround => ?round,
    fun p u hu ht => ?deal, fun n d k hd hready hk => ?place, fun p u hu ht hrsp => ?room, fun p l i x ht hown hl hi hx hany => ?exits,
    fun p u l lo hi hu ht hadm hl hlo hhi => ?mirror, fun p old ol ht hrsp hold hol => ?query⟩
  case post =>
    subst hr
    have hexec : exec (.launchPost v ctx) s = execLaunchPost v ctx s := rfl
    have hva : bitsOf 56 6 v.toNat * 64 = v.toNat / 64 % 2 ^ 51 * 64 := congrArg (· * 64) (bitsOf_shifted 56 6 v.toNat)
    rw [hexec]
    simp only [execLaunchPost, hkey, if_true, postSrc, hva, hread]
    refine ⟨fun hbad => ?_, fun w hgood hue hinv => ?_, fun w l hgood hue hinv hfree => ?_, fun w hgood hue hinv hfree => ?_⟩
    · rcases hbad with h | h <;> simp [h]
    · simp [hgood, hue, hinv]
    · simp [hgood, hue, hinv, hfree]
    · simp [hgood, hue, hinv, hfree]
  case release =>
    show execLaunchReleaseTime l s = _
    simp only [execLaunchReleaseTime, hx, hstate, hwaits, hrel, and_self, if_true]
    rfl
  case count =>
    have hexec : ∀ n, laCsrc x.record = n → exec (.launchCountRead l) s = .next (s.counted l x n false) := fun n hn => by
      show execLaunchCountRead l s = _
      simp [execLaunchCountRead, hx, hstate, hctx, hind, hn]
    refine ⟨fun hzero hdeputy => ⟨_, hexec 0 hzero, ?_, ?_⟩, fun hcount hdies hnext hout hredeal hqueries => ?_⟩
    · rw [s.counted_zero l hdeputy, State.completeLaunch_eq]
      exact s.kget_freeLaunch l
    · rw [s.counted_zero l hdeputy, State.completeLaunch_eq]
    · obtain ⟨t, hsends, hcounted⟩ := s.counted_own l hcount hdies
      have hlt : x.next < laCsrc x.record := by omega
      refine ⟨fun hfits => ⟨_, hexec _ rfl, ?_⟩, fun hfits => ⟨_, hexec _ rfl, ?_⟩⟩
      · rw [hcounted, hfits, State.turnLaunch_fits t l rfl hlt rfl]
        exact t.kget_setLaunch l _
      · rw [hcounted, State.turnLaunch_unfit t l (x := { x with state := .dealing, total := laCsrc x.record, fits := s.everFits x.ctx x.record, reports := [] })
          rfl hlt hfits rfl hqueries hnext hout hredeal]
        exact t.droppedBad_gr l _
  case round =>
    have hexec : exec (.launchDealRound l) s = execLaunchDealRound l s := rfl
    rw [hexec]
    simp only [execLaunchDealRound, hx, hnext, hround, ne_eq, not_true_eq_false, if_false]
    refine State.turnLaunch_dealt (s := s) (w := List.foldl _ _ _) ?_ rfl rfl rfl rfl ?_
    · exact Sends.foldl (fun t d => t.toMirror_sends l x _ _) deals _
    · exact fun h => hne (List.map_eq_nil_iff.1 (List.append_eq_nil_iff.1 h).2)
  case deal =>
    subst hu
    obtain ⟨hgr, ho, -, hmem, hslots, -⟩ := heard_keeps s p
    obtain ⟨hgr', -, hid, -, hmem', hslots'⟩ := (Claims.heard s p).respond_keeps p { typ := 0x07, addr := 2 }
    have hexec : exec (.launchDeal p) s = execLaunchDeal p s := rfl
    rw [hexec, execLaunchDeal, State.packetStep_comes ht]
    refine ⟨fun hadm => if_pos (by rw [hadm]; rfl), fun hadm hreplaced => ?_⟩
    rw [← hgr, ← hgr'] at hreplaced
    simp only [hadm, hreplaced, Bool.not_true, Bool.false_eq_true, if_false]
    refine ⟨_, rfl, ?_, (congrArg Groups.launches (hgr'.trans hgr) :), hmem'.trans hmem, hslots'.trans hslots⟩
    rw [← ho, ← hid]
    exact kget_kset_same _ _ _
  case place =>
    refine ⟨fun g place hg hplace => ?_, fun hg => execGroupPlace_waits hd hready hk hg⟩
    have hshape : shCores (laShape d.record) = laShape d.record % 8 ∧ shSlots (laShape d.record) = laShape d.record / 16 % 32 := by
      simp [shCores, shSlots, bitsOf, Nat.shiftRight_eq_div_pow]
    obtain ⟨t, ht, hexec⟩ := execGroupPlace_places hd hready hk hg (by rw [hshape.1, hshape.2]; exact hplace)
    have hgr : t.gr = (s.newGroup (dealGroup d k place)).2.gr := by rw [ht]; exact (State.startGroup_frame ..).2
    refine ⟨_, s.o.nextId, dealGroup d k place, hexec, kget_kdel_same _ _, (congrArg (fun g => kget g.groups s.o.nextId) hgr).trans (kget_kset_same _ _ _),
      rfl, rfl, rfl, rfl, rfl, rfl, congr (congrArg HMul.hMul hshape.1) hshape.2, fun c ks hc j hj => ?_⟩
    obtain ⟨y, hy, hgroup, hgid, hctx, hpc, hreplay, htherm⟩ := State.startGroup_slots (s.newGroup (dealGroup d k place)).2 (key := s.o.nextId) (n := shSlots (laShape d.record))
      (x := s.dealSlot d k) (P := fun y => y.group = s.o.nextId ∧ y.gid = BitVec.ofNat 64 d.index ∧ y.ctx = d.ctx ∧ y.pc = BitVec.ofNat 64 (recPc d.record) ∧
        y.replay = d.replay ∧ y.thermal = laTherm d.record) (fun _ _ => ⟨rfl, rfl, rfl, rfl, rfl, rfl⟩) hc hj
    rw [← ht] at hy
    exact ⟨y, hy, hgroup, hgid, hctx, hpc, hreplay, htherm⟩
  case room =>
    subst hu
    obtain ⟨hgr, -⟩ := heard_keeps s p
    have hexec : exec (.roomReport p) s = execRoomReport p s := rfl
    rw [hexec]
    refine ⟨fun hop hadm => ?_, fun x hop hx hstate hnext hfits harg hreports hqueries hzero hout hredeal => ?_, fun x hop hx hstate hnext hfits => ?_⟩
    · rw [execRoomReport, State.packetStep_comes ht]
      simp only [hrsp, hop, hadm]
      refine ⟨_, { leader := p.src, launch := p.arg1.toNat, ctx := p.ctx, record := ofBytes (p.data.take 64)
                   last := (Claims.heard s p).roomsFor p.ctx (ofBytes (p.data.take 64)) }, rfl, ?_, rfl, rfl, rfl, rfl, rfl⟩
      rw [(State.respond_keeps _ _ _).1]
      exact List.mem_append_right _ (List.mem_singleton.2 rfl)
    · have hunfit := (Claims.heard s p).turnLaunch_unfit p.arg1.toNat (x := x.told p) hstate hnext (by simp [Launch.told, hfits, harg]) hreports hqueries hzero hout hredeal
      refine ⟨_, (execRoomReport_report ht hrsp hop hx hstate).trans (congrArg (fun t => Host.Outcome.next (State.respond t p _)) hunfit), ?_⟩
      rw [(State.respond_keeps _ _ _).1]
      exact State.droppedBad_gr _ _ _
    · have hfit := (Claims.heard s p).turnLaunch_fits p.arg1.toNat (x := x.told p) hstate hnext (by
        rcases hfits with h | h
        · simp [Launch.told, h]
        · simp only [Launch.told, bne_iff_ne.2 h, Bool.or_true])
      refine ⟨_, x.told p, (execRoomReport_report ht hrsp hop hx hstate).trans (congrArg (fun t => Host.Outcome.next (State.respond t p _)) hfit), ?_, rfl, rfl, rfl,
        fun g hg => List.mem_append_right _ (List.mem_map.2 ⟨g, List.mem_range.2 hg, rfl⟩)⟩
      rw [(State.respond_keeps _ _ _).1]
      exact State.kget_setLaunch _ _ _
  case exits =>
    obtain ⟨u, hgr, hagenda, hexec⟩ := execExitReport_out ht hown hl hi hx hany
    have hexec : exec (.exitReport p) s = _ := hexec
    refine ⟨fun hop hredeal hnext hqueries hstate hall => ?_, fun hop hmore => ?_, fun hop => ?_⟩
    · have hout : x.out.filter (fun q => q.1 != i) = [] := List.filter_eq_nil_iff.2 fun q hq => by simp [hall q hq]
      have hover := u.turnLaunch_over l (x := { x with out := x.out.filter (fun q => q.1 != i) }) hstate hredeal hnext hout hqueries
      simp only [hop, decide_false, Bool.false_eq_true, if_false] at hexec
      refine ⟨_, hexec.trans (congrArg _ hover), ?_, ?_⟩
      · rw [State.completeLaunch_eq]; exact u.kget_freeLaunch l
      · rw [State.completeLaunch_eq, ← hagenda]
    · simp only [hop, decide_false, Bool.false_eq_true, if_false] at hexec
      obtain ⟨q, hq, hqi⟩ := List.any_eq_true.1 hmore
      obtain ⟨st, hst⟩ := u.turnLaunch_stays l (x := { x with out := x.out.filter (fun q => q.1 != i) }) (.inl (List.ne_nil_of_mem (List.mem_filter.2 ⟨hq, hqi⟩)))
      exact ⟨_, _, hexec.trans (congrArg _ hst), u.kget_setLaunch l _, rfl, rfl, rfl⟩
    · simp only [hop, decide_true, if_true] at hexec
      obtain ⟨st, hst⟩ := u.turnLaunch_stays l (x := { x with out := x.out.filter (fun q => q.1 != i), redeal := insertIndex i x.redeal })
        (.inr (List.ne_nil_of_mem (mem_insertIndex i x.redeal)))
      exact ⟨_, _, hexec.trans (congrArg _ hst), u.kget_setLaunch l _, rfl, mem_insertIndex i x.redeal, rfl⟩
  case mirror =>
    subst hu hl hlo hhi
    obtain ⟨hgr, -⟩ := heard_keeps s p
    obtain ⟨hgr', -⟩ := (Claims.heard s p).respond_keeps p { typ := 0x07, addr := 5 }
    have hexec : exec (.mirrorUpdate p) s = execMirrorUpdate p s := rfl
    rw [hexec, execMirrorUpdate, State.packetStep_comes ht]
    simp only [hadm, Bool.not_true, Bool.false_eq_true, if_false]
    refine ⟨fun hop => ?_, fun hop => ?_, fun x hop1 hop2 hx => ?_⟩
    · simp only [hop]
      exact ⟨_, _, rfl, State.mirrorOf_setMirror _ _ _ _, rfl, rfl, rfl, rfl⟩
    · simp only [hop]
      exact ⟨_, rfl, State.mirrorOf_setMirror _ _ _ _⟩
    · rw [← State.mirrorOf_eq (hgr'.trans hgr)] at hx
      simp only [hop1, hop2, if_false, hx]
      exact ⟨_, rfl, State.mirrorOf_setMirror _ _ _ _⟩
  case query =>
    subst hold hol
    obtain ⟨hgr, -⟩ := heard_keeps s p
    have hexec : exec (.leaderQuery p) s = execLeaderQuery p s := rfl
    rw [hexec, execLeaderQuery, State.packetStep_comes ht]
    simp only [hrsp, Bool.false_eq_true, if_false]
    refine ⟨_, rfl, ?_⟩
    rw [(State.respond_keeps _ _ _).1, State.newLeader, hgr]
    refine ⟨List.mem_append_right _ (List.mem_singleton.2 rfl), rfl, fun key g dies i hg hlaunch => ?_, fun n d hd hleader hlaunch => ?_⟩
    · rw [kget_kmap, hg, Option.map_some, hlaunch]
      simp
    · rw [kget_kmap, hd, Option.map_some, if_pos ⟨hleader, hlaunch⟩]

end Sys2Proof.Machine
end

section
/-!
What a die knows of the topology (19 R387 to R389), and that the loss of an agent changes only that agent's word of it.
-/

namespace Sys2Proof.Machine

/-- The topology: the words of DIE_TOPO, whether discovery has ended, and its generation. -/
def State.chart (s : State) : KMap Word × Bool × Nat := (s.lk.topo, s.lk.topoDone, s.lk.topoGen)

theorem State.chart_eq {s t : State} (h : t.lk = s.lk) : t.chart = s.chart := by rw [State.chart, h]; rfl

theorem Sends.chart {s t : State} (h : Sends s t) : t.chart = s.chart := by obtain ⟨o, ms, ls, rfl⟩ := h; rfl

section
variable (s : State)

/-! ### Requests and their ends -/

@[simp] theorem State.out_chart (x : OutItem) : (s.out x).chart = s.chart := (s.out_sends x).chart
@[simp] theorem State.sendPacket_chart (dst tag ctx : Nat) (p : Packet) : (s.sendPacket dst tag ctx p).chart = s.chart := s.out_chart _
@[simp] theorem State.respond_chart (p q : Packet) : (s.respond p q).chart = s.chart := (s.respond_sends p q).chart
@[simp] theorem State.refusePacket_chart (p : Packet) (r : Nat) : (s.refusePacket p r).chart = s.chart := s.out_chart _
@[simp] theorem State.post_chart (r : Nat) (m : Msg) : (s.post r m).chart = s.chart := rfl
@[simp] theorem State.unpost_chart (r : Nat) : (s.unpost r).chart = s.chart := rfl
@[simp] theorem State.modMsg_chart (r : Nat) (f : Msg → Msg) : (s.modMsg r f).chart = s.chart := rfl
@[simp] theorem State.modDep_chart (r : Nat) (f : Dep → Dep) : (s.modDep r f).chart = s.chart := rfl
@[simp] theorem State.start_chart (i : Instr) : (s.start i).chart = s.chart := rfl
@[simp] theorem State.irq_chart (v : Nat) : (s.irq v).chart = s.chart := rfl
@[simp] theorem State.sticky_chart (b : Sticky) : (s.sticky b).chart = s.chart := State.chart_eq (s.sticky_lk b)
@[simp] theorem State.ackMsg_chart (rid : Nat) (m : Msg) (code : Nat) : (s.ackMsg rid m code).chart = s.chart := State.chart_eq (s.ackMsg_lk ..)
@[simp] theorem State.nackMsg_chart (rid : Nat) (m : Msg) : (s.nackMsg rid m).chart = s.chart := State.chart_eq (s.nackMsg_lk ..)

@[simp] theorem State.failMsg_chart (rid : Nat) (m : Msg) (f : LateFault) : (s.failMsg rid m f).chart = s.chart := by
  simp only [State.failMsg]
  split
  · rfl
  · exact State.chart_eq (State.lateFor_lk _ _ _ _)

@[simp] theorem State.versionDone_chart (rid : Nat) (m : Msg) (h : Word) (reason : Nat) : (s.versionDone rid m h reason).chart = s.chart := by
  unfold State.versionDone; split <;> simp

@[simp] theorem State.sendDeal_chart (p : Packet) : (s.sendDeal p).chart = s.chart := (s.sendDeal_sends p).chart

/-! ### Versions, tasks and launches that wait -/

@[simp] theorem State.setVersion_chart (v : Version) : (s.setVersion v).chart = s.chart := rfl
@[simp] theorem State.setProxy_chart (x : ProxyCopy) : (s.setProxy x).chart = s.chart := rfl
@[simp] theorem State.dropProxy_chart (ctx : Nat) (h : Word) : (s.dropProxy ctx h).chart = s.chart := rfl
@[simp] theorem State.setEntry_chart (i : Nat) (e : PoolEntry) : (s.setEntry i e).chart = s.chart := rfl
@[simp] theorem State.launchInput_chart (l n : Nat) (bad : Bool) : (s.launchInput l n bad).chart = s.chart := rfl

@[simp] theorem State.giveNext_chart (d i : Nat) : (s.giveNext d i).chart = s.chart := by
  unfold State.giveNext State.runEntry; split
  · rfl
  · split <;> rfl

@[simp] theorem State.serveNexts_chart (ctx : Nat) (l : List Nat) : (s.serveNexts ctx l).chart = s.chart := by
  induction l generalizing s with
  | nil => rfl
  | cons rid l ih =>
    unfold State.serveNexts
    split
    · exact ih _
    · split
      · exact ih _
      · have h : (s.pick (s.qualifying ctx true)).2.chart = s.chart := by unfold State.pick; split <;> rfl
        split
        · next i t ht => rw [ih, ← h, ht]; exact State.giveNext_chart _ _ _
        · next t ht => rw [← h, ht]

@[simp] theorem State.tryReady_chart (i : Nat) : (s.tryReady i).chart = s.chart := by
  unfold State.tryReady
  split
  · split
    · dsimp only
      split
      · exact State.serveNexts_chart _ _ _
      · rfl
    · rfl
  · rfl

@[simp] theorem State.countDown_chart (i gen : Nat) : (s.countDown i gen).chart = s.chart := by
  unfold State.countDown
  split
  · split
    · exact State.tryReady_chart _ _
    · rfl
  · rfl

@[simp] theorem State.refuseWaiter_chart (h : Word) (w : Waiter) : (s.refuseWaiter h w).chart = s.chart := by
  unfold State.refuseWaiter; split <;> simp

@[simp] theorem State.cacheVersion_chart (core ctx : Nat) (tag : Nat × Nat) (off size v : Nat) : (s.cacheVersion core ctx tag off size v).chart = s.chart := by
  simp only [State.cacheVersion]; split <;> rfl

@[simp] theorem State.answerLoad_chart (d : Nat) (h : Word) (tag : Nat × Nat) (g data : Nat) (bad : Bool) (l : VLoad) :
    (s.answerLoad d h tag g data bad l).chart = s.chart := by
  simp only [State.answerLoad]
  split
  · rfl
  · split
    · rfl
    · split
      · rw [State.modDep_chart]; split
        · split <;> simp
        · rfl
      · repeat' split
        all_goals rfl

@[simp] theorem State.serveWaiter_chart (h : Word) (tag : Nat × Nat) (g data : Nat) (bad : Bool) (w : Waiter) :
    (s.serveWaiter h tag g data bad w).chart = s.chart := by
  unfold State.serveWaiter; split <;> simp

@[simp] theorem State.notify_chart (v : Version) (reclaim : Bool) : (s.notify v reclaim).chart = s.chart :=
  foldl_keeps State.chart (fun t _ => (t.ask_sends ..).chart) _ s

@[simp] theorem State.settle_chart (v : Version) : (s.settle v).chart = s.chart := by
  unfold State.settle
  split
  · rw [State.reclaimStart, State.notify_chart]; rfl
  · rfl

theorem State.proxyLoad_chart (ctx : Nat) (h : Word) (agent : Nat) (w : Waiter) : (s.proxyLoad ctx h agent w).chart = s.chart := by
  unfold State.proxyLoad
  split
  · split
    · simp only
      split
      · exact (State.ask_sends _ ..).chart.trans (State.serveWaiter_chart ..)
      · exact State.serveWaiter_chart ..
    · rfl
  · exact (State.ask_sends (s.setProxy { ctx := ctx, handle := h, waiters := [w] }) ..).chart

theorem State.settleUnless_chart (p : Prop) [Decidable p] (v : Version) : (if p then s else s.settle v).chart = s.chart := by
  split
  · rfl
  · exact s.settle_chart v

theorem State.homeLoad_chart (ctx : Nat) (h : Word) (w : Waiter) : (s.homeLoad ctx h w).chart = s.chart := by
  unfold State.homeLoad
  split
  · split
    · exact (State.settleUnless_chart _ _ _).trans (s.serveWaiter_chart ..)
    · rfl
  · rfl

@[simp] theorem State.seekWaiter_chart (ctx : Nat) (h : Word) (who : WaitWho) : (s.seekWaiter ctx h who).chart = s.chart := by
  unfold State.seekWaiter State.registerWaiter
  split
  · split
    · exact s.homeLoad_chart ..
    · exact s.proxyLoad_chart ..
    · exact s.refuseWaiter_chart ..
  · show ((s.newId.2.holdFull ctx h).post _ _).chart = _
    simp only [State.post_chart, State.holdFull]
    split
    · rfl
    · split
      · exact State.sticky_chart _ _
      · exact (State.irq_chart _ _).trans (State.sticky_chart _ _)

/-! ### Launches -/

@[simp] theorem State.launchBad_chart : s.launchBad.chart = s.chart := by unfold State.launchBad; split <;> simp <;> rfl
@[simp] theorem State.launchLost_chart : s.launchLost.chart = s.chart := by unfold State.launchLost; split <;> simp <;> rfl
@[simp] theorem State.setLaunch_chart (l : Nat) (x : Launch) : (s.setLaunch l x).chart = s.chart := rfl
@[simp] theorem State.toMirror_chart (l : Nat) (x : Launch) (p : Packet) (d : Option Packet) : (s.toMirror l x p d).chart = s.chart := (s.toMirror_sends ..).chart
@[simp] theorem State.mirrorAll_chart (l : Nat) (x : Launch) : (s.mirrorAll l x).chart = s.chart := (s.mirrorAll_sends l x).chart
@[simp] theorem State.askRooms_chart (l : Nat) (x : Launch) : (s.askRooms l x).chart = s.chart := (s.askRooms_sends l x).chart

@[simp] theorem State.turnLaunch_chart (l : Nat) (x : Launch) : (s.turnLaunch l x).chart = s.chart := by
  rw [State.turnLaunch_eq]
  split
  · rw [State.launchBad_chart, (State.dropMirror_sends _ _ _).chart]; rfl
  · split
    · rw [State.completeLaunch_eq]; rfl
    · rfl

@[simp] theorem State.resume_chart (l : Nat) (x : Launch) : (s.resume l x).chart = s.chart := by
  simp only [State.resume]
  split
  · rfl
  · split <;> simp

theorem State.enterLaunch_chart (l ctx r : Nat) : (s.enterLaunch l ctx r).chart = s.chart := by
  simp only [State.enterLaunch]
  rw [foldl_keeps State.chart (fun t i => t.seekWaiter_chart ..), State.mirrorAll_chart]
  rfl

theorem State.failOver_chart (old ol : Nat) (x : Launch) : (s.failOver old ol x).chart = s.chart := by
  simp only [State.failOver]
  split
  · exact State.launchLost_chart _
  · split
    · exact State.enterLaunch_chart _ _ _ _
    · rw [State.resume_chart, foldl_keeps State.chart (fun t a => (t.ask_sends ..).chart)]
      rfl

theorem State.orphanGroups_chart (p : Nat → Nat → List Nat → Bool) : (s.orphanGroups p).chart = s.chart := by
  simp only [State.orphanGroups]
  split
  · exact State.launchLost_chart _
  · rfl

/-- A launch goes on after the loss of a die. -/
theorem State.goOn_chart (l : Nat) (p q : Prop) [Decidable p] [Decidable q] (x y : Launch) :
    (if p then s.resume l y else if q then s.turnLaunch l x else s.setLaunch l x).chart = s.chart := by
  split
  · simp
  · split <;> simp

theorem State.loseDie_chart (l agent : Nat) (x : Launch) : (s.loseDie l agent x).chart = s.chart := by
  simp only [State.loseDie]
  rw [State.goOn_chart, foldl_keeps State.chart]
  · split
    · exact State.mirrorAll_chart _ _ _
    · rfl
  · intro t q
    split
    · split
      · exact State.toMirror_chart _ _ _ _ _
      · rfl
    · rfl

theorem State.launchesLose_chart (agent : Nat) : (s.launchesLose agent).chart = s.chart := by
  simp only [State.launchesLose]
  rw [State.orphanGroups_chart, foldl_keeps State.chart (fun t q => t.failOver_chart ..), State.orphanGroups_chart]
  refine foldl_keeps State.chart (fun t q => ?_) _ s
  split
  · split
    · exact t.loseDie_chart ..
    · rfl
  · rfl

/-! ### The loss of an agent (19 R387) -/

theorem State.freeReplicas_chart (rid : Nat) (m : Msg) : (s.freeReplicas rid m).chart = s.chart := by
  simp only [State.freeReplicas]
  exact foldl_keeps State.chart (fun t _ => foldl_keeps State.chart (fun u _ => u.sendPacket_chart ..) _ t) _ s

theorem State.sendReplica_chart (rid : Nat) (m : Msg) : (s.sendReplica rid m).chart = s.chart := by
  unfold State.sendReplica; split <;> simp

theorem State.chainAnswer_chart (tag src ctx mask : Nat) : (s.chainAnswer tag src ctx mask).chart = s.chart := by
  simp only [State.chainAnswer]
  repeat' split
  all_goals simp

theorem State.chainOn_chart (tag src ctx off : Nat) (data : List Byte) (agents : List Nat) (pos mask : Nat) :
    (s.chainOn tag src ctx off data agents pos mask).chart = s.chart := by
  induction agents generalizing s pos mask with
  | nil => rw [State.chainOn]; exact s.chainAnswer_chart ..
  | cons a rest ih =>
    rw [State.chainOn]
    split
    · refine (ih ..).trans ?_
      unfold State.chainWrite; split <;> rfl
    · split
      · exact s.out_chart _
      · exact ih ..

theorem State.mirrored_chart (rid : Nat) (deal : Option Packet) : (s.mirrored rid deal).chart = s.chart := by
  unfold State.mirrored; split <;> simp

theorem State.reported_chart (rid : Nat) (p : Packet) (answer : Nat) : (s.reported rid p answer).chart = s.chart := by
  unfold State.reported; split <;> rfl

theorem State.takeAck_chart (rid : Nat) (m : Msg) (answer : Nat) : (s.takeAck rid m answer).chart = s.chart := by
  simp only [State.takeAck]
  split <;> try split
  all_goals simp [State.freeReplicas_chart, State.sendReplica_chart, State.chainAnswer_chart, State.mirrored_chart, State.reported_chart]

theorem State.refuseProxy_chart (ctx : Nat) (h : Word) : (s.refuseProxy ctx h).chart = s.chart := by
  unfold State.refuseProxy
  split
  · exact (State.dropProxy_chart _ _ _).trans (foldl_keeps State.chart (fun t w => t.refuseWaiter_chart h w) _ s)
  · rfl

theorem State.endNacked_chart (rid : Nat) (m : Msg) : (s.endNacked rid m).chart = s.chart := by
  unfold State.endNacked
  split <;> try split
  all_goals simp [State.refuseProxy_chart, State.mirrored_chart, State.takeAck_chart]

theorem State.loseRequest_chart (rid agent : Nat) : (s.loseRequest rid agent).chart = s.chart := by
  simp only [State.loseRequest]
  repeat' split
  all_goals simp [State.takeAck_chart, State.endNacked_chart]

theorem State.setBarrier_chart (k : BKey) (b : Barrier) : (s.setBarrier k b).chart = s.chart := State.chart_eq (s.setBarrier_lk k b)

theorem State.barrierFail_chart (w : BWho) (ctx : Nat) (h : Word) (reason : Nat) : (s.barrierFail w ctx h reason).chart = s.chart := by
  unfold State.barrierFail; split <;> simp

theorem State.breakBarrier_chart (k : BKey) (b : Barrier) (reason : Nat) : (s.breakBarrier k b reason).chart = s.chart :=
  (State.setBarrier_chart _ _ _).trans (foldl_keeps State.chart (fun t _ => t.barrierFail_chart ..) _ s)

theorem State.breakWhere_chart (named die : Barrier → Bool) (reason : Nat) : (s.breakWhere named die reason).chart = s.chart := by
  simp only [State.breakWhere]
  rw [foldl_keeps State.chart (fun t p => t.breakBarrier_chart ..), foldl_keeps State.chart (fun t p => t.breakBarrier_chart ..)]

theorem State.unsent_chart (p : Packet) : (s.unsent p).chart = s.chart := by
  unfold State.unsent
  repeat' split
  all_goals simp [State.chainOn_chart]

theorem State.fenceLink_chart (m : Nat) : (s.fenceLink m).chart = s.chart := by
  simp only [State.fenceLink]
  split
  · rfl
  · refine (foldl_keeps State.chart (fun t p => ?_) _ _).trans rfl
    split
    · exact t.unsent_chart p
    · exact t.out_chart _

theorem State.fencePeers_chart (mark agent : Nat) : (if mark = 1 then
    (List.range 8).foldl (fun (s : State) m => if (s.link m).peer = agent ∧ (s.link m).peerUid.isSome then s.fenceLink m else s) s else s).chart = s.chart := by
  split
  · refine foldl_keeps State.chart (fun t m => ?_) _ s
    split
    · exact t.fenceLink_chart m
    · rfl
  · rfl

/-- The loss of an agent marks its word of DIE_TOPO. -/
theorem State.loseAgent_topo {a : Nat} (mark : Nat) (hown : s.isOwn a = false) (hup : s.agentUp a = true) :
    (s.loseAgent a mark).topo a = (BitVec.ofNat 64 (setBits 60 59 (s.topo a) mark)).toNat := by
  have hgo : (s.isOwn a || !s.agentUp a) = false := by rw [hown, hup]; rfl
  have hchart : (s.loseAgent a mark).chart =
      ({ s with lk := { s.lk with topo := kset s.lk.topo a (BitVec.ofNat 64 (setBits 60 59 (s.topo a) mark)) } } : State).chart := by
    simp only [State.loseAgent, hgo, Bool.false_eq_true, if_false]
    refine (State.fencePeers_chart _ _ _).trans ((State.launchesLose_chart _ _).trans ((State.breakWhere_chart _ _ _ _).trans ?_))
    refine (foldl_keeps State.chart (fun t q => t.refuseProxy_chart ..) _ _).trans ((foldl_keeps State.chart (fun t p => t.loseRequest_chart ..) _ _).trans ?_)
    split <;> rfl
  have htopo : (s.loseAgent a mark).lk.topo = kset s.lk.topo a _ := congrArg Prod.fst hchart
  rw [State.topo, htopo, kgetD, kget_kset_same]
  rfl

end

end Sys2Proof.Machine
end

section
/-!
Discovery, the loss of agents, and time (19 R386 to R388; 22 R420).
-/

namespace Sys2Proof.Machine

section
variable {s : State}

/-! ### Records of other agents (19 R387, R388) -/

/-- A record goes out over each module in DISCOVERY but one. -/
theorem State.announce_outbox (r : DiscoverRec) (but : Option Nat) {j : Nat} (hj : j < 8) (hstate : (s.link j).state = .discovery) (hbut : some j ≠ but) :
    .discover j r ∈ (s.announce r but).o.outbox := by
  obtain ⟨before, after, hrange, -⟩ := range_split hj
  rw [State.announce, hrange, List.foldl_append, List.foldl_cons]
  have hlk : (before.foldl (fun (s : State) m => if (s.link m).state == .discovery && some m != but then s.out (.discover m r) else s) s).lk = s.lk :=
    foldl_keeps State.lk (fun t m => by split <;> rfl) before s
  have hmono : ∀ (l : List Nat) (t : State), .discover j r ∈ t.o.outbox → .discover j r ∈
      (l.foldl (fun (s : State) m => if (s.link m).state == .discovery && some m != but then s.out (.discover m r) else s) t).o.outbox := fun l => by
    induction l with
    | nil => exact fun t h => h
    | cons m l ih =>
      refine fun t h => ih _ ?_
      dsimp only
      split
      · exact List.mem_append_left _ h
      · exact h
  refine hmono after _ ?_
  have hlink : (before.foldl (fun (s : State) m => if (s.link m).state == .discovery && some m != but then s.out (.discover m r) else s) s).link j = s.link j := by
    rw [State.link, hlk]; rfl
  rw [hlink, if_pos (by rw [hstate]; simpa using hbut)]
  exact List.mem_append_right _ (List.mem_singleton.2 rfl)

theorem mem_keepRecord (rs : List DiscoverRec) (r : DiscoverRec) : r ∈ keepRecord rs r := List.mem_append_right _ (List.mem_singleton.2 rfl)

/-- The state bits of a word of DIE_TOPO whose agent was up. -/
theorem topo_marked {n mark : Nat} (hup : bitsOf 60 59 n = 0) (hmark : mark < 4) :
    (BitVec.ofNat 64 (setBits 60 59 n mark)).toNat / 2 ^ 59 % 4 = mark := by
  have hset : setBits 60 59 n mark = n + mark * 2 ^ 59 := by
    have hmod : mark % 2 ^ (60 + 1 - 59) = mark := Nat.mod_eq_of_lt hmark
    rw [setBits, hup, Nat.zero_mul, Nat.sub_zero, hmod]
  rw [bitsOf_shifted] at hup
  rw [hset, BitVec.toNat_ofNat]
  omega

theorem State.loseAgent_marked {a mark : Nat} (hown : s.isOwn a = false) (hup : s.agentUp a = true) (hmark : mark < 4) :
    (s.loseAgent a mark).topo a / 2 ^ 59 % 4 = mark := by
  rw [s.loseAgent_topo mark hown hup]
  refine topo_marked ?_ hmark
  rw [State.agentUp, Bool.and_eq_true, beq_iff_eq] at hup
  exact hup.2

theorem State.loseRequest_gett {rid a b : Nat} {m : Msg} (hm : kget s.msgs rid = some m) (hsent : m.sent = true) (hdst : m.dsts.contains a = true)
    (hop : m.op = .gett b) : s.loseRequest rid a = s.nackMsg rid m := by
  simp only [State.loseRequest, hm, hsent, hdst, hop, State.endNacked, Bool.not_true, Bool.or_self, Bool.false_eq_true, if_false]

/-! ### The end of discovery (19 R388) -/

theorem State.leaveDiscovery_chart (s : State) (m : Nat) : (s.leaveDiscovery m).chart = s.chart := by
  simp only [State.leaveDiscovery]
  split
  · rfl
  · split
    · rfl
    · exact s.fenceLink_chart m

/-- The die takes the ID that its own record received. -/
def State.takeId (s : State) (own : DiscoverRec) : State :=
  match s.agentOf own.uid with
  | some a => { s with idn := { s.idn with agv := true, agent := a } }
  | none => s

theorem State.takeId_chart (s : State) (own : DiscoverRec) : (s.takeId own).chart = s.chart := by
  unfold State.takeId; split <;> rfl

/-- Discovery is over: the last thing that the die notes. -/
def State.endDiscovery (s : State) : State := { s with t := { s.t with setDue := !s.isOwn s.lk.topoMaster }, bt := { s.bt with bstep := 6 } }

theorem execDiscoveryEnd_over {s : State} (hover : s.discoveryOver = true) : ∃ l : List Nat, execDiscoveryEnd s = .next
    (l.foldl (fun (s : State) m => s.leaveDiscovery m) ((s.buildTopology (keepRecord s.lk.records s.ownRecord) s.ownRecord).takeId s.ownRecord)).endDiscovery := by
  refine ⟨List.range 8, ?_⟩
  unfold execDiscoveryEnd
  generalize List.range 8 = l
  exact if_neg (by rw [hover]; decide)

theorem State.endDiscovery_topo (s : State) (l : List Nat) {t u : State} (ht : t = l.foldl (fun (s : State) m => s.leaveDiscovery m) u)
    (hu : u = (s.buildTopology (keepRecord s.lk.records s.ownRecord) s.ownRecord).takeId s.ownRecord) :
    t.lk.topoDone = true ∧ t.lk.topoGen = (s.lk.topoGen + 1) % 2 ^ 16 := by
  have hchart : t.chart = (s.buildTopology (keepRecord s.lk.records s.ownRecord) s.ownRecord).chart := by
    rw [ht, foldl_keeps State.chart (fun t m => t.leaveDiscovery_chart m), hu, State.takeId_chart]
  exact ⟨(congrArg (fun c => c.2.1) hchart :), (congrArg (fun c => c.2.2) hchart :)⟩

/-! ### Time (19 R386) -/

theorem Clock.slewed_time (t : Clock) : t.time ≤ t.slewed.time ∧ t.slewed.time ≤ t.time + 1 ∧ t.slewed.cycle = t.cycle := by
  unfold Clock.slewed
  repeat' split
  all_goals exact ⟨by simp, by simp, rfl⟩

/-- What a die asks of a link with each tick. -/
def State.tickLink (s : State) (m : Nat) : State :=
  if !(s.link m).carries then s
  else (s.modLink m (fun l => { l with timeSent := s.now })).toLink m
    { typ := 0x0B, vc := 2, dst := (s.link m).peer, src := s.ownAgent, tag := 0xFFFF, arg1 := BitVec.ofNat 64 s.now }

theorem execTimeTick_eq (s : State) : execTimeTick s = .next { (List.range 8).foldl State.tickLink s with t := ((List.range 8).foldl State.tickLink s).t.slewed } := rfl

/-- Asking a link changes that link. -/
theorem State.tickLink_frame (s : State) (m : Nat) : ((s.tickLink m).t = s.t ∧ (s.tickLink m).mem = s.mem ∧ (s.tickLink m).slots = s.slots) ∧
    ∀ j, j ≠ m → (s.tickLink m).link j = s.link j := by
  unfold State.tickLink
  split
  · exact ⟨⟨rfl, rfl, rfl⟩, fun _ _ => rfl⟩
  · refine ⟨⟨rfl, rfl, rfl⟩, fun j hj => ?_⟩
    rw [State.toLink, State.link_modLink, if_neg hj, State.link_modLink, if_neg hj]

theorem State.tickLinks_frame (l : List Nat) (s : State) : (l.foldl State.tickLink s).t = s.t ∧ (l.foldl State.tickLink s).mem = s.mem ∧
    (l.foldl State.tickLink s).slots = s.slots ∧ ∀ j, j ∉ l → (l.foldl State.tickLink s).link j = s.link j := by
  induction l generalizing s with
  | nil => exact ⟨rfl, rfl, rfl, fun _ _ => rfl⟩
  | cons m l ih =>
    obtain ⟨ht, hmem, hslots, hlink⟩ := ih (s.tickLink m)
    obtain ⟨⟨ht', hmem', hslots'⟩, hlink'⟩ := s.tickLink_frame m
    refine ⟨ht.trans ht', hmem.trans hmem', hslots.trans hslots', fun j hj => ?_⟩
    rw [List.mem_cons, not_or] at hj
    exact (hlink j hj.2).trans (hlink' j hj.1)

theorem State.tickLink_asks {s : State} {m : Nat} (hup : (s.link m).state = .up ∨ (s.link m).state = .degraded) :
    ∃ p, ((s.tickLink m).link m).queue = (s.link m).queue ++ [p] ∧ p.typ = 0x0B ∧ p.vc = 2 ∧ p.dst = (s.link m).peer ∧ p.arg1 = BitVec.ofNat 64 s.now := by
  have hcarries : (s.link m).carries = true := by rcases hup with h | h <;> simp [Link.carries, h]
  rw [State.tickLink, if_neg (by rw [hcarries]; decide), State.toLink, State.link_modLink, if_pos rfl, State.link_modLink, if_pos rfl]
  exact ⟨_, rfl, rfl, rfl, rfl, rfl⟩

theorem State.tickLink_silent {s : State} {m : Nat} (hup : (s.link m).state ≠ .up) (hdeg : (s.link m).state ≠ .degraded) : s.tickLink m = s := by
  have hcarries : (s.link m).carries = false := by simp [Link.carries, hup, hdeg]
  rw [State.tickLink, if_pos (by rw [hcarries]; rfl)]

/-- What all links together see of a tick is what each sees of its own turn. -/
theorem State.tickLinks_link {s : State} {m : Nat} (hm : m < 8) : ∃ t : State, t.t = s.t ∧ t.link m = s.link m ∧
    ((List.range 8).foldl State.tickLink s).link m = (t.tickLink m).link m := by
  obtain ⟨before, after, hrange, hbefore, hafter⟩ := range_split hm
  obtain ⟨ht, -, -, hlink⟩ := State.tickLinks_frame before s
  obtain ⟨-, -, -, hlink'⟩ := State.tickLinks_frame after ((before.foldl State.tickLink s).tickLink m)
  refine ⟨before.foldl State.tickLink s, ht, hlink m hbefore, ?_⟩
  rw [hrange, List.foldl_append, List.foldl_cons]
  exact hlink' m hafter

theorem State.takeTime_eq {u : State} {p : Packet} {there : Nat} (hdone : u.lk.topoDone = true) (hown : u.isOwn u.lk.topoMaster = false)
    (hpeer : (u.link u.masterPort).peer = p.src) (hthere : there = p.arg1.toNat + (u.now - (u.link u.masterPort).timeSent) / 2) :
    u.takeTime p = if u.t.setDue then { u with t := { u.t with time := there, setDue := false, slew := 0 } }
      else { u with t := { u.t with slew := (there : Int) - (u.now : Int) } } := by
  have hgo : (!u.lk.topoDone || u.isOwn u.lk.topoMaster || (u.link u.masterPort).peer != p.src) = false := by simp [hdone, hown, hpeer]
  simp only [State.takeTime, hgo, ← hthere, Bool.false_eq_true, if_false]

/-- Settles O48: the records and the topology are read off the folds over the modules, the loss of an agent through what it leaves of the
topology, and a tick of the time base link by link. -/
theorem discoveryAndTimeSteps : Obligations.DiscoveryAndTimeSteps := by
  unfold Obligations.DiscoveryAndTimeSteps
  intro s
  refine ⟨fun m r hdone huid hrec => ?_, fun m r hdone hknown => ?_, fun m r a hdone hfence ha hown hup => ?_, fun hstep hdone hat htrain => ?_,
    fun hnot => ?_, fun a hheard => ?_, fun a hheard hown hup => ?_, fun rid m a b hm hsent hdst hop => State.loseRequest_gett hm hsent hdst hop,
    fun p u hc => ⟨fun hrsp => ?_, fun l there hrsp hdone hmaster hl hpeer hthere => ?_⟩, ?_⟩
  · refine ⟨({ s with lk := { s.lk with records := keepRecord s.lk.records r, recordAt := s.now } } : State).announce r (some m), ?_, ?_, ?_, ?_, ?_⟩
    · show execDiscover m r s = _
      have hnew : (s.lk.records.contains r || r.uid == s.idn.uid) = false := by rw [hrec, Bool.false_or]; simpa using huid
      rw [execDiscover, if_neg (by rw [hdone]; decide), if_neg (by rw [hnew]; decide)]
    · rw [State.announce_lk]; exact mem_keepRecord _ _
    · rw [State.announce_lk]
    · rw [State.announce_lk]
    · exact fun j hj hne hstate => State.announce_outbox r (some m) hj hstate (fun h => hne (Option.some.inj h))
  · show execDiscover m r s = _
    have hold : (s.lk.records.contains r || r.uid == s.idn.uid) = true := by
      rcases hknown with h | h
      · rw [h, beq_self_eq_true, Bool.or_true]
      · rw [h, Bool.true_or]
    rw [execDiscover, if_neg (by rw [hdone]; decide), if_pos hold]
  · obtain ⟨o, ho⟩ := s.spreadFence_eq r (some m)
    refine ⟨(s.spreadFence r (some m)).loseAgent a 1, ?_, ?_⟩
    · show execDiscover m r s = _
      rw [execDiscover, if_pos hdone, if_neg (by rw [hfence]; decide), ha]
      exact if_neg (by rw [hown, hup]; decide)
    · rw [ho]
      exact State.loseAgent_marked (s := { s with o := o }) hown hup (by decide)
  · have hover : s.discoveryOver = true := by
      have htraining : (List.range 8).any (fun m => (s.link m).state == .training) = false :=
        List.any_eq_false.2 fun m hm => by simpa using htrain m (List.mem_range.1 hm)
      rw [State.discoveryOver, hstep, hdone, htraining, decide_eq_true hat]; rfl
    obtain ⟨l, hl⟩ := execDiscoveryEnd_over hover
    generalize hu : (s.buildTopology (keepRecord s.lk.records s.ownRecord) s.ownRecord).takeId s.ownRecord = u at hl
    generalize ht : l.foldl (fun (s : State) m => s.leaveDiscovery m) u = t at hl
    obtain ⟨htopo, hgen⟩ := s.endDiscovery_topo l ht.symm hu.symm
    exact ⟨t.endDiscovery, hl, htopo, hgen, rfl⟩
  · show execDiscoveryEnd s = _
    have hover : s.discoveryOver = false := by
      rcases hnot with h | h
      · simp [State.discoveryOver, h]
      · simp [State.discoveryOver, Nat.not_le.2 h]
    rw [execDiscoveryEnd, hover]; rfl
  · show execAgentDownTimeout a s = _
    exact if_neg (Nat.not_le.2 hheard)
  · refine ⟨s.loseAgent a 2, ?_, State.loseAgent_marked hown hup (by decide)⟩
    show execAgentDownTimeout a s = _
    exact if_pos hheard
  · obtain ⟨⟨-, ht, -⟩, ⟨hisOwn, -⟩, -, -, -, hanswers, -⟩ := comes_alike hc
    refine ⟨u.reply p { typ := 0x0B, arg1 := BitVec.ofNat 64 u.now }, exec_comes hc ?_, ?_, rfl, ?_⟩
    · rw [if_neg (by rw [hrsp]; decide)]
      exact State.respond_eq (hisOwn ▸ hc.2.1) _
    · rw [hanswers]; exact u.reply_answers p _
    · rw [State.now_eq ht]; rfl
  · obtain ⟨⟨-, ht, -⟩, ⟨hisOwn, -⟩, -⟩ := comes_alike hc
    obtain ⟨hd, ls, hu, -⟩ := heard_links s p
    have hlk : u.lk = { s.lk with heard := hd, links := ls } := by rw [hc.2.2, hu]
    have hport : u.masterPort = s.masterPort := by rw [State.masterPort, State.topo, hlk]; rfl
    refine exec_comes hc ?_
    rw [if_pos hrsp, State.takeTime_eq (there := there), ht, State.now_eq ht]
    · rw [hlk]; exact hdone
    · rw [← hisOwn, hlk]; exact hmaster
    · rw [hport, ← hl]; exact hpeer
    · rw [hport, ← hl, ← State.now_eq ht]; exact hthere
  · have hlinks (m : Nat) (hm : m < 8) := State.tickLinks_link (s := s) hm
    obtain ⟨ht, hmem, hslots, -⟩ := State.tickLinks_frame (List.range 8) s
    have hexec : exec .timeTick s = _ := execTimeTick_eq s
    generalize (List.range 8).foldl State.tickLink s = u at hlinks ht hmem hslots hexec
    obtain ⟨hlow, hhigh, hcycle⟩ := u.t.slewed_time
    rw [ht] at hexec hlow hhigh hcycle
    refine ⟨{ u with t := s.t.slewed }, hexec, hlow, hhigh, hcycle, hmem, hslots, fun m hm => ⟨fun hup => ?_, fun hup hdeg => ?_⟩⟩
    · obtain ⟨t, ht, hlink, hall⟩ := hlinks m hm
      obtain ⟨p, hqueue, htyp, hvc, hdst, harg⟩ := State.tickLink_asks (s := t) (m := m) (hlink.symm ▸ hup)
      refine ⟨p, ?_, htyp, hvc, ?_, ?_⟩
      · rw [hlink] at hqueue; exact (congrArg Link.queue hall).trans hqueue
      · rw [hdst, hlink]
      · rw [harg, State.now_eq ht]
    · obtain ⟨t, ht, hlink, hall⟩ := hlinks m hm
      rw [State.tickLink_silent (hlink.symm ▸ hup) (hlink.symm ▸ hdeg)] at hall
      exact hall.trans hlink

end

end Sys2Proof.Machine
end

section
/-!
The ports of the engine FIFOs and of the channels (13 R271, R272, R279 to R281).
-/

namespace Sys2Proof.Machine

section
variable {s : State} {rid pa f n port : Nat} {m : Msg} {q : EFifo} {c : Channel}

/-! ### Addresses of the apertures (01 R17) -/

theorem atFifo_place (h : Claims.AtFifo s pa f port) : (s.local' pa && decide (apFifo ≤ pa % 2 ^ 42)) = true ∧ apFifo ≤ pa % 2 ^ 42 ∧
    (pa % 2 ^ 42 - apFifo) / 0x10000 = f ∧ pa % 2 ^ 42 % 0x10000 = port := by
  obtain ⟨hown, hoff, hport⟩ := h
  have hle : apFifo ≤ pa % 2 ^ 42 := by unfold apFifo; omega
  refine ⟨by rw [State.local', hown, decide_eq_true hle]; rfl, hle, ?_, ?_⟩
  · unfold apFifo; omega
  · omega

theorem atChannel_place (h : Claims.AtChannel s pa n port) :
    (s.local' pa && decide (apBte ≤ pa % 2 ^ 42) && decide (pa % 2 ^ 42 < apFifo)) = true ∧ apBte ≤ pa % 2 ^ 42 ∧ ¬apFifo ≤ pa % 2 ^ 42 ∧
    (pa % 2 ^ 42 - apBte) / 0x1000 = n ∧ pa % 2 ^ 42 % 0x1000 = port := by
  obtain ⟨hown, hoff, hport, hn⟩ := h
  have hle : apBte ≤ pa % 2 ^ 42 := by unfold apBte; omega
  have hlt : pa % 2 ^ 42 < apFifo := by unfold apFifo; omega
  refine ⟨by rw [State.local', hown, decide_eq_true hle, decide_eq_true hlt]; rfl, hle, Nat.not_le.2 hlt, ?_, ?_⟩
  · unfold apBte; omega
  · omega

/-! ### FIFOs and channels as they are written -/

@[simp] theorem State.fifo_setFifo_same (s : State) (f : Nat) (q : EFifo) : (s.setFifo f q).fifo f = q := by
  rw [State.fifo, kgetD, State.setFifo, kget_kset_same]; rfl

theorem State.fifo_setFifo_other (s : State) {f g : Nat} (q : EFifo) (h : g ≠ f) : (s.setFifo f q).fifo g = s.fifo g := by
  rw [State.fifo, kgetD, State.setFifo, kget_kset_other _ _ h]; rfl

@[simp] theorem State.channel_setChannel_same (s : State) (n : Nat) (c : Channel) : (s.setChannel n c).channel n = c := by
  rw [State.channel, kgetD, State.setChannel, kget_kset_same]; rfl

theorem State.channel_setChannel_other (s : State) {n g : Nat} (c : Channel) (h : g ≠ n) : (s.setChannel n c).channel g = s.channel g := by
  rw [State.channel, kgetD, State.setChannel, kget_kset_other _ _ h]; rfl

theorem State.setFifo_enginesOnly (s : State) (f : Nat) (q : EFifo) : Claims.EnginesOnly s (s.setFifo f q) := rfl
theorem State.setChannel_enginesOnly (s : State) (n : Nat) (c : Channel) : Claims.EnginesOnly s (s.setChannel n c) := rfl

/-! ### Answers at a port -/

section
variable {t : State}

theorem State.portAnswer_stored (hm : kget s.msgs rid = some m) (v : Nat) (ht : t.msgs = s.msgs) : t.portAnswer (.own rid) true (.done v) = t.ackMsg rid m 0 := by
  rw [← ht] at hm
  simp only [State.portAnswer, hm]; rfl

theorem State.portAnswer_loaded (hm : kget s.msgs rid = some m) (v : Nat) (ht : t.msgs = s.msgs) : t.portAnswer (.own rid) false (.done v) = t.answerMsg rid m v [] := by
  rw [← ht] at hm
  simp only [State.portAnswer, hm]; rfl

end

theorem State.portAnswer_nack (hm : kget s.msgs rid = some m) (write : Bool) : s.portAnswer (.own rid) write .nack = s.nackMsg rid m := by
  simp only [State.portAnswer, hm]

theorem State.serveFifo_idle (s : State) (f : Nat) (hpushes : (s.fifo f).pushes = []) (hpops : (s.fifo f).pops = []) : s.serveFifo f = s := by
  rw [State.serveFifo, hpushes, hpops]; rfl

theorem State.serveFifo_once (s : State) (f : Nat) (h : (s.fifo f).pushes.length + (s.fifo f).pops.length = 1) : s.serveFifo f = (s.fifoStep f).getD s := by
  rw [State.serveFifo, h, State.fifoSteps]
  cases s.fifoStep f <;> rfl

theorem State.serveChannel_idle (s : State) (n : Nat) (h : (s.channel n).pending = []) : s.serveChannel n = s := by
  rw [State.serveChannel, h]; rfl

theorem State.serveChannel_once (s : State) (n : Nat) (h : (s.channel n).pending.length = 1) : s.serveChannel n = (s.channelStep n).getD s := by
  rw [State.serveChannel, h, State.channelSteps]
  cases s.channelStep n <;> rfl

/-! ### What waits at a port -/

section
variable {t : State} {r : HomeReq} {rest : List HomeReq} {ctx : Nat} {v : Word}

theorem State.fifoStep_room (hq : t.fifo f = q) (hpushes : q.pushes = r :: rest) (hreq : t.portReq r = some (ctx, v)) (hen : q.en = true) (hctx : q.ctx = ctx)
    (hroom : q.items.length < 64) : t.fifoStep f = some ((t.setFifo f { q with pushes := rest, items := q.items ++ [v] }).portAnswer r true (.done 0)) := by
  have hgo : (!q.en || q.ctx != ctx) = false := by simp [hen, hctx]
  simp only [State.fifoStep, hq, hpushes, hreq, hgo, hroom, Bool.false_eq_true, if_false, if_true]

theorem State.fifoStep_full (hq : t.fifo f = q) (hpushes : q.pushes = r :: rest) (hreq : t.portReq r = some (ctx, v)) (hen : q.en = true) (hctx : q.ctx = ctx)
    (hfull : 64 ≤ q.items.length) (hpops : q.pops = []) : t.fifoStep f = none := by
  have hgo : (!q.en || q.ctx != ctx) = false := by simp [hen, hctx]
  simp only [State.fifoStep, State.fifoPopStep, hq, hpushes, hreq, hgo, Nat.not_lt.2 hfull, hpops, Bool.false_eq_true, if_false]

theorem State.fifoStep_head {l : List Word} (hq : t.fifo f = q) (hpushes : q.pushes = []) (hpops : q.pops = r :: rest) (hreq : t.portReq r = some (ctx, v))
    (hen : q.en = true) (hctx : q.ctx = ctx) {w : Word} (hitems : q.items = w :: l) :
    t.fifoStep f = some ((t.setFifo f { q with pops := rest, items := l }).portAnswer r false (.done w.toNat)) := by
  have hgo : (!q.en || q.ctx != ctx) = false := by simp [hen, hctx]
  simp only [State.fifoStep, State.fifoPopStep, hq, hpushes, hpops, hreq, hgo, hitems, Bool.false_eq_true, if_false]

theorem State.fifoStep_empty (hq : t.fifo f = q) (hpushes : q.pushes = []) (hpops : q.pops = r :: rest) (hreq : t.portReq r = some (ctx, v))
    (hen : q.en = true) (hctx : q.ctx = ctx) (hitems : q.items = []) : t.fifoStep f = none := by
  have hgo : (!q.en || q.ctx != ctx) = false := by simp [hen, hctx]
  simp only [State.fifoStep, State.fifoPopStep, hq, hpushes, hpops, hreq, hgo, hitems, Bool.false_eq_true, if_false]

theorem State.channelStep_room (hc : t.channel n = c) (hpending : c.pending = r :: rest) (hreq : t.portReq r = some (ctx, v)) (hen : c.en = true)
    (hroom : c.queue.length < 16) :
    t.channelStep n = some ((t.setChannel n ({ c with pending := rest }.queued (pushOf ctx v.toNat none false))).portAnswer r true (.done 0)) := by
  simp only [State.channelStep, hc, hpending, hreq, hen, hroom, Bool.not_true, Bool.false_eq_true, if_false, if_true]

theorem State.channelStep_full (hc : t.channel n = c) (hpending : c.pending = r :: rest) (hreq : t.portReq r = some (ctx, v)) (hen : c.en = true)
    (hfull : 16 ≤ c.queue.length) : t.channelStep n = none := by
  simp only [State.channelStep, hc, hpending, hreq, hen, Nat.not_lt.2 hfull, Bool.not_true, Bool.false_eq_true, if_false]

end

/-! ### A push at a FIFO -/

theorem joinList_nil (r : HomeReq) : joinList [] r = [r] := rfl

/-- A request of a FIFO or channel that has been read. -/
theorem State.portReq_own (hm : kget s.msgs rid = some m) {v : Word} (hop : m.op = .push pa v) : s.portReq (.own rid) = some (m.ctx, v) := by
  rw [State.portReq, hm, Option.map_some, hop]

theorem State.fifoPush_refused (hq : q = s.fifo f) (hm : kget s.msgs rid = some m) (hbad : q.en = false ∨ q.ctx ≠ m.ctx ∨ port ≠ 0) :
    s.fifoPush m.ctx f port (.own rid) = s.nackMsg rid m := by
  have hgo : (!(s.fifo f).en || (s.fifo f).ctx != m.ctx || port != 0) = true := by
    rw [← hq]; rcases hbad with h | h | h <;> simp [h]
  rw [State.fifoPush, if_pos hgo, State.portAnswer_nack hm]

section
variable (hq : q = s.fifo f) (hm : kget s.msgs rid = some m) (hen : q.en = true) (hctx : q.ctx = m.ctx) (hpushes : q.pushes = []) (hpops : q.pops = [])
include hq hen hctx hpushes

theorem State.fifoPush_served : s.fifoPush m.ctx f 0 (.own rid) = (s.setFifo f { q with pushes := [.own rid] }).serveFifo f := by
  have hgo : (!q.en || q.ctx != m.ctx || (0 : Nat) != 0) = false := by simp [hen, hctx]
  rw [State.fifoPush, ← hq, hgo, hpushes]; rfl

include hm hpops

theorem State.fifoPush_joins {v : Word} (hop : m.op = .push pa v) (hroom : q.items.length < 64) :
    ∃ t : State, s.fifoPush m.ctx f 0 (.own rid) = t.ackMsg rid m 0 ∧ t.fifo f = { q with items := q.items ++ [v] } ∧
      (∀ g, g ≠ f → t.fifo g = s.fifo g) ∧ Claims.EnginesOnly s t := by
  have hreq : (s.setFifo f { q with pushes := [.own rid] }).portReq (.own rid) = some (m.ctx, v) := State.portReq_own hm hop
  rw [State.fifoPush_served hq hen hctx hpushes, State.serveFifo_once _ _ (by rw [State.fifo_setFifo_same, hpops]; rfl),
    State.fifoStep_room (State.fifo_setFifo_same _ _ _) rfl hreq hen hctx hroom]
  refine ⟨_, State.portAnswer_stored hm 0 rfl, ?_, fun g hg => ?_, rfl⟩
  · rw [State.fifo_setFifo_same, ← hpushes]
  · rw [State.fifo_setFifo_other _ _ hg, State.fifo_setFifo_other _ _ hg]

theorem State.fifoPush_waits {v : Word} (hop : m.op = .push pa v) (hfull : 64 ≤ q.items.length) :
    s.fifoPush m.ctx f 0 (.own rid) = s.setFifo f { q with pushes := [.own rid] } := by
  have hreq : (s.setFifo f { q with pushes := [.own rid] }).portReq (.own rid) = some (m.ctx, v) := State.portReq_own hm hop
  rw [State.fifoPush_served hq hen hctx hpushes, State.serveFifo_once _ _ (by rw [State.fifo_setFifo_same, hpops]; rfl),
    State.fifoStep_full (State.fifo_setFifo_same _ _ _) rfl hreq hen hctx hfull hpops]
  rfl

end

/-! ### A pop at a FIFO -/

theorem State.portReq_pope (f : Nat) (q : EFifo) (hm : kget s.msgs rid = some m) : ∃ v, (s.setFifo f { q with pops := [.own rid] }).portReq (.own rid) = some (m.ctx, v) := by
  simp only [State.portReq]
  exact ⟨_, congrArg _ hm⟩

theorem State.fifoLoad_refused (hq : q = s.fifo f) {ctx : Nat} (hbad : q.en = false ∨ q.ctx ≠ ctx) : s.fifoLoad ctx f port = (.nack, s) := by
  have hgo : (!(s.fifo f).en || (s.fifo f).ctx != ctx) = true := by
    rw [← hq]; rcases hbad with h | h <;> simp [h]
  rw [State.fifoLoad, if_pos hgo]

theorem State.fifoPope_refused (hq : q = s.fifo f) (hm : kget s.msgs rid = some m) (nw : Bool) (hbad : q.en = false ∨ q.ctx ≠ m.ctx) :
    s.fifoPope m.ctx f port nw (.own rid) = s.nackMsg rid m := by
  have hgo : (!(s.fifo f).en || (s.fifo f).ctx != m.ctx || port != 8) = true := by
    rw [← hq]; rcases hbad with h | h <;> simp [h]
  rw [State.fifoPope, if_pos hgo, State.portAnswer_nack hm]

section
variable (hq : q = s.fifo f) (hen : q.en = true) {ctx : Nat} (hctx : q.ctx = ctx)
include hq hen hctx

theorem State.fifoLoad_head {v : Word} {l : List Word} (hitems : q.items = v :: l) (hpushes : q.pushes = []) (hpops : q.pops = []) :
    s.fifoLoad ctx f 8 = (.done v.toNat, s.setFifo f { q with items := l }) := by
  have hgo : (!q.en || q.ctx != ctx) = false := by simp [hen, hctx]
  rw [State.fifoLoad, ← hq, hgo]
  simp only [Bool.false_eq_true, if_false, if_true, hitems]
  rw [State.serveFifo_idle _ _ (by rw [State.fifo_setFifo_same]; exact hpushes) (by rw [State.fifo_setFifo_same]; exact hpops)]

theorem State.fifoLoad_empty (hitems : q.items = []) : s.fifoLoad ctx f 8 = (.done 0, s) := by
  have hgo : (!q.en || q.ctx != ctx) = false := by simp [hen, hctx]
  rw [State.fifoLoad, ← hq, hgo]
  simp only [Bool.false_eq_true, if_false, if_true, hitems]

theorem State.fifoLoad_count : s.fifoLoad ctx f 16 = (.done q.items.length, s) := by
  have hgo : (!q.en || q.ctx != ctx) = false := by simp [hen, hctx]
  rw [State.fifoLoad, ← hq, hgo]
  rfl

theorem State.fifoPope_now (r : HomeReq) : s.fifoPope ctx f 8 true r = (s.fifoLoad ctx f 8).2.portAnswer r false (s.fifoLoad ctx f 8).1 := by
  have hgo : (!q.en || q.ctx != ctx || (8 : Nat) != 8) = false := by simp [hen, hctx]
  rw [State.fifoPope, ← hq, hgo]
  rfl

theorem State.fifoPope_served (hpops : q.pops = []) (r : HomeReq) : s.fifoPope ctx f 8 false r = (s.setFifo f { q with pops := [r] }).serveFifo f := by
  have hgo : (!q.en || q.ctx != ctx || (8 : Nat) != 8) = false := by simp [hen, hctx]
  rw [State.fifoPope, ← hq, hgo, hpops]
  rfl

end

section
variable (hq : q = s.fifo f) (hm : kget s.msgs rid = some m) (hen : q.en = true) (hctx : q.ctx = m.ctx) (hpushes : q.pushes = []) (hpops : q.pops = [])
include hq hm hen hctx hpushes hpops

theorem State.fifoPope_head {v : Word} {l : List Word} (hitems : q.items = v :: l) : ∃ t : State, s.fifoPope m.ctx f 8 false (.own rid) = t.answerMsg rid m v.toNat [] ∧
    t.fifo f = { q with items := l } ∧ Claims.EnginesOnly s t := by
  obtain ⟨w, hreq⟩ := State.portReq_pope f q hm
  rw [State.fifoPope_served hq hen hctx hpops, State.serveFifo_once _ _ (by rw [State.fifo_setFifo_same, hpushes]; rfl),
    State.fifoStep_head (q := { q with pops := [.own rid] }) (State.fifo_setFifo_same _ _ _) hpushes rfl hreq hen hctx hitems]
  refine ⟨_, State.portAnswer_loaded hm v.toNat rfl, ?_, rfl⟩
  rw [State.fifo_setFifo_same, ← hpops]

theorem State.fifoPope_waits (hitems : q.items = []) : s.fifoPope m.ctx f 8 false (.own rid) = s.setFifo f { q with pops := [.own rid] } := by
  obtain ⟨w, hreq⟩ := State.portReq_pope f q hm
  rw [State.fifoPope_served hq hen hctx hpops, State.serveFifo_once _ _ (by rw [State.fifo_setFifo_same, hpushes]; rfl),
    State.fifoStep_empty (q := { q with pops := [.own rid] }) (State.fifo_setFifo_same _ _ _) hpushes rfl hreq hen hctx hitems]
  rfl

end

/-! ### The steps of the FIFOs -/

theorem execFifoPush_eq (hdue : Claims.Due s rid m) (hat : Claims.AtFifo s pa f port) {v : Word} (hop : m.op = .push pa v) :
    execFifoPush rid s = .next (s.fifoPush m.ctx f port (.own rid)) := by
  obtain ⟨hgo, hle, hunit, hport⟩ := atFifo_place hat
  have hready : s.ready rid = some m := hdue
  simp only [execFifoPush, hready, hop]
  rw [if_pos hgo]
  simp only [State.portStore, hle, if_true, hunit, hport]

theorem execFifoPop_pope (hdue : Claims.Due s rid m) (hat : Claims.AtFifo s pa f port) {nw : Bool} (hop : m.op = .pop pa nw true) :
    execFifoPop rid s = .next (s.fifoPope m.ctx f port nw (.own rid)) := by
  obtain ⟨hgo, hle, hunit, hport⟩ := atFifo_place hat
  have hready : s.ready rid = some m := hdue
  simp only [execFifoPop, hready, hop]
  rw [if_pos hgo]
  simp only [State.portPope, hle, if_true, hunit, hport]

theorem execFifoPop_load (hdue : Claims.Due s rid m) (hat : Claims.AtFifo s pa f port) {nw : Bool} (hop : m.op = .pop pa nw false) :
    execFifoPop rid s = .next ((s.fifoLoad m.ctx f port).2.portAnswer (.own rid) false (s.fifoLoad m.ctx f port).1) := by
  obtain ⟨hgo, hle, hunit, hport⟩ := atFifo_place hat
  have hready : s.ready rid = some m := hdue
  simp only [execFifoPop, hready, hop]
  rw [if_pos hgo]
  simp only [Bool.false_eq_true, if_false, State.portLoad, hle, if_true, hunit, hport]

theorem execChannelPush_eq (hdue : Claims.Due s rid m) (hat : Claims.AtChannel s pa n 0) {v : Word} (hop : m.op = .push pa v) :
    execChannelPush rid s = .next (s.chanPush n 0 (.own rid)) := by
  obtain ⟨hgo, hle, hfifo, hunit, hport⟩ := atChannel_place hat
  have hready : s.ready rid = some m := hdue
  simp only [execChannelPush, hready, hop]
  rw [if_pos hgo]
  simp only [State.portStore, if_neg hfifo, hle, if_true, hunit, hport]

/-- FIFOs: a push and a pop. -/
theorem fifoSteps (s : State) (rid pa f port : Nat) (m : Msg) (q : EFifo) (hdue : Claims.Due s rid m) (hat : Claims.AtFifo s pa f port) (hq : q = s.fifo f) :
    (∀ v, m.op = .push pa v → q.en = true → q.ctx = m.ctx → port = 0 → q.pushes = [] → q.pops = [] →
      (q.items.length < 64 → ∃ t : State, exec (.fifoPush rid) s = .next (t.ackMsg rid m 0) ∧ t.fifo f = { q with items := q.items ++ [v] } ∧
        (∀ g, g ≠ f → t.fifo g = s.fifo g) ∧ Claims.EnginesOnly s t) ∧
      (64 ≤ q.items.length → exec (.fifoPush rid) s = .next (s.setFifo f { q with pushes := [.own rid] }))) ∧
    (∀ v, m.op = .push pa v → (q.en = false ∨ q.ctx ≠ m.ctx ∨ port ≠ 0) → exec (.fifoPush rid) s = .next (s.nackMsg rid m)) ∧
    (∀ nw pope, m.op = .pop pa nw pope → q.en = true → q.ctx = m.ctx → q.pushes = [] → q.pops = [] →
      (∀ v l, port = 8 → q.items = v :: l → ∃ t : State, exec (.fifoPop rid) s = .next (t.answerMsg rid m v.toNat []) ∧
        t.fifo f = { q with items := l } ∧ Claims.EnginesOnly s t) ∧
      (port = 8 → q.items = [] → (nw = true ∨ pope = false) → exec (.fifoPop rid) s = .next (s.answerMsg rid m 0 [])) ∧
      (port = 8 → q.items = [] → nw = false → pope = true → exec (.fifoPop rid) s = .next (s.setFifo f { q with pops := [.own rid] })) ∧
      (port = 16 → pope = false → exec (.fifoPop rid) s = .next (s.answerMsg rid m q.items.length []))) ∧
    (∀ nw pope, m.op = .pop pa nw pope → (q.en = false ∨ q.ctx ≠ m.ctx) → exec (.fifoPop rid) s = .next (s.nackMsg rid m)) := by
  have hm : kget s.msgs rid = some m := State.kget_of_ready hdue
  refine ⟨fun v hop hen hctx hport hpushes hpops => ?_, fun v hop hbad => ?_, fun nw pope hop hen hctx hpushes hpops => ⟨fun v l hport hitems => ?_,
    fun hport hitems hnow => ?_, fun hport hitems hnw hpope => ?_, fun hport hpope => ?_⟩, fun nw pope hop hbad => ?_⟩
  · subst hport
    have hexec : exec (.fifoPush rid) s = _ := execFifoPush_eq hdue hat hop
    rw [hexec]
    refine ⟨fun hroom => ?_, fun hfull => ?_⟩
    · obtain ⟨t, ht, hfifo, hothers, honly⟩ := State.fifoPush_joins hq hm hen hctx hpushes hpops hop hroom
      exact ⟨t, congrArg Host.Outcome.next ht, hfifo, hothers, honly⟩
    · rw [State.fifoPush_waits hq hm hen hctx hpushes hpops hop hfull]
  · have hexec : exec (.fifoPush rid) s = _ := execFifoPush_eq hdue hat hop
    rw [hexec, State.fifoPush_refused hq hm hbad]
  · subst hport
    have hload := State.fifoLoad_head hq hen hctx hitems hpushes hpops
    have htaken : (s.setFifo f { q with items := l }).portAnswer (.own rid) false (.done v.toNat) = _ := State.portAnswer_loaded hm v.toNat rfl
    cases pope with
    | false =>
      have hexec : exec (.fifoPop rid) s = _ := execFifoPop_load hdue hat hop
      rw [hexec, hload, htaken]
      exact ⟨_, rfl, State.fifo_setFifo_same _ _ _, rfl⟩
    | true =>
      have hexec : exec (.fifoPop rid) s = _ := execFifoPop_pope hdue hat hop
      rw [hexec]
      cases nw with
      | true =>
        rw [State.fifoPope_now hq hen hctx, hload, htaken]
        exact ⟨_, rfl, State.fifo_setFifo_same _ _ _, rfl⟩
      | false =>
        obtain ⟨t, ht, hfifo, honly⟩ := State.fifoPope_head hq hm hen hctx hpushes hpops hitems
        exact ⟨t, congrArg Host.Outcome.next ht, hfifo, honly⟩
  · subst hport
    have hload := State.fifoLoad_empty hq hen hctx hitems
    cases pope with
    | false =>
      have hexec : exec (.fifoPop rid) s = _ := execFifoPop_load hdue hat hop
      rw [hexec, hload, State.portAnswer_loaded hm 0 rfl]
    | true =>
      obtain rfl : nw = true := hnow.resolve_right (by decide)
      have hexec : exec (.fifoPop rid) s = _ := execFifoPop_pope hdue hat hop
      rw [hexec, State.fifoPope_now hq hen hctx, hload, State.portAnswer_loaded hm 0 rfl]
  · subst hport hnw hpope
    have hexec : exec (.fifoPop rid) s = _ := execFifoPop_pope hdue hat hop
    rw [hexec, State.fifoPope_waits hq hm hen hctx hpushes hpops hitems]
  · subst hport hpope
    have hexec : exec (.fifoPop rid) s = _ := execFifoPop_load hdue hat hop
    rw [hexec, State.fifoLoad_count hq hen hctx, State.portAnswer_loaded hm q.items.length rfl]
  · cases pope with
    | false =>
      have hexec : exec (.fifoPop rid) s = _ := execFifoPop_load hdue hat hop
      rw [hexec, State.fifoLoad_refused hq hbad, State.portAnswer_nack hm]
    | true =>
      have hexec : exec (.fifoPop rid) s = _ := execFifoPop_pope hdue hat hop
      rw [hexec, State.fifoPope_refused hq hm nw hbad]

/-! ### The queues of the channels -/

theorem pushOf_eq (ctx : Nat) (v : Word) : pushOf ctx v.toNat none false = { arg := v.toNat / 2 ^ 16, template := v.toNat % 2 ^ 16, ctx := ctx, task := none } := by
  have hlt : v.toNat / 2 ^ 16 % 2 ^ 48 = v.toNat / 2 ^ 16 := by have := v.isLt; omega
  rw [pushOf, hlt]

/-- Channels: a push joins the queue, waits or is refused. -/
theorem channelPushes (s : State) (rid pa n : Nat) (m : Msg) (v : Word) (c : Channel) (hdue : Claims.Due s rid m) (hat : Claims.AtChannel s pa n 0)
    (hop : m.op = .push pa v) (hc : c = s.channel n) (hpending : c.pending = []) :
    (c.en = true → c.queue.length < 16 → ∃ t : State, exec (.channelPush rid) s = .next (t.ackMsg rid m 0) ∧ t.channel n = { c with
        queue := c.queue ++ [{ arg := v.toNat / 2 ^ 16, template := v.toNat % 2 ^ 16, ctx := m.ctx, task := none }]
        state := if c.state = .idle then .ready else c.state } ∧ Claims.EnginesOnly s t) ∧
    (c.en = true → 16 ≤ c.queue.length → exec (.channelPush rid) s = .next (s.setChannel n { c with pending := [.own rid] })) ∧
    (c.en = false → exec (.channelPush rid) s = .next (s.nackMsg rid m)) := by
  have hm : kget s.msgs rid = some m := State.kget_of_ready hdue
  have hexec : exec (.channelPush rid) s = _ := execChannelPush_eq hdue hat hop
  have hserved (hen : c.en = true) : s.chanPush n 0 (.own rid) = (s.setChannel n { c with pending := [.own rid] }).serveChannel n := by
    have hgo : (!c.en || (0 : Nat) != 0) = false := by simp [hen]
    rw [State.chanPush, ← hc, hgo, hpending]; rfl
  have hreq : (s.setChannel n { c with pending := [.own rid] }).portReq (.own rid) = some (m.ctx, v) := State.portReq_own hm hop
  rw [hexec]
  refine ⟨fun hen hroom => ?_, fun hen hfull => ?_, fun hen => ?_⟩
  · rw [hserved hen, State.serveChannel_once _ _ (by rw [State.channel_setChannel_same]; rfl),
      State.channelStep_room (State.channel_setChannel_same _ _ _) rfl hreq hen hroom]
    refine ⟨_, congrArg Host.Outcome.next (State.portAnswer_stored hm 0 rfl), ?_, rfl⟩
    rw [State.channel_setChannel_same, pushOf_eq, ← hpending]
    rfl
  · rw [hserved hen, State.serveChannel_once _ _ (by rw [State.channel_setChannel_same]; rfl),
      State.channelStep_full (State.channel_setChannel_same _ _ _) rfl hreq hen hfull]
    rfl
  · have hgo : (!c.en || (0 : Nat) != 0) = true := by simp [hen]
    rw [State.chanPush, ← hc, if_pos hgo, State.portAnswer_nack hm]

end

end Sys2Proof.Machine
end

section
/-!
Control of the channels, and copy tasks (13 R272, R277, R278, R280).
-/

namespace Sys2Proof.Machine

section
variable (s : State)

/-! ### What an answer leaves of the engines, memory and the task pool -/

/-- The engines, memory and the task pool. -/
def State.works (s : State) : Engines × Memory × Pool := (s.en, s.mem, s.pl)

theorem State.works_eq {s t : State} (h : t.works = s.works) : t.en = s.en ∧ t.mem = s.mem ∧ t.pl = s.pl := by
  rw [State.works, State.works, Prod.mk.injEq, Prod.mk.injEq] at h; exact h

theorem State.out_works (x : OutItem) : (s.out x).works = s.works := by
  rcases s.out_cases x with ⟨p, m, n, -, h⟩ | h <;> rw [h] <;> rfl

theorem State.lateFor_works (sid : Option Nat) (f : LateFault) (count : Bool) : (s.lateFor sid f count).works = s.works := by
  have horphan (t : State) : (t.orphaned count).works = t.works := by unfold State.orphaned; split <;> rfl
  unfold State.lateFor
  split
  · split
    · simp only [State.modHeld]; split <;> rfl
    · split
      · rfl
      · exact horphan s
  · exact horphan s

theorem State.nackMsg_works (rid : Nat) (m : Msg) : (s.nackMsg rid m).works = s.works := by
  simp only [State.nackMsg]
  split
  · rfl
  · split
    · rfl
    · exact (State.lateFor_works _ _ _ _).trans rfl

theorem State.portAnswer_refusal_works (q : HomeReq) (write : Bool) : (s.portAnswer q write .nack).works = s.works := by
  unfold State.portAnswer
  split
  · split
    · next h => cases h
    · exact s.nackMsg_works _ _
    · rfl
  · exact s.out_works _

/-! ### Tasks that retire -/

/-- The tasks of pushes retire. -/
def State.retirePushes (s : State) (l : List ChPush) : State :=
  l.foldl (fun (s : State) (p : ChPush) => match p.task with | some i => s.retire i | none => s) s

theorem State.unloadEnd_works : s.unloadEnd.works = s.works := by
  simp only [State.unloadEnd]; split <;> rfl

theorem State.retire_engines (i : Nat) : (s.retire i).en = s.en ∧ (s.retire i).mem = s.mem ∧ (s.retire i).entry i = none ∧
    ∀ j, s.entry j = none → (s.retire i).entry j = none := by
  obtain ⟨pl, h, hgone, hkeep⟩ := s.emptyEntry_eq i
  obtain ⟨hen, hmem, hpl⟩ := State.works_eq (s.emptyEntry i).unloadEnd_works
  rw [h] at hen hmem hpl
  have hentry (j : Nat) : (s.retire i).entry j = kget pl.pool j := by
    rw [State.retire, h, State.entry, hpl]
  refine ⟨by rw [State.retire, h]; exact hen, by rw [State.retire, h]; exact hmem, (hentry i).trans hgone, fun j hj => (hentry j).trans ?_⟩
  by_cases heq : j = i
  · exact heq ▸ hgone
  · exact (hkeep j heq).trans hj

theorem State.retirePush_engines (p : ChPush) : (s.retirePushes [p]).en = s.en ∧ (s.retirePushes [p]).mem = s.mem ∧
    (∀ i, p.task = some i → (s.retirePushes [p]).entry i = none) ∧ ∀ j, s.entry j = none → (s.retirePushes [p]).entry j = none := by
  have hone : s.retirePushes [p] = match p.task with | some i => s.retire i | none => s := rfl
  cases htask : p.task with
  | none => rw [hone, htask]; exact ⟨rfl, rfl, fun i hi => (nomatch hi), fun j hj => hj⟩
  | some i =>
    rw [hone, htask]
    obtain ⟨hen, hmem, hgone, hkeep⟩ := s.retire_engines i
    exact ⟨hen, hmem, fun j hj => (Option.some.inj hj) ▸ hgone, hkeep⟩

theorem State.retirePushes_engines (l : List ChPush) (s : State) : (s.retirePushes l).en = s.en ∧ (s.retirePushes l).mem = s.mem ∧
    (∀ p i, p ∈ l → p.task = some i → (s.retirePushes l).entry i = none) ∧ ∀ j, s.entry j = none → (s.retirePushes l).entry j = none := by
  induction l generalizing s with
  | nil => exact ⟨rfl, rfl, fun p i hp => absurd hp List.not_mem_nil, fun j hj => hj⟩
  | cons p l ih =>
    obtain ⟨hen, hmem, hgone, hkeep⟩ := s.retirePush_engines p
    obtain ⟨hen', hmem', hgone', hkeep'⟩ := ih (s.retirePushes [p])
    refine ⟨hen'.trans hen, hmem'.trans hmem, fun q i hq htask => ?_, fun j hj => hkeep' j (hkeep j hj)⟩
    rcases List.mem_cons.1 hq with rfl | hq
    · exact hkeep' i (hgone i htask)
    · exact hgone' q i hq htask

/-! ### Channels that stop -/

/-- A channel that has stopped. -/
def Channel.stopped (c : Channel) : Channel :=
  { c with state := .idle, queue := [], cur := none, tmpl := none, moved := 0, pending := []
           row := [], rowAt := 0, under := 0, fail := 0, ue := {}, writes := [], await := none, opened := false }

theorem State.stopChannel_engines (n : Nat) {c : Channel} (hc : c = s.channel n) : ((s.stopChannel n).channel n = c.stopped ∧
    (s.stopChannel n).mem = s.mem ∧ ∀ g, g ≠ n → (s.stopChannel n).channel g = s.channel g) ∧
    ∀ p i, p ∈ c.queue → p.task = some i → (s.stopChannel n).entry i = none := by
  subst hc
  obtain ⟨t, ht, hstop⟩ : ∃ t : State, t.works = (s.setChannel n (s.channel n).stopped).works ∧
      s.stopChannel n = t.retirePushes ((match (s.channel n).cur with | some p => [p] | none => []) ++ (s.channel n).queue) :=
    ⟨(s.channel n).pending.foldl (fun (s : State) q => s.portAnswer q true .nack) (({ s.dropEngine (0x1000 + n) with
        deps := (s.dropEngine (0x1000 + n)).deps.filter (fun (p : Nat × Dep) => !(s.channel n).writes.contains p.1) } : State).setChannel n (s.channel n).stopped),
      (foldl_keeps State.works (fun t q => t.portAnswer_refusal_works q true) _ _).trans rfl, rfl⟩
  obtain ⟨hen, hmem, -⟩ := State.works_eq ht
  obtain ⟨hen', hmem', hgone, -⟩ := State.retirePushes_engines ((match (s.channel n).cur with | some p => [p] | none => []) ++ (s.channel n).queue) t
  rw [← hstop] at hen' hmem' hgone
  have hchannel (g : Nat) : (s.stopChannel n).channel g = (s.setChannel n (s.channel n).stopped).channel g := by
    rw [State.channel, hen', hen]; rfl
  refine ⟨⟨?_, hmem'.trans hmem, fun g hg => ?_⟩, fun p i hp htask => hgone p i (List.mem_append_right _ hp) htask⟩
  · rw [hchannel, State.channel_setChannel_same]
  · rw [hchannel, State.channel_setChannel_other _ _ hg]

/-! ### The commands of a channel -/

theorem execBteChannelDisable_steps (n : Nat) {c : Channel} (hc : c = s.channel n) (hen : c.en = true) : ∃ t : State, execBteChannelDisable n s = .next t ∧
    (t.channel n).en = false ∧ (t.channel n).queue = [] ∧ (t.channel n).cur = none ∧ (t.channel n).doneCnt = c.doneCnt ∧ t.mem = s.mem ∧
    (∀ g, g ≠ n → t.channel g = s.channel g) ∧ ∀ p i, p ∈ c.queue → p.task = some i → t.entry i = none := by
  obtain ⟨⟨hchannel, hmem, hothers⟩, hgone⟩ := s.stopChannel_engines n hc
  refine ⟨(s.stopChannel n).setChannel n { (s.stopChannel n).channel n with en := false }, ?_, ?_⟩
  · rw [execBteChannelDisable, if_pos (by rw [← hc]; exact hen)]
  · rw [State.channel_setChannel_same, hchannel]
    exact ⟨rfl, rfl, rfl, rfl, hmem, fun g hg => (State.channel_setChannel_other _ _ hg).trans (hothers g hg), hgone⟩

theorem execFlush_steps (n : Nat) {c : Channel} (hc : c = s.channel n) (hen : c.en = true) (hpending : c.pending = []) {kept : Nat}
    (hkept : kept = (if c.state = .ready then 1 else 0)) : ∃ t : State, execFlush n s = .next t ∧
    t.channel n = { c with queue := c.queue.take kept, state := if c.state = .error then .idle else c.state } ∧ t.mem = s.mem ∧
    ∀ p i, p ∈ c.queue.drop kept → p.task = some i → t.entry i = none := by
  obtain ⟨hen', hmem, hgone, -⟩ := State.retirePushes_engines (c.queue.drop kept)
    (s.setChannel n { c with queue := c.queue.take kept, state := if c.state = .error then .idle else c.state })
  have hchannel : ((s.setChannel n { c with queue := c.queue.take kept, state := if c.state = .error then .idle else c.state }).retirePushes (c.queue.drop kept)).channel n =
      { c with queue := c.queue.take kept, state := if c.state = .error then .idle else c.state } := by
    rw [State.channel, hen']; exact State.channel_setChannel_same _ _ _
  refine ⟨_, ?_, hchannel, hmem, hgone⟩
  have hstep : execFlush n s = .next (((s.setChannel n { c with queue := c.queue.take kept, state := if c.state = .error then .idle else c.state }).retirePushes
      (c.queue.drop kept)).serveChannel n) := by
    rw [execFlush, ← hc, if_neg (by rw [hen]; decide), ← hkept]; rfl
  rw [hstep, State.serveChannel_idle _ _ (by rw [hchannel]; exact hpending)]

/-! ### Copy tasks (13 R278) -/

theorem recParam_lt (r : Nat) : recParam r < 2 ^ 64 := Nat.mod_lt _ (by decide)

/-- The push of a copy task's record. -/
theorem pushOf_record (ctx r : Nat) (task : Option Nat) (replay : Bool) : pushOf ctx (recParam r / 2 ^ 16 * 2 ^ 16 + bitsOf 95 80 r) task replay =
    { arg := recParam r / 2 ^ 16, template := recWord r 1 / 2 ^ 16 % 2 ^ 16, ctx := ctx, task := task, replay := replay } := by
  have hbits : bitsOf 95 80 r = recWord r 1 / 2 ^ 16 % 2 ^ 16 := by
    simp only [bitsOf_shifted, recWord, Nat.shiftRight_eq_div_pow]; omega
  have hparam := recParam_lt r
  have hlt : bitsOf 95 80 r < 2 ^ 16 := hbits ▸ Nat.mod_lt _ (by decide)
  have harg : (recParam r / 2 ^ 16 * 2 ^ 16 + bitsOf 95 80 r) / 2 ^ 16 % 2 ^ 48 = recParam r / 2 ^ 16 := by omega
  have htemplate : (recParam r / 2 ^ 16 * 2 ^ 16 + bitsOf 95 80 r) % 2 ^ 16 = recWord r 1 / 2 ^ 16 % 2 ^ 16 := by omega
  rw [pushOf, harg, htemplate]

theorem execCopyTaskDispatch_steps (n : Nat) {c : Channel} (hc : c = s.channel n) {i : Nat} {e : PoolEntry} (hd : s.mayDispatch i = some e)
    (hkind : recKind e.record = 3) (hn : n = recWord e.record 1 % 64) :
    ∃ t : State, execCopyTaskDispatch i s = .next t ∧ t.entry i = some { e with state := .running } ∧ (t.channel n).queue = c.queue ++ [{
      arg := recParam e.record / 2 ^ 16, template := recWord e.record 1 / 2 ^ 16 % 2 ^ 16, ctx := e.ctx, task := some i, replay := e.replay }] := by
  have hunit : bitsOf 69 64 e.record = n := by
    rw [hn]; simp only [bitsOf_shifted, recWord, Nat.shiftRight_eq_div_pow]; omega
  obtain ⟨t, ht⟩ : ∃ t : State, t = s.setChannel n (c.queued (pushOf e.ctx (recParam e.record / 2 ^ 16 * 2 ^ 16 + bitsOf 95 80 e.record) (some i) e.replay)) := ⟨_, rfl⟩
  have hentry : t.entry i = some e := by rw [ht]; exact (State.mayDispatch_entry hd :)
  obtain ⟨pl, hdeal, hpool⟩ := State.deal_eq hentry
  refine ⟨{ t with pl := pl }, ?_, hpool, ?_⟩
  · rw [← hdeal, ht]
    simp only [execCopyTaskDispatch, hd, hkind, if_true, hunit, ← hc]
  · show (t.channel n).queue = _
    rw [ht, State.channel_setChannel_same, pushOf_record]
    rfl

/-- The commands of FIFOs and channels, and the log. -/
theorem channelCommands (n : Nat) (v : Word) (c : Channel) (hc : c = s.channel n) :
    ((s.fifo n).pushes = [] → (s.fifo n).pops = [] → exec (.fifoConfigWrite n v) s = .next (s.setFifo n { s.fifo n with
      en := v.getLsbD 63, ctx := v.toNat % 16, items := if v.getLsbD 63 then (s.fifo n).items else [] })) ∧
    (c.en = false → exec (.bteChannelEnable n) s = .next (s.setChannel n { c with en := true, state := .idle })) ∧
    (c.en = true → ∃ t : State, exec (.bteChannelDisable n) s = .next t ∧ (t.channel n).en = false ∧ (t.channel n).queue = [] ∧ (t.channel n).cur = none ∧
      (t.channel n).doneCnt = c.doneCnt ∧ t.mem = s.mem ∧ (∀ g, g ≠ n → t.channel g = s.channel g) ∧
      ∀ p i, p ∈ c.queue → p.task = some i → t.entry i = none) ∧
    (∀ kept, c.en = true → c.pending = [] → kept = (if c.state = .ready then 1 else 0) → ∃ t : State, exec (.flush n) s = .next t ∧
      t.channel n = { c with queue := c.queue.take kept, state := if c.state = .error then .idle else c.state } ∧ t.mem = s.mem ∧
      ∀ p i, p ∈ c.queue.drop kept → p.task = some i → t.entry i = none) ∧
    (c.en = true → c.state = .error → exec (.resume n) s = .next (s.setChannel n { c with state := if c.queue = [] then .idle else .ready })) ∧
    exec .elogPop s = .next { s with en := { s.en with elog := s.en.elog.drop 1 } } ∧
    (∀ i e, s.mayDispatch i = some e → recKind e.record = 3 → n = recWord e.record 1 % 64 →
      ∃ t : State, exec (.copyTaskDispatch i) s = .next t ∧ t.entry i = some { e with state := .running } ∧ (t.channel n).queue = c.queue ++ [{
        arg := recParam e.record / 2 ^ 16, template := recWord e.record 1 / 2 ^ 16 % 2 ^ 16, ctx := e.ctx, task := some i, replay := e.replay }]) := by
  refine ⟨fun hpushes hpops => ?_, fun hen => ?_, fun hen => ?_, fun kept hen hpending hkept => ?_, fun hen hstate => ?_, rfl, fun i e hd hkind hn => ?_⟩
  · show execFifoConfigWrite n v s = _
    rw [execFifoConfigWrite, State.serveFifo_idle _ _ (by rw [State.fifo_setFifo_same]; exact hpushes) (by rw [State.fifo_setFifo_same]; exact hpops)]
    rfl
  · show execBteChannelEnable n s = _
    rw [execBteChannelEnable, ← hc, hen]; rfl
  · exact execBteChannelDisable_steps s n hc hen
  · exact execFlush_steps s n hc hen hpending hkept
  · show execResume n s = _
    rw [execResume, ← hc, if_pos ⟨hen, hstate⟩]
  · exact execCopyTaskDispatch_steps s n hc hd hkind hn

end

end Sys2Proof.Machine
end

section
/-!
Memory as a unit of the die reaches it: what a read leaves, and a read and a write of one line on this die (08 R165, R166, R169, R170).
-/

namespace Sys2Proof.Machine

section
variable (s : State)

/-! ### A read leaves the engines, memory and the task pool -/

theorem PagingFrame.works {s t : State} (h : PagingFrame s t) : t.works = s.works := by rw [h.eq]; rfl

theorem State.keepOne_works {α : Type} [DecidableEq α] (l set : List α) (n : Nat) (q : α) : (s.keepOne l set n q).2.works = s.works := by
  simp only [State.keepOne]
  split
  · rfl
  · split <;> rfl

theorem State.cacheWalk_works (got : KMap Word) (ctx va : Nat) : (s.cacheWalk got ctx va).works = s.works := by
  refine foldl_keeps State.works (fun t p => ?_) _ s
  dsimp only
  split
  · rfl
  · exact State.keepOne_works (α := WEntry) t _ _ _ _

theorem State.unitPage_works (src ctx va : Nat) : (s.unitPage src ctx va).2.works = s.works := by
  unfold State.unitPage
  split
  · rfl
  · split
    · split
      · rfl
      · exact ((State.tlbFill_pagingFrame _ _ _).works).trans (s.cacheWalk_works _ _ _)
    · rfl

theorem State.hold_works (src ctx va code kind : Nat) : (s.hold src ctx va code kind).works = s.works := by
  simp only [State.hold]
  split
  · rfl
  · unfold State.faultRecord
    repeat' split
    all_goals rfl

theorem State.engWalk_works (src ctx va kind : Nat) : (s.engWalk src ctx va kind).works = s.works := by
  unfold State.engWalk
  split
  · rfl
  · unfold State.startWalk; split <;> rfl

theorem State.engLocate_works (src ctx va n : Nat) (a : Access) (kind : Nat) (ph : Bool) : (s.engLocate src ctx va n a kind ph).2.works = s.works := by
  have hpage := s.unitPage_works src ctx va
  unfold State.engLocate
  split
  · rfl
  · split
    · next h => rw [h] at hpage; exact (State.hold_works _ _ _ _ _ _).trans hpage
    · next h => rw [h] at hpage; exact (State.engWalk_works _ _ _ _ _).trans hpage
    · next h => rw [h] at hpage; exact hpage
    · next h =>
      rw [h] at hpage
      dsimp only
      split
      · split
        · exact (State.hold_works _ _ _ _ _ _).trans hpage
        · exact hpage
      · exact (State.hold_works _ _ _ _ _ _).trans hpage
      · split <;> exact hpage

theorem State.engFetch_works (src ctx va pa n : Nat) (l : Word) : (s.engFetch src ctx va pa n l).2.works = s.works := by
  simp only [State.engFetch]
  repeat' split
  all_goals rfl

theorem foldl_works {α β : Type} {f : α × State → β → α × State} (hf : ∀ x p, (f x p).2.works = x.2.works) (l : List β) (x : α × State) :
    (l.foldl f x).2.works = x.2.works := by
  induction l generalizing x with
  | nil => rfl
  | cons p l ih => exact (ih _).trans (hf x p)

theorem State.engLines_works (src ctx kind : Nat) (a : Access) (ph : Bool) (ps : List (Nat × Nat)) : (s.engLines src ctx kind a ph ps).2.works = s.works := by
  refine foldl_works (fun x p => ?_) ps _
  split
  · next t =>
    have hlocate := State.engLocate_works t src ctx p.1 p.2 a kind ph
    split
    · next h =>
      rw [h] at hlocate
      have hfetch := fun pa l => State.engFetch_works ‹State› src ctx p.1 pa p.2 l
      split <;> next h => exact ((congrArg (fun z => z.2.works) h).symm.trans (hfetch _ _)).trans hlocate
    all_goals next h => rw [h] at hlocate; exact hlocate
  · rfl

theorem State.engRead_works (src ctx va n kind : Nat) (fetch ph : Bool) : (s.engRead src ctx va n kind fetch ph).2.works = s.works := by
  have hlines := s.engLines_works src ctx kind (if fetch then .fetch else .load) ph (lineParts va n)
  unfold State.engRead
  split <;> next h => rw [h] at hlines; exact hlines

end

/-! ### One line on this die -/

theorem lineParts_one {va n : Nat} (hn : 0 < n) (hline : va % 256 + n ≤ 256) : lineParts va n = [(va, n)] := by
  have hcount : (va + n - 1) / 256 + 1 - va / 256 = 1 := by omega
  rw [lineParts, if_neg (by omega), hcount]
  have hlo : max va ((va / 256 + 0) * 256) = va := by omega
  have hhi : min (va + n) ((va / 256 + 0 + 1) * 256) - va = n := by omega
  show [(max va ((va / 256 + 0) * 256), min (va + n) ((va / 256 + 0 + 1) * 256) - max va ((va / 256 + 0) * 256))] = _
  rw [hlo, hhi]

section
variable {s : State} {src ctx va n : Nat} {a : Access} {pa : Nat} {l : Word} (h : Claims.UnitReaches s src ctx va n a pa l)
include h

theorem State.unitPage_reaches : s.unitPage src ctx va = (.leaf l, s) := by
  have hfind : s.pg.unitTlb.find? (fun p => p.1 == src && p.2.covers ctx va) = none :=
    List.find?_eq_none.2 fun p hp => by simp [h.fresh p hp]
  have hleaf : s.unitLeaf ctx va = .leaf l := by simp only [State.unitLeaf, h.mapped]
  simp only [State.unitPage, hfind, hleaf, h.mapped, Option.isSome_some, if_true]

theorem State.engLocate_reaches (kind : Nat) (ph : Bool) : s.engLocate src ctx va n a kind ph = (.ok (pa, l), s) := by
  have hserved : s.served pa n = true := by rw [State.served, if_pos h.here.1]; exact decide_eq_true h.here.2
  simp only [State.engLocate, h.unheld, State.unitPage_reaches h, ← h.place, h.permitted, h.plain.1, hserved, Bool.not_true, Bool.or_self, Bool.false_eq_true, if_false]

theorem State.readPa_reaches : s.readPa ctx pa l = pa := by
  have hstate : leafState l ≠ 1 := by rw [h.plain.2]; decide
  simp [State.readPa, hstate]

theorem State.engFetch_reaches (hue : s.ueMem = []) : s.engFetch src ctx va pa n l = (.ok (bytesOf n (s.mem.readN (pa % 2 ^ 42) n), []), s) := by
  have hlocal : s.local' pa = true := h.here.1
  have hstate : leafState l ≠ 3 := by rw [h.plain.2]; decide
  simp only [State.engFetch, State.readPa_reaches h, hlocal, h.unlocked, hstate, State.memBytesUe, hue, if_true, if_false, Bool.false_eq_true]

theorem State.engPut_reaches (bs : List Byte) : s.engPut ctx va pa l bs = (none, s.memWrite (pa % 2 ^ 42) bs) := by
  have hlocal : (s.local' pa && leafState l != 1) = true := by
    rw [h.plain.2, State.local', h.here.1]; rfl
  rw [State.engPut, if_pos hlocal]

end

theorem State.engRead_reaches {s : State} {src ctx va n pa : Nat} {l : Word} (h : Claims.UnitReaches s src ctx va n .load pa l) (hue : s.ueMem = [])
    (kind : Nat) (ph : Bool) :
    s.engRead src ctx va n kind false ph = (.ok (bytesOf n (s.mem.readN (pa % 2 ^ 42) n), []), s.dropReads src (some [pa])) := by
  have hlines : s.engLines src ctx kind .load ph (lineParts va n) = (.ok (bytesOf n (s.mem.readN (pa % 2 ^ 42) n), [], [pa]), s) := by
    rw [lineParts_one h.inLine.1 h.inLine.2]
    simp only [State.engLines, List.foldl_cons, List.foldl_nil, State.engLocate_reaches h, State.engFetch_reaches h hue, List.map_nil, List.append_nil, List.nil_append]
  simp only [State.engRead, Bool.false_eq_true, if_false, hlines]

/-- The bytes of memory, one by one. -/
theorem getElem?_bytesOf_readN (m : Memory) (a n i : Nat) (hi : i < n) : (bytesOf n (m.readN a n))[i]? = some (m.read (a + i)) := by
  induction n generalizing a i with
  | zero => omega
  | succ n ih =>
    have hlow : BitVec.ofNat 8 ((m.read a).toNat + 256 * m.readN (a + 1) n) = m.read a :=
      BitVec.eq_of_toNat_eq (by rw [BitVec.toNat_ofNat]; have := (m.read a).isLt; omega)
    have hrest : ((m.read a).toNat + 256 * m.readN (a + 1) n) / 256 = m.readN (a + 1) n := by have := (m.read a).isLt; omega
    rw [Memory.readN, bytesOf, hlow, hrest]
    cases i with
    | zero => rfl
    | succ i =>
      rw [List.getElem?_cons_succ, ih (a + 1) i (by omega)]
      congr 2; omega

end Sys2Proof.Machine
end

section
/-!
Copies of a channel (13 R272 to R277).
-/

namespace Sys2Proof.Machine

section
variable {s : State} {n : Nat} {c : Channel} {p : ChPush}

/-! ### The start of a copy (13 R273) -/

/-- A channel whose next push becomes its copy in progress. -/
def Channel.begun (c : Channel) (p : ChPush) (l : List ChPush) : Channel :=
  { c with state := .running, cur := some p, queue := l, tmpl := none, moved := 0, row := [], rowAt := 0, under := 0, ue := {}, fail := 0
           writes := [], await := none, opened := false }

theorem execCopyStart_begins {l : List ChPush} (hc : c = s.channel n) (hstate : c.state = .ready) (hqueue : c.queue = p :: l) (hpending : c.pending = []) :
    execCopyStart n s = .next ((s.setChannel n (c.begun p l)).copyBegin n) := by
  have hidle : (s.setChannel n (c.begun p l)).serveChannel n = s.setChannel n (c.begun p l) :=
    State.serveChannel_idle _ _ (by rw [State.channel_setChannel_same]; exact hpending)
  simp only [execCopyStart, ← hc, hstate, hqueue]
  exact congrArg (fun t : State => Host.Outcome.next (t.copyBegin n)) hidle

theorem State.copyOut_pl {s t : State} (h : t.pl = s.pl) (p : ChPush) : t.copyOut p = s.copyOut p := by
  have hentry : t.entry = s.entry := by funext i; rw [State.entry, h]; rfl
  rw [State.copyOut, hentry]; rfl

section
variable (hcur : (s.channel n).cur = some p) (hfail : (s.channel n).fail = 0) (htmpl : (s.channel n).tmpl = none)
include hcur hfail htmpl

/-- The template is read and is good; the copy creates no version. -/
theorem State.copyBegin_reads {bs : List Byte} {b : List Nat} {u : State} (hctx : p.ctx = (s.channel n).ctx) (hcount : p.template < (s.channel n).tcount)
    (hread : s.engRead (chSrc n) (s.channel n).ctx ((s.channel n).tbase.toNat + 64 * p.template) 64 0 false false = (.ok (bs, b), u))
    (hact : tmAct (ofBytes bs) ≠ 1) (hbad : tmBad (ofBytes bs) p.arg (s.copyOut p) = false) :
    s.copyBegin n = u.setChannel n { u.channel n with tmpl := some (ofBytes bs), state := .running } := by
  have hworks := s.engRead_works (chSrc n) (s.channel n).ctx ((s.channel n).tbase.toNat + 64 * p.template) 64 0 false false
  rw [hread] at hworks
  obtain ⟨hen, -, hpl⟩ := State.works_eq hworks
  have hfail' : (u.channel n).fail = 0 := by rw [State.channel, hen]; exact hfail
  have hout : (u.setChannel n { u.channel n with tmpl := some (ofBytes bs), state := .running }).copyOut p = s.copyOut p := State.copyOut_pl hpl p
  have hgo : (tmAct (ofBytes bs) != 1) = true := bne_iff_ne.2 hact
  simp only [State.copyBegin, hcur, hfail, htmpl, hctx, Nat.not_le.2 hcount, hread, hout, hbad, State.channel_setChannel_same, hgo, ne_eq,
    not_true_eq_false, if_false, Bool.false_eq_true, Bool.or_true, if_true]

theorem State.copyBegin_stops (hbad : p.ctx ≠ (s.channel n).ctx ∨ (s.channel n).tcount ≤ p.template) :
    s.copyBegin n = s.copyStop n (if p.ctx ≠ (s.channel n).ctx then 7 else 1) := by
  have hnone (k : Nat) : ((s.copyStop n k).channel n).tmpl = none := by rw [State.copyStop, State.channel_setChannel_same]; exact htmpl
  by_cases hctx : p.ctx = (s.channel n).ctx
  · have hcount : (s.channel n).tcount ≤ p.template := hbad.resolve_left (fun h => h hctx)
    simp only [State.copyBegin, hcur, hfail, htmpl, hctx, hcount, hnone, ne_eq, not_true_eq_false, if_false, if_true]
  · simp only [State.copyBegin, hcur, hfail, htmpl, hctx, hnone, ne_eq, not_true_eq_false, not_false_eq_true, if_false, if_true]

end

/-! ### A failed copy (13 R275 to R277) -/

/-- The log of the engines takes a record with no uncorrectable byte. -/
theorem State.engLog_works (s : State) (src : Nat) (handle : Word) (ctx code xy : Nat) {r : ELog} (hroom : s.en.elog.length < 64)
    (hr : r = { w0 := BitVec.ofNat 64 (src * 2 ^ 48 + handle.toNat % 2 ^ 40)
                w1 := BitVec.ofNat 64 (ctx * 2 ^ 28 + code * 2 ^ 24 + 0 * 2 ^ 16 + (0 : BitVec 6).toNat % 32), w2 := BitVec.ofNat 64 xy }) :
    (s.engLog src handle ctx code 0 0 xy).mem = s.mem ∧ (s.engLog src handle ctx code 0 0 xy).en = { s.en with elog := s.en.elog ++ [r] } := by
  have hclean : (Nat.testBit 0 0 && !Nat.testBit 0 2) = false := rfl
  unfold State.engLog
  rw [hclean]
  simp only [Bool.false_eq_true, if_false, if_pos hroom, ← hr, -Nat.reducePow, -Nat.reduceMod, -BitVec.reduceToNat]
  split <;> exact ⟨rfl, rfl⟩

/-- A copy of a push that no task stands behind fails without a version of its own to poison. -/
theorem execCopyFail_plain (hc : c = s.channel n) (hcur : c.cur = some p) (htask : p.task = none) (hfail : c.fail ≠ 0) (hue : c.ue = {})
    (hplain : c.fail = 6 ∨ c.fail = 1 ∨ c.fail = 7 ∨ c.tmpl = none ∨ ∃ t, c.tmpl = some t ∧ tmAct t ≠ 1) {u v : State}
    (hu : u = s.engLog (chSrc n) 0 c.ctx c.fail 0 0 0) (hv : v = ((u.forget c.writes).dropEngine (chSrc n)).copyEnd n p .error) :
    execCopyFail n s = .next (v.setChannel n { v.channel n with err := c.fail, arg := p.arg }) := by
  have hout : s.copyOut p = 0 := by simp only [State.copyOut, htask]; rfl
  have hhandle : s.copyTask p = 0 := by simp only [State.copyTask, htask]
  have hacts (hsix : c.fail ≠ 6) (t : Nat) (ht : c.tmpl = some t) : (tmAct t == 1 && decide (2 ≤ c.fail) && decide (c.fail ≤ 5)) = false := by
    rcases hplain with h | h | h | h | ⟨t', h, hact⟩
    · exact absurd h hsix
    · rw [h]; simp
    · rw [h]; simp
    · rw [h] at ht; cases ht
    · rw [h] at ht; cases ht; simp [hact]
  have huefl : ({} : UeRec).uefl = 0 := rfl
  have hxy : ({} : UeRec).xy = 0 := rfl
  by_cases hsix : c.fail = 6
  · simp only [execCopyFail, ← hc, hcur, hfail, hue, hhandle, huefl, hxy, if_false, if_pos hsix, ← hu, ← hv]
  · cases ht : c.tmpl with
    | none =>
      simp only [execCopyFail, ← hc, hcur, hfail, hue, ht, Bool.false_and, Bool.false_eq_true, if_false, if_neg hsix, hout, ne_eq, not_true_eq_false,
        hhandle, huefl, hxy, ← hu, ← hv]
    | some t =>
      simp only [execCopyFail, ← hc, hcur, hfail, hue, ht, hacts hsix t ht, Bool.false_eq_true, if_false, if_neg hsix, hout, ne_eq, not_true_eq_false,
        hhandle, huefl, hxy, ← hu, ← hv]

/-! ### A row that is read and written (13 R274) -/

theorem wrapNat_ofNat {v : Nat} (h : v < 2 ^ 64) : wrapNat (v : Int) 64 = v := by
  rw [wrapNat]
  omega

theorem tmW_lt (t k : Nat) : tmW t k < 2 ^ 64 := Nat.mod_lt _ (by decide)

section
variable {t : Nat} (hact : tmAct t = 0) (hau : tmAu t = 0) (htab : tmTab t = 0)
include hact hau htab

/-- The first plane of a plain template's source and destination. -/
theorem State.planeBase_plain (s : State) (n ctx arg : Nat) : s.planeBase n ctx t arg 0 false = (.ok (tmW t 0 % 2 ^ 57), s) ∧
    s.planeBase n ctx t arg 0 true = (.ok (tmW t 1), s) := by
  have hbits : bitsOf 56 0 (tmW t 0) = tmW t 0 % 2 ^ 57 := by rw [bitsOf_shifted, Nat.pow_zero, Nat.div_one]
  have hlt : tmW t 0 % 2 ^ 57 < 2 ^ 64 := by omega
  have hno : (tmTab t != 0) = false := by rw [htab]; rfl
  have hbase (v : Nat) (w : Int) (h : v < 2 ^ 64) : wrapNat ((v : Int) + ((0 : Nat) : Int) * w + ((0 : Nat) : Int)) 64 = v := by
    rw [show (v : Int) + ((0 : Nat) : Int) * w + ((0 : Nat) : Int) = (v : Int) by simp, wrapNat_ofNat h]
  constructor
  · simp only [State.planeBase, hno, hau, hbits, Bool.false_and, Bool.false_eq_true, if_false, hbase _ _ hlt, Nat.reduceEqDiff]
  · simp only [State.planeBase, hno, hau, hact, Bool.false_and, Bool.false_eq_true, if_false, if_true, hbase _ _ (tmW_lt t 1), Nat.reduceEqDiff]

end

/-- A channel whose row has been read. -/
def Channel.rowRead (c : Channel) (bs : List Byte) (dst : Nat) : Channel := { c with row := bs, rowAt := dst, ue := {}, state := .running }

/-- A channel with the first bytes of its row delivered. -/
def Channel.handed (c : Channel) (k : Nat) : Channel :=
  { c with row := c.row.drop k, rowAt := c.rowAt + k, moved := c.moved + k, wptr := c.wptr + BitVec.ofNat 64 k, under := 0, writes := [], state := .running }

theorem State.sentOff_now (hc : s.channel n = c) (k : Nat) : (s.sentOff n k none).channel n = c.handed k ∧ (s.sentOff n k none).mem = s.mem ∧
    (s.sentOff n k none).slots = s.slots := by
  have hsent : s.sentOff n k none = (s.setChannel n { c with row := c.row.drop k, rowAt := c.rowAt + k, under := k, writes := [], state := .running }).delivered n k := by
    rw [State.sentOff, hc]; rfl
  rw [hsent, State.delivered, State.channel_setChannel_same, State.channel_setChannel_same]
  exact ⟨rfl, rfl, rfl⟩

/-- What a unit reaches does not depend on the channels, on its own reads, or on other pages walked for it. -/
theorem unitReaches_after {src ctx va k : Nat} {a : Access} {pa : Nat} {l : Word} (h : Claims.UnitReaches s src ctx va k a pa l) (d : KMap Dep) (en : Engines)
    (reads : List (Nat × Nat × Nat)) {pages : List (Nat × TlbEntry)} (hpages : ∀ q ∈ pages, q ∈ s.pg.unitTlb) :
    Claims.UnitReaches { s with deps := d, pg := { s.pg with engReads := reads, unitTlb := pages }, en := en } src ctx va k a pa l where
  inLine := h.inLine
  unheld := h.unheld
  fresh := fun q hq => h.fresh q (hpages q hq)
  mapped := h.mapped
  place := h.place
  permitted := h.permitted
  plain := h.plain
  here := h.here
  unlocked := h.unlocked

theorem State.dropReads_eq (s : State) (src : Nat) (pas : Option (List Nat)) : ∃ d reads, s.dropReads src pas =
    { s with deps := d, pg := { s.pg with engReads := reads, unitTlb := s.pg.unitTlb.filter (fun q => q.1 != src) } } := ⟨_, _, rfl⟩

section
variable {t spa dpa : Nat} {ls ld : Word} (hc : s.channel n = c) (hact : tmAct t = 0) (hau : tmAu t = 0) (htab : tmTab t = 0) (hmoved : c.moved = 0) (hue : c.ue = {})
  (hy : tmY t = 1) (hmem : s.ueMem = [])
  (hsrc : Claims.UnitReaches s (chSrc n) c.ctx (tmW t 0 % 2 ^ 57) (tmX t) .load spa ls)
include hc hact hau htab hmoved hue hy hmem hsrc

theorem State.copyRow_plain (p : ChPush) : s.copyRow n p t =
    ((s.setChannel n { c with wptr := BitVec.ofNat 64 (tmW t 1) }).dropReads (chSrc n) (some [spa])).setChannel n
      ({ c with wptr := BitVec.ofNat 64 (tmW t 1) }.rowRead (bytesOf (tmX t) (s.mem.readN (spa % 2 ^ 42) (tmX t))) (tmW t 1)) := by
  obtain ⟨hplane, hplane'⟩ := State.planeBase_plain hact hau htab s n c.ctx p.arg
  have hreach : Claims.UnitReaches (s.setChannel n { c with wptr := BitVec.ofNat 64 (tmW t 1) }) (chSrc n) c.ctx (tmW t 0 % 2 ^ 57) (tmX t) .load spa ls :=
    ⟨hsrc.inLine, hsrc.unheld, hsrc.fresh, hsrc.mapped, hsrc.place, hsrc.permitted, hsrc.plain, hsrc.here, hsrc.unlocked⟩
  have hread := State.engRead_reaches hreach hmem 0 false
  have hat (v : Nat) (w : Int) (h : v < 2 ^ 64) : wrapNat ((v : Int) + ((0 : Nat) : Int) * w) 64 = v := by
    rw [show (v : Int) + ((0 : Nat) : Int) * w = (v : Int) by simp, wrapNat_ofNat h]
  have hchannel : ((s.setChannel n { c with wptr := BitVec.ofNat 64 (tmW t 1) }).dropReads (chSrc n) (some [spa])).channel n =
      { c with wptr := BitVec.ofNat 64 (tmW t 1) } := State.channel_setChannel_same _ _ _
  have hlt : tmW t 0 % 2 ^ 57 < 2 ^ 64 := by omega
  have hnone : ({} : UeRec).add [] = {} := rfl
  simp only [hmoved, hue] at hread hchannel
  simp only [State.copyRow, hc, hmoved, hy, Nat.zero_div, Nat.zero_mod, hplane, hplane', if_true, hat _ _ hlt, hat _ _ (tmW_lt t 1), hread, hchannel, List.map_nil, hue, hnone]
  rfl

end

theorem State.copyToMemory_plain {k ctx dpa : Nat} {ld : Word} (hc : s.channel n = c) (hrow : c.row.length = k)
    (hdst : Claims.UnitReaches s (chSrc n) ctx c.rowAt k .bteWrite dpa ld) :
    s.copyToMemory n ctx = (s.memWrite (dpa % 2 ^ 42) c.row).sentOff n k none := by
  have hk : min (256 - c.rowAt % 256) c.row.length = k := by have := hdst.inLine.2; omega
  have htake : c.row.take k = c.row := List.take_of_length_le (Nat.le_of_eq hrow)
  simp only [State.copyToMemory, hc, hk, State.engLocate_reaches hdst, State.engPut_reaches hdst, htake]

/-! ### The moves of a copy -/

theorem State.copyMoves_done (p : ChPush) (t fuel : Nat) (hdone : (s.channel n).moved = tmX t * tmY t * tmZ t) : s.copyMoves n p t fuel = s := by
  cases fuel with
  | zero => rfl
  | succ fuel => rw [State.copyMoves, if_pos (by rw [hdone, beq_self_eq_true, Bool.or_true])]

theorem State.copyMoves_next {p : ChPush} {t fuel : Nat} {u : State} (hfail : (s.channel n).fail = 0) (hmoved : (s.channel n).moved ≠ tmX t * tmY t * tmZ t)
    (hstep : s.copyMove n p t = u) (hgo : ¬((u.channel n).moved = (s.channel n).moved ∧ (u.channel n).row.length = (s.channel n).row.length)) :
    s.copyMoves n p t (fuel + 1) = u.copyMoves n p t fuel := by
  have hmore : (decide ((s.channel n).fail ≠ 0) || (s.channel n).moved == tmX t * tmY t * tmZ t) = false := by simp [hfail, hmoved]
  subst hstep
  rw [State.copyMoves]
  rw [if_neg (by rw [hmore]; decide), if_neg hgo]

theorem State.copyMove_reads (p : ChPush) (t : Nat) (hwrites : (s.channel n).writes = []) (hrow : (s.channel n).row = []) : s.copyMove n p t = s.copyRow n p t := by
  have hno : ((s.channel n).writes != []) = false := by rw [hwrites]; rfl
  rw [State.copyMove, if_neg (by rw [hno]; decide), if_pos hrow]

theorem State.copyMove_writes (p : ChPush) {t : Nat} (hwrites : (s.channel n).writes = []) (hrow : (s.channel n).row ≠ []) (hact : tmAct t = 0) :
    s.copyMove n p t = s.copyToMemory n (s.channel n).ctx := by
  have hno : ((s.channel n).writes != []) = false := by rw [hwrites]; rfl
  rw [State.copyMove, if_neg (by rw [hno]; decide), if_neg hrow, if_neg (by rw [hact]; decide)]

/-! ### A copy of one row (13 R274) -/

/-- A template of one row that neither creates a version nor takes an argument or a table. -/
structure OneRow (t : Nat) : Prop where
  act : tmAct t = 0
  au : tmAu t = 0
  tab : tmTab t = 0
  y : tmY t = 1
  z : tmZ t = 1

theorem tmX_pos (t : Nat) : 0 < tmX t := Nat.succ_pos _

section
variable {t spa dpa : Nat} {ls ld : Word} (hc : s.channel n = c) (ht : OneRow t) (hfail : c.fail = 0) (hmoved : c.moved = 0) (hrow : c.row = [])
  (hwrites : c.writes = []) (hue : c.ue = {}) (hmem : s.ueMem = [])
  (hsrc : Claims.UnitReaches s (chSrc n) c.ctx (tmW t 0 % 2 ^ 57) (tmX t) .load spa ls)
  (hdst : Claims.UnitReaches s (chSrc n) c.ctx (tmW t 1) (tmX t) .bteWrite dpa ld)
include hc ht hfail hmoved hrow hwrites hue hmem hsrc hdst

/-- The moves of a copy of one row: its bytes are read, and written. -/
theorem State.copyMoves_oneRow (p : ChPush) (fuel : Nat) : ∃ (u : State) (d : Channel), s.copyMoves n p t (fuel + 2) = u ∧ u.channel n = d ∧ d.fail = 0 ∧
    d.moved = tmX t ∧ d.ue = {} ∧ d.queue = c.queue ∧ d.doneCnt = c.doneCnt ∧ u.slots = s.slots ∧
    u.mem = s.mem.write (dpa % 2 ^ 42) (bytesOf (tmX t) (s.mem.readN (spa % 2 ^ 42) (tmX t))) := by
  have htotal : tmX t * tmY t * tmZ t = tmX t := by rw [ht.y, ht.z, Nat.mul_one, Nat.mul_one]
  have hpos := tmX_pos t
  generalize hbs : bytesOf (tmX t) (s.mem.readN (spa % 2 ^ 42) (tmX t)) = bs
  have hlen : bs.length = tmX t := by rw [← hbs, length_bytesOf]
  have hread := State.copyRow_plain hc ht.act ht.au ht.tab hmoved hue ht.y hmem hsrc p
  rw [hbs] at hread
  generalize hd : ({ c with wptr := BitVec.ofNat 64 (tmW t 1) } : Channel).rowRead bs (tmW t 1) = d at hread
  obtain ⟨deps, reads, hdrop⟩ := (s.setChannel n { c with wptr := BitVec.ofNat 64 (tmW t 1) }).dropReads_eq (chSrc n) (some [spa])
  rw [hdrop] at hread
  generalize hu : State.setChannel _ n d = u at hread
  have hchannel : u.channel n = d := by rw [← hu, State.channel_setChannel_same]
  have hkept : u.mem = s.mem ∧ u.slots = s.slots := by rw [← hu]; exact ⟨rfl, rfl⟩
  have hreach : Claims.UnitReaches u (chSrc n) d.ctx d.rowAt (tmX t) .bteWrite dpa ld := by
    rw [← hu, ← hd]
    exact unitReaches_after hdst _ _ _ fun q hq => (List.mem_filter.1 hq).1
  have hnew : d.row = bs ∧ d.writes = [] ∧ d.fail = 0 ∧ d.moved = 0 ∧ d.ue = {} ∧ d.queue = c.queue ∧ d.doneCnt = c.doneCnt := by
    rw [← hd]; exact ⟨rfl, hwrites, hfail, hmoved, rfl, rfl, rfl⟩
  obtain ⟨hdrow, hdwrites, hdfail, hdmoved, hdue, hdqueue, hddone⟩ := hnew
  have hfirst : s.copyMoves n p t (fuel + 1 + 1) = u.copyMoves n p t (fuel + 1) := by
    refine State.copyMoves_next (by rw [hc]; exact hfail) (by rw [hc, hmoved, htotal]; omega) ((State.copyMove_reads p t (by rw [hc]; exact hwrites)
      (by rw [hc]; exact hrow)).trans hread) ?_
    rw [hchannel, hdrow, hc, hrow, hlen]
    simp only [List.length_nil]
    omega
  have hput := State.copyToMemory_plain hchannel (by rw [hdrow, hlen]) hreach
  rw [hdrow] at hput
  obtain ⟨hchannel', hmem', hslots'⟩ := State.sentOff_now (s := u.memWrite (dpa % 2 ^ 42) bs) (n := n) (c := d) hchannel (tmX t)
  generalize (u.memWrite (dpa % 2 ^ 42) bs).sentOff n (tmX t) none = v at hput hchannel' hmem' hslots'
  have hmoved' : (v.channel n).moved = tmX t := by
    rw [hchannel', Channel.handed, hdmoved, Nat.zero_add]
  have hsecond : u.copyMoves n p t (fuel + 1) = v.copyMoves n p t fuel := by
    refine State.copyMoves_next (by rw [hchannel]; exact hdfail) (by rw [hchannel, hdmoved, htotal]; omega) ((State.copyMove_writes p (by rw [hchannel]; exact hdwrites)
      (by rw [hchannel, hdrow]; exact List.ne_nil_of_length_pos (by omega)) ht.act).trans (by rw [hchannel]; exact hput)) ?_
    rw [hmoved', hchannel, hdmoved]
    omega
  refine ⟨v, d.handed (tmX t), ?_, hchannel', hdfail, ?_, hdue, hdqueue, hddone, hslots'.trans hkept.2, ?_⟩
  · rw [hfirst, hsecond, State.copyMoves_done p t fuel (hmoved'.trans htotal.symm)]
  · rw [← hchannel', hmoved']
  · rw [hmem']
    exact congrArg (fun m : Memory => m.write (dpa % 2 ^ 42) bs) hkept.1

/-- A copy of one row ends with its bytes in place. -/
theorem execCopyComplete_oneRow (hcur : c.cur = some p) (htask : p.task = none) (htmpl : c.tmpl = some t) (hstate : c.state = .running) :
    ∃ u : State, execCopyComplete n s = .next u ∧ (u.channel n).cur = none ∧ (u.channel n).doneCnt = c.doneCnt + 1 ∧
      (u.channel n).state = (if c.queue = [] then .idle else .ready) ∧ (u.channel n).queue = c.queue ∧
      (∀ i, i < tmX t → u.mem.read (dpa % 2 ^ 42 + i) = s.mem.read (spa % 2 ^ 42 + i)) ∧
      (∀ a, a < dpa % 2 ^ 42 ∨ dpa % 2 ^ 42 + tmX t ≤ a → u.mem.read a = s.mem.read a) ∧ u.slots = s.slots := by
  have hbegin : s.copyBegin n = s := by
    have hno : (tmAct t != 1) = true := by rw [ht.act]; rfl
    simp only [State.copyBegin, hc, hcur, hfail, htmpl, hno, ne_eq, not_true_eq_false, if_false, Bool.or_true, if_true]
  have htotal : tmX t * tmY t * tmZ t = tmX t := by rw [ht.y, ht.z, Nat.mul_one, Nat.mul_one]
  obtain ⟨u, d, hmoves, hchannel, hdfail, hdmoved, hdue, hdqueue, hddone, hslots, hwritten⟩ :=
    State.copyMoves_oneRow hc ht hfail hmoved hrow hwrites hue hmem hsrc hdst p (3 * (tmX t - 0) + 1)
  have hgo : (decide (c.fail ≠ 0) || !(c.state == .running) || (tmAct t == 1 && !c.opened)) = false := by rw [hfail, hstate, ht.act]; rfl
  have hover : (decide (d.fail ≠ 0) || d.moved != tmX t) = false := by rw [hdfail, hdmoved]; simp
  have hclean : d.ue.first.isSome = false := by rw [hdue]; rfl
  have hend : execCopyComplete n s = .next (u.copyEnd n p (if d.queue = [] then .idle else .ready)) := by
    simp only [execCopyComplete, hbegin, hc, hcur, htmpl]
    rw [if_neg (by rw [hgo]; decide), hmoved, htotal]
    rw [show 3 * (tmX t - 0) + 3 = 3 * (tmX t - 0) + 1 + 2 from rfl, hmoves, hchannel]
    rw [if_neg (by rw [hover]; decide)]
    simp only [hclean, ht.act, Bool.false_eq_true, if_false, Nat.reduceEqDiff]
  have hfinal : (u.copyEnd n p (if d.queue = [] then .idle else .ready)) = u.setChannel n { d with
      cur := none, tmpl := none, moved := 0, row := [], rowAt := 0, under := 0, doneCnt := d.doneCnt + 1, writes := [], await := none
      opened := false, fail := 0, ue := {}, state := (if d.queue = [] then .idle else .ready) } := by
    simp only [State.copyEnd, htask, hchannel]
  refine ⟨_, hend.trans (congrArg Host.Outcome.next hfinal), ?_⟩
  rw [State.channel_setChannel_same]
  refine ⟨rfl, congrArg (· + 1) hddone, by rw [hdqueue], hdqueue, fun i hi => ?_, fun a ha => ?_, hslots⟩
  · show u.mem.read _ = _
    rw [hwritten, Memory.read_write, length_bytesOf, if_pos (by omega), Nat.add_sub_cancel_left, getElem?_bytesOf_readN _ _ _ _ hi]
    rfl
  · show u.mem.read _ = _
    rw [hwritten, Memory.read_write, length_bytesOf, if_neg (by omega)]

end

end

/-- A copy that has failed leaves its channel in ERROR, with a record in the log. -/
theorem execCopyFail_steps {s : State} {ch : Nat} {c : Channel} {p : ChPush} (hc : c = s.channel ch) (hcur : c.cur = some p) (htask : p.task = none)
    (hfail : c.fail ≠ 0) (hue : c.ue = {}) (hroom : s.en.elog.length < 64)
    (hplain : c.fail = 6 ∨ c.fail = 1 ∨ c.fail = 7 ∨ c.tmpl = none ∨ ∃ t, c.tmpl = some t ∧ tmAct t ≠ 1) :
    ∃ t : State, exec (.copyFail ch) s = .next t ∧ (t.channel ch).state = .error ∧ (t.channel ch).err = c.fail ∧ (t.channel ch).arg = p.arg ∧
      (t.channel ch).cur = none ∧ (t.channel ch).doneCnt = c.doneCnt + 1 ∧ t.mem = s.mem ∧
      t.en.elog = s.en.elog ++ [{ w0 := BitVec.ofNat 64 ((0x1000 + ch) * 2 ^ 48), w1 := BitVec.ofNat 64 (c.ctx * 2 ^ 28 + c.fail * 2 ^ 24), w2 := 0 }] := by
  obtain ⟨r, hr⟩ : ∃ r : ELog, r = { w0 := BitVec.ofNat 64 ((0x1000 + ch) * 2 ^ 48), w1 := BitVec.ofNat 64 (c.ctx * 2 ^ 28 + c.fail * 2 ^ 24), w2 := 0 } := ⟨_, rfl⟩
  have hr' : r = { w0 := BitVec.ofNat 64 (chSrc ch * 2 ^ 48 + (0 : Word).toNat % 2 ^ 40)
                   w1 := BitVec.ofNat 64 (c.ctx * 2 ^ 28 + c.fail * 2 ^ 24 + 0 * 2 ^ 16 + (0 : BitVec 6).toNat % 32), w2 := BitVec.ofNat 64 0 } := by
    have hw0 : chSrc ch * 2 ^ 48 + (0 : Word).toNat % 2 ^ 40 = (0x1000 + ch) * 2 ^ 48 := by
      have h : (0 : Word).toNat % 2 ^ 40 = 0 := by decide
      rw [h, Nat.add_zero, chSrc]
    have hw1 : c.ctx * 2 ^ 28 + c.fail * 2 ^ 24 + 0 * 2 ^ 16 + (0 : BitVec 6).toNat % 32 = c.ctx * 2 ^ 28 + c.fail * 2 ^ 24 := by
      have hplain (x y : Nat) {z : Nat} (hz : z = 0) : x + 0 * y + z = x := by simp [hz]
      exact hplain _ _ (by decide)
    rw [hr, hw0, hw1]
    rfl
  obtain ⟨hmem, hen⟩ := s.engLog_works (chSrc ch) 0 c.ctx c.fail 0 hroom hr'
  obtain ⟨u, hu⟩ : ∃ u : State, u = s.engLog (chSrc ch) 0 c.ctx c.fail 0 0 0 := ⟨_, rfl⟩
  rw [← hu] at hmem hen
  have hchannel : u.channel ch = c := by rw [State.channel, hen, hc]; rfl
  have hend : ((u.forget c.writes).dropEngine (chSrc ch)).copyEnd ch p .error = ((u.forget c.writes).dropEngine (chSrc ch)).setChannel ch { u.channel ch with
      cur := none, tmpl := none, moved := 0, row := [], rowAt := 0, under := 0, doneCnt := (u.channel ch).doneCnt + 1, writes := [], await := none
      opened := false, fail := 0, ue := {}, state := .error } := by
    simp only [State.copyEnd, htask]; rfl
  have hexec : exec (.copyFail ch) s = _ := execCopyFail_plain hc hcur htask hfail hue hplain hu hend.symm
  rw [State.channel_setChannel_same, hchannel] at hexec
  refine ⟨_, hexec, ?_⟩
  rw [State.channel_setChannel_same]
  refine ⟨rfl, rfl, rfl, rfl, rfl, hmem, ?_⟩
  show u.en.elog = _
  rw [hen, hr]

/-- Copies of a channel: the start, one row, and a failure. -/
theorem copySteps (s : State) (ch : Nat) (c : Channel) (p : ChPush) (hc : c = s.channel ch) :
    (∀ l v u bs b, c.state = .ready → c.queue = p :: l → c.pending = [] → p.ctx = c.ctx → p.template < c.tcount → v = s.setChannel ch { c with
          state := .running, cur := some p, queue := l, tmpl := none, moved := 0, row := [], rowAt := 0, under := 0, ue := {}, fail := 0
          writes := [], await := none, opened := false } →
      v.engRead (0x1000 + ch) c.ctx (c.tbase.toNat + 64 * p.template) 64 0 false false = (.ok (bs, b), u) → tmAct (ofBytes bs) ≠ 1 →
      tmBad (ofBytes bs) p.arg (s.copyOut p) = false →
      ∃ (t : State) (d : Channel), exec (.copyStart ch) s = .next t ∧ t.channel ch = d ∧ d.cur = some p ∧ d.tmpl = some (ofBytes bs) ∧
        d.state = .running ∧ d.queue = l ∧ d.moved = 0 ∧ d.fail = 0 ∧ d.doneCnt = c.doneCnt ∧ t.mem = s.mem) ∧
    (∀ l, c.state = .ready → c.queue = p :: l → c.pending = [] → (p.ctx ≠ c.ctx ∨ c.tcount ≤ p.template) →
      ∃ t : State, exec (.copyStart ch) s = .next t ∧ (t.channel ch).cur = some p ∧ (t.channel ch).queue = l ∧
        (t.channel ch).fail = (if p.ctx ≠ c.ctx then 7 else 1) ∧ t.mem = s.mem) ∧
    (∀ t spa dpa ls ld, c.cur = some p → p.task = none → c.tmpl = some t → c.state = .running → c.fail = 0 → c.moved = 0 → c.row = [] → c.writes = [] → c.ue = {} →
      tmAct t = 0 → tmAu t = 0 → tmTab t = 0 → tmY t = 1 → tmZ t = 1 → s.ueMem = [] →
      Claims.UnitReaches s (0x1000 + ch) c.ctx (tmW t 0 % 2 ^ 57) (tmX t) .load spa ls →
      Claims.UnitReaches s (0x1000 + ch) c.ctx (tmW t 1) (tmX t) .bteWrite dpa ld →
      ∃ u : State, exec (.copyComplete ch) s = .next u ∧ (u.channel ch).cur = none ∧ (u.channel ch).doneCnt = c.doneCnt + 1 ∧
        (u.channel ch).state = (if c.queue = [] then .idle else .ready) ∧ (u.channel ch).queue = c.queue ∧
        (∀ i, i < tmX t → u.mem.read (dpa % 2 ^ 42 + i) = s.mem.read (spa % 2 ^ 42 + i)) ∧
        (∀ a, a < dpa % 2 ^ 42 ∨ dpa % 2 ^ 42 + tmX t ≤ a → u.mem.read a = s.mem.read a) ∧ u.slots = s.slots) ∧
    (c.cur = some p → p.task = none → c.fail ≠ 0 → c.ue = {} → s.en.elog.length < 64 →
      (c.fail = 6 ∨ c.fail = 1 ∨ c.fail = 7 ∨ c.tmpl = none ∨ ∃ t, c.tmpl = some t ∧ tmAct t ≠ 1) →
      ∃ t : State, exec (.copyFail ch) s = .next t ∧ (t.channel ch).state = .error ∧ (t.channel ch).err = c.fail ∧ (t.channel ch).arg = p.arg ∧
        (t.channel ch).cur = none ∧ (t.channel ch).doneCnt = c.doneCnt + 1 ∧ t.mem = s.mem ∧
        t.en.elog = s.en.elog ++ [{ w0 := BitVec.ofNat 64 ((0x1000 + ch) * 2 ^ 48), w1 := BitVec.ofNat 64 (c.ctx * 2 ^ 28 + c.fail * 2 ^ 24), w2 := 0 }]) := by
  refine ⟨fun l v u bs b hstate hqueue hpending hctx hcount hv hread hact hbad => ?_, fun l hstate hqueue hpending hbad => ?_,
    fun t spa dpa ls ld hcur htask htmpl hstate hfail hmoved hrow hwrites hue hact hau htab hy hz hmem hsrc hdst =>
      execCopyComplete_oneRow hc.symm ⟨hact, hau, htab, hy, hz⟩ hfail hmoved hrow hwrites hue hmem hsrc hdst hcur htask htmpl hstate,
    fun hcur htask hfail hue hroom hplain => ?_⟩
  · have hexec : exec (.copyStart ch) s = _ := execCopyStart_begins hc hstate hqueue hpending
    have hv' : s.setChannel ch (c.begun p l) = v := hv.symm
    have hchannel : v.channel ch = c.begun p l := by rw [← hv', State.channel_setChannel_same]
    have hworks := v.engRead_works (chSrc ch) c.ctx (c.tbase.toNat + 64 * p.template) 64 0 false false
    have hread' : v.engRead (chSrc ch) c.ctx (c.tbase.toNat + 64 * p.template) 64 0 false false = (.ok (bs, b), u) := hread
    rw [hread'] at hworks
    obtain ⟨hen, hmem, -⟩ := State.works_eq hworks
    have hchannel' : u.channel ch = c.begun p l := by rw [State.channel, hen]; exact hchannel
    have hout : v.copyOut p = s.copyOut p := State.copyOut_pl (by rw [hv]; rfl) p
    have hbegin : v.copyBegin ch = u.setChannel ch { u.channel ch with tmpl := some (ofBytes bs), state := .running } :=
      State.copyBegin_reads (p := p) (b := b) (by rw [hchannel]; rfl) (by rw [hchannel]; rfl) (by rw [hchannel]; rfl) (by rw [hchannel]; exact hctx)
        (by rw [hchannel]; exact hcount) (by rw [hchannel]; exact hread') hact (by rw [hout]; exact hbad)
    rw [hv', hbegin, hchannel'] at hexec
    refine ⟨_, _, hexec, State.channel_setChannel_same _ _ _, rfl, rfl, rfl, rfl, rfl, rfl, rfl, ?_⟩
    show u.mem = _
    rw [hmem, hv]
    rfl
  · have hexec : exec (.copyStart ch) s = _ := execCopyStart_begins hc hstate hqueue hpending
    have hchannel : (s.setChannel ch (c.begun p l)).channel ch = c.begun p l := State.channel_setChannel_same _ _ _
    have hbegin := State.copyBegin_stops (s := s.setChannel ch (c.begun p l)) (n := ch) (p := p) (by rw [hchannel]; rfl) (by rw [hchannel]; rfl)
      (by rw [hchannel]; rfl) (by rw [hchannel]; exact hbad)
    rw [hbegin, State.copyStop, hchannel] at hexec
    refine ⟨_, hexec, ?_⟩
    rw [State.channel_setChannel_same]
    exact ⟨rfl, rfl, rfl, rfl⟩
  · exact execCopyFail_steps hc hcur htask hfail hue hroom hplain

/-- Settles O41: the ports by what waits at them, the commands by the tasks that they retire, and a copy of one row by its two moves. -/
theorem portAndCopySteps : Obligations.PortAndCopySteps := by
  unfold Obligations.PortAndCopySteps
  exact ⟨⟨fifoSteps, channelPushes, channelCommands⟩, copySteps⟩

end Sys2Proof.Machine
end

section
/-!
The commands of contexts and the shares of the ports (18 R348 to R353, R366).
-/

namespace Sys2Proof.Machine

section
variable {s : State} {c : Nat}

/-! ### The record (18 R348) -/

theorem ofBytes_bytesOf (n v : Nat) (h : v < 2 ^ (8 * n)) : ofBytes (bytesOf n v) = v := by
  induction n generalizing v with
  | zero => simp only [Nat.mul_zero, Nat.pow_zero, Nat.lt_one_iff] at h; rw [h]; rfl
  | succ n ih =>
    have hpow : 2 ^ (8 * (n + 1)) = 256 * 2 ^ (8 * n) := by rw [Nat.mul_succ, Nat.pow_add, Nat.mul_comm]
    rw [bytesOf, ofBytes, ih _ (Nat.div_lt_of_lt_mul (hpow ▸ h)), BitVec.toNat_ofNat]
    omega

theorem recWord_lt (r k : Nat) : recWord r k < 2 ^ 64 := Nat.mod_lt _ (by decide)

theorem toNat_recWord (r k : Nat) : (BitVec.ofNat 64 (recWord r k)).toNat = recWord r k := by
  rw [BitVec.toNat_ofNat, Nat.mod_eq_of_lt (recWord_lt r k)]

theorem getElem?_range_map {α : Type} (f : Nat → α) {n i : Nat} (h : i < n) : ((List.range n).map f)[i]? = some (f i) := by
  rw [List.getElem?_map, List.getElem?_range h]; rfl

/-- What the die keeps of a record. -/
theorem Context.build_fields (k : Context) (r : Nat) : (k.build r).state = .built ∧ (k.build r).root.toNat = recWord r 0 ∧ (k.build r).hkid = recWord r 1 % 2 ^ 12 ∧
    (k.build r).rep = recWord r 8 ∧ (k.build r).ihbase.toNat = recWord r 9 ∧ (k.build r).phbase.toNat = recWord r 11 ∧ (k.build r).phsize = recWord r 12 ∧
    (k.build r).savebase.toNat = recWord r 13 ∧ (∀ i, i < 8 → (k.build r).dies[i]? = some (recAgent r 0x30 i)) ∧
    (∀ i, i < 16 → (k.build r).nsmap[i]? = some (recAgent r 0x10 i)) ∧
    (∀ i, i < 32 → ∃ z, (k.build r).traptab[i]? = some z ∧ z.1 = r.testBit (8 * 0x80 + 32 * i)) := by
  refine ⟨rfl, toNat_recWord r 0, ?_, rfl, toNat_recWord r 9, toNat_recWord r 11, rfl, toNat_recWord r 13, fun i hi => getElem?_range_map _ hi,
    fun i hi => getElem?_range_map _ hi, fun i hi => ⟨_, getElem?_range_map _ hi, ?_⟩⟩
  · show bitsOf 11 0 (recWord r 1) = _
    rw [bitsOf_shifted, Nat.pow_zero, Nat.div_one]
  · dsimp only
    rw [Nat.testBit_mod_two_pow, Nat.testBit_shiftRight]
    rfl

/-- A record at the die's own memory is read at once. -/
theorem execCtxBuild_own {pa r : Nat} (hbuilds : s.cx.builds = []) (hown : s.isOwn (pa / 2 ^ 42) = true) (hfits : pa % 2 ^ 42 + 256 ≤ s.memBytes)
    (hue : s.ueMem = []) (hr : r = s.mem.readN (pa % 2 ^ 42) 256) :
    execCtxBuild c pa s = .next (if (s.ctx c).state != .free || (s.ctx c).busy then s.ctxReject c else s.buildWith c r) := by
  have hserved : s.served pa 256 = true := by rw [State.served, if_pos hown]; exact decide_eq_true hfits
  have hlocal : s.local' pa = true := hown
  have hread : ofBytes (bytesOf 256 (s.mem.readN (pa % 2 ^ 42) 256)) = r := by rw [hr, ofBytes_bytesOf _ _ (Memory.readN_lt ..)]
  simp only [execCtxBuild, hbuilds, List.find?_nil, List.any_nil, Bool.or_false, hlocal, hserved, State.memBytesUe, hue, hread, if_true, Bool.not_true,
    Bool.false_eq_true, if_false, List.isEmpty_nil]
  split <;> rfl

theorem State.buildWith_good {r : Nat} (hform : ctxRecordForm r = true) (hagents : s.ctxRecordAgents r = true) :
    ∃ names, s.buildWith c r = ({ s with vs := { s.vs with names := names } } : State).modCtx c (fun k => k.build r) := by
  have hgo : (!ctxRecordForm r || !s.ctxRecordAgents r) = false := by rw [hform, hagents]; rfl
  exact ⟨_, by rw [State.buildWith, hgo]; rfl⟩

/-! ### Commands (18 R350) -/

theorem State.command_acts {ok : CState → Bool} (f : State → State) (hok : ok (s.ctx c).state = true) (hbusy : (s.ctx c).busy = false)
    (hfault : (s.ctx c).faultAt ≠ some s.t.cycle) : s.command c ok f = f (s.modCtx c (fun k => { k with cmdAt := some s.t.cycle })) := by
  have hgo : (ok (s.ctx c).state && !(s.ctx c).busy && (s.ctx c).faultAt != some s.t.cycle) = true := by
    rw [hok, hbusy, bne_iff_ne.2 hfault]; rfl
  rw [State.command, if_pos hgo]

theorem State.command_rejects {ok : CState → Bool} (f : State → State) (hno : ok (s.ctx c).state = false ∨ (s.ctx c).busy = true ∨ (s.ctx c).faultAt = some s.t.cycle) :
    s.command c ok f = s.ctxReject c := by
  have hgo : (ok (s.ctx c).state && !(s.ctx c).busy && (s.ctx c).faultAt != some s.t.cycle) = false := by
    rcases hno with h | h | h <;> simp [h]
  rw [State.command, hgo]; rfl

theorem State.modCtx_modCtx (s : State) (c : Nat) (f g : Context → Context) : (s.modCtx c f).modCtx c g = s.modCtx c (fun k => g (f k)) := by
  have hctx : (s.modCtx c f).ctx c = f (s.ctx c) := by rw [State.ctx_modCtx, if_pos rfl]
  rw [State.modCtx, hctx, State.modCtx, State.modCtx]
  simp only [kset_kset]

/-! ### The end of a drain (18 R350, R362) -/

/-- The contexts, the saved images and the slots. -/
def State.people (s : State) : Contexts × KMap Slot := (s.cx, s.slots)

theorem State.collect_people (s : State) (m : Msg) : (s.collect m).2.people = s.people := rfl

theorem State.engPut_people (s : State) (ctx va pa : Nat) (l : Word) (bs : List Byte) : (s.engPut ctx va pa l bs).2.people = s.people := by
  unfold State.engPut; split <;> rfl

theorem State.leaveInbox_people (s : State) (core : Nat) (e : InboxEntry) : (s.leaveInbox core e).people = s.people := by
  unfold State.leaveInbox
  repeat' split
  all_goals rfl

theorem State.moveEntry_people {s t : State} {core ctx : Nat} (h : s.moveEntry core ctx = some t) : t.people = s.people := by
  simp only [State.moveEntry] at h
  split at h
  · cases h
  · split at h
    · cases h
    · split at h
      · split at h
        · cases h
        · cases h
          exact (State.leaveInbox_people _ _ _).trans (State.engPut_people _ _ _ _ _ _)
      · cases h

theorem State.moveEntries_people (core ctx n : Nat) (s : State) : (s.moveEntries core ctx n).people = s.people := by
  induction n generalizing s with
  | zero => rfl
  | succ n ih =>
    rw [State.moveEntries]
    split
    · next t ht => exact (ih t).trans (State.moveEntry_people ht)
    · rfl

theorem State.movedAll_people (s : State) (ctx : Nat) : ((List.range 144).foldl (fun (s : State) c => s.moveEntries c ctx 64) s).people = s.people :=
  foldl_keeps State.people (fun t c => t.moveEntries_people c ctx 64) _ s

theorem State.endCommand_frame (s : State) (c v : Nat) : (s.endCommand c v).slots = s.slots ∧ (s.endCommand c v).cx.saved = s.cx.saved ∧ (s.endCommand c v).mem = s.mem ∧
    (∀ j, j ≠ c → (s.endCommand c v).ctx j = s.ctx j) ∧ (s.endCommand c v).ctx c = { s.ctx c with cmdRid := none } := by
  unfold State.endCommand
  split
  all_goals
    refine ⟨rfl, rfl, rfl, fun j hj => ?_, ?_⟩
    · exact State.ctx_modCtx _ c j _ |>.trans (if_neg hj)
    · exact State.ctx_modCtx _ c c _ |>.trans (if_pos rfl)

theorem State.drainEnd_stays (h : ((s.ctx c).state != .draining || s.slots.any (fun (p : Nat × Slot) => p.2.ctx == c) || !s.imagesWritten c) = true) : s.drainEnd c = s := by
  rw [State.drainEnd, if_pos h]

/-- A drain that ends: SAVED, and not BUSY. -/
theorem State.drainEnd_ends (hstate : (s.ctx c).state = .draining) (hslots : s.slots.any (fun (p : Nat × Slot) => p.2.ctx == c) = false) (himages : s.imagesWritten c = true) :
    ((s.drainEnd c).ctx c).state = .saved ∧ ((s.drainEnd c).ctx c).busy = false := by
  have hgo : ((s.ctx c).state != .draining || s.slots.any (fun (p : Nat × Slot) => p.2.ctx == c) || !s.imagesWritten c) = false := by
    rw [hstate, hslots, himages]; rfl
  rw [State.drainEnd, if_neg (by rw [hgo]; decide)]
  dsimp only
  rw [(State.endCommand_frame _ _ _).2.2.2.2]
  generalize (List.range 144).foldl (fun (s : State) c_1 => s.moveEntries c_1 c 64) s = t
  have hctx : (((t.modCtx c (fun k => { k with state := .saved, busy := false })).irq (t.ctx c).vec).ctx c) = { t.ctx c with state := .saved, busy := false } := by
    have hirq (u : State) (v : Nat) : (u.irq v).ctx c = u.ctx c := rfl
    rw [hirq, State.ctx_modCtx, if_pos rfl]
  rw [hctx]
  exact ⟨rfl, rfl⟩

/-- The end of a drain leaves the slots and the saved images. -/
theorem State.drainEnd_frame (s : State) (c : Nat) : (s.drainEnd c).slots = s.slots ∧ (s.drainEnd c).cx.saved = s.cx.saved := by
  unfold State.drainEnd
  split
  · exact ⟨rfl, rfl⟩
  · have hpeople := s.movedAll_people c
    dsimp only
    generalize (List.range 144).foldl (fun (s : State) c_1 => s.moveEntries c_1 c 64) s = t at hpeople
    obtain ⟨hslots, hsaved, -⟩ := State.endCommand_frame ((t.modCtx c (fun k => { k with state := .saved, busy := false })).irq (t.ctx c).vec) c (t.ctx c).cmdCount
    exact ⟨hslots.trans (congrArg Prod.snd hpeople), hsaved.trans (congrArg (fun p : Contexts × KMap Slot => p.1.saved) hpeople)⟩

/-! ### A drain and a restore that begin -/

theorem any_kmap {α : Type} (m : KMap α) (f : Nat → α → α) (p : α → Bool) (hf : ∀ i x, p (f i x) = p x) : (kmap m f).any (fun q => p q.2) = m.any (fun q => p q.2) := by
  rw [kmap, List.any_map]
  exact congrArg _ (funext fun q => hf q.1 q.2)

theorem State.dateOpen_any (s : State) (c : Nat) : s.dateOpen.slots.any (fun (p : Nat × Slot) => p.2.ctx == c) = s.slots.any (fun (p : Nat × Slot) => p.2.ctx == c) := by
  simp only [State.dateOpen]
  refine any_kmap s.slots _ (fun x => x.ctx == c) fun i x => ?_
  repeat' split
  all_goals rfl

/-- A context as its drain begins. -/
def Context.draining (k : Context) (now : Nat) : Context := { k with state := .draining, busy := true, cmdCount := 0, cmdAt := some now }

/-- A context as its restore begins. -/
def Context.restores (k : Context) (now : Nat) : Context := { k with state := .resident, busy := true, restoring := true, cmdCount := 0, cmdAt := some now }

theorem execCtxDrain_eq (hstate : (s.ctx c).state = .resident) (hbusy : (s.ctx c).busy = false) (hfault : (s.ctx c).faultAt ≠ some s.t.cycle) :
    execCtxDrain c s = .next (((s.modCtx c (fun k => k.draining s.t.cycle)).dateOpen).drainEnd c) := by
  rw [execCtxDrain, State.command_acts _ (by rw [hstate]; rfl) hbusy hfault, State.drain, State.modCtx_modCtx]
  rfl

theorem execCtxRestore_eq (hstate : (s.ctx c).state = .saved) (hbusy : (s.ctx c).busy = false) (hfault : (s.ctx c).faultAt ≠ some s.t.cycle) :
    execCtxRestore c s = .next ((s.modCtx c (fun k => k.restores s.t.cycle)).restoreEnd c) := by
  rw [execCtxRestore, State.command_acts _ (by rw [hstate]; rfl) hbusy hfault, State.restore, State.modCtx_modCtx]
  rfl

/-- A restore that ends. -/
theorem State.restoreEnd_ends (hrestoring : (s.ctx c).restoring = true) (hstate : (s.ctx c).state = .resident) (hsaved : s.cx.saved.any (fun v => v.ctx == c) = false) :
    ((s.restoreEnd c).ctx c).state = .resident ∧ ((s.restoreEnd c).ctx c).busy = false ∧ ((s.restoreEnd c).ctx c).restoring = false := by
  have hgo : ((s.ctx c).restoring && (s.ctx c).state == .resident && !s.cx.saved.any (fun v => v.ctx == c)) = true := by rw [hrestoring, hstate, hsaved]; rfl
  rw [State.restoreEnd, if_pos hgo]
  dsimp only
  rw [(State.endCommand_frame _ _ _).2.2.2.2, State.ctx_modCtx, if_pos rfl]
  exact ⟨hstate, rfl, rfl⟩

theorem State.restoreEnd_stays (h : s.cx.saved.any (fun v => v.ctx == c) = true) : s.restoreEnd c = s := by
  rw [State.restoreEnd, if_neg (by rw [h]; simp)]

/-- The end of a restore leaves the slots, the saved images and memory. -/
theorem State.restoreEnd_frame (s : State) (c : Nat) : (s.restoreEnd c).slots = s.slots ∧ (s.restoreEnd c).cx.saved = s.cx.saved ∧ (s.restoreEnd c).mem = s.mem := by
  unfold State.restoreEnd
  split
  · obtain ⟨hslots, hsaved, hmem, -⟩ := (s.modCtx c (fun k => { k with restoring := false, busy := false })).endCommand_frame c (s.ctx c).cmdCount
    exact ⟨hslots, hsaved, hmem⟩
  · exact ⟨rfl, rfl, rfl⟩

/-! ### RETIRE (18 R353) -/

/-- The slots and the kernels. -/
def State.crew (s : State) : KMap Slot × List Kernel := (s.slots, s.kn.kernels)

theorem Sends.crew {s t : State} (h : Sends s t) : t.crew = s.crew := by obtain ⟨o, ms, ls, rfl⟩ := h; rfl

theorem State.notify_crew (s : State) (v : Version) (reclaim : Bool) : (s.notify v reclaim).crew = s.crew :=
  foldl_keeps State.crew (fun t _ => (t.ask_sends ..).crew) _ s

theorem State.retireVersions_crew (s : State) (c : Nat) : (s.retireVersions c).crew = s.crew := by
  refine (foldl_keeps State.crew (fun t v => ?_) _ _).trans rfl
  split
  · rfl
  · split
    · rfl
    · exact (State.notify_crew _ _ _).trans rfl

theorem State.unbindEcho_crew (s : State) (r : Option Nat) : (s.unbindEcho r).crew = s.crew := by unfold State.unbindEcho; split <;> rfl

theorem State.delBarrier_crew (s : State) (k : BKey) : (s.delBarrier k).crew = s.crew := by unfold State.delBarrier; split <;> rfl

theorem State.freeBarrier_crew (s : State) (k : BKey) : (s.freeBarrier k none).crew = s.crew := by
  unfold State.freeBarrier
  split
  · rfl
  · exact (State.delBarrier_crew _ _).trans (State.unbindEcho_crew _ _)

/-- What is freed of a context beside its work leaves every slot its context, and the kernels. -/
theorem State.retireRest_crew (s : State) (c : Nat) : (s.retireRest c).kn.kernels = s.kn.kernels ∧
    ∀ i x, (s.retireRest c).slot i = some x → ∃ y, s.slot i = some y ∧ y.ctx = x.ctx := by
  have hbars (l : List Nat) (t : State) : (l.foldl (fun (s : State) k => s.freeBarrier (.die k) none) t).crew = t.crew :=
    foldl_keeps State.crew (fun t k => t.freeBarrier_crew (.die k)) l t
  have hdrop (t : State) : (t.tlbDrop 1 0 c false).kn = t.kn ∧ (t.tlbDrop 1 0 c false).slots =
      kmap t.slots (fun _ x => if 1 = 2 ∨ x.ctx = c then { x with xlat := [] } else x) := ⟨rfl, rfl⟩
  unfold State.retireRest
  dsimp only
  generalize hstart : ({ s with cores := _ } : State) = u
  have hu : u.crew = s.crew := by rw [← hstart]; rfl
  have hcrew := (hbars ((s.br.dieBars.filter (fun (p : Nat × Barrier) => p.2.ctx == c)).map (fun p => p.1)) u).trans hu
  generalize ((s.br.dieBars.filter (fun (p : Nat × Barrier) => p.2.ctx == c)).map (fun p => p.1)).foldl (fun (s : State) k => s.freeBarrier (.die k) none) u = t at hcrew
  have hslots : t.slots = s.slots := congrArg Prod.fst hcrew
  refine ⟨(congrArg Kernels.kernels (hdrop t).1).trans (congrArg Prod.snd hcrew), fun i x hx => ?_⟩
  rw [State.slot, (hdrop t).2, kget_kmap, hslots] at hx
  obtain ⟨y, hy, hyx⟩ := Option.map_eq_some_iff.1 hx
  refine ⟨y, hy, ?_⟩
  rw [← hyx]
  split <;> rfl

theorem execCtxRetire_steps (hstate : (s.ctx c).state = .built ∨ (s.ctx c).state = .admitted ∨ (s.ctx c).state = .saved ∨ (s.ctx c).state = .faulted)
    (hbusy : (s.ctx c).busy = false) (hfault : (s.ctx c).faultAt ≠ some s.t.cycle) : ∃ t : State, execCtxRetire c s = .next t ∧
    (t.ctx c).state = .retired ∧ (t.ctx c).busy = true ∧ (∀ i x, t.slot i = some x → x.ctx ≠ c) ∧ (∀ q ∈ t.kn.kernels, q.ctx ≠ c) := by
  have hok : ((s.ctx c).state == .built || (s.ctx c).state == .admitted || (s.ctx c).state == .saved || (s.ctx c).state == .faulted) = true := by
    rcases hstate with h | h | h | h <;> rw [h] <;> rfl
  rw [execCtxRetire, State.command_acts _ hok hbusy hfault]
  dsimp only
  generalize s.modCtx c (fun k => { k with cmdAt := some s.t.cycle }) = s'
  obtain ⟨-, hgone⟩ := s'.dropWork_ends c brFault
  generalize s'.dropWork c brFault = u at hgone
  generalize hv : ({ u with kn := _ } : State) = v
  have hvslots : v.slots = u.slots := by rw [← hv]
  have hvkernels : v.kn.kernels = u.kn.kernels.filter (fun k => k.ctx != c) := by rw [← hv]
  have hversions := v.retireVersions_crew c
  obtain ⟨hkernels, hslots⟩ := (v.retireVersions c).retireRest_crew c
  refine ⟨_, rfl, ?_, ?_, fun i x hx => ?_, fun q hq => ?_⟩
  · rw [State.ctx_modCtx, if_pos rfl]
  · rw [State.ctx_modCtx, if_pos rfl]
  · obtain ⟨y, hy, hyx⟩ := hslots i x hx
    have hsame : (v.retireVersions c).slots = u.slots := (congrArg Prod.fst hversions).trans hvslots
    rw [State.slot, hsame] at hy
    exact hyx ▸ hgone i y hy
  · have hsame : (v.retireVersions c).kn.kernels = v.kn.kernels := congrArg Prod.snd hversions
    have hq' : q ∈ u.kn.kernels.filter (fun k => k.ctx != c) := by rw [← hvkernels, ← hsame, ← hkernels]; exact hq
    exact bne_iff_ne.1 (List.mem_filter.1 hq').2

/-! ### Shares of the ports (18 R366) -/

/-- The value that every key of a list receives. -/
theorem kget_foldl_kset (l : List Nat) (f : Nat → Nat) (m : KMap Nat) (i : Nat) :
    kget (l.foldl (fun m c => kset m c (f c)) m) i = if i ∈ l then some (f i) else kget m i := by
  induction l generalizing m with
  | nil => rfl
  | cons c l ih =>
    rw [List.foldl_cons, ih, kget_kset]
    by_cases hl : i ∈ l
    · rw [if_pos hl, if_pos (List.mem_cons_of_mem c hl)]
    · rw [if_neg hl]
      by_cases hc : i = c
      · rw [if_pos hc, if_pos (hc ▸ List.mem_cons_self), hc]
      · rw [if_neg hc, if_neg (fun h => (List.mem_cons.1 h).elim hc hl)]

theorem execQosPeriodStart_steps (c : Nat) (hperiod : s.t.cycle % 1024 = 0) : ∃ t : State, execQosPeriodStart s = .next t ∧ { t with cores := s.cores } = s ∧
    ∀ n q, kget s.cores n = some q → (t.core n).active = [] ∧
      kgetD (t.core n).tokens c 0 = if c ∈ s.portActive n q then
        s.cx.portCap * kgetD s.cx.shares c 0x10 / ((s.portActive n q).map (fun a => kgetD s.cx.shares a 0x10)).foldl (fun a b => a + b) 0 else 0 := by
  refine ⟨{ s with cores := kmap s.cores (fun n k => k.refill (s.portActive n k) (fun a => kgetD s.cx.shares a 0x10) s.cx.portCap) },
    by rw [execQosPeriodStart, if_pos hperiod], rfl, fun n q hq => ?_⟩
  have hcore (cores : KMap CoreSt) (f : Nat → CoreSt → CoreSt) (hcores : cores = kmap s.cores f) : ({ s with cores := cores } : State).core n = f n q := by
    rw [State.core, hcores, kget_kmap, hq]; rfl
  rw [hcore _ _ rfl]
  refine ⟨rfl, ?_⟩
  rw [CoreSt.refill, kgetD, kget_foldl_kset]
  split <;> rfl

/-- The commands of contexts and the shares of the ports. -/
theorem contextSteps (s : State) (c : Nat) (k : Context) (hk : k = s.ctx c) :
    (∀ pa r, s.cx.builds = [] → s.isOwn (pa / 2 ^ 42) = true → pa % 2 ^ 42 + 256 ≤ s.memBytes → s.ueMem = [] → r = s.mem.readN (pa % 2 ^ 42) 256 →
      (k.state = .free → k.busy = false → ctxRecordForm r = true → s.ctxRecordAgents r = true → ∃ (t : State) (q : Context),
        exec (.ctxBuild c pa) s = .next t ∧ t.ctx c = q ∧ q.state = .built ∧ q.root.toNat = recWord r 0 ∧ q.hkid = recWord r 1 % 2 ^ 12 ∧
        q.rep = recWord r 8 ∧ q.ihbase.toNat = recWord r 9 ∧ q.phbase.toNat = recWord r 11 ∧ q.phsize = recWord r 12 ∧ q.savebase.toNat = recWord r 13 ∧
        (∀ i, i < 8 → q.dies[i]? = some (recAgent r 0x30 i)) ∧ (∀ i, i < 16 → q.nsmap[i]? = some (recAgent r 0x10 i)) ∧
        (∀ i, i < 32 → ∃ z, q.traptab[i]? = some z ∧ z.1 = r.testBit (8 * 0x80 + 32 * i)) ∧ (∀ j, j ≠ c → t.ctx j = s.ctx j) ∧ t.mem = s.mem) ∧
      ((k.state ≠ .free ∨ k.busy = true ∨ ctxRecordForm r = false ∨ s.ctxRecordAgents r = false) → exec (.ctxBuild c pa) s = .next (s.ctxReject c))) ∧
    (k.state = .built → k.busy = false → k.faultAt ≠ some s.t.cycle →
      exec (.ctxAdmit c) s = .next (s.modCtx c (fun q => { q with state := .admitted, cmdAt := some s.t.cycle }))) ∧
    (k.state = .admitted → k.busy = false → k.faultAt ≠ some s.t.cycle →
      exec (.ctxRun c) s = .next (s.modCtx c (fun q => { q with state := .resident, cmdAt := some s.t.cycle }))) ∧
    (∀ e ∈ ([(.ctxAdmit c, [.built]), (.ctxRun c, [.admitted]), (.ctxDrain c, [.resident]), (.ctxRestore c, [.saved]),
        (.ctxRetire c, [.built, .admitted, .saved, .faulted])] : List (Instr × List CState)),
      (k.state ∉ e.2 ∨ k.busy = true ∨ k.faultAt = some s.t.cycle) → exec e.1 s = .next (s.ctxReject c)) ∧
    (k.state = .resident → k.busy = false → k.faultAt ≠ some s.t.cycle →
      (s.slots.any (fun p => p.2.ctx == c) = true → ∃ t : State, exec (.ctxDrain c) s = .next t ∧
        t.ctx c = { k with state := .draining, busy := true, cmdCount := 0, cmdAt := some s.t.cycle } ∧ t.mem = s.mem ∧ ∀ j, j ≠ c → t.ctx j = s.ctx j) ∧
      (s.slots.any (fun p => p.2.ctx == c) = false → s.cx.saved.any (fun v => v.ctx == c) = false → ∃ t : State, exec (.ctxDrain c) s = .next t ∧
        (t.ctx c).state = .saved ∧ (t.ctx c).busy = false)) ∧
    (k.state = .saved → k.busy = false → k.faultAt ≠ some s.t.cycle →
      (s.cx.saved.any (fun v => v.ctx == c) = true → ∃ t : State, exec (.ctxRestore c) s = .next t ∧
        t.ctx c = { k with state := .resident, busy := true, restoring := true, cmdCount := 0, cmdAt := some s.t.cycle } ∧ t.mem = s.mem) ∧
      (s.cx.saved.any (fun v => v.ctx == c) = false → ∃ t : State, exec (.ctxRestore c) s = .next t ∧ (t.ctx c).state = .resident ∧
        (t.ctx c).busy = false ∧ (t.ctx c).restoring = false)) ∧
    (k.state = .built ∨ k.state = .admitted ∨ k.state = .saved ∨ k.state = .faulted → k.busy = false → k.faultAt ≠ some s.t.cycle → ∃ t : State, exec (.ctxRetire c) s = .next t ∧
      (t.ctx c).state = .retired ∧ (t.ctx c).busy = true ∧ (∀ i x, t.slot i = some x → x.ctx ≠ c) ∧ (∀ q ∈ t.kn.kernels, q.ctx ≠ c)) ∧
    (k.state = .retired → s.vs.versions.any (fun v => v.ctx == c) = false → ∃ t : State, exec (.contextReclaimEnd c) s = .next t ∧
      t.ctx c = { k with state := .free, busy := false } ∧ t.slots = s.slots ∧ t.mem = s.mem) ∧
    (k.state = .retired → s.vs.versions.any (fun v => v.ctx == c) = true → exec (.contextReclaimEnd c) s = .next s) ∧
    (s.t.cycle % 1024 = 0 → ∃ t : State, exec .qosPeriodStart s = .next t ∧ { t with cores := s.cores } = s ∧
      ∀ n q, kget s.cores n = some q → (t.core n).active = [] ∧
        kgetD (t.core n).tokens c 0 = if c ∈ s.portActive n q then
          s.cx.portCap * kgetD s.cx.shares c 0x10 / ((s.portActive n q).map (fun a => kgetD s.cx.shares a 0x10)).foldl (fun a b => a + b) 0 else 0) := by
  subst hk
  refine ⟨fun pa r hbuilds hown hfits hue hr => ?_, fun hstate hbusy hfault => ?_, fun hstate hbusy hfault => ?_, fun e he hno => ?_,
    fun hstate hbusy hfault => ⟨fun hslots => ?_, fun hslots hsaved => ?_⟩, fun hstate hbusy hfault => ⟨fun hsaved => ?_, fun hsaved => ?_⟩,
    fun hstate hbusy hfault => execCtxRetire_steps hstate hbusy hfault, fun hstate hnone => ?_, fun hstate hsome => ?_, fun hperiod => execQosPeriodStart_steps c hperiod⟩
  · have hexec : exec (.ctxBuild c pa) s = _ := execCtxBuild_own hbuilds hown hfits hue hr
    refine ⟨fun hfree hbusy hform hagents => ?_, fun hbad => ?_⟩
    · rw [hfree, hbusy] at hexec
      obtain ⟨names, hbuild⟩ := State.buildWith_good (s := s) (c := c) hform hagents
      obtain ⟨hstate, hroot, hhkid, hrep, hih, hph, hphs, hsave, hdies, hns, htrap⟩ := (s.ctx c).build_fields r
      refine ⟨(({ s with vs := { s.vs with names := names } } : State).modCtx c (fun k => k.build r)), (s.ctx c).build r, hexec.trans (congrArg Host.Outcome.next hbuild), ?_, hstate,
        hroot, hhkid, hrep, hih, hph, hphs, hsave, hdies, hns, htrap, fun j hj => ?_, rfl⟩
      · exact (State.ctx_modCtx _ c c _).trans (if_pos rfl)
      · exact (State.ctx_modCtx _ c j _).trans (if_neg hj)
    · rw [hexec]
      by_cases hheld : ((s.ctx c).state != .free || (s.ctx c).busy) = true
      · rw [if_pos hheld]
      · have hfree : ¬((s.ctx c).state ≠ .free ∨ (s.ctx c).busy = true) := by simpa using hheld
        have hrecord : ctxRecordForm r = false ∨ s.ctxRecordAgents r = false :=
          hbad.elim (fun h => absurd (.inl h) hfree) fun h => h.elim (fun h => absurd (.inr h) hfree) id
        have hgo : (!ctxRecordForm r || !s.ctxRecordAgents r) = true := by rcases hrecord with h | h <;> simp [h]
        rw [if_neg hheld, State.buildWith, if_pos hgo]
  · show execCtxAdmit c s = _
    rw [execCtxAdmit, State.command_acts _ (by rw [hstate]; rfl) hbusy hfault, State.modCtx_modCtx]
  · show execCtxRun c s = _
    rw [execCtxRun, State.command_acts _ (by rw [hstate]; rfl) hbusy hfault, State.modCtx_modCtx]
  · have hreject {ok : CState → Bool} (f : State → State) {l : List CState} (hok : ∀ z, ok z = true → z ∈ l)
        (hno : (s.ctx c).state ∉ l ∨ (s.ctx c).busy = true ∨ (s.ctx c).faultAt = some s.t.cycle) :
        (Host.Outcome.next (s.command c ok f) : Host.Outcome State Fault Refusal) = .next (s.ctxReject c) := by
      refine congrArg _ (State.command_rejects f (hno.imp (fun h => ?_) id))
      exact Bool.eq_false_iff.2 fun hz => h (hok _ hz)
    simp only [List.mem_cons, List.not_mem_nil, or_false] at he
    rcases he with rfl | rfl | rfl | rfl | rfl
    · exact hreject (l := [.built]) _ (fun z hz => by simpa [or_assoc] using hz) hno
    · exact hreject (l := [.admitted]) _ (fun z hz => by simpa [or_assoc] using hz) hno
    · exact hreject (l := [.resident]) _ (fun z hz => by simpa [or_assoc] using hz) hno
    · exact hreject (l := [.saved]) _ (fun z hz => by simpa [or_assoc] using hz) hno
    · exact hreject (l := [.built, .admitted, .saved, .faulted]) _ (fun z hz => by simpa [or_assoc] using hz) hno
  · have hexec : exec (.ctxDrain c) s = _ := execCtxDrain_eq hstate hbusy hfault
    have hany : ((s.modCtx c (fun k => k.draining s.t.cycle)).dateOpen).slots.any (fun (p : Nat × Slot) => p.2.ctx == c) = true :=
      (State.dateOpen_any _ c).trans hslots
    rw [State.drainEnd_stays (by rw [hany]; simp)] at hexec
    have hctx (j : Nat) : (s.modCtx c (fun k => k.draining s.t.cycle)).dateOpen.ctx j = (s.modCtx c (fun k => k.draining s.t.cycle)).ctx j := rfl
    refine ⟨_, hexec, ?_, rfl, fun j hj => ?_⟩
    · rw [hctx, State.ctx_modCtx, if_pos rfl]; rfl
    · rw [hctx, State.ctx_modCtx, if_neg hj]
  · have hexec : exec (.ctxDrain c) s = _ := execCtxDrain_eq hstate hbusy hfault
    have hany : ((s.modCtx c (fun k => k.draining s.t.cycle)).dateOpen).slots.any (fun (p : Nat × Slot) => p.2.ctx == c) = false :=
      (State.dateOpen_any _ c).trans hslots
    have himages : ((s.modCtx c (fun k => k.draining s.t.cycle)).dateOpen).imagesWritten c = true := by
      refine List.all_eq_true.2 fun v hv => ?_
      have hne : (v.ctx == c) = false := by simpa using List.any_eq_false.1 hsaved v hv
      rw [bne, hne]; rfl
    have hctx : (s.modCtx c (fun k => k.draining s.t.cycle)).dateOpen.ctx c = (s.modCtx c (fun k => k.draining s.t.cycle)).ctx c := rfl
    rw [State.ctx_modCtx, if_pos rfl] at hctx
    obtain ⟨hsaved', hbusy'⟩ := State.drainEnd_ends (by rw [hctx]; rfl) hany himages
    exact ⟨_, hexec, hsaved', hbusy'⟩
  · have hexec : exec (.ctxRestore c) s = _ := execCtxRestore_eq hstate hbusy hfault
    rw [State.restoreEnd_stays (s := s.modCtx c (fun k => k.restores s.t.cycle)) hsaved] at hexec
    exact ⟨_, hexec, (State.ctx_modCtx s c c _).trans (if_pos rfl), rfl⟩
  · have hexec : exec (.ctxRestore c) s = _ := execCtxRestore_eq hstate hbusy hfault
    have hctx : (s.modCtx c (fun k => k.restores s.t.cycle)).ctx c = (s.ctx c).restores s.t.cycle := (State.ctx_modCtx s c c _).trans (if_pos rfl)
    obtain ⟨hresident, hbusy', hover⟩ := State.restoreEnd_ends (s := s.modCtx c (fun k => k.restores s.t.cycle)) (c := c) (by rw [hctx]; rfl) (by rw [hctx]; rfl) hsaved
    exact ⟨_, hexec, hresident, hbusy', hover⟩
  · have hexec : exec (.contextReclaimEnd c) s = execContextReclaimEnd c s := rfl
    rw [execContextReclaimEnd, if_pos ⟨hstate, by rw [hnone]; decide⟩] at hexec
    exact ⟨_, hexec, (State.ctx_modCtx _ c c _).trans (if_pos rfl), rfl, rfl⟩
  · show execContextReclaimEnd c s = _
    rw [execContextReclaimEnd, if_neg (by rw [hsome]; simp)]

end

end Sys2Proof.Machine
end

section
/-!
Saved slots: the save, a reply to an image, and the restore (18 R359 to R364).
-/

namespace Sys2Proof.Machine

section
variable {s : State} {sid : Nat} {x : Slot}

/-! ### A slot at its boundary (18 R359) -/

theorem State.withdraws_ready (hstatus : x.status = .ready) : s.withdraws x = none := by simp only [State.withdraws, hstatus]

theorem State.savable_ready (hopen : x.openPkt = none) (hresults : x.results = []) (hpair : x.pairMode = false) (hstatus : x.status = .ready) :
    s.savable sid x = true := by
  simp only [State.savable, hopen, hresults, hpair, hstatus, Option.isNone_none, List.all_nil, Bool.not_false, Bool.true_or, Bool.and_self]

theorem State.depositsOf_none (hdeps : ∀ p ∈ s.deps, p.2.sid ≠ sid) : s.depositsOf sid = s :=
  foldl_eq_self fun p hp => if_neg fun h => hdeps p hp h.1

theorem State.leaveCore_people (s : State) (core ctx : Nat) (pair : Bool) : (s.leaveCore core ctx pair).slots = s.slots ∧ (s.leaveCore core ctx pair).cx = s.cx := by
  simp only [State.leaveCore]
  repeat' split
  all_goals exact ⟨rfl, rfl⟩

/-- An image that has just been taken of a slot, and is still to be written. -/
structure Taken (s : State) (sid : Nat) (x : Slot) (place : Nat × Nat) (v : Saved) : Prop where
  sid : v.sid = sid
  ctx : v.ctx = x.ctx
  order : v.order = s.cx.saveOrder
  place : v.place = some place
  slot : v.slot = { x with xlat := [], gang := none, longer := 0 }
  size : v.size = 0x1100 + 65 * x.space / 64
  written : v.written = false

/-- A READY slot without deposits leaves its core for an image. -/
theorem State.takeOff_ready {g : Nat × Nat} (hslot : s.slot sid = some x) (hstatus : x.status = .ready)
    (hdeps : ∀ p ∈ s.deps, p.2.sid ≠ sid) : ∃ v : Saved, Taken s sid x g v ∧ (s.takeOff sid x (some g) false).slots = kdel s.slots sid ∧
      (s.takeOff sid x (some g) false).cx.saved = s.cx.saved ++ [v] := by
  obtain ⟨core, gran⟩ := g
  have hnone : (s.deps.filter (fun (p : Nat × Dep) => p.2.sid == sid && p.2.len != 0)).map (fun p => p.1) = [] := by
    rw [List.filter_eq_nil_iff.2 fun p hp => by simp [hdeps p hp]]; rfl
  have hwithdraws : s.withdraws x = none := State.withdraws_ready hstatus
  simp only [State.takeOff, hwithdraws, hslot, Option.bind_some, hnone]
  refine ⟨{ sid := sid, ctx := x.ctx, order := s.cx.saveOrder, slot := { x with xlat := [], gang := none, longer := 0 }, place := some (core, gran)
            size := imageSize x.space 0, deps := [], drawn := s.draw.1 % 2 ^ (64 * (10 + ([] : List Nat).length)), extra := (x.stallLeft s.t.cycle).2 },
    ⟨rfl, rfl, rfl, rfl, rfl, rfl, rfl⟩, (State.leaveCore_people _ _ _ _).1.trans rfl, ?_⟩
  rw [(State.leaveCore_people _ _ _ _).2]
  rfl

/-- The image that was taken last is the one of its number. -/
theorem State.image_last {t : State} {l : List Saved} {v : Saved} (hsaved : t.cx.saved = l ++ [v]) (hold : ∀ w ∈ l, w.order < v.order) :
    t.image (v.order + savedBase) = some v := by
  rw [State.image, hsaved, List.find?_append, List.find?_eq_none.2 fun w hw => ?_, Option.none_or]
  · simp
  · have := hold w hw
    simp only [beq_iff_eq]
    omega

theorem State.imagePut_area {v : Saved} {core g : Nat} (hplace : v.place = some (core, g)) (n : Nat) :
    s.imagePut v n = (.ok [], s.locWrite core (4096 * g) (bytesOf v.size n)) := by simp only [State.imagePut, hplace]

/-- An image that has a place in a save area is written at once. -/
theorem State.writeImage_area {v : Saved} {core g : Nat} (hplace : v.place = some (core, g)) (hwritten : v.written = false) (hmem : v ∈ s.cx.saved) :
    (s.writeImage v).slots = s.slots ∧ { v with written := true, writes := [] } ∈ (s.writeImage v).cx.saved := by
  have hwrite : s.writeImage v = ((s.locWrite core (4096 * g) (bytesOf v.size (s.imageOf v))).modImage (v.order + savedBase)
      (fun w => { w with written := true, writes := [] })).drainEnd v.ctx := by
    simp only [State.writeImage, hwritten, Bool.false_eq_true, if_false, State.imagePut_area hplace]
  rw [hwrite]
  obtain ⟨hslots, hsaved⟩ := State.drainEnd_frame ((s.locWrite core (4096 * g) (bytesOf v.size (s.imageOf v))).modImage (v.order + savedBase)
    (fun w => { w with written := true, writes := [] })) v.ctx
  refine ⟨hslots, ?_⟩
  rw [hsaved]
  exact List.mem_map.2 ⟨v, hmem, if_pos (beq_self_eq_true _)⟩

/-- A READY slot of a DRAINING context without deposits is saved into its core's save area. -/
theorem execSlotSave_steps {g : Nat} (hslot : s.slot sid = some x) (hsid : sid < 2304) (hstate : (s.ctx x.ctx).state = .draining) (hstatus : x.status = .ready)
    (hopen : x.openPkt = none) (hresults : x.results = []) (hpair : x.pairMode = false) (hdeps : ∀ p ∈ s.deps, p.2.sid ≠ sid)
    (hold : ∀ w ∈ s.cx.saved, w.order < s.cx.saveOrder) (hfit : (s.core (sid / 16)).saveFit ((0x1100 + 65 * x.space / 64 + 4095) / 4096) = some g) :
    ∃ (t : State) (v : Saved), execSlotSave sid s = .next t ∧ t.slot sid = none ∧ v ∈ t.cx.saved ∧ v.sid = sid ∧ v.ctx = x.ctx ∧ v.written = true ∧
      v.order = s.cx.saveOrder ∧ v.place = some (sid / 16, g) ∧ v.slot = { x with xlat := [], gang := none, longer := 0 } ∧ v.size = 0x1100 + 65 * x.space / 64 ∧
      (∀ k, k ≠ sid → t.slot k = s.slot k) := by
  have hbase : ¬savedBase ≤ sid := by unfold savedBase; omega
  have hwanted : s.saveWanted sid x = true := by simp [State.saveWanted, hstate]
  have hsavable : s.savable sid x = true := State.savable_ready hopen hresults hpair hstatus
  have hevac : ((s.ctx x.ctx).state != .draining) = false := by rw [hstate]; rfl
  have hnone : (s.deps.filter (fun (p : Nat × Dep) => p.2.sid == sid && p.2.len != 0)).length = 0 := by
    rw [List.filter_eq_nil_iff.2 fun p hp => by simp [hdeps p hp]]; rfl
  have hplace : s.savePlace sid x.ctx (ceilDiv (imageSize x.space 0) 4096) false = some (some (sid / 16, g)) := by
    have hsize : ceilDiv (imageSize x.space 0) 4096 = (0x1100 + 65 * x.space / 64 + 4095) / 4096 := rfl
    simp only [State.savePlace, State.saveCores, Bool.false_eq_true, if_false, List.findSome?_cons, hsize, hfit, Option.map_some]
  obtain ⟨v, hv, hslots, hsaved⟩ := State.takeOff_ready (g := (sid / 16, g)) hslot hstatus hdeps
  have himage := State.image_last hsaved (fun w hw => by rw [hv.order]; exact hold w hw)
  rw [hv.order] at himage
  obtain ⟨hslots', hin⟩ := State.writeImage_area hv.place hv.written (hsaved ▸ List.mem_append_right _ (List.mem_singleton.2 rfl))
  refine ⟨(s.takeOff sid x (some (sid / 16, g)) false).writeImage v, { v with written := true, writes := [] }, ?_, ?_, hin, hv.sid, hv.ctx, rfl, hv.order, hv.place, hv.slot,
    hv.size, fun k hk => ?_⟩
  · simp only [execSlotSave, if_neg hbase, hslot, hwanted, hsavable, Bool.not_true, Bool.or_self, Bool.false_eq_true, if_false, State.depositsOf_none hdeps,
      Option.getD_some, hevac, hnone, hplace, himage]
  · rw [State.slot, hslots', hslots, kget_kdel_same]
  · rw [State.slot, hslots', hslots, kget_kdel_other _ hk]; rfl

/-! ### A reply to an image (18 R363) -/

theorem State.image_mem {i : Nat} {v : Saved} (h : s.image i = some v) : v ∈ s.cx.saved ∧ v.order + savedBase = i :=
  ⟨List.mem_of_find?_eq_some h, beq_iff_eq.1 (List.find?_some (p := fun v : Saved => v.order + savedBase == i) h)⟩

/-- An image in a save area is changed in place. -/
theorem State.updateImage_area {v : Saved} {p : Nat × Nat} (hwritten : v.written = true) (hwrites : v.writes = []) (himage : v.image = none) (hplace : v.place = some p)
    (f : Slot → Slot) (done : Option Nat) : ∃ n : Nat, (s.updateImage v f done).1 = some ((s.locWrite p.1 (4096 * p.2) (bytesOf v.size n)).modImage (v.order + savedBase)
      (fun w => { w with slot := f w.slot, writes := [] })) := by
  obtain ⟨core, g⟩ := p
  have hreach : s.reachable v = true := by rw [State.reachable, hwritten, hwrites, himage]; rfl
  have hget : s.imageGet v = (.ok ((s.core core).loc.readN (4096 * g) v.size), s) := by simp only [State.imageGet, hplace]
  simp only [State.updateImage, hreach, Bool.not_true, Bool.false_eq_true, if_false, hget, State.imagePut_area hplace]
  exact ⟨_, rfl⟩

/-- A complete reply to a saved slot fills the registers saved. -/
theorem execReplyToImage_steps {rid : Nat} {d : Dep} {v : Saved} {p : Nat × Nat} (hd : kget s.deps rid = some d) (hdone : d.outstanding = 0)
    (hv : s.image d.sid = some v) (hwritten : v.written = true) (hwrites : v.writes = []) (himage : v.image = none) (hplace : v.place = some p) :
    ∃ (t : State) (w : Saved), execReplyToImage rid none s = .next t ∧ kget t.deps rid = none ∧ w ∈ t.cx.saved ∧ w.order = v.order ∧
      w.slot = v.slot.fillSaved rid d ∧ t.slots = s.slots ∧ t.mem = s.mem := by
  obtain ⟨n, hupdate⟩ := State.updateImage_area (s := s) hwritten hwrites himage hplace (Slot.fillSaved rid d) (v.deps.findIdx? (fun r => r == rid))
  generalize hu : (s.locWrite p.1 (4096 * p.2) (bytesOf v.size n)).modImage (v.order + savedBase) (fun w => { w with slot := Slot.fillSaved rid d w.slot, writes := [] }) = u
    at hupdate
  have hsaved : { v with slot := v.slot.fillSaved rid d, writes := [] } ∈ u.cx.saved := by
    rw [← hu]
    exact List.mem_map.2 ⟨v, (State.image_mem hv).1, if_pos (beq_self_eq_true _)⟩
  have hframe : u.slots = s.slots ∧ u.mem = s.mem := by rw [← hu]; exact ⟨rfl, rfl⟩
  refine ⟨{ u with deps := kdel u.deps rid }, _, ?_, kget_kdel_same _ _, hsaved, rfl, rfl, hframe.1, hframe.2⟩
  have hreply : s.replySaved rid d v = { u with deps := kdel u.deps rid } := by
    unfold State.replySaved
    generalize s.updateImage v (Slot.fillSaved rid d) (v.deps.findIdx? (fun r => r == rid)) = z at hupdate
    obtain ⟨z1, z2⟩ := z
    dsimp only at hupdate
    subst hupdate
    rfl
  simp only [execReplyToImage, hd, hv, hdone, if_true, hreply]

/-! ### A slot restored (18 R364) -/

theorem Slot.setKreg_recvs (x : Slot) (n v : Nat) : (x.setKreg n v).recvs = x.recvs := by
  unfold Slot.setKreg
  split <;> rfl

theorem foldl_keeps_slot {α β : Type} {f : Slot → α → Slot} (g : Slot → β) (hf : ∀ x a, g (f x a) = g x) (l : List α) (x : Slot) : g (l.foldl f x) = g x := by
  induction l generalizing x with
  | nil => rfl
  | cons a l ih => exact (ih _).trans (hf x a)

theorem Slot.ofStateWords_recvs (x : Slot) (w : Nat → Nat) : (x.ofStateWords w).recvs = x.recvs := by
  unfold Slot.ofStateWords
  dsimp only
  exact foldl_keeps_slot Slot.recvs (fun x p => x.setKreg_recvs _ _) _ x

theorem Slot.ofImage_recvs (x : Slot) (n : Nat) : (x.ofImage n).recvs = x.recvs := by
  simp only [Slot.ofImage, Slot.ofStateWords_recvs]

theorem State.startSlot_people (s : State) (sid : Nat) (x : Slot) : (s.startSlot sid x).cx = s.cx ∧ (s.startSlot sid x).mem = s.mem := by
  have hclaim (t : State) (core ctx : Nat) : (t.claimCore core ctx).cx = t.cx ∧ (t.claimCore core ctx).mem = t.mem := by
    simp only [State.claimCore]; split <;> exact ⟨rfl, rfl⟩
  obtain ⟨hcx, hmem⟩ := hclaim (s.newId.2.dropWritable (sid / 16)) (sid / 16) x.ctx
  simp only [State.startSlot]
  split <;> exact ⟨hcx, hmem⟩

/-- What a restored slot is beside what its image says. -/
def Slot.restored (y : Slot) (status : Status) (pair : Bool) (owned : Option InboxEntry) (pos : Nat) (waits : List Nat) : Slot :=
  { y with status := status, pairMode := pair, owned := owned, ownedPos := pos, waitFor := waits }

/-- The requests of a slot at the SFU follow it to its new place. -/
def State.restoreSfu (s : State) (v : Saved) (sid : Nat) : State :=
  let mine : List SfuEntry := (s.core (v.sid / 16)).sfu.filter (fun q => q.image == some v.order)
  if mine = [] then s else
    if sid / 16 != v.sid / 16 then
      (s.modCore (v.sid / 16) (fun k => { k with sfu := k.sfu.filter (fun q => q.image != some v.order) })).modCore (sid / 16)
        (fun k => { k with sfu := k.sfu ++ mine.map (fun q => { q with sid := sid, image := none, start := none }) })
    else s.modCore (sid / 16) (fun k => { k with sfu := k.sfu.map (fun q => if q.image = some v.order then { q with sid := sid, image := none } else q) })

theorem State.restoreSfu_people (s : State) (v : Saved) (sid : Nat) : (s.restoreSfu v sid).slots = s.slots ∧ (s.restoreSfu v sid).cx = s.cx ∧
    (s.restoreSfu v sid).mem = s.mem := by
  simp only [State.restoreSfu]
  repeat' split
  all_goals exact ⟨rfl, rfl, rfl⟩

/-- An image leaves its place, and what it has asked for answers to the slot on which it is restored. -/
def State.unsave (s : State) (v : Saved) (sid : Nat) : State :=
  (({ s with cx := { s.cx with saved := s.cx.saved.filter (fun w => w.order != v.order) } } : State).freeArea v).renumber (v.order + savedBase) sid

theorem State.unsave_people (s : State) (v : Saved) (sid : Nat) : (s.unsave v sid).slots = s.slots ∧
    (s.unsave v sid).cx.saved = s.cx.saved.filter (fun w => w.order != v.order) ∧ (s.unsave v sid).mem = s.mem := by
  have harea (t : State) : (t.freeArea v).slots = t.slots ∧ (t.freeArea v).cx = t.cx ∧ (t.freeArea v).mem = t.mem := by
    unfold State.freeArea; split <;> exact ⟨rfl, rfl, rfl⟩
  obtain ⟨hslots, hcx, hmem⟩ := harea { s with cx := { s.cx with saved := s.cx.saved.filter (fun w => w.order != v.order) } }
  exact ⟨hslots, congrArg Contexts.saved hcx, hmem⟩

theorem State.restoreSlot_eq {v : Saved} {y : Slot} (hback : v.back = none) {sid im : Nat} (hy : y = v.slot.ofImage im) : ∃ st b o n w, s.restoreSlot v sid im =
    (((((s.unsave v sid).startSlot sid (y.restored st b o n w)).restoreSfu v sid).reissueAll sid v).serveRecvs (sid / 16)) := by
  refine ⟨y.restoredStatus (bitsOf 127 64 im) s.t.cycle v.extra, s.pairOn v.ctx, if sid / 16 != v.sid / 16 then none else y.owned,
    if sid / 16 != v.sid / 16 then 0 else y.ownedPos, y.waitFor ++ s.leftBehind (v.order + savedBase), ?_⟩
  simp only [State.restoreSlot, hback, ← hy]
  rfl

/-- An image of a single slot, without deposits, is restored. -/
theorem State.restoreSlot_single {v : Saved} {y : Slot} (hback : v.back = none) (hdeps : v.deps = []) (hrecvs : v.slot.recvs = [])
    (hquiet : ∀ i x, s.slot i = some x → x.recvs = []) {sid im : Nat} (hy : y = v.slot.ofImage im) : ∃ st b o n w a,
    (s.restoreSlot v sid im).slots = kset s.slots sid { y.restored st b o n w with age := a } ∧
      (s.restoreSlot v sid im).cx.saved = s.cx.saved.filter (fun w => w.order != v.order) ∧ (s.restoreSlot v sid im).mem = s.mem := by
  have hyrecvs : y.recvs = [] := by rw [hy, Slot.ofImage_recvs, hrecvs]
  obtain ⟨st, b, o, n, w, heq⟩ := State.restoreSlot_eq (s := s) (sid := sid) hback hy
  obtain ⟨hslots, hsaved, hmem⟩ := s.unsave_people v sid
  obtain ⟨-, -, hstart⟩ := (s.unsave v sid).startSlot_frame sid (y.restored st b o n w)
  obtain ⟨hcx', hmem'⟩ := (s.unsave v sid).startSlot_people sid (y.restored st b o n w)
  obtain ⟨hslots'', hcx'', hmem''⟩ := ((s.unsave v sid).startSlot sid (y.restored st b o n w)).restoreSfu_people v sid
  generalize ((s.unsave v sid).startSlot sid (y.restored st b o n w)).restoreSfu v sid = t at heq hslots'' hcx'' hmem''
  have hall : t.slots = kset s.slots sid { y.restored st b o n w with age := (s.unsave v sid).o.nextId } := by rw [hslots'', hstart, hslots]
  have hreissue : t.reissueAll sid v = t := by rw [State.reissueAll, hdeps]; rfl
  have hserve : t.serveRecvs (sid / 16) = t := State.serveRecvs_none fun j x hx _ => by
    rw [State.slot, hall, kget_kset] at hx
    split at hx
    · cases hx
      exact hyrecvs
    · exact hquiet _ x hx
  rw [hreissue, hserve] at heq
  rw [heq]
  exact ⟨st, b, o, n, w, _, hall, by rw [hcx'', hcx', hsaved], hmem''.trans (hmem'.trans hmem)⟩

/-! ### The place of a unit -/

theorem State.unitPlace_draws (s : State) (ctx : Nat) (unit : List Saved) : ∃ o, (s.unitPlace ctx unit).2 = { s with o := o } := by
  simp only [State.unitPlace]
  repeat' split
  all_goals exact ⟨_, rfl⟩

theorem State.followEcho_people (s : State) (group : Nat) : (s.followEcho group).slots = s.slots ∧ (s.followEcho group).cx = s.cx ∧
    (s.followEcho group).mem = s.mem := by
  unfold State.followEcho
  split
  · exact ⟨rfl, rfl, rfl⟩
  · refine ⟨foldl_keeps State.slots (fun t p => ?_) _ s, foldl_keeps State.cx (fun t p => ?_) _ s, foldl_keeps State.mem (fun t p => ?_) _ s⟩
    all_goals split <;> rfl

/-- The restore that is counted, and that ends with its context's last image, keeps slots, images and memory. -/
theorem State.countedEnd_frame (s : State) (c : Nat) : ((s.modCtx c (fun k => { k with cmdCount := k.cmdCount + 1 })).restoreEnd c).slots = s.slots ∧
    ((s.modCtx c (fun k => { k with cmdCount := k.cmdCount + 1 })).restoreEnd c).cx.saved = s.cx.saved ∧
    ((s.modCtx c (fun k => { k with cmdCount := k.cmdCount + 1 })).restoreEnd c).mem = s.mem :=
  (s.modCtx c (fun k => { k with cmdCount := k.cmdCount + 1 })).restoreEnd_frame c

/-- A single image that has been read is restored on the slot chosen for it. -/
theorem execSavedSlotPlace_steps {c core q im : Nat} {v : Saved} {u : State} {y : Slot} (hstate : (s.ctx c).state = .resident) (hunit : s.nextUnit c = [v])
    (hwritten : v.written = true) (hwrites : v.writes = []) (himage : v.image = some im) (hchecks : v.checks im = true) (hback : v.back = none) (hdeps : v.deps = [])
    (hrecvs : v.slot.recvs = []) (hquiet : ∀ i x, s.slot i = some x → x.recvs = []) (hgone : s.slots.any (fun p => v.slot.group == p.2.group) = false)
    (hhold : s.couldHold c [v] = true) (hplace : s.unitPlace c [v] = (some [(core, [q])], u)) (hy : y = v.slot.ofImage im) :
    ∃ (t : State) (z : Slot), execSavedSlotPlace c s = .next t ∧ t.slot (16 * core + q) = some z ∧ z.pc = y.pc ∧ z.ctx = y.ctx ∧ z.file = y.file ∧
      z.ofile = y.ofile ∧ z.lat = y.lat ∧ z.empty = y.empty ∧ z.flags = y.flags ∧ z.sup = y.sup ∧ z.trapc = y.trapc ∧ z.epc = y.epc ∧
      (∀ w ∈ t.cx.saved, w.order ≠ v.order) ∧ t.mem = s.mem ∧ (∀ k, k ≠ 16 * core + q → t.slot k = s.slot k) := by
  obtain ⟨o, ho⟩ := s.unitPlace_draws c [v]
  have ho : u = { s with o := o } := by rw [hplace] at ho; exact ho
  have hready : ([v].all (fun v => v.written && v.writes.all s.settled) && !s.slots.any (fun (p : Nat × Slot) => [v].any (fun v => v.slot.group == p.2.group))) = true := by
    simp only [List.all_cons, List.all_nil, List.any_cons, List.any_nil, Bool.or_false, hwritten, hwrites, hgone, Bool.and_self, Bool.not_false]
  have hread : u.readUnit [v] = (.ok (), u) := by
    simp only [State.readUnit, List.foldl_cons, List.foldl_nil, himage, Option.isSome_some, if_true]
  have hunit' : u.nextUnit c = [v] := by rw [← hunit, ho]; rfl
  have hfind : [v].find? (fun v => !v.checks (v.image.getD 0)) = none :=
    List.find?_eq_none.2 fun w hw => by rw [List.mem_singleton.1 hw, himage, Option.getD_some, hchecks]; decide
  have hsid : sidOf core q = 16 * core + q := by rw [sidOf, Nat.mul_comm]
  obtain ⟨hslots, hcx, hmem⟩ := State.followEcho_people ({ u with gr := { u.gr with groups := kmod u.gr.groups v.slot.group (fun (g : Group) =>
    { g with cores := [core], slots := [[q]] }) } } : State) v.slot.group
  generalize he : ({ u with gr := { u.gr with groups := kmod u.gr.groups v.slot.group (fun (g : Group) =>
    { g with cores := [core], slots := [[q]] }) } } : State).followEcho v.slot.group = e at hslots hcx hmem
  have hkept : e.slots = s.slots ∧ e.cx = s.cx ∧ e.mem = s.mem := by rw [hslots, hcx, hmem, ho]; exact ⟨rfl, rfl, rfl⟩
  obtain ⟨st, b, ow, n, w, a, hslots', hsaved', hmem'⟩ := State.restoreSlot_single (s := e) hback hdeps hrecvs
    (fun i x hx => hquiet i x (by rw [State.slot, hkept.1] at hx; exact hx)) (sid := 16 * core + q) hy
  have hexec : execSavedSlotPlace c s = .next (((e.restoreSlot v (16 * core + q) im).modCtx c (fun k => { k with cmdCount := k.cmdCount + 1 })).restoreEnd c) := by
    have hresident : ((s.ctx c).state != .resident) = false := by rw [hstate]; rfl
    simp only [execSavedSlotPlace, hunit, hresident, hready, hhold, hplace, hread, hunit', hfind, Bool.not_true, Bool.false_eq_true, if_false, List.cons_ne_nil,
      placeSlots, List.flatMap_cons, List.flatMap_nil, List.map_cons, List.map_nil, List.append_nil, List.zip_cons_cons, List.zip_nil_left, List.foldl_cons, List.foldl_nil,
      he, himage, Option.getD_some, hsid]
  generalize e.restoreSlot v (16 * core + q) im = r at hexec hslots' hsaved' hmem'
  obtain ⟨hslots'', hsaved'', hmem''⟩ := r.countedEnd_frame c
  generalize (r.modCtx c (fun k => { k with cmdCount := k.cmdCount + 1 })).restoreEnd c = t at hexec hslots'' hsaved'' hmem''
  have hall : t.slots = kset s.slots (16 * core + q) { y.restored st b ow n w with age := a } := by rw [hslots'', hslots', hkept.1]
  refine ⟨t, { y.restored st b ow n w with age := a }, hexec, by rw [State.slot, hall, kget_kset_same], ?_⟩
  refine ⟨rfl, rfl, rfl, rfl, rfl, rfl, rfl, rfl, rfl, rfl, fun w hw => ?_, hmem''.trans (hmem'.trans hkept.2.2), fun k hk => ?_⟩
  · rw [hsaved'', hsaved'] at hw
    exact bne_iff_ne.1 (List.mem_filter.1 hw).2
  · rw [State.slot, hall, kget_kset_other _ _ hk]; rfl

/-- Images in the order of their threads: none only where there are none. -/
theorem byThread_eq_nil {all : List Saved} (h : all.foldl (fun (l : List Saved) w =>
    l.filter (fun u => decide (u.slot.gthr.toNat ≤ w.slot.gthr.toNat)) ++ [w] ++
      l.filter (fun u => decide (w.slot.gthr.toNat < u.slot.gthr.toNat))) [] = []) : all = [] := by
  obtain rfl | ⟨init, w, rfl⟩ := List.eq_nil_or_concat all
  · rfl
  · rw [List.concat_eq_append, List.foldl_append] at h
    simp only [List.foldl_cons, List.foldl_nil, List.append_eq_nil_iff, List.cons_ne_nil, and_false, false_and] at h

/-- With nothing left to restore the restore ends. -/
theorem execSavedSlotPlace_over {c : Nat} (hstate : (s.ctx c).state = .resident) (hunit : s.nextUnit c = []) (hrestoring : (s.ctx c).restoring = true) :
    ∃ t : State, execSavedSlotPlace c s = .next t ∧ (t.ctx c).restoring = false ∧ (t.ctx c).busy = false ∧ (t.ctx c).state = .resident := by
  have hsaved : s.cx.saved.any (fun v => v.ctx == c) = false := by
    cases hfind : s.cx.saved.find? (fun v => v.ctx == c) with
    | none => exact List.any_eq_false.2 fun v hv => by simpa using List.find?_eq_none.1 hfind v hv
    | some v =>
      have hin : v ∈ s.cx.saved.filter (fun w => w.slot.group == v.slot.group) :=
        List.mem_filter.2 ⟨List.mem_of_find?_eq_some hfind, beq_self_eq_true _⟩
      rw [State.nextUnit, hfind] at hunit
      have hall : s.cx.saved.filter (fun w => w.slot.group == v.slot.group) = [] := byThread_eq_nil hunit
      rw [hall] at hin
      cases hin
  obtain ⟨hresident, hbusy, hover⟩ := State.restoreEnd_ends hrestoring hstate hsaved
  refine ⟨s.restoreEnd c, ?_, hover, hbusy, hresident⟩
  rw [execSavedSlotPlace, hunit, hstate]
  rfl

end

/-- Settles O44: the commands by what they write of the context, a save by the image that leaves the core, and a restore by the slot that
its image becomes. -/
theorem contextAndSavedSlotSteps : Obligations.ContextAndSavedSlotSteps := by
  unfold Obligations.ContextAndSavedSlotSteps
  refine ⟨contextSteps, fun s => ⟨fun sid x g hslot hsid hstate hstatus hopen hresults hpair hdeps hold hfit =>
      execSlotSave_steps hslot hsid hstate hstatus hopen hresults hpair hdeps hold hfit, fun rid d v p hd hdone hv hwritten hwrites himage hplace =>
      execReplyToImage_steps hd hdone hv hwritten hwrites himage hplace, fun c v core q u im y hstate hunit hwritten hwrites himage hchecks hback hdeps hrecvs hquiet hgone hhold
      hplace hy => execSavedSlotPlace_steps hstate hunit hwritten hwrites himage hchecks hback hdeps hrecvs hquiet hgone hhold hplace hy,
    fun c hstate hunit hrestoring => execSavedSlotPlace_over hstate hunit hrestoring⟩⟩

end Sys2Proof.Machine
end
